-- ==== Sys2Proof/Word.lean ====
section
/-! DEFINITION. The words the BY7680 reads and writes, as types: register words, bytes, sample and stamp words. Their
arithmetic is in Machine/Bits.lean. -/

namespace Sys2Proof

/-- A 32-bit register word (R541). -/
abbrev Word := BitVec 32

/-- A byte of a message, packet, record or Hive cell. -/
abbrev Byte := BitVec 8

/-- A 48-bit sample word (R11) or stamp word (R16). -/
abbrev Word48 := BitVec 48

end Sys2Proof
end

