-- ==== Sys2Proof/Payload.lean ====
section
/-! DEFINITION. What the commands of the block carry: the ports and packets of the host port (R478, R547, R559), measured
values that reach the hub from outside it (windows, edges, scans, read-backs), and the bodies of pair messages (R565). -/

namespace Sys2Proof

/-- The ports a command can come from (R547, R559); `own` is the hub committing a flash copy (R515). -/
inductive Port
  | host | drip | i2c | debug | relay | own
deriving DecidableEq, Repr, Inhabited

/-- A command packet as the receiver takes it (R478). The trailer and header CRCs have been checked by then (R477);
`lane` is the host lane it came on. -/
structure Packet where
  port : Port := .host
  lane : Nat := 28
  opcode : Byte := 0
  pflags : BitVec 4 := 0
  tag : BitVec 12 := 0
  unitNo : Byte := 0
  lseq : BitVec 16 := 0
  addr : Word := 0
  hub : Byte := 0xFF
  payload : List Byte := []
  /-- The Δ in ps that the active's forward carries beside a write to `TIME_ACCEPT` (R417); no other packet carries one. -/
  delta : Option Int := none
deriving DecidableEq, Repr, Inhabited

/-- The reference candidates (R596). -/
inductive Cand
  | refa | refb | trunk
deriving DecidableEq, Repr, Inhabited

/-- One 10 ms window of `BOSC` time (R599): each candidate's frequency counted against `BOSC`, in units of 0.25 Hz
(0.01 ppm of 25 MHz), 0 when nothing was counted, and the offset of `BOSC` from 100 MHz in 0.01 % (R621). -/
structure RefWindow where
  refa : Nat := 0
  refb : Nat := 0
  trunk : Nat := 0
  bosc : Int := 0
deriving DecidableEq, Repr, Inhabited

/-- What the regulator answers to an AVSBus request (R618): good status, and the voltage read back in mV. -/
structure AvsAnswer where
  good : Bool := true
  readback : Nat := 0
deriving DecidableEq, Repr, Inhabited

/-- What the converter measured over one integration window: the raw count (R106, R107), whether the window
over-ranged (R52, R78), and the mean sense voltage of a 6-wire channel in volts (R74). -/
structure Conversion where
  count : Int := 0
  overRange : Bool := false
  vsense : Rat := 0
deriving DecidableEq, Repr, Inhabited

/-- One channel's two loops in the lead-integrity test (R642): ΔV in µV, and whether the test source left compliance. -/
structure LeadMeasure where
  ch : Nat
  dv1 : Nat
  loss1 : Bool
  dv2 : Nat
  loss2 : Bool
deriving DecidableEq, Repr, Inhabited

/-- Where a parity error strikes in a frame store (R249, R310). -/
inductive ParityHit
  | history (frame slot index : Nat)
  /-- An anchor record, a row descriptor or a weight, as a frame processes one point block. -/
  | anchor (frame pblock : Nat)
  | accumulator (frame entry : Nat)
deriving DecidableEq, Repr, Inhabited

/-- A template of a `MATCH` program, and the parity errors that its reads for a window meet (R249, R321). -/
structure MatchRead where
  templ : Nat
  hits : List ParityHit := []
deriving DecidableEq, Repr, Inhabited

/-- What a Hive read finds in a word's check bits (R370). -/
inductive EccFinding
  | clean | single | double
deriving DecidableEq, Repr, Inhabited

/-- What the scrub finds in the two words of one beat (R373). -/
structure BeatFinding where
  lower : EccFinding := .clean
  upper : EccFinding := .clean
deriving DecidableEq, Repr, Inhabited

/-- A rising edge on `TRIG_IN0` or `TRIG_IN1` (R334): how many `CORE` samples the ball was low before it, and stays high after it. -/
structure TrigEdge where
  ball : Nat
  low : Nat
  high : Nat
deriving DecidableEq, Repr, Inhabited

/-- The causes of a surge (R637, R652). -/
inductive SurgeCause
  | clamp | vfd | vexc
deriving DecidableEq, Repr, Inhabited

/-- Body of `PL_HB` (R565). -/
structure Heartbeat where
  role : Nat := 0
  mode : Nat := 0
  selfCheck : Nat := 0
  derate : Nat := 100
  primId : Nat := 0
  succId : Nat := 0
  fseq : Nat := 0
  fchain : Nat := 0
  cfgCrc : Word := 0
deriving DecidableEq, Repr, Inhabited

/-- The marks of R573. -/
inductive Mark
  | suspect (tick : Nat) (on : Bool)
  | surge (time : Nat) (on : Bool)
  | swarm (origin fid : Nat) (latency : Nat) (armed : Nat)
deriving DecidableEq, Repr, Inhabited

/-- One open stream's entry of `PL_JOIN` (R567). -/
structure JoinEntry where
  stream : Nat
  rseq : Nat
  slot : Nat
  bseq : Nat
  isOpen : Bool
deriving DecidableEq, Repr, Inhabited

/-- Body of `PL_LEASE` (R565, R582): a relayed command, its completion, or a revocation. -/
inductive LeaseMsg
  | command (p : Packet)
  | completion (tag : BitVec 12) (status : Nat) (body : List Byte)
  | revoke (leaseId : Nat)
deriving DecidableEq, Repr, Inhabited

end Sys2Proof
end

