-- ==== Sys2Proof/Syntax.lean ====
section
/-! DEFINITION. The commands of the BY7680 hub, one constructor per row of spec/opcode_table.json, with the row's operands. The
table gives no fields; the operands are what the row's rule names (a packet, a lane, a channel, a measured value). The first
operand of every command, `t`, is how many `CORE` cycles (1.25 ns each while `CORE` is stopped) pass before it. -/

namespace Sys2Proof

/-- One command: an operation, an event or an arrival the table lists. -/
inductive Instr
  /-- `POWER_ON_RESET` (R630): PWR_OK falls and the hub enters HOLD, losing all state except the field and user OTP. -/
  | powerOnReset (t : Nat)
  /-- `PIN_RESET` (R630): RST_N is held low for at least 10 µs and the hub resets as at power-on. -/
  | pinReset (t : Nat)
  /-- `RESET_RELEASE` (R631): RST_N rises; the hub samples the PAIR_ID, ADDR and BOOT straps and starts checking field OTP. -/
  | resetRelease (t : Nat) (pairId : Bool) (addr : BitVec 3) (boot : BitVec 2)
  /-- `AON_FEEDS_LOST` (R662): Both always-on feeds have been missing for 10 µs and the hub takes a power-on reset. -/
  | aonFeedsLost (t : Nat)
  /-- `AON_FEED_CHANGE` (R662): One always-on feed falls below 1.5 V or returns, which updates AON_A or AON_B and the self-check bit AON. -/
  | aonFeedChange (t : Nat) (feedB present : Bool)
  /-- `HOLD_EXIT` (R634): With RST_N and PWR_OK high and the PLL locked, the hub leaves HOLD and enters LOAD: it starts the time counter, clears Hive, enables the strapped host lanes and starts any flash boot. -/
  | holdExit (t : Nat) (avs : AvsAnswer)
  /-- `FLASH_COPY_READ_DONE` (R515): A flash copy has been read into staging; the hub commits it as its own port and tries copy B or stays in LOAD with FAILED on failure. -/
  | flashCopyReadDone (t : Nat) (header image : List Byte)
  /-- `HIVE_INIT_DONE` (R375): Hive clearing completes; INIT_DONE sets and CMD_STOP is released. -/
  | hiveInitDone (t : Nat)
  /-- `TRAIN_END` (R635): Every enabled non-listening lane has reached ACTIVE, or 5 s have passed in TRAIN, and the hub leaves TRAIN by role. -/
  | trainEnd (t : Nat)
  /-- `EPOCH_GRID_START` (R45): The first whole second after entry to RUN arrives and the epoch grid starts. -/
  | epochGridStart (t : Nat)
  /-- `MODE_REQ_QUIESCE` (R647): A guarded write to SYS_MODE_REQ requests QUIESCE, which is taken or refused with MODE_REQ_REFUSED. -/
  | modeReqQuiesce (t : Nat) (p : Packet)
  /-- `MODE_REQ_TEST` (R649): A guarded write to SYS_MODE_REQ requests TEST from LOAD, SAFE or a quiesced QUIESCE. -/
  | modeReqTest (t : Nat) (p : Packet)
  /-- `MODE_REQ_LEAVE_TEST` (R649): A guarded write requests the mode in SYS_MODE.PREV; the hub ends patterns, overrides and ECC injection and leaves TEST. -/
  | modeReqLeaveTest (t : Nat) (p : Packet)
  /-- `MODE_REQ_SAFE` (R644): A guarded write to SYS_MODE_REQ requests SAFE. -/
  | modeReqSafe (t : Nat) (p : Packet)
  /-- `FIELD_LINK_TIMEOUT` (R644): The field link has been down for 10 ms with a FRONT_END in force, and the hub enters SAFE. -/
  | fieldLinkTimeout (t : Nat)
  /-- `OVERTEMP` (R644): SYS_TEMP has stayed above 125 °C for 1 s, and the hub enters SAFE. -/
  | overtemp (t : Nat) (temp : Int)
  /-- `QUIESCE_POINT` (R647): Q is reached; the hub emits the ending epoch's products, stops pods, chains and grids, closes streams, switches drives off and disarms engines and timed actions. -/
  | quiescePoint (t : Nat)
  /-- `QUIESCED` (R648): Every record of the closed streams is released and every Nectar pool is empty, and the hub raises QUIESCED. -/
  | quiesced (t : Nat)
  /-- `SURGE_DETECT` (R638): A clamp current above 5 mA or a VFD or VEXC dip is detected; the hub switches drives off, opens switches, aborts local work and enters SURGE. -/
  | surgeDetect (t : Nat) (cause : SurgeCause) (ch : Nat)
  /-- `SURGE_QUIET` (R638): No surge condition has held for 50 ms (t_q), and the lead-integrity test starts. -/
  | surgeQuiet (t : Nat)
  /-- `LEAD_TEST_END` (R642): The 4 ms lead-integrity test ends at t_r; the hub writes results, closes switches of passing channels, raises SURGE_END and returns to the interrupted mode. -/
  | leadTestEnd (t : Nat) (loops : List LeadMeasure)
  /-- `SURGE_CHAIN_RESTART` (R238): At the first tick after SURGE ends, chains with SURGE_RESTART restart with their configuration unchanged. -/
  | surgeChainRestart (t : Nat)
  /-- `CORE_RESET` (R630): A guarded write of 1 to SYS_RESET completes OK and schedules a core reset 10 µs later. -/
  | coreReset (t : Nat) (p : Packet)
  /-- `CORE_RESET_START` (R630): 10 µs after the write, the core reset starts: in-flight commands are discarded and the hub enters HOLD without sampling straps. -/
  | coreResetStart (t : Nat)
  /-- `FIELD_DIE_RESET` (R632): A guarded write of 2 to SYS_RESET resets the field die: switches open, drives off, OTP check and start-up comparisons rerun. -/
  | fieldDieReset (t : Nat) (p : Packet)
  /-- `FIELD_DIE_READY` (R632): The field die completes its reset, reapplies the FRONT_END in force, and the local gap is accounted with cause RECONFIG. -/
  | fieldDieReady (t : Nat)
  /-- `REF_WINDOW_END` (R599): A 10 ms BOSC window ends and each enabled reference candidate passes or fails it, gaining or losing qualification. -/
  | refWindowEnd (t : Nat) (w : RefWindow)
  /-- `REF_LOSS_OF_SIGNAL` (R600): A reference shows no transition for 200 ns and loses qualification at once. -/
  | refLossOfSignal (t : Nat) (c : Cand)
  /-- `PLL_LOCK` (R605): The root PLL locks; LOCK sets and the stopped clocks start together. -/
  | pllLock (t : Nat)
  /-- `PLL_NO_LOCK` (R605): LOCK has stayed clear for 1 ms while a candidate is followed, and that candidate loses qualification with cause NO_LOCK. -/
  | pllNoLock (t : Nat)
  /-- `REF_GRACE_EXPIRY` (R610): REF_GRACE ends with no qualified candidate; the loop opens, the clocks fall to the floor and the hub coasts. -/
  | refGraceExpiry (t : Nat)
  /-- `CLK_COAST_END` (R613): The VCO ramp completes after a reference requalifies; LOCK sets, PERIPH returns to the PLL, COAST clears and time enters HOLDOVER. -/
  | clkCoastEnd (t : Nat)
  /-- `MARGIN_EVALUATION` (R615): At a whole hour the margin planner reads M_CORE and M_COMB and takes the first applicable row of voltage or derate action. -/
  | marginEvaluation (t : Nat) (minima : List Nat) (avs : AvsAnswer)
  /-- `CLK_PLAN_NOW` (R615): A write of 1 to CLK_PLAN_CMD.NOW makes the planner evaluate at once. -/
  | clkPlanNow (t : Nat) (p : Packet) (avs : AvsAnswer)
  /-- `MARGIN_ALARM` (R616): A sensor has read below MARGIN_ALARM for 10 ms; the alarm is raised and counted and an evaluation runs at most once per 60 s. -/
  | marginAlarm (t : Nat) (sensor slack : Nat) (avs : AvsAnswer)
  /-- `HOURLY_EYE_SCANS` (R617): At a whole hour with EYE_EN set, the planner starts eye scans of each ACTIVE lane in turn. -/
  | hourlyEyeScans (t : Nat)
  /-- `AVS_RETRY_TIMER` (R618): 1 ms after a failed AVSBus request the hub retries it, and after the third failure sets AVS_FAULT. -/
  | avsRetryTimer (t : Nat) (avs : AvsAnswer)
  /-- `AVS_RETRY` (R618): A write of 1 to CLK_PLAN_CMD.AVS_RETRY clears AVS_FAULT and repeats the last request. -/
  | avsRetry (t : Nat) (p : Packet) (avs : AvsAnswer)
  /-- `CLK_REF_CFG_WRITE` (R600): A write to CLK_REF_CFG changes candidate settings; clearing a qualified candidate's enable removes its qualification with cause DISABLED. -/
  | clkRefCfgWrite (t : Nat) (p : Packet)
  /-- `CLK_VLIMIT_WRITE` (R619): A write to CLK_VLIMIT sets VMIN and VMAX, and lowering VMAX below V makes the hub request VMAX at once. -/
  | clkVlimitWrite (t : Nat) (p : Packet) (avs : AvsAnswer)
  /-- `EXCITATION_PULSE_ON` (R59): T_PRE before a slot's window, the channel's drive switches on (and 3-wire sources are exchanged). -/
  | excitationPulseOn (t : Nat) (k : Nat)
  /-- `WINDOW_START` (R113): A local slot starts on its grid and its integration window begins on the chosen range code. -/
  | windowStart (t : Nat) (k : Nat)
  /-- `WINDOW_END` (R116): A local integration window ends; the drive switches off, the hub chooses the next range, forms the word through the value stages and delivers it. -/
  | windowEnd (t : Nat) (k : Nat) (c : Conversion)
  /-- `HOUSEKEEPING_END` (R116): The gap's housekeeping task (auto-zero, reference check or witness comparison) completes and its result is stored. -/
  | housekeepingEnd (t : Nat) (k : Nat) (reading : Rat)
  /-- `WITNESS_UPDATE` (R137): After 64 witness comparisons the hub computes and clamps a new ageing target A_t. -/
  | witnessUpdate (t : Nat) (k : Nat)
  /-- `WITNESS_STARTUP_DONE` (R139): The 16 start-up witness comparisons complete and A is set directly. -/
  | witnessStartupDone (t : Nat) (means : List (Nat × Rat))
  /-- `MAINS_CYCLE` (R109): A positive mains zero crossing updates the measured period and its validity, raising MAINS_LOST on loss. -/
  | mainsCycle (t : Nat) (period peak : Nat)
  /-- `EXC_LIMIT_ENGAGE` (R56): A VOLT drive enters current limit, setting LIMITING and its FD_EXC_FAULT bit. -/
  | excLimitEngage (t : Nat) (k : Nat)
  /-- `COMPLIANCE_LOSS` (R57): A CURR source leaves compliance, setting COMPLIANCE and its FD_EXC_FAULT bit. -/
  | complianceLoss (t : Nat) (k : Nat)
  /-- `EXC_ENABLE` (R66): A guarded write of 1 to SYS_EXC_ENABLE enables excitation, or is refused while field OTP is bad. -/
  | excEnable (t : Nat) (p : Packet)
  /-- `EXC_DISABLE` (R67): A guarded write of 0 to SYS_EXC_ENABLE switches every drive off within 2 µs. -/
  | excDisable (t : Nat) (p : Packet)
  /-- `SPOT` (R121): A SPOT command on a local channel is refused, busy, or aborts the running integration and starts a spot conversion. -/
  | spot (t : Nat) (p : Packet)
  /-- `SPOT_END` (R122): The spot window ends; the completion carries the spot word and stamp and any displaced slot starts its window. -/
  | spotEnd (t : Nat) (k : Nat) (c : Conversion)
  /-- `CAL_ZERO` (R128): A CAL command with operation CAL_ZERO starts the zero step on a local channel. -/
  | calZero (t : Nat) (p : Packet)
  /-- `CAL_SPAN` (R128): A CAL command with operation CAL_SPAN starts the span step against the expected value X. -/
  | calSpan (t : Nat) (p : Packet)
  /-- `CAL_ABORT` (R128): A CAL command with operation CAL_ABORT ends a running step with ABORTED and discards a held zero. -/
  | calAbort (t : Nat) (p : Packet)
  /-- `CAL_STEP_END` (R130): A calibration step has taken its N usable words; the hub computes the result, holds a zero or stages OFS and GAIN, and completes the command. -/
  | calStepEnd (t : Nat) (k : Nat)
  /-- `CAL_STEP_TIMEOUT` (R129): 4 × N + 16 slots pass without N usable words and the step ends with ABORTED. -/
  | calStepTimeout (t : Nat) (k : Nat)
  /-- `POD_TICK` (R146): At each tick the hub sends a TICK message on every active pod lane. -/
  | podTick (t : Nat)
  /-- `FRAME` (R163): A FRAME message arrives from a pod and is resolved to its tick and sorted as late, extra or held. -/
  | frame (t : Nat) (lane : Nat) (m : List Byte)
  /-- `TICK_FRAME` (R151): A TICK_FRAME arrives, is checked against TCOUNT and SEQ16, and may restart a drained lane. -/
  | tickFrame (t : Nat) (lane : Nat) (m : List Byte)
  /-- `RESEND_FRAME` (R163): A RESEND_FRAME arrives and is held for its outstanding tick or dropped. -/
  | resendFrame (t : Nat) (lane : Nat) (m : List Byte)
  /-- `POD_CAPS` (R157): A pod CAPS message arrives and the hub answers CAPS_ACK with the first applicable result, then TICK_LOAD and START on OK. -/
  | podCaps (t : Nat) (lane : Nat) (m : List Byte)
  /-- `RANGE` (R155): A pod RANGE message sets the range codes of its channels from tick TNUM. -/
  | range (t : Nat) (lane : Nat) (m : List Byte)
  /-- `CMD_RESP` (R160): A pod CMD_RESP arrives and is shown in POD_CMD_RESP, or dropped as UNSOLICITED. -/
  | cmdResp (t : Nat) (lane : Nat) (m : List Byte)
  /-- `ECHO_RESP` (R149): An ECHO_RESP arrives and its round trip enters the lane's delay measurement D. -/
  | echoResp (t : Nat) (lane : Nat) (m : List Byte) (rtt : Nat)
  /-- `INGEST_LAG_EXPIRY` (R165): A tick's lag expires and its frame, or a missing frame, enters the lane's chains. -/
  | ingestLagExpiry (t : Nat) (lane : Nat)
  /-- `TICK_OUTSTANDING` (R164): 80 µs pass after a tick without a good frame, so it becomes outstanding and RESEND_REQ is sent. -/
  | tickOutstanding (t : Nat) (lane tick : Nat)
  /-- `RESEND_REQ_REPEAT` (R164): 250 µs pass with a tick still outstanding and its lag not near expiry, and the request is repeated. -/
  | resendReqRepeat (t : Nat) (lane tick : Nat)
  /-- `POD_NOP` (R161): A write of POD_CMD with code NOP sends CMD to the pod. -/
  | podNop (t : Nat) (p : Packet)
  /-- `POD_STOP` (R161): A write of POD_CMD with code STOP asks the pod to stop sending frames after the tick in ARG. -/
  | podStop (t : Nat) (p : Packet)
  /-- `POD_RESET` (R161): A write of POD_CMD with code POD_RESET asks the pod to respond and reset. -/
  | podReset (t : Nat) (p : Packet)
  /-- `POD_IDENTIFY` (R161): A write of POD_CMD with code IDENTIFY asks the pod for identity data. -/
  | podIdentify (t : Nat) (p : Packet)
  /-- `POD_VENDOR_CMD` (R161): A write of POD_CMD with a code from 0x40 to 0xFF passes a pod-defined command. -/
  | podVendorCmd (t : Nat) (p : Packet)
  /-- `POD_CMD_TIMEOUT` (R160): 10 ms pass without the pod's response and RESULT becomes 0xFF. -/
  | podCmdTimeout (t : Nat) (lane : Nat)
  /-- `POD_QUAR_RELEASE` (R170): A write of 1 to a lane's bit in POD_QUAR_RELEASE releases its quarantine and the lane resumes. -/
  | podQuarRelease (t : Nat) (p : Packet)
  /-- `LANE_DETECT` (R191): In DETECT, far-end termination or energy is seen and the lane enters TRAIN. -/
  | laneDetect (t : Nat) (lane : Nat) (term energy : Bool)
  /-- `LANE_STATE_TIMEOUT` (R189): A bring-up state's timeout expires; the failure is counted and the lane goes back or to BACKOFF. -/
  | laneStateTimeout (t : Nat) (lane : Nat)
  /-- `TRAINING_BLOCK` (R193): A training block's TCW is received; the hub obeys REQ_PRESET, checks CLASS and counts RX_READY confirmations. -/
  | trainingBlock (t : Nat) (lane : Nat) (tcw : Word)
  /-- `TCW_TIMEOUT` (R193): 1 ms passes without a valid TCW and the training attempt ends with TCW_BAD. -/
  | tcwTimeout (t : Nat) (lane : Nat)
  /-- `PRESET_SEARCH_STEP` (R195): A preset's 1 ms of adaptation and search scan ends and the receiver requests the next or the best preset. -/
  | presetSearchStep (t : Nat) (lane opening : Nat)
  /-- `RX_ADAPT_DONE` (R195): The receiver finishes adapting, sets RX_READY and freezes its equaliser. -/
  | rxAdaptDone (t : Nat) (lane ctle : Nat) (dfe : Word)
  /-- `TRAIN_HANDSHAKE_DONE` (R193): After 16 further training blocks the hub sends normal blocks and enters BITLOCK. -/
  | trainHandshakeDone (t : Nat) (lane : Nat)
  /-- `BIT_LOCK` (R196): 2,048 clean line bits with phase error within ±0.1 UI give bit lock and the lane enters SYMLOCK. -/
  | bitLock (t : Nat) (lane : Nat)
  /-- `SYMLOCK_ACQUIRED` (R183): Four exact sync matches give symbol lock and the lane enters CAPS. -/
  | symlockAcquired (t : Nat) (lane : Nat)
  /-- `SYMLOCK_LOST` (R198): Four consecutive sync misses lose symbol lock; an ACTIVE lane counts the loss, re-enters SYMLOCK and raises LANE_DOWN. -/
  | symlockLost (t : Nat) (lane : Nat)
  /-- `LANE_BACKOFF_END` (R189): 1 s in BACKOFF elapses and the lane returns to DETECT with retry counts reset. -/
  | laneBackoffEnd (t : Nat) (lane : Nat)
  /-- `LANE_RETRAIN` (R198): A write of 1 to a lane's bit in LANE_RETRAIN sends it to DETECT with RETRAIN_REQ. -/
  | laneRetrain (t : Nat) (p : Packet)
  /-- `LANE_GEN_SET` (R202): A write of LANE_TEST_CTRL.GEN in TEST starts or stops pattern generation. -/
  | laneGenSet (t : Nat) (p : Packet)
  /-- `LANE_CHK_SET` (R204): A write of LANE_TEST_CTRL.CHK in TEST selects the checker pattern. -/
  | laneChkSet (t : Nat) (p : Packet)
  /-- `LANE_LOOP_SET` (R207): A write of LANE_TEST_CTRL.LOOP in TEST selects near-end, far-end or no loopback. -/
  | laneLoopSet (t : Nat) (p : Packet)
  /-- `CHECKER_SYNC` (R204): The checker declares sync after 64 error-free bits. -/
  | checkerSync (t : Nat) (lane : Nat)
  /-- `CHECKER_SYNC_LOSS` (R204): 256 errors within 1,024 bits lose checker sync, which is counted before reseeding. -/
  | checkerSyncLoss (t : Nat) (lane errors bitsMi : Nat)
  /-- `LANE_INJ_GO` (R206): A write of 1 to LANE_INJ_GO.GO starts error injection at the next bit. -/
  | laneInjGo (t : Nat) (p : Packet)
  /-- `LANE_INJ_STOP` (R206): A write of 1 to LANE_INJ_GO.STOP ends injection mode 2. -/
  | laneInjStop (t : Nat) (p : Packet)
  /-- `EYE_SCAN_START` (R209): A write of 1 to LANE_EYE_CTRL.START starts an eye scan, or is refused or busy. -/
  | eyeScanStart (t : Nat) (p : Packet)
  /-- `EYE_SCAN_STEP` (R208): An eye-scan step's dwell ends and the scan moves on or ends that direction. -/
  | eyeScanStep (t : Nat) (lane : Nat) (disagree : Bool)
  /-- `EPOCH_BOUNDARY` (R46): An epoch boundary arrives; the hub closes products, resets Nectar history, applies staged partial images, swaps anchor banks and starts the new epoch. -/
  | epochBoundary (t : Nat)
  /-- `COMB_BLOCK` (R255): L_P after a block's last beam sample, the fabric starts the block and runs it through its frames to the capping unit. -/
  | combBlock (t : Nat) (prog : Nat) (hits : List ParityHit)
  /-- `SPECTRAL_FRAME` (R304): An FFT frame's last index is in history and XSPEC or BAND transforms and accumulates it. -/
  | spectralFrame (t : Nat) (prog : Nat) (hits : List ParityHit)
  /-- `SVD_DONE` (R314): The power iteration finishes and the singular-pair records enter the outbound path. -/
  | svdDone (t : Nat) (prog : Nat)
  /-- `PRODUCT_EMIT` (R300): An epoch's closed products are converted and enter the outbound path. -/
  | productEmit (t : Nat) (prog : Nat)
  /-- `MATCH_WINDOW_END` (R321): A MATCH peak window ends and the detection index is chosen, possibly sending a trigger event. -/
  | matchWindowEnd (t : Nat) (prog chan : Nat) (template : MatchRead)
  /-- `MATCH_INTERVAL_END` (R323): A 100 ms detection interval's records enter the outbound path. -/
  | matchIntervalEnd (t : Nat) (prog : Nat)
  /-- `REBUILD_DONE` (R272): The anchor rebuild completes or is refused, and the COMMIT completes. -/
  | rebuildDone (t : Nat)
  /-- `FOREIGN` (R276): A FOREIGN trunk message arrives and its samples enter history or are discarded as late. -/
  | foreign (t : Nat) (lane : Nat) (m : List Byte)
  /-- `FMAP` (R437): An FMAP message arrives and rebinds foreign channels of its direction. -/
  | fmap (t : Nat) (lane : Nat) (m : List Byte)
  /-- `FMAP_SEND` (R436): Every 100 ms, and at list changes or lane activation, FMAP messages are sent. -/
  | fmapSend (t : Nat) (down : Bool)
  /-- `TRIG_EVENT_ARRIVAL` (R337): A trigger event reaches the units and is queued or discarded as late. -/
  | trigEventArrival (t : Nat) (src stamp : Nat)
  /-- `UNIT_TAKE_EVENT` (R338): H_u after an event's stamp, a unit takes it and judges coincidence, firing if K sources agree. -/
  | unitTakeEvent (t : Nat) (u : Nat)
  /-- `TRIG_IN_EDGE` (R334): A qualified rising edge on TRIG_IN0 or TRIG_IN1 is stamped and offered to the units. -/
  | trigInEdge (t : Nat) (edge : TrigEdge)
  /-- `TRIG_OUT_PULSE_END` (R339): A TRIG_OUT pulse width expires and the ball returns low. -/
  | trigOutPulseEnd (t : Nat) (ball : Nat)
  /-- `ENGINE_ARMED` (R343): An engine's arm time arrives and it becomes armed. -/
  | engineArmed (t : Nat) (e : Nat)
  /-- `ENGINE_REARM` (R343): T_COPY after a record closes, an engine with REARM re-arms. -/
  | engineRearm (t : Nat) (e : Nat)
  /-- `CAPTURE_CLOSE` (R348): A record's last post slot is written; the record closes, the mask is tested and copying starts. -/
  | captureClose (t : Nat) (e : Nat)
  /-- `CAPTURE_COPY_DONE` (R349): A record's copy to its stream buffer completes and stopped ring writing resumes. -/
  | captureCopyDone (t : Nat) (e : Nat)
  /-- `SEGMENT_CLOSE` (R351): A segment's last slot is written; it closes and is copied as a SEGMENT record. -/
  | segmentClose (t : Nat) (e : Nat)
  /-- `SEGMENT_REARM` (R351): 1 µs after a segment's end the engine re-arms for the next segment. -/
  | segmentRearm (t : Nat) (e : Nat)
  /-- `SEG_QUIET_DECISION` (R352): At t_s + SEG_QUIET + H_e with no fire, the engine returns to the main path. -/
  | segQuietDecision (t : Nat) (e : Nat)
  /-- `ARM` (R343): A host ARM command arms engines, or with SWARM makes the master send a swarm ARM. -/
  | arm (t : Nat) (p : Packet)
  /-- `FIRE` (R483): A host FIRE command offers a fire to trigger units and may send a swarm FIRE. -/
  | fire (t : Nat) (p : Packet)
  /-- `SWARM_ARM` (R356): A swarm ARM message arrives; the hub relays it, arms its swarm engines at the arm time and sends ARM_RESULT. -/
  | swarmArm (t : Nat) (lane : Nat) (m : List Byte)
  /-- `ARM_RESULT` (R357): An ARM_RESULT message arrives and is relayed and collected into the armed mask. -/
  | armResult (t : Nat) (lane : Nat) (m : List Byte)
  /-- `ARMED_MASK_FIXED` (R357): At arm time plus 1 ms the armed mask is fixed and the master raises SWARM_ARM_DONE. -/
  | armedMaskFixed (t : Nat)
  /-- `SWARM_FIRE` (R358): A swarm FIRE message arrives; it is relayed, delivered to swarm engines with its Λ and offered as source 0x1020. -/
  | swarmFire (t : Nat) (lane : Nat) (m : List Byte)
  /-- `SCRUB_READ` (R373): A bank's next evenly spaced scrub read reads and corrects one beat. -/
  | scrubRead (t : Nat) (bank : Nat) (found : BeatFinding)
  /-- `HIVE_ARB_COMMIT_ARB` (R392): A write of 1 to HIVE_ARB_COMMIT.ARB commits the shadowed arbiter settings to every bank. -/
  | hiveArbCommitArb (t : Nat) (p : Packet)
  /-- `HIVE_ARB_COMMIT_EGR` (R394): A write of 1 to HIVE_ARB_COMMIT.EGR commits the shadowed egress arbiter settings. -/
  | hiveArbCommitEgr (t : Nat) (p : Packet)
  /-- `HIVE_ECC_INJ_WRITE` (R376): A write of HIVE_ECC_INJ in TEST arms one ECC error injection. -/
  | hiveEccInjWrite (t : Nat) (p : Packet)
  /-- `SECOND_BEACON` (R20): Hub time reaches a whole second; SECOND_BEACON is raised and per-second counters restart. -/
  | secondBeacon (t : Nat)
  /-- `PPS_EDGE` (R403): A PPS_IN rising edge is time-stamped and judged for PPS qualification and steering. `resid` is when the
  edge came, in ps of hub time from the command. -/
  | ppsEdge (t : Nat) (resid : Int)
  /-- `PPS_MISSING` (R403): An expected PPS edge is missing for 2 consecutive seconds and PPS loses qualification. -/
  | ppsMissing (t : Nat)
  /-- `TIME_TOD` (R405): A TIME_TOD command names the SEC of the next PPS edge or is ignored outside its window. -/
  | timeTod (t : Nat) (p : Packet)
  /-- `TIME_SET` (R423): A TIME_SET command qualifies HOST with time T and uncertainty U. -/
  | timeSet (t : Nat) (p : Packet)
  /-- `TIME_READ` (R423): A TIME_READ command returns full time, time state, source and error estimate. -/
  | timeRead (t : Nat) (p : Packet)
  /-- `HOST_SOURCE_EXPIRY` (R403): 10 s after a TIME_SET, HOST loses qualification unless selected. -/
  | hostSourceExpiry (t : Nat)
  /-- `TSYNC_SEND` (R407): At each whole millisecond the upstream hub sends TSYNC on each ACTIVE trunk D lane. -/
  | tsyncSend (t : Nat) (lane : Nat)
  /-- `TSYNC` (R407): A TSYNC arrives; the downstream captures t2 and sends TDREQ. `arrival` is when its sync word arrived, in ps
  of hub time from the command. -/
  | tsync (t : Nat) (lane : Nat) (m : List Byte) (arrival : Int)
  /-- `TDREQ` (R407): A TDREQ arrives; the upstream captures t4 and answers TDRESP. `arrival` is as for `tsync`. -/
  | tdreq (t : Nat) (lane : Nat) (m : List Byte) (arrival : Int)
  /-- `TDRESP` (R408): A TDRESP completes an exchange and the downstream computes RTT, delay and offset. -/
  | tdresp (t : Nat) (lane : Nat) (m : List Byte)
  /-- `EXCHANGE_TIMEOUT` (R407): 500 µs after TSYNC without TDRESP the exchange fails, and eight failures lose TRUNK qualification. -/
  | exchangeTimeout (t : Nat) (lane : Nat)
  /-- `ANNOUNCE_SEND` (R431): Every millisecond the hub sends ANNOUNCE on each ACTIVE trunk lane. -/
  | announceSend (t : Nat)
  /-- `ANNOUNCE` (R431): An ANNOUNCE arrives and updates the far end's role, time quality and step information. -/
  | announce (t : Nat) (lane : Nat) (m : List Byte)
  /-- `ACTIVE_NEIGHBOUR_EXPIRY` (R431): A lane's far end has not announced an active role for 3 ms and the hub changes or loses its active neighbour. -/
  | activeNeighbourExpiry (t : Nat) (down : Bool)
  /-- `TCAPS` (R430): A TCAPS arrives and the hub answers TCAPS_ACK with the first applicable result. -/
  | tcaps (t : Nat) (lane : Nat) (m : List Byte)
  /-- `TCAPS_ACK` (R430): A TCAPS_ACK arrives and completes or fails the lane's CAPS state. -/
  | tcapsAck (t : Nat) (lane : Nat) (m : List Byte)
  /-- `REQUAL_EXPIRY` (R421): A better source stays qualified for REQUAL_TIME and the hub switches to it, slewing or refusing the offset. -/
  | requalExpiry (t : Nat)
  /-- `SLEW_END` (R411): A slew completes and any waiting better source is then taken. -/
  | slewEnd (t : Nat)
  /-- `TIME_ACCEPT` (R414): A guarded write of 1 to TIME_ACCEPT schedules the pending step at t_s. -/
  | timeAccept (t : Nat) (p : Packet)
  /-- `TIME_STEP` (R415): At t_s the step applies: the epoch ends, chains drain, records close, the counter jumps and lanes and grids restart. -/
  | timeStep (t : Nat)
  /-- `TIMED_ACTION_RUN` (R426): A timed-action entry's time arrives and it runs its action and is offered as a trigger source. -/
  | timedActionRun (t : Nat) (e : Nat)
  /-- `TA_WRITE_ENTRY` (R425): A write of 1 to TA_CMD writes the entry from the TA registers, after checks and the lateness test. -/
  | taWriteEntry (t : Nat) (p : Packet)
  /-- `TA_LOAD_ENTRY` (R443): A write of 2 to TA_CMD loads the entry into the TA registers. -/
  | taLoadEntry (t : Nat) (p : Packet)
  /-- `TA_CANCEL_ENTRY` (R443): A write of 3 to TA_CMD cancels the entry. -/
  | taCancelEntry (t : Nat) (p : Packet)
  /-- `PPS_OUT_EDGE` (R428): At each whole second less PPS_OUT_ADJ, PPS_OUT rises unless squelched. -/
  | ppsOutEdge (t : Nat)
  /-- `PPS_OUT_PULSE_END` (R428): PPS_W after its rise, PPS_OUT falls. -/
  | ppsOutPulseEnd (t : Nat)
  /-- `RELAY` (R438): A RELAY fragment arrives and is forwarded, reassembled into a packet, or acted on as a NAK. -/
  | relay (t : Nat) (lane : Nat) (m : List Byte)
  /-- `RELAY_REWIND_TIMEOUT` (R439): The origin has held unacknowledged data for 1 s without an advance and rewinds its outbound FIFO. -/
  | relayRewindTimeout (t : Nat)
  /-- `NECTAR_RECORD_IN` (R450): A record reaches the compressor, which closes the open block if needed and adds the record. -/
  | nectarRecordIn (t : Nat) (stream : Nat)
  /-- `FLUSH_LAG_EXPIRY` (R450): Hub time reaches the end of a block's flush window plus FLUSH_LAG and the block closes. -/
  | flushLagExpiry (t : Nat) (stream : Nat)
  /-- `EVENTS_RECORD_TIMEOUT` (R491): 1 ms after its first item, an EVENTS record closes. -/
  | eventsRecordTimeout (t : Nat)
  /-- `EVENTS_LOST` (R493): Space frees in the events buffer and the hub places EVENTS_LOST ahead of later events. -/
  | eventsLost (t : Nat)
  /-- `OVERFLOW_GAP_WRITE` (R37): Space frees in a closed stream's buffer and its remaining GAP records are written. -/
  | overflowGapWrite (t : Nat) (stream : Nat)
  /-- `PACKET_HDR_BAD` (R477): A packet header fails HCRC or its LEN exceeds 4,096; it is discarded and the receiver resynchronises. -/
  | packetHdrBad (t : Nat) (port : Port)
  /-- `PACKET_TRAILER_BAD` (R477): A packet with a good header fails its trailer CRC and a tagged command completes with CRC_BAD. -/
  | packetTrailerBad (t : Nat) (p : Packet)
  /-- `LINK_SKIP` (R476): The receiver has waited 50 µs for a missing LSEQ and goes on, raising LINK_SKIP. -/
  | linkSkip (t : Nat) (lane received : Nat)
  /-- `BAD_OPCODE` (R483): A command with an unlisted or hub-only opcode completes with BAD_OPCODE. -/
  | badOpcode (t : Nat) (p : Packet)
  /-- `RD` (R486): An RD command reads 1–1,024 register words as snapshots. -/
  | rd (t : Nat) (p : Packet)
  /-- `WR` (R483): A WR command writes 1–1,024 register words from ADDR upward. -/
  | wr (t : Nat) (p : Packet)
  /-- `IXRD` (R548): An IXRD command reads words through the indirect window as one sequence. -/
  | ixrd (t : Nat) (p : Packet)
  /-- `IXWR` (R548): An IXWR command writes words through the indirect window as one sequence. -/
  | ixwr (t : Nat) (p : Packet)
  /-- `GWR` (R544): A GWR packet performs a guarded write of value v to a GW register. -/
  | gwr (t : Nat) (p : Packet)
  /-- `RDB` (R381): An RDB command reads Hive bytes from a readable region or the staging area. -/
  | rdb (t : Nat) (p : Packet)
  /-- `WRB` (R381): A WRB command writes Hive bytes into a HOST_WR region. -/
  | wrb (t : Nat) (p : Packet)
  /-- `IMG` (R531): An IMG command writes image bytes into the staging area. -/
  | img (t : Nat) (p : Packet)
  /-- `COMMIT` (R533): A COMMIT command checks the staged image in order and loads it into unit shadows or refuses it. -/
  | commit (t : Nat) (p : Packet)
  /-- `CFG_COMMIT_WRITE` (R532): A guarded write of IMG_LEN to CFG_COMMIT starts a commit with CFG_CFLAGS. -/
  | cfgCommitWrite (t : Nat) (p : Packet)
  /-- `IMAGE_APPLY` (R534): At the tick after a full image's checks, every unit switches to its new state and the hub enters TRAIN. -/
  | imageApply (t : Nat)
  /-- `PARTIAL_APPLY_TICK` (R536): With no epoch grid running, a partial image applies at the first tick at least T_C after acceptance. -/
  | partialApplyTick (t : Nat)
  /-- `CONFIG_CRC_PASS` (R540): Every 1 ms the engine computes the configuration CRC and compares it with CFG_REF, possibly entering SAFE. -/
  | configCrcPass (t : Nat) (upset : Word)
  /-- `CFG_REF_WRITE` (R540): A guarded write to CFG_REF replaces the reference CRC from the next pass. -/
  | cfgRefWrite (t : Nat) (p : Packet)
  /-- `OTP_PROGRAM` (R549): A guarded write to OTP_PROGRAM starts programming a user OTP word, or is refused or busy. -/
  | otpProgram (t : Nat) (p : Packet)
  /-- `OTP_PROGRAM_DONE` (R549): A user OTP program completes within 2 ms. -/
  | otpProgramDone (t : Nat)
  /-- `GUARD_FIRST_WRITE` (R544): A write of v to a GW register is held pending per port and completes OK. -/
  | guardFirstWrite (t : Nat) (p : Packet)
  /-- `GUARD_TIMEOUT` (R545): 256 cycles pass without the complement write and the guard fails, raising GUARD_FAIL. -/
  | guardTimeout (t : Nat) (port : Port)
  /-- `LOCK` (R550): A LOCK command takes or renews a lock, or completes LOCKED. -/
  | lock (t : Nat) (p : Packet)
  /-- `UNLOCK` (R550): An UNLOCK command releases a lock the port holds. -/
  | unlock (t : Nat) (p : Packet)
  /-- `LOCK_REQ_TAKE` (R550): A write of LOCK_REQ with TAKE 1 takes or renews a lock. -/
  | lockReqTake (t : Nat) (p : Packet)
  /-- `LOCK_REQ_RELEASE` (R550): A write of LOCK_REQ with TAKE 0 releases a lock. -/
  | lockReqRelease (t : Nat) (p : Packet)
  /-- `LOCK_LEASE_EXPIRY` (R551): A lock's lease expires; it is released and LOCK_LOST is raised. -/
  | lockLeaseExpiry (t : Nat) (n : Nat)
  /-- `IX_ADDR_WRITE` (R547): A write of IX_ADDR sets the port's indirect address and clears its error bits. -/
  | ixAddrWrite (t : Nat) (p : Packet)
  /-- `IX_DATA_READ` (R547): A read of IX_DATA reads the indirect word at IX_ADDR and advances it by 4 on success. -/
  | ixDataRead (t : Nat) (p : Packet)
  /-- `IX_DATA_WRITE` (R547): A write of IX_DATA writes the indirect word at IX_ADDR and advances it by 4 on success. -/
  | ixDataWrite (t : Nat) (p : Packet)
  /-- `TIME_NOW_LATCH_READ` (R443): A read of TIME_NOW_SEC_LO latches the other TIME_NOW registers from the same cycle. -/
  | timeNowLatchRead (t : Nat) (p : Packet)
  /-- `READ_CLEAR` (R542): A port read of an RC register returns its value and clears it. -/
  | readClear (t : Nat) (p : Packet)
  /-- `REGISTER_WRITE` (R8): A write to a register with no behaviour of its own stores the value or is ignored for read-only registers. -/
  | registerWrite (t : Nat) (p : Packet)
  /-- `DR_CFG_EN_WRITE` (R509): A write of 1 to DR_CFG.EN gives the QSPI balls to the drip port, or completes CONFLICT during a flash boot. -/
  | drCfgEnWrite (t : Nat) (p : Packet)
  /-- `STREAM_OPEN` (R494): A STREAM_OPEN command starts a new opening of a routed stream at s0. -/
  | streamOpen (t : Nat) (p : Packet)
  /-- `STREAM_CLOSE` (R494): A STREAM_CLOSE command stops a stream at its close point c after its open record and GAP records are queued. -/
  | streamClose (t : Nat) (p : Packet)
  /-- `ACK` (R494): An ACK command acknowledges records of streams, releasing FIFO space, and may rewind the port. -/
  | ack (t : Nat) (p : Packet)
  /-- `UNIT_RESET_LANE` (R488): A UNIT_RESET of LANE retrains lane L. -/
  | unitResetLane (t : Nat) (p : Packet)
  /-- `UNIT_RESET_POD` (R488): A UNIT_RESET of POD drains the pod lane with cause POD_LOST and resumes it. -/
  | unitResetPod (t : Nat) (p : Packet)
  /-- `UNIT_RESET_TRIG` (R488): A UNIT_RESET of TRIG disarms an engine, ends segmented mode and clears a mask stop. -/
  | unitResetTrig (t : Nat) (p : Packet)
  /-- `UNIT_RESET_HOSTP` (R488): A UNIT_RESET of HOSTP resets the issuing port, releasing its locks and rewinding its FIFO. -/
  | unitResetHostp (t : Nat) (p : Packet)
  /-- `DRIP_FRAME` (R506): A drip frame arrives between flags and its packet is taken or discarded on a bad CRC. -/
  | dripFrame (t : Nat) (stopOk : Bool) (bs : List Byte)
  /-- `DRIP_RETRY_TIMEOUT` (R508): DR_CFG.RETRY seconds pass with unreleased drip data and the drip FIFO rewinds. -/
  | dripRetryTimeout (t : Nat)
  /-- `DRIP_PORT_RESET` (R552): RXD held low for 100 bit times resets the drip port and releases its locks. -/
  | dripPortReset (t : Nat)
  /-- `I2C_COMMAND_STOP` (R511): A STOP ends an I²C write to the command area and the hub takes the command or discards it. -/
  | i2cCommandStop (t : Nat) (bs : List Byte)
  /-- `I2C_RESPONSE_READ` (R511): Reading the response packet's last byte clears RSP_VALID and sets CMD_FREE. -/
  | i2cResponseRead (t : Nat)
  /-- `I2C_EVENT_READ` (R511): Reading the last byte of the oldest queued event removes it from the queue. -/
  | i2cEventRead (t : Nat)
  /-- `I2C_PORT_RESET` (R552): SCL held low for 25 ms resets the I²C port and releases its locks. -/
  | i2cPortReset (t : Nat)
  /-- `DAP_READ` (R516): A DAP_REG debug read peeks a register without clearing it. -/
  | dapRead (t : Nat) (addr : Word)
  /-- `DAP_READ_CLEAR` (R516): A DAP_REG read with RDCLR set reads and clears as a port read does. -/
  | dapReadClear (t : Nat) (addr : Word)
  /-- `DAP_WRITE` (R516): A DAP_REG write writes a register from the debug port. -/
  | dapWrite (t : Nat) (addr data : Word)
  /-- `TAP_RESET` (R552): TRST_N low or Test-Logic-Reset resets the TAP and releases the debug port's locks. -/
  | tapReset (t : Nat)
  /-- `PL_HB_SEND` (R565): Every 50 µs each pair member sends PL_HB. -/
  | plHbSend (t : Nat)
  /-- `PL_HB` (R571): A PL_HB arrives and the standby compares FCHAIN and records the partner's state. -/
  | plHb (t : Nat) (plseq : Nat) (hb : Heartbeat)
  /-- `PL_FWD` (R570): A PL_FWD arrives at the standby, which queues it for its apply tick or becomes STALE. -/
  | plFwd (t : Nat) (plseq fseq tick : Nat) (p : Packet)
  /-- `FORWARD_APPLY` (R569): At a forwarded command's apply tick both hubs apply it and the active completes it. -/
  | forwardApply (t : Nat)
  /-- `APPLY_TIME_REACHED` (R590): A command sent with APPLY reaches its apply time and is applied, counted in FSEQ and added to FCHAIN. -/
  | applyTimeReached (t : Nat)
  /-- `PL_ACK` (R565): A PL_ACK arrives and the standby applies the acknowledgements. -/
  | plAck (t : Nat) (plseq : Nat) (entries : List (Nat × Nat))
  /-- `PL_DIGEST` (R578): A PL_DIGEST arrives and the standby compares it with its own packet digest. -/
  | plDigest (t : Nat) (plseq stream rseq frag digest : Nat)
  /-- `CMP_WAIT_EXPIRY` (R578): CMP_WAIT passes without the matching packet or digest and a divergence is recorded. -/
  | cmpWaitExpiry (t : Nat)
  /-- `PL_MARK` (R573): A PL_MARK arrives and the standby adopts the active's suspect, surge or swarm value. -/
  | plMark (t : Nat) (plseq : Nat) (mark : Mark)
  /-- `PL_LOCAL` (R575): A PL_LOCAL arrives and the standby's streams carry the active's local word. -/
  | plLocal (t : Nat) (plseq ch slot : Nat) (word stamp : Word48)
  /-- `PL_TICKS` (R171): A PL_TICKS arrives and the active adds the standby's outstanding ticks to its resend requests. -/
  | plTicks (t : Nat) (plseq lane : Nat) (ticks : List Nat)
  /-- `PL_JOIN` (R567): A PL_JOIN arrives and the joining hub numbers its records from B with the given stream state. -/
  | plJoin (t : Nat) (plseq boundary : Nat) (entries : List JoinEntry)
  /-- `PL_LEASE` (R582): A PL_LEASE arrives carrying a relayed LEASE command, completion or revocation. -/
  | plLease (t : Nat) (plseq : Nat) (msg : LeaseMsg)
  /-- `PL_FAULT` (R584): A PL_FAULT arrives and a standby with a usable succession lease takes over. -/
  | plFault (t : Nat) (plseq fault selfCheck : Nat)
  /-- `PAIR_JOIN_REQUEST` (R567): Once the link is up, time locked 1 s and CRCs equal, a joining hub asks to join. -/
  | pairJoinRequest (t : Nat)
  /-- `HB_TIMEOUT` (R584): No PL_HB arrives for HB_TIMEOUT while a pair lane stays ACTIVE and the standby takes over. -/
  | hbTimeout (t : Nat)
  /-- `TAKEOVER_LIVE` (R587): The new active's shared outputs and host port go live, it rewinds its FIFO and enters RUN or HOLDOVER. -/
  | takeoverLive (t : Nat)
  /-- `PARTNER_ACTIVE_RISE` (R586): PARTNER_ACTIVE rises and a hub without the stronger lease gives up the active role within 50 ns. -/
  | partnerActiveRise (t : Nat)
  /-- `PAIR_LINK_UP` (R589): A pair lane returns to ACTIVE and the standby checks FSEQ and FCHAIN before resuming comparison. -/
  | pairLinkUp (t : Nat)
  /-- `LEASE_READ` (R582): A LEASE command with OP read returns the role and lease state. -/
  | leaseRead (t : Nat) (p : Packet)
  /-- `LEASE_GRANT_PRIMARY` (R583): A LEASE command grants a primary lease, making its holder the active. -/
  | leaseGrantPrimary (t : Nat) (p : Packet)
  /-- `LEASE_GRANT_SUCCESSION` (R584): A LEASE command grants a succession lease to the standby. -/
  | leaseGrantSuccession (t : Nat) (p : Packet)
  /-- `LEASE_REVOKE` (R582): A LEASE command revokes a lease. -/
  | leaseRevoke (t : Nat) (p : Packet)
  /-- `LEASE_RELAY_TIMEOUT` (R582): A relayed LEASE gets no answer within 1 ms and completes with TIMEOUT. -/
  | leaseRelayTimeout (t : Nat)
  /-- `LEASE_EXPIRED` (R583): A lease's duration ends and LEASE_EXPIRED is raised. -/
  | leaseExpired (t : Nat) (succession : Bool)
  /-- `PAIR_HANDOVER` (R588): A guarded write of HANDOVER to PAIR_FORCE hands the active role to a usable standby. -/
  | pairHandover (t : Nat) (p : Packet)
  /-- `PAIR_REJOIN` (R570): A guarded write of REJOIN to PAIR_FORCE makes a STALE standby join again. -/
  | pairRejoin (t : Nat) (p : Packet)
  /-- `PAIR_DECLARE_FAULT` (R581): A guarded write of declare fault to PAIR_FORCE makes the active declare a fault by PL_FAULT. -/
  | pairDeclareFault (t : Nat) (p : Packet)
  /-- `LIMITING_END` (R56): A VOLT drive leaves current limit and FD_CH_STATUS.LIMITING clears. -/
  | limitingEnd (t : Nat) (k : Nat)
  /-- `COMPLIANCE_RESTORED` (R57): A CURR source regains compliance and FD_CH_STATUS.COMPLIANCE clears. -/
  | complianceRestored (t : Nat) (k : Nat)
  /-- `MAINS_SIGNAL_LOSS` (R109): The mains reference disappears from MAINS_P/MAINS_N, the measurement becomes invalid, T_mains falls back to nominal and MAINS_LOST is raised. -/
  | mainsSignalLoss (t : Nat)
  /-- `FIELD_OTP_CHECK_DONE` (R135): The field die finishes its power-up OTP CRC check, sets FD_STATUS.OTP_CRC_OK to match and raises FD_OTP_BAD on failure. -/
  | fieldOtpCheckDone (t : Nat) (good : Bool)
  /-- `UNKNOWN_MESSAGE_TYPE` (R142): A pod or trunk block holds a message of unknown type; the rest of the block is discarded and BAD_MSG or TP_CNT_BADMSG counts it. -/
  | unknownMessageType (t : Nat) (lane : Nat)
  /-- `STUFF_ERR` (R181): A removed stuff bit is not opposite to its run; LANE_CNT_STUFF counts it and bit-lock conditions are broken. -/
  | stuffErr (t : Nat) (lane : Nat)
  /-- `SYNC_MISS` (R184): A block at its expected position under symbol lock has a sync word that misses, and LANE_CNT_SYNC_MISS counts it. -/
  | syncMiss (t : Nat) (lane : Nat)
  /-- `FAR_TRAINING_END` (R200): On a LISTEN lane the far end's training blocks stop and the lane enters BITLOCK. -/
  | farTrainingEnd (t : Nat) (lane : Nat)
  /-- `HOLD_LIMIT_CROSSED` (R420): The growing holdover error e crosses HOLD_LIMIT and TIME_STATUS.SUSPECT changes, which a pair active must mark. -/
  | holdLimitCrossed (t : Nat)
  /-- `HOST_STOP` (R474): The host sets or clears the STOP bit in a block prefix, stopping or resuming the hub's packet sending. -/
  | hostStop (t : Nat) (on : Bool)
  /-- `PACKET_SENT` (R499): The serialiser finishes sending a packet on a lane; completions and EVT packets are released and OUT_DRDY and the packet counter update. -/
  | packetSent (t : Nat) (port : Port)
  /-- `CTS_N_CHANGE` (R507): CTS_N changes level, and with HW_FLOW the drip port stops or resumes sending. -/
  | ctsNChange (t : Nat) (low : Bool)
  /-- `EXTEST` (R516): The TAP updates its instruction register to EXTEST, SAMPLE/PRELOAD, IDCODE or BYPASS, and EXTEST drives the balls from the boundary register. -/
  | extest (t : Nat) (ir : Byte) (boundary : List Bool)
  /-- `MARK_WAIT_EXPIRY` (R573): T_PL passes with no mark from the active, and the standby processes the swarm fire with its own Λ and armed mask. -/
  | markWaitExpiry (t : Nat)
  /-- `SELF_CHECK_EXPIRY` (R579): A self-check bit clears 2 s after its condition last held. -/
  | selfCheckExpiry (t : Nat) (bitNo : Nat)
  /-- `FIELD_LINK_LOSS` (R644): The die-to-die field link goes down, SYS_STATUS.FD_LINK clears and the 10 ms SAFE timer starts. -/
  | fieldLinkLoss (t : Nat)
  /-- `FIELD_LINK_RETURN` (R555): The field link comes up, SYS_STATUS.FD_LINK sets and a running 10 ms timer stops. -/
  | fieldLinkReturn (t : Nat)
deriving DecidableEq, Repr, Inhabited

/-- How many cycles pass before a command. -/
def Instr.wait : Instr → Nat
  | .powerOnReset t => t
  | .pinReset t => t
  | .resetRelease t _ _ _ => t
  | .aonFeedsLost t => t
  | .aonFeedChange t _ _ => t
  | .holdExit t _ => t
  | .flashCopyReadDone t _ _ => t
  | .hiveInitDone t => t
  | .trainEnd t => t
  | .epochGridStart t => t
  | .modeReqQuiesce t _ => t
  | .modeReqTest t _ => t
  | .modeReqLeaveTest t _ => t
  | .modeReqSafe t _ => t
  | .fieldLinkTimeout t => t
  | .overtemp t _ => t
  | .quiescePoint t => t
  | .quiesced t => t
  | .surgeDetect t _ _ => t
  | .surgeQuiet t => t
  | .leadTestEnd t _ => t
  | .surgeChainRestart t => t
  | .coreReset t _ => t
  | .coreResetStart t => t
  | .fieldDieReset t _ => t
  | .fieldDieReady t => t
  | .refWindowEnd t _ => t
  | .refLossOfSignal t _ => t
  | .pllLock t => t
  | .pllNoLock t => t
  | .refGraceExpiry t => t
  | .clkCoastEnd t => t
  | .marginEvaluation t _ _ => t
  | .clkPlanNow t _ _ => t
  | .marginAlarm t _ _ _ => t
  | .hourlyEyeScans t => t
  | .avsRetryTimer t _ => t
  | .avsRetry t _ _ => t
  | .clkRefCfgWrite t _ => t
  | .clkVlimitWrite t _ _ => t
  | .excitationPulseOn t _ => t
  | .windowStart t _ => t
  | .windowEnd t _ _ => t
  | .housekeepingEnd t _ _ => t
  | .witnessUpdate t _ => t
  | .mainsCycle t _ _ => t
  | .excLimitEngage t _ => t
  | .complianceLoss t _ => t
  | .excEnable t _ => t
  | .excDisable t _ => t
  | .spot t _ => t
  | .spotEnd t _ _ => t
  | .calZero t _ => t
  | .calSpan t _ => t
  | .calAbort t _ => t
  | .calStepEnd t _ => t
  | .calStepTimeout t _ => t
  | .podTick t => t
  | .frame t _ _ => t
  | .tickFrame t _ _ => t
  | .resendFrame t _ _ => t
  | .podCaps t _ _ => t
  | .range t _ _ => t
  | .cmdResp t _ _ => t
  | .echoResp t _ _ _ => t
  | .ingestLagExpiry t _ => t
  | .tickOutstanding t _ _ => t
  | .resendReqRepeat t _ _ => t
  | .podNop t _ => t
  | .podStop t _ => t
  | .podReset t _ => t
  | .podIdentify t _ => t
  | .podVendorCmd t _ => t
  | .podCmdTimeout t _ => t
  | .podQuarRelease t _ => t
  | .laneDetect t _ _ _ => t
  | .laneStateTimeout t _ => t
  | .trainingBlock t _ _ => t
  | .tcwTimeout t _ => t
  | .presetSearchStep t _ _ => t
  | .rxAdaptDone t _ _ _ => t
  | .trainHandshakeDone t _ => t
  | .bitLock t _ => t
  | .symlockAcquired t _ => t
  | .symlockLost t _ => t
  | .laneBackoffEnd t _ => t
  | .laneRetrain t _ => t
  | .laneGenSet t _ => t
  | .laneChkSet t _ => t
  | .laneLoopSet t _ => t
  | .checkerSync t _ => t
  | .checkerSyncLoss t _ _ _ => t
  | .laneInjGo t _ => t
  | .laneInjStop t _ => t
  | .eyeScanStart t _ => t
  | .eyeScanStep t _ _ => t
  | .epochBoundary t => t
  | .combBlock t _ _ => t
  | .spectralFrame t _ _ => t
  | .svdDone t _ => t
  | .productEmit t _ => t
  | .matchWindowEnd t _ _ _ => t
  | .matchIntervalEnd t _ => t
  | .rebuildDone t => t
  | .foreign t _ _ => t
  | .fmap t _ _ => t
  | .fmapSend t _ => t
  | .trigEventArrival t _ _ => t
  | .unitTakeEvent t _ => t
  | .trigInEdge t _ => t
  | .trigOutPulseEnd t _ => t
  | .engineArmed t _ => t
  | .engineRearm t _ => t
  | .captureClose t _ => t
  | .captureCopyDone t _ => t
  | .segmentClose t _ => t
  | .segmentRearm t _ => t
  | .segQuietDecision t _ => t
  | .arm t _ => t
  | .fire t _ => t
  | .swarmArm t _ _ => t
  | .armResult t _ _ => t
  | .armedMaskFixed t => t
  | .swarmFire t _ _ => t
  | .scrubRead t _ _ => t
  | .hiveArbCommitArb t _ => t
  | .hiveArbCommitEgr t _ => t
  | .hiveEccInjWrite t _ => t
  | .secondBeacon t => t
  | .ppsEdge t _ => t
  | .ppsMissing t => t
  | .timeTod t _ => t
  | .timeSet t _ => t
  | .timeRead t _ => t
  | .hostSourceExpiry t => t
  | .tsyncSend t _ => t
  | .tsync t _ _ _ => t
  | .tdreq t _ _ _ => t
  | .tdresp t _ _ => t
  | .exchangeTimeout t _ => t
  | .announceSend t => t
  | .announce t _ _ => t
  | .activeNeighbourExpiry t _ => t
  | .tcaps t _ _ => t
  | .tcapsAck t _ _ => t
  | .requalExpiry t => t
  | .slewEnd t => t
  | .timeAccept t _ => t
  | .timeStep t => t
  | .timedActionRun t _ => t
  | .taWriteEntry t _ => t
  | .taLoadEntry t _ => t
  | .taCancelEntry t _ => t
  | .ppsOutEdge t => t
  | .ppsOutPulseEnd t => t
  | .relay t _ _ => t
  | .relayRewindTimeout t => t
  | .nectarRecordIn t _ => t
  | .flushLagExpiry t _ => t
  | .eventsRecordTimeout t => t
  | .eventsLost t => t
  | .overflowGapWrite t _ => t
  | .packetHdrBad t _ => t
  | .packetTrailerBad t _ => t
  | .linkSkip t _ _ => t
  | .badOpcode t _ => t
  | .rd t _ => t
  | .wr t _ => t
  | .ixrd t _ => t
  | .ixwr t _ => t
  | .gwr t _ => t
  | .rdb t _ => t
  | .wrb t _ => t
  | .img t _ => t
  | .commit t _ => t
  | .cfgCommitWrite t _ => t
  | .imageApply t => t
  | .partialApplyTick t => t
  | .configCrcPass t _ => t
  | .cfgRefWrite t _ => t
  | .otpProgram t _ => t
  | .otpProgramDone t => t
  | .guardFirstWrite t _ => t
  | .guardTimeout t _ => t
  | .lock t _ => t
  | .unlock t _ => t
  | .lockReqTake t _ => t
  | .lockReqRelease t _ => t
  | .lockLeaseExpiry t _ => t
  | .ixAddrWrite t _ => t
  | .ixDataRead t _ => t
  | .ixDataWrite t _ => t
  | .timeNowLatchRead t _ => t
  | .readClear t _ => t
  | .registerWrite t _ => t
  | .drCfgEnWrite t _ => t
  | .streamOpen t _ => t
  | .streamClose t _ => t
  | .ack t _ => t
  | .unitResetLane t _ => t
  | .unitResetPod t _ => t
  | .unitResetTrig t _ => t
  | .unitResetHostp t _ => t
  | .dripFrame t _ _ => t
  | .dripRetryTimeout t => t
  | .dripPortReset t => t
  | .i2cCommandStop t _ => t
  | .i2cResponseRead t => t
  | .i2cEventRead t => t
  | .i2cPortReset t => t
  | .dapRead t _ => t
  | .dapReadClear t _ => t
  | .dapWrite t _ _ => t
  | .tapReset t => t
  | .plHbSend t => t
  | .plHb t _ _ => t
  | .plFwd t _ _ _ _ => t
  | .forwardApply t => t
  | .applyTimeReached t => t
  | .plDigest t _ _ _ _ _ => t
  | .cmpWaitExpiry t => t
  | .plMark t _ _ => t
  | .plLocal t _ _ _ _ _ => t
  | .plTicks t _ _ _ => t
  | .plJoin t _ _ _ => t
  | .plLease t _ _ => t
  | .plFault t _ _ _ => t
  | .pairJoinRequest t => t
  | .hbTimeout t => t
  | .takeoverLive t => t
  | .partnerActiveRise t => t
  | .pairLinkUp t => t
  | .leaseRead t _ => t
  | .leaseGrantPrimary t _ => t
  | .leaseGrantSuccession t _ => t
  | .leaseRevoke t _ => t
  | .leaseRelayTimeout t => t
  | .leaseExpired t _ => t
  | .pairHandover t _ => t
  | .pairRejoin t _ => t
  | .pairDeclareFault t _ => t
  | .limitingEnd t _ => t
  | .complianceRestored t _ => t
  | .mainsSignalLoss t => t
  | .fieldOtpCheckDone t _ => t
  | .unknownMessageType t _ => t
  | .stuffErr t _ => t
  | .syncMiss t _ => t
  | .farTrainingEnd t _ => t
  | .holdLimitCrossed t => t
  | .hostStop t _ => t
  | .packetSent t _ => t
  | .ctsNChange t _ => t
  | .extest t _ _ => t
  | .markWaitExpiry t => t
  | .selfCheckExpiry t _ => t
  | .fieldLinkLoss t => t
  | .fieldLinkReturn t => t
  | .witnessStartupDone t _ => t
  | .plAck t _ _ => t

end Sys2Proof
end

