-- ==== Sys2Proof/Config.lean ====
section
/-! DEFINITION. What the spec leaves open or one part fixes: opaque constants without a body, so that nothing can prove a value of
them (log entries 10 to 23). Each is applied to what it depends on, or to the state's counter of free values. -/

namespace Sys2Proof.Config

/-- y that the second-order loop of R406 asks for at a given use, units of 2^−48: the rule gives its time constant only. -/
opaque servoY : Nat → Int

/-- How long after a command the sync word of the block that carries an exchange's message departs, 1/65,536 ns (R407). -/
opaque departure : Nat → Int

/-- `HUB_ID` of the gateway that serves a hub without a host (R438): fragments carry it, and no field of the spec names it. -/
opaque gatewayHub : Nat

/-- Hub time added, in the counter's units, over a stretch of cycles while the VCO ramps back from coast (R613): the hub follows
the frequency it measures. Applied to the cycle at its start and its length. -/
opaque rampUnits : Nat → Nat → Nat

/-- What the regulator answers to an AVSBus request (R618) that a plain register write brings about. -/
opaque avsAnswer : Nat → AvsAnswer

/-- Coefficient k of response r of the filter ROM (R220): the spec gives each response's figures, not its coefficients. Used for
every response but 0, 16, 17 and 31, whose coefficients the spec does give. -/
opaque romCoeff : Nat → Nat → Int

/-- Byte i of a read, by `RDB`, of a region whose layout in Hive the spec leaves open (R381, R378). -/
opaque regionByte : Nat → Nat → Byte

/-- The word of a region, from its base, with which the ring or buffer kept there begins (R173, R341, R378): the spec leaves the
layout open. -/
opaque regionStart : Nat → Nat

/-- What a register that shows a measurement of the chip reads (a lane's phase, a voltage, a sensor): the register's address and
the cycle. The spec fixes what is measured, not a value. -/
opaque measured : Nat → Nat → Word

/-- `OFFSET` of a `TICK` message (R146): how long a sync word or another message delayed it. -/
opaque tickOffset : Nat → BitVec 16

/-- The tokens a compressor picks for a block's transformed content with a reachable history before it (R452, R456): any tokens
that rebuild it will do, and the spec says not to rely on which. -/
opaque compress : List Byte → List Byte → List Byte

/-- A word of the field OTP (R134), by byte offset: per-die factory data. -/
opaque otpWord : Nat → Word

/-- What one count of the converter's raw result is worth (R107), by range code and window length in 10 ns: the spec gives the
count no unit. Multiplied by the factory gain and by the reference in volts it gives volts at the input. -/
opaque countScale : Nat → Nat → Rat

/-- The auto-zero mean of a channel and code before any reading (R117). -/
opaque zeroBefore : Nat → Nat → Rat

/-- The ratiometric result of a conversion whose sensed excitation is 0 V (R74). -/
opaque senseZero : Rat → Rat

/-- Thermocouple reference functions of IEC 60584, which the spec names and does not print (R83, R90): voltage of a curve's type at a
temperature in m°C. -/
opaque tcVolts : Nat → Int → Rat

/-- The error in m°C that linearisation adds at an input, by curve (R83): used only within the rule's limit. -/
opaque curveError : Nat → Rat → Int

/-- What a binary32 word that is no number (infinite or NaN) stands for in R85. -/
opaque notANumber : Word → Rat

/-- The on-die temperature sensor of a ball group, m°C, by cycle (R89). -/
opaque cjSensor : Nat → Nat → Int

/-- The mean current that a `VOLT` drive, or a source out of compliance, delivers into its load, µA, by channel and the cycles between
which it was on (R61): the hub measures it. Used only up to the drive's own limit (R56). -/
opaque loadCurrent : Nat → Nat → Nat → Nat

/-- Bit errors that a checker in sync has met since it was last asked (R204): what the line carries is no command's. -/
opaque chkErrors : Nat → Nat

/-- The partner's measured delay D of a pod lane, ps (the takeover table of R587): no message of R565 carries it. -/
opaque partnerDelay : Nat → Int

/-- `LEASE_ID` of the permanent leases of a pair without a host (R585): the spec gives them none. -/
opaque permanentLease : Nat

/-- How long after a rebuild's start, in ns, frame `k` of those it names has been written and checked (R272 bounds only the whole). -/
opaque rebuildFrameNs : Nat → Nat → Nat

end Sys2Proof.Config
end

