-- ==== Sys2Proof/Machine/Bits.lean ====
section
/-! DEFINITION. The plain arithmetic of words: bit fields, little-endian packing (R22, R478, R520), two's complement, rounding half to
even and saturation (R125, R217). -/

namespace Sys2Proof

/-- Bits `[hi:lo]` of a number, as a number. -/
def bits (n lo width : Nat) : Nat := n / 2 ^ lo % 2 ^ width

/-- Bit `i` of a number. -/
def bit (n i : Nat) : Bool := n / 2 ^ i % 2 == 1

/-- A truth value as the bit a register shows. -/
def bnat (b : Bool) : Nat := if b then 1 else 0

/-- The bytes of `n` little-endian, `len` of them (R22, R478, R520). -/
def toLE (len n : Nat) : List Byte :=
  match len with
  | 0 => []
  | k + 1 => BitVec.ofNat 8 n :: toLE k (n / 256)

/-- The number a little-endian byte list holds. -/
def fromLE : List Byte → Nat
  | [] => 0
  | b :: bs => b.toNat + 256 * fromLE bs

/-- The little-endian field of `len` bytes at offset `ofs`; bytes past the end read 0. -/
def leAt (bs : List Byte) (ofs len : Nat) : Nat := fromLE ((bs.drop ofs).take len)

/-- Bytes `o` to `o + n`. -/
def slice (bs : List Byte) (o n : Nat) : List Byte := (bs.drop o).take n
/-- The byte at an offset, 0 past the end. -/
def byteAt (bs : List Byte) (ofs : Nat) : Nat := leAt bs ofs 1

/-- Two's complement reading of the low `w` bits. -/
def toSigned (w n : Nat) : Int :=
  let m := n % 2 ^ w
  if m < 2 ^ (w - 1) then (m : Int) else (m : Int) - (2 ^ w : Nat)

/-- The `w`-bit two's complement pattern of an integer. -/
def ofSigned (w : Nat) (i : Int) : Nat := (i % ((2 ^ w : Nat) : Int)).toNat

/-- Signed little-endian field. -/
def sleAt (bs : List Byte) (ofs len : Nat) : Int := toSigned (8 * len) (leAt bs ofs len)

/-- `i / d` rounded half to even, `d` positive (R125, R217). -/
def roundHalfEven (i : Int) (d : Nat) : Int :=
  let q := i / (d : Int)
  let r := i % (d : Int)
  if 2 * r < d then q
  else if 2 * r = d then (if q % 2 = 0 then q else q + 1)
  else q + 1

/-- Saturation to `±m`. -/
def satTo (m : Int) (i : Int) : Int := if i > m then m else if i < -m then -m else i

/-- A rational rounded half to even. -/
def roundRat (q : Rat) : Int := roundHalfEven q.num q.den

/-- `ceil (a / b)` on naturals. -/
def ceilDiv (a b : Nat) : Nat := (a + b - 1) / b

/-- Every `n`-byte slice of a list, the last one short. -/
def chunks (n : Nat) : Nat → List α → List (List α)
  | 0, _ => []
  | _ + 1, [] => []
  | fuel + 1, xs => xs.take n :: chunks n fuel (xs.drop n)

/-- The 32-bit words of a payload, little-endian. -/
def wordsOf (bs : List Byte) : List Word :=
  (chunks 4 bs.length bs).map (fun c => BitVec.ofNat 32 (fromLE c))

/-- The bytes of words, little-endian. -/
def bytesOf (ws : List Word) : List Byte := ws.flatMap (fun w => toLE 4 w.toNat)

/-- Indices of the set bits below `n`. -/
def bitList (n w : Nat) : List Nat := (List.range n).filter (bit w)

end Sys2Proof
end

