-- ==== Sys2Proof/Machine/Tab.lean ====
section
/-! DEFINITION. Sparse tables: lists of (key, value) pairs in one canonical form (keys strictly rising, no entry equal to what
an unlisted key reads as), which hold the register file, the Hive bytes and every per-unit array of the state. -/

namespace Sys2Proof.Machine

/-- A table of plain data; `d k` is what an unlisted key `k` reads as. -/
abbrev Tab (α : Type) := List (Nat × α)

/-- The value at a key. -/
def Tab.get (d : Nat → α) (m : Tab α) (k : Nat) : α :=
  match m with
  | [] => d k
  | (k', v) :: rest => if k' = k then v else Tab.get d rest k

/-- The table with every entry for `k` taken out. -/
def Tab.erase (m : Tab α) (k : Nat) : Tab α :=
  match m with
  | [] => []
  | (k', v) :: rest => if k' = k then Tab.erase rest k else (k', v) :: Tab.erase rest k

/-- The table with an entry for `k` put in its place, whatever the value. -/
def Tab.put (m : Tab α) (k : Nat) (v : α) : Tab α :=
  match m with
  | [] => [(k, v)]
  | (k', v') :: rest =>
    if k < k' then (k, v) :: (k', v') :: rest
    else if k = k' then (k, v) :: rest
    else (k', v') :: Tab.put rest k v

/-- A write, which keeps the canonical form: writing the value an unlisted key reads as removes the entry. -/
def Tab.set [DecidableEq α] (d : Nat → α) (m : Tab α) (k : Nat) (v : α) : Tab α :=
  if v = d k then Tab.erase m k else Tab.put m k v

/-- A read followed by a write of what `f` makes of it. -/
def Tab.upd [DecidableEq α] (d : Nat → α) (m : Tab α) (k : Nat) (f : α → α) : Tab α :=
  Tab.set d m k (f (Tab.get d m k))

/-- Every key of a list updated in turn. -/
def Tab.updAll [DecidableEq α] (d : Nat → α) (m : Tab α) (ks : List Nat) (f : Nat → α → α) : Tab α :=
  ks.foldl (fun m k => Tab.upd d m k (f k)) m

/-- The canonical form: keys strictly rising and no entry equal to the default. -/
def Tab.wf [DecidableEq α] (d : Nat → α) (m : Tab α) : Bool :=
  match m with
  | [] => true
  | [(k, v)] => v != d k
  | (k, v) :: (k', v') :: rest => v != d k && k < k' && Tab.wf d ((k', v') :: rest)

end Sys2Proof.Machine
end

