-- ==== Sys2Proof/Machine/State.lean ====
section
/-! DEFINITION. The state of the hub: everything the spec gives it, as plain data, in one structure per unit; the reasons a
command can stop; and the state right after reset. A default value of a field is its reset value (R630: HOLD). -/

namespace Sys2Proof.Machine

/-! ## Modes and system (chapter 17, block `SYS`) -/

/-- The twelve modes (R625). -/
inductive Mode
  | hold | load | train | run | shadow | takeover | holdover | coast | surge | safe | test | quiesce
deriving DecidableEq, Repr, Inhabited

/-- System state: variant (R1), modes (R625), straps (R631), resets (R630), field link (R644), user OTP (R549). -/
structure Sys where
  /-- `SYS_CAP_UNITS.VARIANT` (R3): 1 BY7680-F, 2 BY7680-A, 3 BY3840-A; never written. -/
  variant : Nat := 1
  mode : Mode := .hold
  prev : Mode := .hold
  /-- `RST_N` is high. -/
  rstHigh : Bool := false
  pairId : Bool := false
  addrStrap : BitVec 3 := 0
  bootStrap : BitVec 2 := 0
  /-- The cycle at which a core reset starts (R630). -/
  resetAt : Option Nat := none
  excEn : Bool := false
  fdLink : Bool := false
  /-- The cycle at which the field link went down (R644). -/
  fdDownAt : Option Nat := none
  /-- `SYS_TEMP`, m°C. -/
  temp : Int := 0
  /-- The user OTP program running: word and value (R549). -/
  otpRun : Option (Nat × Word) := none
  fullLoaded : Bool := false
  /-- The hub has entered RUN since HOLD (R412, R628). -/
  enteredRun : Bool := false
  /-- The cycle at which TRAIN began (R635). -/
  trainAt : Nat := 0
  /-- The mode a SURGE interrupted (R640). -/
  surgeFrom : Mode := .run
  /-- The mode a COAST interrupted (R625). -/
  coastFrom : Mode := .run
  /-- Q, as hub time, while a QUIESCE awaits it (R647). -/
  quiesceAt : Option Nat := none
  /-- Q has been reached and its stamp (R648). -/
  quiesceStamp : Option Word48 := none
  quiesced : Bool := false
  /-- The tick at which chains with `SURGE_RESTART` restart (R238). -/
  surgeChains : Option Nat := none
  /-- The cycle until which a core reset holds the hub in HOLD (R630). -/
  holdUntil : Nat := 0
  /-- The hub has driven `ACTIVE_OUT` as an unpaired hub (R651). -/
  aloneActive : Bool := false
deriving DecidableEq, Repr, Inhabited

/-! ## Hub time and the trunk (chapter 11) -/

/-- A tap B output of an exported chain (R434, R436): its direction and its index in the list, its stamp, the 24 bits of its sample, its settling mark
and the cycle within which its message leaves. -/
structure Exported where
  down : Bool
  index : Nat
  stamp : Int
  code : Nat
  setl : Bool
  due : Nat
deriving DecidableEq, Repr, Inhabited

/-- The exchange under way on one trunk port (R407): its `SEQ`, full times in 1/65,536 ns, and the cycle it started. -/
structure Exchange where
  seq : Nat
  t1 : Int
  t2 : Int
  t3 : Int
  startAt : Nat
deriving DecidableEq, Repr, Inhabited

/-- One trunk port, U0, U1, D0, D1 (R407, R430, R431, R444). -/
structure TrunkPort where
  exch : Option Exchange := none
  exchOk : Bool := false
  /-- The next `TSYNC` number a D port sends, and the millisecond of hub time of the last one (R407). -/
  seq : Nat := 0
  syncMs : Option Nat := none
  /-- RTTs in ps, latest first, at most 16 (R408). -/
  rtts : List Int := []
  /-- θ in ps of the last 16 exchanges, latest first, `none` for a discarded one (R408). -/
  thetas : List (Option Int) := []
  okRun : Nat := 0
  failRun : Nat := 0
  delay : Int := 0
  /-- The last cycle at which the far end announced `ROLE` 0 or 1 (R431). -/
  activeAt : Option Nat := none
  farHub : Nat := 0
  farPair : Nat := 0
  farTqual : Nat := 5
  farTerr : Nat := 0
  farStepSeq : Option Nat := none
  farStep : Int := 0
  /-- A step newly announced and not yet followed (R416), ns. -/
  farNew : Option Int := none
  capsResult : Nat := 0
  /-- This end's `TCAPS_ACK` of 0 sent, and the far end's received (R430). -/
  ackSent : Bool := false
  ackGot : Bool := false
deriving DecidableEq, Repr, Inhabited

/-- One entry of the timed-action table (R424). Times are full hub time in ns. -/
structure TaEntry where
  time : Nat := 0
  action : Nat := 0
  arg : Nat := 0
  en : Bool := false
  runLate : Bool := false
  period : Nat := 0
  pending : Bool := false
  ran : Bool := false
  ranLate : Bool := false
  runTime : Nat := 0
  /-- The tick at which it runs late: a late entry, a skipped one, or collapsed runs (R425 to R427). -/
  lateAt : Option Nat := none
deriving DecidableEq, Repr, Inhabited

/-- Relayed packets being reassembled from one source hub (R438, R439). -/
structure Reasm where
  pseq : Nat := 0
  /-- The next `PSEQ` expected, when one has been received. -/
  next : Option Nat := none
  isOpen : Bool := false
  data : List Byte := []
deriving DecidableEq, Repr, Inhabited

/-- Hub time, its sources, steps and timed actions, and the trunk (R399 to R445). -/
structure Time where
  /-- The counter runs (R401). -/
  running : Bool := false
  /-- Full hub time in units of 1 / (7 · 2^50) ns, in which both increments of R399 and R419 are whole numbers. -/
  now : Nat := 0
  /-- `CORE` cycles elapsed (1.25 ns each while `CORE` is stopped): the clock of every timeout. -/
  cyc : Nat := 0
  /-- The steering term y, units of 2^−48 (R399). -/
  y : Int := 0
  /-- y without a slew's part, and what it was while `LOCKED` (R410): cycles and y, latest first, up to the cycle `yFrom`. -/
  yLocked : Int := 0
  yLog : List (Nat × Int) := []
  yFrom : Nat := 0
  /-- 0 `FREE`, 1 `LOCKED`, 2 `SLEWING`, 3 `HOLDOVER`, 4 `COAST` (R410). -/
  state : Nat := 0
  /-- 0 `PPS`, 1 `TRUNK`, 2 `HOST`, 3 none (R444). -/
  source : Nat := 3
  steerLimit : Bool := false
  /-- e0 of R418 in ps, and the hub time at which it held. -/
  err0 : Nat := 0
  errAt : Nat := 0
  ppsQ : Bool := false
  trunkQ : Bool := false
  hostQ : Bool := false
  ppsRun : Nat := 0
  /-- Hub time, ps, of the last `PPS_IN` edge. -/
  lastEdge : Option Int := none
  missed : Nat := 0
  /-- The `SEC` each `TIME_TOD` since the last edge named, latest first, and the hub time in ns at which it came (R405). -/
  tods : List (Nat × Nat) := []
  /-- Source time less hub time in ps at the last edge, and the last offset `TIME_PPS_OFS` shows. -/
  ppsOfs : Int := 0
  ppsShown : Int := 0
  /-- T in ps and U in ns of the last `TIME_SET`, and the cycle it was applied (R403). -/
  hostT : Int := 0
  hostU : Nat := 0
  hostAt : Nat := 0
  /-- The cycle since which each source has been qualified (R421). -/
  qualAt : Tab Nat := []
  /-- A slew under way: the offset in ps and its end as a cycle count (R411). -/
  slew : Option (Int × Nat) := none
  /-- A refused step: its source and Δ in ns (R413). -/
  stepPend : Option (Nat × Int) := none
  /-- A scheduled step: t_s as a tick, its source, and Δ in ps where it is fixed (R412, R414, R417). -/
  stepAt : Option (Nat × Nat × Option Int) := none
  /-- Accepted steps counted and the last of them, ns (R434). -/
  stepSeq : Nat := 0
  lastStep : Int := 0
  /-- The latched rest of `TIME_NOW` (R443), as full time. -/
  latch : Nat := 0
  /-- `TIME_STATUS.SUSPECT`, and its changes, latest first: hub time in ns and value (R420). -/
  suspect : Bool := false
  suspectMarks : List (Nat × Bool) := []
  /-- Starts and ends of surge episodes as words see them, latest first (R639). -/
  surgeMarks : List (Nat × Bool) := []
  /-- The tick for which `TICK` was last sent (R146). -/
  tickSent : Option Nat := none
  /-- The whole second last beaconed (R20). -/
  beacon : Nat := 0
  /-- The trunk ports U0, U1, D0, D1. -/
  ports : Tab TrunkPort := []
  /-- The lane followed in each direction: 0 or 1 (R431). -/
  upActive : Option Nat := none
  downActive : Option Nat := none
  acts : Tab TaEntry := []
  taLoaded : Option Nat := none
  /-- `PPS_OUT` is high, and the cycle at which it falls (R428, R424). -/
  ppsOut : Option Nat := none
  /-- The second of the last `PPS_OUT` edge judged (R428), the millisecond of the last `ANNOUNCE` (R431), and for each direction the
  tenth of a second of the last `FMAP` messages sent by time (R436), up then down. -/
  ppsMark : Nat := 0
  announceMs : Option Nat := none
  fmapUpAt : Option Nat := none
  fmapDownAt : Option Nat := none
  /-- Exported tap B outputs whose `FOREIGN` messages are still to leave (R436). -/
  exported : List Exported := []
  /-- Keys of swarm messages seen (R435): kind, two key fields, cycle. -/
  seen : List (Nat × Nat × Nat × Nat) := []
  /-- The latest `FMAP` of each direction: export index to chain, 0xFFFF none (R437). -/
  fmapUp : Tab Nat := []
  fmapDown : Tab Nat := []
  reasm : Tab Reasm := []
  /-- `PSEQ` of the next packet this hub relays (R438). -/
  pseq : Nat := 0
  /-- The cycle since which unacknowledged relayed data has been held without an advance (R439). -/
  relayHeld : Option Nat := none
deriving DecidableEq, Repr, Inhabited

/-! ## Outbound flow, streams and events (chapters 1 and 13) -/

/-- An event item (R489). -/
structure Event where
  code : Nat
  stamp : Word48
  eseq : BitVec 16
  subject : Word
  args : List Word
deriving DecidableEq, Repr, Inhabited

/-- An outbound record (R22); its `HCRC` is computed. -/
structure Record where
  typ : Nat
  stream : Nat
  rseq : Nat
  stamp : Word48
  rate : Nat
  hflags : Nat
  items : Nat
  fmt : Nat
  typeWord : Nat
  hub : Nat
  payload : List Byte
  /-- What is kept of a record outside Hive (R372): the slot counter of its first item, by channel; how many bytes of payload precede
  its items; for local channels the slot period in ns; and where it lies: the region, and the bytes written there before it. -/
  seqs : List Nat := []
  lead : Nat := 0
  step : Nat := 0
  region : Option Nat := none
  place : Nat := 0
  /-- Of a `NECTAR` record: where it lies in its pool, as stretches of address and length (R463). -/
  runs : List (Nat × Nat) := []
  /-- Stretches, from its header on, that were delivered as zeros (R371): offset and length. -/
  zeroed : List (Nat × Nat) := []
deriving DecidableEq, Repr, Inhabited

/-- What an outbound packet is (R499): it decides when the packet is released. -/
inductive PktKind
  | completion
  | event
  | data (stream rseq : Nat)
  | through
deriving DecidableEq, Repr, Inhabited

/-- A packet in an outbound FIFO (R478, R497): its header fields but for `LSEQ` and the CRCs, which are made anew at each
sending (R479). -/
structure OutPkt where
  kind : PktKind
  opcode : Nat
  pflags : Nat
  tag : Nat := 0
  unitNo : Nat := 0
  addr : Nat := 0
  status : Nat := 0
  hub : Nat := 0xFF
  payload : List Byte
  sent : Bool := false
  released : Bool := false
  /-- Its digest has been taken (R577). -/
  digested : Bool := false
deriving DecidableEq, Repr, Inhabited

/-- An outbound FIFO (R497 to R500): the packets from M to W, the index of S among them, and how many are still to be
re-sent after a rewind. -/
structure Fifo where
  q : List OutPkt := []
  s : Nat := 0
  resend : Nat := 0
  /-- Records waiting in their buffers, in the order emitted (R500). -/
  waiting : List Record := []
  /-- Completions waiting for space (R500). -/
  owed : List OutPkt := []
  /-- `LSEQ` of the next packet sent. -/
  seq : Nat := 0
deriving DecidableEq, Repr, Inhabited

/-- An unfilled span of one channel that is open (R34): the place of its first missing slot, the slots' period in the same
measure, and the slot counter's value at its start. A place is a centre tick for a chain, a slot's start in ns for a local
channel: it grows through changes of rate and of grid. -/
structure Gap where
  start : Nat
  cause : Nat
  subject : Nat
  est : Bool := false
  step : Nat := 1
  seq : Nat := 0
deriving DecidableEq, Repr, Inhabited

/-- A word a producer delivers: its slot, with its place and period, the word, its stamp, the slot's nominal stamp (R29) and whether the producer's
counter restarted at it (R15). -/
structure SlotWord where
  slot : Nat
  place : Nat := 0
  step : Nat := 1
  word : Word48
  stamp : Word48
  nominal : Word48
  restart : Bool := false
  /-- The `RATE` code of its producer (R26). -/
  rate : Nat := 0xFE
deriving DecidableEq, Repr, Inhabited

/-- One channel of an open sample stream: words not yet in an item, the open span, the last span known, and spans already
closed whose records wait for the item at a place, with the place each ends before (R124). -/
structure Column where
  words : List SlotWord := []
  gap : Option Gap := none
  span : Option Gap := none
  late : List (Nat × Gap × Nat) := []
deriving DecidableEq, Repr, Inhabited

/-- A stream (R494): 0 closed, 1 open, 2 closed by overflow. -/
structure Stream where
  st : Nat := 0
  everOpened : Bool := false
  /-- The place from which slots are still to be put in items, once the grid is known, and the place of s0 (R36). -/
  next : Option Nat := none
  first : Nat := 0
  /-- The hub time from which slots belong to the opening (R36). -/
  openAt : Nat := 0
  rseq : Nat := 0
  acked : Nat := 0xFFFF_FFFF
  cols : List Column := []
  /-- The open `SAMPLES` record: its first slot's stamp and rate, flags and items. -/
  recStamp : Word48 := 0
  recRate : Nat := 0xFE
  recFlags : Nat := 0
  recItems : List (List SlotWord) := []
  /-- Spans of this opening that are complete and whose records await writing (R37). -/
  pendingGaps : List Record := []
  /-- The stamp after the last slot held or covered, that is c, and the last `RSEQ` (R36). -/
  closePoint : Word48 := 0
  lastRseq : Nat := 0xFFFF_FFFF
  /-- A `STREAM_CLOSE` waiting for its records to reach the FIFO. -/
  closing : Option Packet := none
  /-- Bytes written to its buffer so far: where its next record begins (R372). -/
  written : Nat := 0
  /-- The place of c as it stands: no `SAMPLES` record or `GAP` record of the opening answers for a slot from there on. -/
  answered : Nat := 0
deriving DecidableEq, Repr, Inhabited

/-- The `EVENTS` stream (R489 to R493). -/
structure Events where
  eseq : BitVec 16 := 0
  items : List Event := []
  openAt : Nat := 0
  rseq : Nat := 0
  acked : Nat := 0xFFFF_FFFF
  lost : Nat := 0
  lostFirst : Word48 := 0
  lostLast : Word48 := 0
deriving DecidableEq, Repr, Inhabited

/-! ## Ports (chapters 13 and 14) -/

/-- What is kept per port (R480, R544, R547, R559). -/
structure PortState where
  /-- Commands in flight, by `HUB` and `TAG` (R480). -/
  inflight : List (Nat × Nat) := []
  /-- A guarded write pending: address, value, and the cycle at which it runs out (R544). -/
  guard : Option (Nat × Word × Nat) := none
  ixAddr : Word := 0
  /-- `IX_CTRL` [3:1]. -/
  ixTimeout : Bool := false
  ixBad : Bool := false
  ixAbsent : Bool := false
  lockResult : Nat := 0
  /-- `LSEQ` of the next packet sent on a port without a FIFO (R478). -/
  outSeq : Nat := 0
deriving DecidableEq, Repr, Inhabited

/-- A lock (R550): its owner, as `LOCK_STATE.OWNER`, and the cycle at which its lease ends. -/
structure Lock where
  owner : Nat := 0
  ends : Nat := 0
deriving DecidableEq, Repr, Inhabited

/-- The host, drip, I²C and debug ports (R473 to R516). -/
structure Ports where
  st : Tab PortState := []
  locks : Tab Lock := []
  /-- The next `LSEQ` expected on the host lanes, and packets held ahead of it (R476). -/
  expect : Nat := 0
  held : List Packet := []
  /-- The cycle from which the receiver has waited for the number it expects next. -/
  gapFrom : Nat := 0
  hostStop : Bool := false
  /-- `CMD_STOP` (R503). -/
  cmdStop : Bool := true
  /-- Commands waiting in the inbound FIFO (R500, R503). -/
  inbound : List Packet := []
  outDrdy : Bool := false
  /-- `HP_CFG.LANES` (R473). -/
  lanes : Nat := 0
  /-- I²C (R511). -/
  cmdFree : Bool := true
  response : List Byte := []
  rspValid : Bool := false
  i2cQueue : List Event := []
  /-- Drip (R505 to R509). -/
  ctsLow : Bool := false
  dripHeld : Option Nat := none
  /-- Flash boot (R515): copy being read or in force, running, done, failed. -/
  bootCopy : Nat := 0
  bootRunning : Bool := false
  bootDone : Bool := false
  bootFailed : Bool := false
  /-- TAP (R516): instruction, status and data of the last access, boundary register. -/
  ir : Byte := 0xFE
  dapStatus : Nat := 0
  dapData : Word := 0
  boundary : List Bool := []
deriving DecidableEq, Repr, Inhabited

/-! ## Image and configuration (chapter 14) -/

/-- An image that has passed its checks and awaits its apply point (R534, R536). -/
structure Staged where
  isFull : Bool
  imageId : Word
  epochDs : Nat
  sections : Tab (List Byte)
  port : Port
  /-- The hub time of acceptance and T_C in ns. -/
  acceptedAt : Nat
  tc : Nat
  /-- The epoch number at which it applies, when the grid runs. -/
  epochNo : Nat := 0
deriving DecidableEq, Repr, Inhabited

/-- The configuration in force and commits (R520 to R540), and the epoch grid (R44 to R48). -/
structure Cfg where
  /-- The effective body of each section type in force (R522, R539). -/
  body : Tab (List Byte) := []
  epochDs : Nat := 10
  staged : Option Staged := none
  mismatch : Bool := false
  /-- The cycle at which the last pass of the engine ended (R540). -/
  passAt : Option Nat := none
  refUser : Bool := false
  crc : Word := 0
  crcRef : Word := 0
  /-- A reference written while a pass runs: it counts from the next pass (R540). -/
  refNext : Option Word := none
  /-- An apply made the pass under way void (R540). -/
  passVoid : Bool := false
  result : Nat := 0
  reason : Nat := 0
  runit : Nat := 0
  detail : Nat := 0
  imageId : Word := 0
  partialId : Word := 0
  stagedLen : Nat := 0
  /-- S, the second at which the epoch grid starts (R45), once it is named. -/
  gridStart : Option Nat := none
  /-- The grid runs, and the number k of the epoch under way; none between a step and the next boundary (R48). -/
  gridOn : Bool := false
  epoch : Option Nat := none
  /-- The hub time in ns from which boundaries count: a late start of the grid, or a step (R45, R48). -/
  epochFrom : Nat := 0
  shortEpoch : Bool := false
deriving DecidableEq, Repr, Inhabited

/-! ## Local channels (chapters 2 and 3) -/

/-- The settings a window or a channel runs on: `CONFIG` bytes 4–35 of its record (R526), `OFS` and `GAIN` (R127). -/
structure FrontEnd where
  inUse : Bool := false
  exc : Word := 0
  lead : Word := 0
  range : Word := 0
  curve : Word := 0
  param0 : Word := 0
  param1 : Word := 0
  param2 : Word := 0
  conv : Word := 0
  ofs : Word := 0
  gain : Word := 0x4000_0000
deriving DecidableEq, Repr, Inhabited

/-- An integration window under way (R106, R108): a slot's, a displaced slot's (`late`) or a spot's. Times are ns. -/
structure Window where
  spot : Bool
  slot : Nat
  start : Nat
  len : Nat
  code : Nat
  late : Bool := false
  /-- The word will be `ABSENT`: the drive was off or was switched off (R67, R68, R643). -/
  noDrive : Bool := false
  /-- The window overlapped current limit or lost compliance (R56, R57). -/
  fault : Bool := false
  settling : Bool := false
  clamped : Bool := false
  swap : Bool := false
  fe : FrontEnd
deriving DecidableEq, Repr, Inhabited

/-- The last conversion of a 3-wire channel, for the pair mean (R72, R73). -/
structure PairHalf where
  volts : Rat
  clip : Bool
  settling : Bool
  absent : Bool
  /-- The orientation of its sources (R122). -/
  swap : Bool
deriving DecidableEq, Repr, Inhabited

/-- A `SPOT` under way (R121 to R123). -/
structure Spot where
  pkt : Packet
  /-- It starts no earlier for its drive's T_PRE (R122), and as it is scheduled. -/
  ready : Nat
  startAt : Nat
  len : Nat
  /-- The slot whose integration it aborted (R123). -/
  aborted : Option Nat
  /-- It switched the drive on. -/
  drove : Bool
deriving DecidableEq, Repr, Inhabited

/-- A calibration step under way (R128 to R132). -/
structure CalStep where
  pkt : Packet
  isSpan : Bool
  n : Nat
  x : Int := 0
  /-- Slots from here on count. -/
  fromSlot : Nat
  slots : Nat := 0
  volts : List Rat := []
  codes : List Nat := []
  clip : Bool := false
  /-- The ageing corrections of the words taken, 10^−8. -/
  ages : List Int := []
deriving DecidableEq, Repr, Inhabited

/-- A threshold detector's state (R234, R235). -/
structure Detector where
  armed : Bool := false
  hold : Nat := 0
deriving DecidableEq, Repr, Inhabited

/-- A change in a drive (R56, R57, R61): its cycle, and what drives from there on: nothing, or a current of `ua` µA, which a `VOLT` drive
or a source out of compliance holds as its upper bound only and the hub measures. -/
structure DriveMark where
  at' : Nat
  on : Bool
  measured : Bool := false
  ua : Nat := 0
deriving DecidableEq, Repr, Inhabited

/-- One local channel. -/
structure Local where
  fe : FrontEnd := {}
  /-- Grid origin O, hub time ns (R112), and the next slot to start. -/
  origin : Option Nat := none
  next : Nat := 0
  /-- The first word of the grid restarts the counter (R15). -/
  restart : Bool := false
  window : Option Window := none
  excOn : Bool := false
  /-- Switchings of the drive, latest first, for the 100 ms measurement (R61). -/
  excLog : List DriveMark := []
  limiting : Bool := false
  compliance : Bool := false
  senseLow : Bool := false
  cjcFallback : Bool := false
  isolated : Bool := true
  /-- Held out by the lead-integrity test (R643), and the test's result code (R99). -/
  heldOut : Bool := false
  leadResult : Nat := 3
  swap : Bool := false
  code : Nat := 0
  /-- |x| of the conversions counted towards rule 3 (R78), latest first. -/
  downs : List Rat := []
  half : Option PairHalf := none
  settleNext : Bool := true
  /-- The last 4 auto-zero readings per code, latest first (R117). -/
  zeros : Tab (List Rat) := []
  /-- Codes with a reading since the channel's last restart. -/
  zeroed : List Nat := []
  /-- Consecutive reference checks beyond, and within, ±0.05 % (R118). -/
  refBad : Nat := 0
  refGood : Nat := 0
  refFail : Bool := false
  /-- Witness ratios since the last update (R137), A − 1 and A_t − 1 in 10^−8. -/
  ratios : List Rat := []
  age : Int := 0
  ageTarget : Int := 0
  ageLimit : Bool := false
  drift : Rat := 0
  /-- Its start-up witness comparisons since the last reset are done (R139). -/
  witnessed : Bool := false
  spot : Option Spot := none
  spotCount : Nat := 0
  cal : Option CalStep := none
  calState : Nat := 0
  calReason : Nat := 0
  calCount : Nat := 0
  heldZero : Option Rat := none
  /-- The housekeeping task of the gap under way: 0 auto-zero, 1 reference check, 2 witness comparison (R116); and the code it runs on. -/
  task : Option (Nat × Nat) := none
  /-- The latest word and its stamp in ns (R91). -/
  last : Option (Word48 × Nat) := none
  gap : Option Gap := none
  /-- Slots before this one lie in a span that another channel of the stream ends (R640): their words are `ABSENT`. -/
  absentTo : Nat := 0
  /-- The slot counter's value at slot 0 of the grid (R14, R415). -/
  seqBase : Nat := 0
  det0 : Detector := {}
  det1 : Detector := {}
deriving DecidableEq, Repr, Inhabited

/-- The field die (R97, R98, R109, R134 to R140, R637 to R642). -/
structure Field where
  ch : Tab Local := []
  otpChecked : Bool := false
  otpOk : Bool := false
  feApplied : Bool := false
  nom60 : Bool := false
  slewStep : Nat := 20
  /-- Measured mains: the last periods, latest first, in 10 ns; whether the measurement is valid; a signal is seen. -/
  periods : List Nat := []
  mainsValid : Bool := false
  mainsPresent : Bool := false
  /-- T_mains in use, in 10 ns, from a hub time in ns on, latest first (R108, R29). -/
  mainsLog : List (Nat × Nat) := []
  witnessValid : Bool := false
  budget : Nat := 0
  /-- A field-die reset runs (R632). -/
  resetting : Bool := false
  /-- A surge episode: t0 as hub time, and the cycle since which no condition has held (R638). -/
  surgeAt : Option Nat := none
  quietAt : Option Nat := none
  surgeCause : Nat := 0
  leadTest : Bool := false
  /-- User OTP words programmed (R547, R549). -/
  userOtp : Tab Word := []
deriving DecidableEq, Repr, Inhabited

/-! ## Pods and ingest (chapter 4) -/

/-- A good frame held for its tick (R163). -/
structure Held where
  status : Nat
  body : List Byte
  /-- Its tick had been outstanding. -/
  resent : Bool := false
deriving DecidableEq, Repr, Inhabited

/-- One pod lane. Ticks are unbounded tick numbers. -/
structure PodLane where
  /-- The accepted capability block (R156), empty before one. -/
  caps : List Byte := []
  capsResult : Nat := 0
  inCaps : Bool := false
  /-- The declared group delay in force, 1/65,536 ns. -/
  gdelay : Nat := 0
  lastStatus : Nat := 0
  /-- Echo round trips received in this `CAPS`, ps, and D (R149). -/
  echoes : List Nat := []
  delay : Int := 0
  started : Bool := false
  /-- It had not reached `ACTIVE` as TRAIN ended: its pod starts by the untimed rule (R635). -/
  untimed : Bool := false
  startTick : Option Nat := none
  running : Bool := false
  drained : Bool := false
  quarantined : Bool := false
  held : List (Nat × Held) := []
  nextTick : Nat := 0
  /-- Outstanding ticks and the cycle of their last request (R164). -/
  outstanding : List (Nat × Nat) := []
  /-- Ticks up to here have been outstanding once. -/
  outMark : Nat := 0
  /-- Ticks whose frame arrived with a bad CRC. -/
  badTicks : List Nat := []
  missRun : Nat := 0
  missFirst : Nat := 0
  /-- The lag of the next tick has expired, and its frame arrives in this same cycle (R165). -/
  lagDue : Bool := false
  /-- Range codes: from a tick on, 4 bits per channel (R155), latest first. -/
  ranges : List (Nat × Nat) := []
  /-- The command awaiting a response: tag and cycle sent (R160). -/
  cmd : Option (Nat × Nat) := none
  respTag : Nat := 0
  respResult : Nat := 0
  respData : Word := 0
  errSec : Nat := 0
  lastFed : Nat := 0
  /-- The standby's outstanding ticks received over the pair link (R171). -/
  partner : List Nat := []
deriving DecidableEq, Repr, Inhabited

/-! ## Decimation chains (chapter 6) -/

/-- A value between stages with its marks (R216, R230): 48-bit value, missing, clip, and the range code of its centre. -/
structure Samp where
  val : Int := 0
  miss : Bool := false
  clip : Bool := false
  rng : Nat := 0
deriving DecidableEq, Repr, Inhabited

/-- What a chain hands on: a tap A or tap B output at a centre tick (R224, R225). `newRate` marks the first tap A output of an
instance whose rate differs from the one before: the slot counter restarts there (R15). -/
structure ChainOut where
  tapB : Bool
  centre : Nat
  samp : Samp
  settling : Bool
  decim : Nat
  newRate : Bool := false
deriving DecidableEq, Repr, Inhabited

/-- One instance of a chain (R236): its stage bytes 4–19 of the record, its first tick, each stage's input history latest
first, words delivered at tap A and tap B, the centre tick at which it stops, whether its rate differs from that of the instance
before it, and tap A outputs that wait for that one to stop (R31). -/
structure ChainInst where
  cfg : List Byte
  first : Nat
  hist : List (List Samp) := []
  outA : Nat := 0
  outB : Nat := 0
  stopAt : Option Nat := none
  newRate : Bool := false
  held : List ChainOut := []
deriving DecidableEq, Repr, Inhabited

/-- Threshold settings (record bytes 20–43) that apply from a centre tick on; `restart` says the chain restarts there too, and
with it both detectors (R234, R236). -/
structure ThrChange where
  at' : Nat
  thr : List Byte
  restart : Bool
deriving DecidableEq, Repr, Inhabited

/-- One chain. `next` is the next output slot's place on the tap A grid of decimation `decim`, `ctr` the slot counter's value
for it; `restart` says the next word is the first since the counter restarted while the chain was drained (R15, R237). -/
structure Chain where
  insts : List ChainInst := []
  drained : Bool := false
  next : Nat := 0
  decim : Nat := 1
  ctr : Nat := 0
  restart : Bool := false
  gap : Option Gap := none
  /-- Threshold settings in force, and those that apply later, in order (R236). -/
  thr : List Byte := []
  thrNext : List ThrChange := []
  det0 : Detector := {}
  det1 : Detector := {}
deriving DecidableEq, Repr, Inhabited


/-! ## Nectar (chapter 12) -/

/-- The compressor's state for one stream: the open block's records, `BSEQ`, the reachable history of transformed content
(R457), the epoch of the last record, and the last `MAP` parts emitted per program (R460). -/
structure NxStream where
  recs : List Record := []
  bseq : Nat := 0
  hist : List Byte := []
  lastEpoch : Option Nat := none
  maps : List Record := []
deriving DecidableEq, Repr, Inhabited

/-- An output pool (R461 to R464): the buffer being filled and its length, the buffers full and awaiting release with the
last record they hold (stream, `TYPE_WORD`), and a stall under way. -/
structure NxPool where
  fill : Nat := 0
  len : Nat := 0
  lastIn : Nat × Nat := (0, 0)
  full : List (Nat × Nat × Nat × Nat) := []
  /-- The cycle at which it stalled; the stall is announced once no release of that cycle prevents it (R464). -/
  stalledAt : Option Nat := none
  starved : Bool := false
  stallMax : Nat := 0
deriving DecidableEq, Repr, Inhabited

/-- The compressor and the decompressor (R446 to R472). `inq` holds the records in stream buffers that wait for the
compressor, in the order emitted. -/
structure Nectar where
  inq : List Record := []
  streams : Tab NxStream := []
  pools : Tab NxPool := []
  derr : Bool := false
  errPos : Nat := 0
  inRem : Nat := 0
  outRem : Nat := 0
deriving DecidableEq, Repr, Inhabited
/-! ## Serial lanes (chapter 5) -/

/-- An eye scan under way (R208): direction (0 left, 1 right, 2 up, 3 down), error-free steps in it, who started it, the code of
its dwell, and the cycle at which the step under way began. -/
structure EyeScan where
  dir : Nat := 0
  steps : Nat := 0
  planner : Bool := false
  dwell : Nat := 0
  from' : Nat := 0
deriving DecidableEq, Repr, Inhabited

/-- Error injection (R206): its mode, the cycle of its `GO`, N and L. -/
structure Injection where
  mode : Nat
  from' : Nat
  n : Nat
  len : Nat
deriving DecidableEq, Repr, Inhabited

/-- One lane (R176, R189, R212). -/
structure Lane where
  /-- Blocks sent on a host lane (R474), for the offset at which the next packet may start (R475). -/
  blocks : Nat := 0
  /-- 0 `DISABLED`, 1 `DETECT`, 2 `TRAIN`, 3 `BITLOCK`, 4 `SYMLOCK`, 5 `CAPS`, 6 `ACTIVE`, 7 `BACKOFF`, 8 `PATTERN`. -/
  st : Nat := 0
  /-- The cycle at which the state was entered. -/
  entered : Nat := 0
  enable : Bool := false
  /-- The settings the lane trains with, taken at entry to `DETECT` (R188). -/
  medium : Bool := false
  preset : Nat := 5
  search : Bool := true
  farPreset : Nat := 0
  lastCode : Nat := 0
  /-- Failures of `TRAIN`, `BITLOCK`, `SYMLOCK` and `CAPS`, and of `DETECT`, by state. -/
  tries : Tab Nat := []
  txPreset : Nat := 0
  rxPreset : Nat := 0
  ctle : Nat := 0
  dfe : Word := 0
  /-- The cycle of the last valid TCW. -/
  tcwAt : Nat := 0
  rxReady : Bool := false
  /-- Consecutive valid TCWs with `RX_READY` since this end's own is set, and the cycle at which they were 8: the 16 further training
  blocks begin (R193). -/
  confirms : Nat := 0
  readyAt : Option Nat := none
  /-- The search: whether it runs, and the largest opening found with its preset. -/
  searching : Bool := false
  best : Option (Nat × Nat) := none
  termSeen : Bool := false
  energy : Bool := false
  /-- Symbol lock is held (R183); the cycle from which sync words are hunted; and under lock, the run of missed sync words and the
  cycle of the last. -/
  locked : Bool := false
  huntFrom : Nat := 0
  missRun : Nat := 0
  missAt : Nat := 0
  /-- The cycle from which every line bit in `BITLOCK` has been clean (R196). -/
  cleanFrom : Nat := 0
  /-- It has reached `ACTIVE` since TRAIN began (R635). -/
  reached : Bool := false
  /-- The checker is in sync; the cycle from which it has sought or held it; and the units of 2^20 bits counted since (R204). -/
  chkSync : Bool := false
  chkFrom : Nat := 0
  chkDone : Nat := 0
  /-- Errors counted since it came into sync (R204). -/
  chkErrs : Nat := 0
  /-- Error injection under way. -/
  inject : Option Injection := none
  scan : Option EyeScan := none
  eyeL : Nat := 0
  eyeR : Nat := 0
  eyeU : Nat := 0
  eyeD : Nat := 0
  eyeValid : Bool := false
  eyePlanner : Bool := false
  eyeLow : Bool := false
deriving DecidableEq, Repr, Inhabited


/-! ## Triggers, capture and the swarm (chapter 9). Times are full hub time in 1/65,536 ns. -/

/-- An event at the trigger units: its stamp and source ID (R332); a detection's carries its channel too (R322). -/
structure TrigEvent where
  t : Int
  src : Nat
  chan : Option Nat := none
deriving DecidableEq, Repr, Inhabited

/-- A trigger unit (R335 to R339): events queued, events taken and not absorbed, and the end of the last fire's absorption. -/
structure TrigUnit where
  queue : List TrigEvent := []
  taken : List TrigEvent := []
  absorb : Option Int := none
  last : Word48 := 0
  /-- H_u, as the load that is in force computed it, 1/65,536 ns (R336). -/
  horizon : Int := 0
deriving DecidableEq, Repr, Inhabited

/-- A slot in a capture ring: its place on the grid, its stamp, and the words it holds by channel index. -/
structure RingSlot where
  slot : Nat
  words : List (Nat × SlotWord)
deriving DecidableEq, Repr, Inhabited

/-- A record or segment being collected (R345 to R347, R351): its fire stamp, its trigger slot and Λ in 1/65,536 ns. -/
structure Collect where
  fire : Int
  trig : Nat
  latency : Int
  kind : Nat
  num : Nat
  merges : Nat := 0
  dead : Nat := 0
  copyWait : Bool := false
deriving DecidableEq, Repr, Inhabited

/-- Where an arm of an engine comes from (R343). -/
inductive ArmSource where
  | host
  /-- A timed action or a swarm `ARM`. -/
  | other
  /-- `REARM`, after a record. -/
  | rearm
deriving DecidableEq, Repr, Inhabited

/-- An arm whose time is still to come. -/
structure EngineArm where
  time : Int
  source : ArmSource
deriving DecidableEq, Repr, Inhabited

/-- A fire on an engine: its stamp, its source's kind and number, and Λ in 1/65,536 ns (R347, R360). -/
structure Fire where
  stamp : Int
  kind : Nat
  num : Nat
  latency : Int
deriving DecidableEq, Repr, Inhabited

/-- A capture engine (R340 to R354). -/
structure Engine where
  ring : List RingSlot := []
  newest : Option Nat := none
  armed : Bool := false
  armAt : Int := 0
  /-- Arms whose times are still to come, earliest first (R343). -/
  arms : List EngineArm := []
  maskStopped : Bool := false
  ringStopped : Bool := false
  copyWait : Bool := false
  fill : Int := 0
  coll : Option Collect := none
  seg : Bool := false
  segNum : Nat := 0
  segEnd : Int := 0
  /-- In segmented mode, the engine stands re-armed for its next segment (R351). -/
  segReady : Bool := false
  /-- Fires for segments after the one being collected (R351). -/
  segWait : List Fire := []
  /-- Stamps of the fires received in segmented mode since the last segment closed, and of those past its end (R352). -/
  segFires : List Int := []
  /-- t_c of the last `CAPTURE` record. -/
  lastEnd : Option Int := none
  /-- Records closed whose copy is not complete: parts, first slot held, and the cycle at which the copy can end. -/
  copies : List (List Record × Nat × Nat) := []
  dead : Nat := 0
  lastFire : Word48 := 0
  ignPre : Nat := 0
  ignPreFirst : Word48 := 0
  missed : Nat := 0
  missedFirst : Word48 := 0
  ignBusy : Nat := 0
deriving DecidableEq, Repr, Inhabited

/-- Trigger network, pulses and swarm. -/
structure Trig where
  /-- Events on their way to the units (R332). -/
  transit : List TrigEvent := []
  units : Tab TrigUnit := []
  engines : Tab Engine := []
  /-- Pulse ends of `TRIG_OUT0` and `TRIG_OUT1` as cycle counts (R339). -/
  out0 : Option Nat := none
  out1 : Option Nat := none
  /-- The cycles of the last edges taken on `TRIG_IN0` and `TRIG_IN1` (R334). -/
  lastIn0 : Option Nat := none
  lastIn1 : Option Nat := none
  fid : Nat := 0
  swarmSeq : Nat := 0
  /-- The swarm arm under way: its arm time and engine set (R356). -/
  swarmArm : Option (Int × Nat) := none
  answered : List Nat := []
  armedMask : Nat := 0
  maskFixed : Bool := true
deriving DecidableEq, Repr, Inhabited

/-! ## Hive (chapter 10) -/

/-- A transfer at an arbiter (R383, R388): its requester, the beats still to move, the cycle from which its request is asserted, and once
granted the cycle of its first beat and whether it won as a forced requester. At egress it is a message, which of the relay's lies in
`TRUNK_BUF` from a place on (R439, R441). -/
structure Xfer where
  req : Nat
  beats : Nat
  since : Nat
  start : Nat := 0
  forced : Bool := false
  msg : List Byte := []
  place : Nat := 0
deriving DecidableEq, Repr, Inhabited

/-- Committed arbiter settings (R392): tickets, limits, seed and `SCRUB_PERIOD`. -/
structure ArbSet where
  tickets : List Nat := []
  limits : List Nat := []
  seed : Nat := 0
  scrub : Nat := 10
deriving DecidableEq, Repr, Inhabited

/-- One arbiter (R383 to R388, R394): its LFSR, wait counters, forced requesters in order, the parked class B owner, the
settings in force (tickets, limits, `SCRUB_PERIOD` in s), whether a commit awaits its next arbitration, the transfer that holds the grant, and those that
wait with what they still have to move. -/
structure Arbiter where
  lfsr : BitVec 16 := 0
  waits : List Nat := [0, 0, 0, 0, 0, 0, 0, 0]
  forced : List Nat := []
  parked : Option Nat := none
  tickets : List Nat := []
  limits : List Nat := []
  scrub : Nat := 10
  pend : Bool := false
  owner : Option Xfer := none
  wants : List Xfer := []
deriving DecidableEq, Repr, Inhabited

/-- One bank's scrub pass (R373, R374): its next beat, the cycle at which the pass began, `PASS_LATE`, and whether this pass is already
known to be late. -/
structure Scrub where
  beat : Nat := 0
  passAt : Nat := 0
  late : Bool := false
  overran : Bool := false
  /-- Words corrected in this pass and in the last. -/
  now : List Nat := []
  before : List Nat := []
deriving DecidableEq, Repr, Inhabited

/-- Hive memory: bytes, words with a stored error (1 single-bit, 2 uncorrectable), arbiters, scrubbing. -/
structure Hive where
  mem : List Host.Cell := []
  errs : Tab Nat := []
  initDone : Bool := false
  initAt : Nat := 0
  ue : Bool := false
  ceRepeat : Bool := false
  ueAddr : Nat := 0
  ueInfo : Nat := 0
  ceAddr : Nat := 0
  /-- An injection armed: word address and mode (R376). -/
  inject : Option (Nat × Nat) := none
  banks : Tab Arbiter := []
  egress : Tab Arbiter := []
  /-- The settings of the last commit of each set, which every bank and lane takes at its next arbitration (R392, R394). -/
  arbSet : ArbSet := {}
  egrSet : ArbSet := {}
  scrubs : Tab Scrub := []
  /-- Bytes that each lane's `TRUNK_BUF` has taken, a fragment from a multiple of 8 on (R439). -/
  trunkPut : Tab Nat := []
deriving DecidableEq, Repr, Inhabited
/-! ## Comb (chapters 7 and 8) -/

/-- A history entry (R248, R253); an index without one is missing. -/
structure HistEntry where
  val : Int := -8388608
  settling : Bool := false
deriving DecidableEq, Repr, Inhabited

/-- One epoch's work of a program: its number, its span in ns, what has been processed and accumulated. `acc` holds point
accumulators, cross-spectral entries or band powers by number; `sat` and `dead` name entries saturated and struck (R310). -/
structure Work where
  num : Nat
  start : Nat
  stop : Nat
  /-- How many time steps went before it: R31 orders records on each side of a step by itself (R415). -/
  gen : Nat := 0
  short : Bool := false
  first : Bool := false
  /-- Its epoch ended before its boundary, at a time step or at Q (R48, R647). -/
  closed : Bool := false
  /-- The index grid it runs on: the time of index 0, the sample period in ns, and by slot where index 0 lies in history (R293). -/
  origin : Nat := 0
  period : Nat := 1
  grids : Tab Nat := []
  /-- L_P of the configuration it ran under, 1/65,536 ns, once another has taken its place (R46, R255). -/
  lag : Option Int := none
  derate : Nat := 100
  epochDs : Nat := 10
  next : Nat := 0
  accepted : Nat := 0
  dropped : Nat := 0
  parity : Nat := 0
  late : Nat := 0
  acc : Tab (Int × Int) := []
  sat : List Nat := []
  dead : List Nat := []
  /-- Saturations of step 4 of R304. -/
  specSat : Nat := 0
  /-- Accepted frames of each channel (R317). -/
  chN : Tab Nat := []
  /-- Missing and settling entries read, by frame (R253). -/
  miss : Tab Nat := []
  settle : Tab Nat := []
  /-- The active anchor tables the epoch runs on, by frame. -/
  banks : Tab (List Byte) := []
  /-- The matrix or map has been emitted; the cycle at which the power iteration ends (R314). -/
  emitted : Bool := false
  svdAt : Option Nat := none
deriving DecidableEq, Repr, Inhabited

/-- A detection (R321, R322): its index, stamp in 1/65,536 ns, channel, template, |c|, and E_h · E_x in normalised mode. -/
structure Detection where
  idx : Nat
  stamp : Int
  chan : Nat
  templ : Nat
  settling : Bool
  score : Nat
  norm : Nat
deriving DecidableEq, Repr, Inhabited

/-- A stretch of indices in which a MATCH program detects: from `base` on, up to a suspension or its stop, and the index from which each
pair looks on (R321, R330). -/
structure MatchSpan where
  base : Nat
  stop : Option Nat := none
  pos : Tab Nat := []
deriving DecidableEq, Repr, Inhabited

/-- A program as started at an epoch boundary (R254, R294): its record, history by slot (12 · frame + slot), epochs' work in
order, and for MATCH its sample period in ns, the stretches in which it detects, and detections awaiting their interval. -/
structure ProgInst where
  cfg : List Byte
  born : Nat
  stopped : Bool := false
  hist : Tab (Tab HistEntry) := []
  works : List Work := []
  period : Nat := 2500
  /-- L_P of the configuration it ran under, once it has stopped (R255). -/
  lag : Option Int := none
  spans : List MatchSpan := []
  dets : List Detection := []
  /-- The next 100 ms interval, counted from hub time 0 (R323). -/
  interval : Nat := 0
  everRan : Bool := false
  /-- The end of its first epoch, ns (R325). -/
  firstStop : Nat := 0
  /-- Where the index 0 of a slot's grid lies in `hist`: a grid begun anew follows the entries of the old (R293). -/
  grids : Tab Nat := []
  /-- For MATCH, missing and settling entries read in the epoch under way, by frame, the index up to which they are counted (R253),
  and the intervals that hold an index not evaluated because of a missing entry (R325). -/
  miss : Tab Nat := []
  settle : Tab Nat := []
  counted : Nat := 0
  degr : List Nat := []
deriving DecidableEq, Repr, Inhabited

/-- Records of a stream awaiting those that go before them (R31, R331): a product's, stamped at its epoch's start, or a `MATCH` record, kind
5; the stamp in 1/65,536 ns, on its side of time steps. -/
structure HeldProduct where
  stream : Nat
  gen : Nat
  time : Int
  prog : Nat
  kind : Nat
  recs : List Record
deriving DecidableEq, Repr, Inhabited

/-- A rebuild (R272): the `COMMIT` it answers, its start in ns, whether its section is Nectar-compressed, the frame records it writes,
and whether it read a poisoned word of the staging area (R371). -/
structure Rebuild where
  pkt : Packet
  startAt : Nat
  compressed : Bool
  frames : List (List Byte)
  poisoned : Bool := false
  finished : Bool := false
  lateSeen : Bool := false
deriving DecidableEq, Repr, Inhabited

/-- The Comb fabric. -/
structure Comb where
  insts : List ProgInst := []
  /-- `CP_STATE` by program. -/
  state : Tab Nat := []
  bankA : Tab (List Byte) := []
  bankB : Tab (List Byte) := []
  /-- Frames whose active bank is B, and frames whose inactive bank holds a checked table. -/
  activeB : List Nat := []
  valid : List Nat := []
  /-- Missing and settling entries read in the last closed epoch, by frame. -/
  miss : Tab Nat := []
  settle : Tab Nat := []
  parity : Bool := false
  derate : Nat := 100
  pending : Nat := 100
  pairPct : Nat := 0
  rebuild : Option Rebuild := none
  rebuildLate : Bool := false
  held : List HeldProduct := []
  /-- Time steps so far (R415). -/
  gen : Nat := 0
  /-- ρ of foreign channels, from their latest stamps, 1/65,536 ns. -/
  resid : Tab Nat := []
deriving DecidableEq, Repr, Inhabited

/-! ## Pair operation (chapter 15) -/

/-- A message on the pair link (R565). The spec gives what each carries. -/
inductive PlMsg
  | hb (h : Heartbeat)
  | fwd (fseq tick : Nat) (p : Packet)
  | ack (entries : List (Nat × Nat))
  | digest (stream rseq frag digest : Nat)
  | mark (m : Mark)
  | localWord (ch slot : Nat) (word stamp : Word48)
  | ticks (lane : Nat) (ticks : List Nat)
  | join (boundary : Nat) (entries : List JoinEntry)
  | lease (m : LeaseMsg)
  | fault (fault selfCheck : Nat)
  | joinRequest
deriving DecidableEq, Repr, Inhabited

/-- A lease (R582): its ID and the cycle at which it ends, none for a permanent one (R585). -/
structure Lease where
  id : Nat
  ends : Option Nat
deriving DecidableEq, Repr, Inhabited

/-- A command awaiting its apply tick (R569) or its apply time (R590). -/
structure Forward where
  fseq : Nat
  tick : Nat
  pkt : Packet
  /-- It came by `APPLY`: it counts in `FSEQ` as it applies. -/
  timed : Bool
  /-- This hub completes it. -/
  answers : Bool
deriving DecidableEq, Repr, Inhabited

/-- A digest awaiting its match (R578): stream, `RSEQ`, fragment, digest and the cycle it came. -/
structure DigestEntry where
  stream : Nat
  rseq : Nat
  frag : Nat
  digest : Nat
  at' : Nat
deriving DecidableEq, Repr, Inhabited

/-- Pair state (R566 to R594). -/
structure Pair where
  /-- 0 single, 1 active, 2 standby, 3 joining. -/
  role : Nat := 0
  stale : Bool := false
  inStep : Bool := false
  blind : Bool := false
  partnerActive : Bool := false
  /-- This hub drives `ACTIVE_OUT`, and its shared nets are live. -/
  activeOut : Bool := false
  live : Bool := false
  aonA : Bool := false
  aonB : Bool := false
  outSeq : Nat := 0
  /-- The next `PLSEQ` expected, once one has come. -/
  inSeq : Option Nat := none
  /-- The cycle of the last heartbeat, and what it said. -/
  hbAt : Option Nat := none
  /-- The cycle at which this hub sent its last heartbeat (R565). -/
  hbSent : Option Nat := none
  partner : Heartbeat := {}
  fseq : Nat := 0
  fchain : BitVec 64 := 0
  /-- The last `FSEQ` given to a command forwarded, or on a standby the last received: the first is 1. -/
  fwdNext : Nat := 0
  queue : List Forward := []
  primary : Option Lease := none
  succession : Option Lease := none
  /-- One more than the cycle at which each self-check condition last held, 0 when it never has (R579). -/
  checks : Tab Nat := []
  crcErrs : Nat := 0
  mine : List DigestEntry := []
  theirs : List DigestEntry := []
  compared : Nat := 0
  /-- Streams compared since joining, and the epoch number in which every comparison has matched so far (R568). -/
  seen : List Nat := []
  cleanFrom : Option Nat := none
  /-- Join boundary B in ns, and the stream state it carried. -/
  joinAt : Option Nat := none
  joinEntries : List JoinEntry := []
  joinAsked : Bool := false
  cfgDiff : Bool := false
  /-- Relayed `LEASE`s awaiting their answers, oldest first, and the cycle each was relayed. -/
  relayed : List (Packet × Nat) := []
  /-- Swarm fires awaiting their marks: origin, `FID`, fire time, engine set, and the cycle each came. -/
  swarmWait : List (Nat × Nat × Int × Nat × Nat) := []
  /-- The link has returned: the next heartbeat's `FSEQ` and `FCHAIN` are compared (R589). -/
  linkBack : Bool := false
  /-- Swarm marks that came first: origin, `FID`, Λ, armed mask. -/
  swarmMarks : List (Nat × Nat × Nat × Nat) := []
  /-- A takeover under way: its cause and the cycle of detection (R587). -/
  takeover : Option (Nat × Nat) := none
  divStream : Nat := 0
  divFrag : Nat := 0
  divCause : Nat := 0
  divRseq : Nat := 0
  /-- The cycle since which time has been locked over the link. -/
  lockedAt : Option Nat := none
deriving DecidableEq, Repr, Inhabited

/-! ## Clocks and margins (chapter 16) -/

/-- References, the PLL, coast, the margin planner and the AVSBus (R596 to R622). -/
structure Clock where
  lock : Bool := false
  ramping : Bool := false
  periphBosc : Bool := true
  coast : Bool := false
  /-- The hub time at which the loop opened, in the counter's units (R610, R613). -/
  coastAt : Nat := 0
  coastTime : Nat := 0
  qualA : Bool := false
  qualB : Bool := false
  qualT : Bool := false
  /-- Consecutive passing windows, by candidate. -/
  passes : Tab Nat := []
  losA : Bool := false
  losB : Bool := false
  /-- 0 `REFA`, 1 `REFB`, 2 `TRUNK`, 3 none. -/
  selected : Nat := 3
  /-- The PLL holds since a cycle, after losing a candidate (R604). -/
  grace : Option (Nat × Nat) := none
  disagree : Bool := false
  single : Bool := false
  ppmA : Int := 0
  ppmB : Int := 0
  bosc : Int := 0
  /-- `LOCK` has been clear while a candidate was followed since a cycle (R605). -/
  unlockAt : Option Nat := none
  /-- Least slack by sensor since the last evaluation. -/
  sensors : Tab Nat := []
  mCore : Nat := 0
  mComb : Nat := 0
  pPlan : Nat := 100
  floor : Bool := false
  coreShort : Bool := false
  avsFault : Bool := false
  /-- V, the request under way with its failures and the cycle of the next try, and the read-back. -/
  volts : Nat := 0
  request : Nat := 0
  avsFails : Nat := 0
  avsAt : Option Nat := none
  readback : Nat := 0
  planLast : Nat := 0
  /-- Evaluations in a row that met row 6 (R615), the whole hour last evaluated, and the cycles of the last whole-hour and the last alarm
  evaluation (R616). -/
  streak : Nat := 0
  hour : Option Nat := none
  hourAt : Option Nat := none
  alarmAt : Option Nat := none
  /-- Lanes whose hourly eye scan is still to come (R617). -/
  scanQueue : List Nat := []
deriving DecidableEq, Repr, Inhabited


/-! ## The whole state -/

/-- A message put on a lane by the command just run (pod, trunk and pair messages), as its bytes. The model's own field: it
shows what leaves the hub and is emptied as the next command starts. -/
structure Sent where
  /-- Lane L of R176, or 32 for `TXD` of the drip port. -/
  lane : Nat
  bytes : List Byte
  /-- The hub time in ps at which a `TICK` is scheduled to leave (R146); other messages leave at once. -/
  leaves : Option Int := none
deriving DecidableEq, Repr, Inhabited

/-- The state of the hub. -/
structure State where
  sys : Sys := {}
  time : Time := {}
  cfg : Cfg := {}
  ports : Ports := {}
  ev : Events := {}
  /-- The host port's outbound FIFO, which also serialises into `RELAY` (R497, R501). -/
  host : Fifo := {}
  drip : Fifo := {}
  streams : Tab Stream := []
  /-- The register file: every counter and every register that only holds what is written (R541 to R543), by address. -/
  regs : Tab Word := []
  field : Field := {}
  pods : Tab PodLane := []
  chains : Tab Chain := []
  nx : Nectar := {}
  lanes : Tab Lane := []
  trig : Trig := {}
  hive : Hive := {}
  comb : Comb := {}
  pair : Pair := {}
  clk : Clock := {}
  wire : List Sent := []
  /-- Messages that near-end loopback has returned to their own lane's receiver (R207), on host lanes whole packets; emptied like `wire`. -/
  returned : List Sent := []
  /-- Messages the command just run has put on the pair link, with their `PLSEQ`; emptied like `wire`. -/
  plOut : List (Nat × PlMsg) := []
  /-- The model's own counter for free values: advanced at each use, its value named by no rule. -/
  free : Nat := 0
  /-- Commands waiting, first in, first out. -/
  pending : List Instr := []
deriving DecidableEq, Repr, Inhabited

/-- Why a command can stop with a fault. No meaning of this model faults: the type has the one constructor the form needs. -/
inductive Fault
  /-- Raised by nothing: the hub reports every failure through registers, events and completions (safe). -/
  | none
deriving DecidableEq, Repr, Inhabited

/-- Why a command can be refused. -/
inductive Refusal
  /-- Raised by the arm of a command that has no meaning yet (safe). -/
  | notModelled (mnemonic : String)
deriving DecidableEq, Repr, Inhabited

/-- The machine right after reset (R630, R633): HOLD, every register at its reset value, memory empty, nothing waiting. -/
def State.reset : State := {}

end Sys2Proof.Machine
end

