-- ==== Sys2Proof/Machine/Ops.lean ====
section
/-! DEFINITION. The named operations every unit shares: CRCs (R23, R135), time passing and stamps (R16, R17, R399), the register
file and its counters (R541 to R543), events (R489 to R493) and messages put on lanes. -/

namespace Sys2Proof.Machine

/-! ## Checks -/

/-- One bit step of a CRC that shifts towards its low end, with the reversed polynomial `poly`. -/
def crcRight (poly : Nat) (c : Nat) : Nat := if c % 2 = 1 then (c / 2) ^^^ poly else c / 2

/-- `k` bit steps of a reflected CRC. -/
def crcRightN (poly : Nat) : Nat → Nat → Nat
  | 0, c => c
  | k + 1, c => crcRightN poly k (crcRight poly c)

/-- CRC-32C (R135): reflected polynomial 0x82F63B78, initial value and final XOR all ones. -/
def crc32c (bs : List Byte) : Word :=
  BitVec.ofNat 32 (bs.foldl (fun c b => crcRightN 0x82F63B78 8 (c ^^^ b.toNat)) 0xFFFF_FFFF ^^^ 0xFFFF_FFFF)

/-- `k` bit steps of a CRC of width `w` that shifts towards its high end. -/
def crcLeftN (w poly : Nat) : Nat → Nat → Nat
  | 0, c => c
  | k + 1, c =>
    crcLeftN w poly k (if c / 2 ^ (w - 1) % 2 = 1 then (2 * c % 2 ^ w) ^^^ poly else 2 * c % 2 ^ w)

/-- CRC-16 (R23): polynomial 0x1021, initial value 0xFFFF, no reflection, no final XOR. -/
def crc16 (bs : List Byte) : BitVec 16 :=
  BitVec.ofNat 16 (bs.foldl (fun c b => crcLeftN 16 0x1021 8 (c ^^^ (b.toNat * 256))) 0xFFFF)

/-! ## Time -/

/-- Time units per ns: the counter holds hub time in 1 / (7 · 2^50) ns (R399, R419). -/
def unitsPerNs : Nat := 7 * 2 ^ 50

/-- What one `CORE` cycle adds (R399), or adds in COAST (R419). -/
def Time.increment (t : Time) : Nat :=
  if t.state = 4 then 10 * 2 ^ 50 else (35 * ((2 ^ 48 : Int) + t.y)).toNat

/-- Time passes: `t` cycles, each adding the increment while the counter runs; the last command's messages are gone. -/
def State.elapse (s : State) (t : Nat) : State :=
  { s with
    time := { s.time with
      cyc := s.time.cyc + t
      now :=
        if !s.time.running then s.time.now
        else if s.clk.ramping then s.time.now + Config.rampUnits s.time.cyc t
        else s.time.now + t * s.time.increment }
    wire := []
    returned := []
    plOut := [] }

/-- Hub time in whole ns. -/
def State.ns (s : State) : Nat := s.time.now / unitsPerNs

/-- Hub time in whole ps, for measured offsets. -/
def State.ps (s : State) : Int := (s.time.now * 1000 / unitsPerNs : Nat)

/-- The tick last reached, unbounded (R400): tick n is at n · 1,250 ns. -/
def State.tick (s : State) : Nat := s.ns / 1250

/-- The hub time of tick n. -/
def tickTime (n : Nat) : Nat := n * 1250 * unitsPerNs

/-- The first tick at least `d` ns after now. -/
def State.tickAfter (s : State) (d : Nat) : Nat :=
  let u := 1250 * unitsPerNs
  (s.time.now + d * unitsPerNs + u - 1) / u

/-- The stamp word of a hub time in units (R16). -/
def stampOf (u : Nat) : Word48 :=
  BitVec.ofNat 48 ((u / unitsPerNs % 2 ^ 32) * 65536 + (u % unitsPerNs) * 65536 / unitsPerNs)

/-- The stamp word of a time in whole ns; times before 0 wrap as the modulus does. -/
def stampOfNs (ns : Int) : Word48 := BitVec.ofNat 48 ((ns % (2 ^ 32 : Int)).toNat * 65536)

/-- The stamp word of now. -/
def State.stamp (s : State) : Word48 := stampOf s.time.now

/-- Full time (R17) of a hub time in units, as the 96-bit number. -/
def fullTime (u : Nat) : Nat :=
  let ns := u / unitsPerNs
  (ns / 1_000_000_000) * 2 ^ 48 + (ns % 1_000_000_000) * 2 ^ 16 + (u % unitsPerNs) * 65536 / unitsPerNs

/-- Full time of a time in whole ns. -/
def fullTimeNs (ns : Nat) : Nat := (ns / 1_000_000_000) * 2 ^ 48 + (ns % 1_000_000_000) * 2 ^ 16

/-- The hub time, in units, that a 96-bit full time names (rounded down to the unit). -/
def ofFullTime (f : Nat) : Nat :=
  let sec := f / 2 ^ 48
  let nsec := f / 2 ^ 16 % 2 ^ 32
  (sec * 1_000_000_000 + nsec) * unitsPerNs + f % 65536 * unitsPerNs / 65536

/-- The three argument words that carry a full time. -/
def fullWords (f : Nat) : List Word :=
  [BitVec.ofNat 32 f, BitVec.ofNat 32 (f / 2 ^ 32), BitVec.ofNat 32 (f / 2 ^ 64)]

/-- The two argument words that carry a stamp word: [31:0] then [47:32]. -/
def stampWords (w : Word48) : List Word := [BitVec.ofNat 32 w.toNat, BitVec.ofNat 32 (w.toNat / 2 ^ 32)]

/-- Cycles in a millisecond, a microsecond. -/
def cycPerMs : Nat := 800_000
def cycPerUs : Nat := 800

/-! ## The register file -/

/-- Block bases (R541). -/
def blockBase (b : Nat) : Nat := b * 65536

/-- Reset values of the registers that the file holds and that do not reset to 0. -/
def regReset (a : Nat) : Word :=
  if a = 0x000B_0008 then 0x0010_0030        -- HP_CMD_WM (R517)
  else if a = 0x000B_000C then 0x0004_0010   -- HP_OUT_WM (R517)
  else if a = 0x000B_0010 then 0x0000_0800   -- HP_EVT_EN (R517)
  else if a = 0x000B_0084 then 0x0000_4B7F   -- DR_BAUD (R517)
  else if a = 0x000E_0000 then 10            -- LOCK_LEASE (R559)
  else if a = 0x0003_0004 then 0x000A_140E   -- CLK_REF_CFG (R621)
  else if a = 0x0003_0040 then 0x0000_0003   -- CLK_PLAN_CFG
  else if a = 0x0003_0044 then 0x021E_2850   -- CLK_PLAN_TGT
  else if a = 0x0003_0048 then 0x02EE_0320   -- CLK_VLIMIT
  else if a = 0x0008_0010 then 0x0000_ACE1   -- HIVE_ARB_SEED (R396)
  else if a = 0x0008_0014 then 0x2020_4040   -- HIVE_ARB_TICKETS0
  else if a = 0x0008_0018 then 0x0810_1020   -- HIVE_ARB_TICKETS1
  else if a = 0x0008_001C then 0x0004_0004   -- HIVE_ARB_LIMIT0
  else if a = 0x0008_0020 then 0x0010_0010   -- HIVE_ARB_LIMIT1
  else if a = 0x0008_0024 then 0x0010_0010   -- HIVE_ARB_LIMIT2
  else if a = 0x0008_0028 then 0x0100_0010   -- HIVE_ARB_LIMIT3
  else if a = 0x0008_002C then 0x0000_000A   -- HIVE_SCRUB_CFG
  else if a = 0x0008_0030 then 0x1010_1010   -- HIVE_EGR_TICKETS0
  else if a = 0x0008_0034 then 0x1010_1010   -- HIVE_EGR_TICKETS1
  else if 0x0008_0038 ≤ a && a ≤ 0x0008_0044 && a % 4 = 0 then 0x0010_0010   -- HIVE_EGR_LIMIT0 to 3

  else 0

/-- A word of the register file. -/
def State.reg (s : State) (a : Nat) : Word := Tab.get regReset s.regs a

/-- A word of the register file written. -/
def State.setReg (s : State) (a : Nat) (v : Word) : State := { s with regs := Tab.set regReset s.regs a v }

/-- A word of the register file as a number. -/
def State.regN (s : State) (a : Nat) : Nat := (s.reg a).toNat

/-- A counter that saturates and sticks, without its event (R543). -/
def State.countQuiet (s : State) (a : Nat) : State :=
  if s.reg a = 0xFFFF_FFFF then s else s.setReg a (s.reg a + 1)

/-! ## Roles -/

/-- This hub is the active of a pair, or a standby (joining hubs obey the rules for a standby, R566). -/
def State.isActive (s : State) : Bool := s.pair.role == 1
def State.isStandby (s : State) : Bool := s.pair.role == 2 || s.pair.role == 3

/-! ## Events -/

/-- Bytes an event item takes (R489). -/
def Event.size (e : Event) : Nat := 16 + 4 * e.args.length

/-- An event item's bytes (R489). -/
def Event.bytes (e : Event) : List Byte :=
  toLE 2 e.code ++ toLE 1 e.args.length ++ toLE 1 0 ++ toLE 6 e.stamp.toNat ++ toLE 2 e.eseq.toNat
    ++ toLE 4 e.subject.toNat ++ bytesOf e.args

/-- Bytes of which some stretches, by offset and length, were delivered as zeros (R371). -/
def zeroWords (zs : List (Nat × Nat)) (bs : List Byte) : List Byte :=
  if zs.isEmpty then bs
  else (bs.zip (List.range bs.length)).map fun b => if zs.any (fun z => z.1 ≤ b.2 && b.2 < z.1 + z.2) then 0 else b.1

/-- A record's header and payload (R22, R23); a header that lost a word fails its `HCRC`. -/
def Record.bytes (r : Record) : List Byte :=
  let h := toLE 1 r.typ ++ toLE 1 1 ++ toLE 2 r.stream ++ toLE 4 r.rseq ++ toLE 6 r.stamp.toNat ++ toLE 1 r.rate
    ++ toLE 1 r.hflags ++ toLE 4 r.items ++ toLE 4 r.payload.length ++ toLE 1 r.hub ++ toLE 1 r.fmt ++ toLE 4 r.typeWord
  zeroWords r.zeroed (h ++ toLE 2 (crc16 h).toNat ++ r.payload)

/-- A record's size in bytes. -/
def Record.size (r : Record) : Nat := 32 + r.payload.length

/-- The body in force of a section type (R539). -/
def State.body (s : State) (t : Nat) : List Byte := Tab.get (fun _ => []) s.cfg.body t

/-- `HUB_ID` of the TIME section in force (R442), 0xFF before one applies (R478). -/
def State.hubId (s : State) : Nat := if (s.body 0x0C).isEmpty then 0xFF else byteAt (s.body 0x0C) 3

/-- The position records name (R22, 0 to 63). DESIGN CHOICE (log entry 34): 0 before a TIME section applies; the spec gives records none. -/
def State.hubPos (s : State) : Nat := byteAt (s.body 0x0C) 3

/-- `GW_DIR` (R438). -/
def State.gwDir (s : State) : Nat := byteAt (s.body 0x0C) 2

/-- Bytes of the `EVENTS` buffer in use: the open record, and records still waiting (R493). -/
def State.evBytes (s : State) : Nat :=
  32 + (s.ev.items.map Event.size).sum
    + ((s.host.waiting.filter (fun r => r.stream == 0)).map Record.size).sum

/-- The `EVENTS` buffer holds 256 KiB; one `EVENTS_LOST` item of 36 bytes and the header of the record it would open are
reserved (R493). -/
def State.evRoom (s : State) (size : Nat) : Bool := s.evBytes + size + 100 ≤ 262144

/-- Whether closed `EVENTS` records have a port to go to (R493). -/
def State.evHasPort (s : State) : Bool := s.ports.lanes != 0 || s.gwDir != 0

/-- Closes the open `EVENTS` record (R491); with no port it is released as it closes (R493). -/
def State.closeEvents (s : State) : State :=
  match s.ev.items with
  | [] => s
  | e :: _ =>
    let r : Record :=
      { typ := 0x0A, stream := 0, rseq := s.ev.rseq, stamp := e.stamp, rate := 0xFF,
        hflags := (if s.gwDir = 0 then 0 else 4), items := s.ev.items.length, fmt := 0, typeWord := 0,
        hub := s.hubPos, payload := s.ev.items.flatMap Event.bytes }
    let s := { s with ev := { s.ev with items := [], rseq := (s.ev.rseq + 1) % 2 ^ 32 } }
    if s.evHasPort then { s with host := { s.host with waiting := s.host.waiting ++ [r] } } else s

/-- Puts an item in the open `EVENTS` record, closing the record at 64 items (R491). -/
def State.pushEvent (s : State) (e : Event) : State :=
  let ev := { s.ev with
    openAt := if s.ev.items.isEmpty then s.time.cyc else s.ev.openAt
    items := s.ev.items ++ [e] }
  let s := { s with ev := ev }
  if 64 ≤ s.ev.items.length then s.closeEvents else s

/-- 64-bit words a packet of `n` payload bytes takes in an outbound FIFO (R478, R497). -/
def pktWords (n : Nat) : Nat := (n + 27) / 8

/-- Words held in a FIFO, from M to W. -/
def Fifo.used (f : Fifo) : Nat := (f.q.map (fun p => pktWords p.payload.length)).sum

/-- Counter addresses used here (R517). -/
def aEvtDrop : Nat := 0x000B_0050
def aEvtLost : Nat := 0x000B_005C

/-- The I²C event queue, 16 items (R511). -/
def State.queueI2c (s : State) (e : Event) : State :=
  if s.ports.i2cQueue.length < 16 then
    { s with ports := { s.ports with i2cQueue := s.ports.i2cQueue ++ [e] } }
  else s.countQuiet aEvtDrop

/-- An `EVT` packet at once, dropped when the reserve is full (R492, R500). -/
def State.sendEvt (s : State) (e : Event) : State :=
  if !s.evHasPort then s
  else if s.host.used + pktWords e.size ≤ 262144 then
    { s with host := { s.host with q := s.host.q ++
      [{ kind := .event, opcode := 0x81, pflags := 0, addr := e.code, hub := s.hubId, payload := e.bytes }] } }
  else s.countQuiet aEvtDrop

/-- An event is raised (R489 to R493): placed in the `EVENTS` stream or counted as lost, and with its block enabled sent as
`EVT` and queued for I²C. In HOLD the stream has not opened yet (R491) and nothing is placed; a standby's events go to its I²C
queue only (R577). -/
def State.place (s : State) (code : Nat) (subject : Nat) (args : List Word) : State :=
  if s.sys.mode = .hold then s else
  let e : Event :=
    { code := code, stamp := s.stamp, eseq := s.ev.eseq, subject := BitVec.ofNat 32 subject, args := args }
  let s := { s with ev := { s.ev with eseq := s.ev.eseq + 1 } }
  let on := bit (s.regN 0x000B_0010) (code / 256)
  if s.isStandby then (if on then s.queueI2c e else s) else
  let s :=
    if s.ev.lost = 0 && s.evRoom e.size then s.pushEvent e
    else
      ({ s with ev := { s.ev with
          lost := s.ev.lost + 1
          lostFirst := if s.ev.lost = 0 then e.stamp else s.ev.lostFirst
          lostLast := e.stamp } } : State).countQuiet aEvtLost
  if on then (s.sendEvt e).queueI2c e else s

/-- Code and subject of a counter's overflow event (R490): the field die's counters lie from 0x0100_0000. -/
def overflowCode (a : Nat) : Nat := if 0x0100_0000 ≤ a then 0x10FF else a / 65536 * 256 + 0xFF
def overflowSubject (a : Nat) : Nat := if 0x0100_0000 ≤ a then a - 0x0100_0000 else a % 65536

/-- The overflow event of a counter that has just reached its end (R490, R543). -/
def State.overflowOf (old new : State) (a : Nat) : State :=
  if new.reg a = 0xFFFF_FFFF && old.reg a != 0xFFFF_FFFF then
    new.place (overflowCode a) (overflowSubject a) []
  else new

/-- An event is raised, with the overflow events of the two counters raising can advance. -/
def State.raise (s : State) (code : Nat) (subject : Nat) (args : List Word := []) : State :=
  let s' := s.place code subject args
  State.overflowOf s (State.overflowOf s s' aEvtDrop) aEvtLost

/-- An error or event counter advances, and raises its overflow event when it reaches its end (R543). -/
def State.bump (s : State) (a : Nat) : State :=
  let s' := s.countQuiet a
  if s'.reg a = 0xFFFF_FFFF && s.reg a != 0xFFFF_FFFF then s'.raise (overflowCode a) (overflowSubject a) else s'

/-- A counter that advances by `n`. -/
def State.bumpBy (s : State) (a n : Nat) : State :=
  let v := s.regN a
  let v' := min 0xFFFF_FFFF (v + n)
  let s' := s.setReg a (BitVec.ofNat 32 v')
  if v' = 0xFFFF_FFFF && v != 0xFFFF_FFFF then s'.raise (overflowCode a) (overflowSubject a) else s'

/-! ## Messages -/

/-- `LANE_TEST_CTRL.LOOP` of a lane: in near-end loopback its balls are idle, in far-end loopback it retransmits what it receives
(R207). -/
def State.laneLoop (s : State) (lane : Nat) : Nat := s.regN (0x0004_1010 + 0x100 * lane) / 64 % 4

/-- A lane's blocks carry messages: it is in `CAPS` or `ACTIVE`, and not looped back. In any other state its transmitter is idle, or
sends training blocks or a pattern (R188, R191, R192, R202). -/
def State.carries (s : State) (lane : Nat) : Bool :=
  let st := (Tab.get (fun _ => ({} : Lane)) s.lanes lane).st
  (st == 5 || st == 6) && s.laneLoop lane == 0

/-- A lane that would carry messages returns them to its own receiver (R207). -/
def State.returns (s : State) (lane : Nat) : Bool :=
  let st := (Tab.get (fun _ => ({} : Lane)) s.lanes lane).st
  (st == 5 || st == 6) && s.laneLoop lane == 1

/-- The commands of this same cycle that still wait. -/
def State.sameCycle (s : State) : List Instr := s.pending.takeWhile fun c => c.wait == 0

/-- A message put on a lane. -/
def State.send (s : State) (lane : Nat) (m : List Byte) : State :=
  if s.carries lane then { s with wire := s.wire ++ [{ lane := lane, bytes := m }] }
  else if s.returns lane then { s with returned := s.returned ++ [{ lane := lane, bytes := m }] }
  else s

/-- A message of a type and a body with its CRC-16 (R142, R433). -/
def message (typ : Nat) (body : List Byte) : List Byte :=
  let m := toLE 1 typ ++ body
  m ++ toLE 2 (crc16 m).toNat

/-- Whether a message's CRC-16 is good (R142). -/
def crcGood (m : List Byte) : Bool :=
  let n := m.length - 2
  2 < m.length && leAt m n 2 == (crc16 (m.take n)).toNat

/-- A lane is in `ACTIVE` (R189). -/
def State.laneActive (s : State) (l : Nat) : Bool := (Tab.get (fun _ => ({} : Lane)) s.lanes l).st == 6

/-- The pair link is up: a pair lane is in `ACTIVE` (R564). -/
def State.linkUp (s : State) : Bool := s.laneActive 30 || s.laneActive 31

/-- A message queued on the pair link (R564); with the link down it is not sent and takes no `PLSEQ`. -/
def State.plSend (s : State) (m : PlMsg) : State :=
  if !s.linkUp then s else
  { s with plOut := s.plOut ++ [(s.pair.outSeq, m)], pair := { s.pair with outSeq := (s.pair.outSeq + 1) % 65536 } }

/-- A condition of the self-check word holds now (R579). -/
def State.noteCheck (s : State) (b : Nat) : State :=
  { s with pair := { s.pair with checks := Tab.set (fun _ => 0) s.pair.checks b (s.time.cyc + 1) } }

/-- A value no rule names: an opaque constant applied to the counter, which advances. -/
def State.fresh (s : State) (f : Nat → α) : α × State := (f s.free, { s with free := s.free + 1 })

end Sys2Proof.Machine
end

