-- ==== Sys2Proof/Machine/Outflow.lean ====
section
/-! DEFINITION. The outbound FIFOs (R497 to R502, R508): packets written, sent, released and rewound; records waiting for space;
completions (R482, R511, R516) and acknowledgements (R494). -/

namespace Sys2Proof.Machine

/-! ## Packets -/

/-- The bytes of a packet as sent, with its link sequence number (R478, R479). -/
def OutPkt.bytes (p : OutPkt) (lseq : Nat) : List Byte :=
  let h0 := toLE 4 (p.opcode * 2 ^ 24 + p.pflags * 2 ^ 20 + p.tag * 2 ^ 8 + p.unitNo)
    ++ toLE 4 (p.payload.length * 2 ^ 16 + lseq) ++ toLE 4 p.addr
  let h1 := toLE 1 p.hub ++ toLE 1 p.status
  let h := h0 ++ toLE 2 (crc16 (h0 ++ h1)).toNat ++ h1
  h ++ p.payload ++ toLE 4 (crc32c (h ++ p.payload)).toNat

/-- The packets one record travels as: fragments of 4,096 payload bytes (R495), released by the given `RSEQ` (R499). -/
def recordPkts (hub : Nat) (r : Record) : List OutPkt :=
  let bs := r.bytes
  let frs := chunks 4096 bs.length bs
  let key := if r.typ = 0x0B then r.typeWord else r.rseq
  (frs.zip (List.range frs.length)).map fun fi =>
    { kind := .data r.stream key, opcode := 0x80, pflags := if fi.2 + 1 = frs.length then 2 else 0,
      addr := r.stream + fi.2 * 65536, hub := hub, payload := fi.1 }

/-- 64-bit words of a list of packets. -/
def pktsWords (ps : List OutPkt) : Nat := (ps.map (fun p => pktWords p.payload.length)).sum

/-- FIFO capacities in 64-bit words (R497, R508) and the reserve of 64 KiB (R500). -/
def hostWords : Nat := 262144
def dripWords : Nat := 32768
def reserveWords : Nat := 8192

/-- Owed completions and events enter while there is space (R500). -/
def Fifo.payOwed (cap : Nat) : List OutPkt → Fifo → Fifo
  | [], f => { f with owed := [] }
  | p :: ps, f =>
    if f.used + pktWords p.payload.length ≤ cap then Fifo.payOwed cap ps { f with q := f.q ++ [p] }
    else { f with owed := p :: ps }

/-- Waiting records enter, in the order emitted, while unreserved space takes them whole (R495, R500). -/
def Fifo.takeRecords (cap hub : Nat) : List Record → Fifo → Fifo
  | [], f => { f with waiting := [] }
  | r :: rs, f =>
    let ps := recordPkts hub r
    if f.used + pktsWords ps ≤ cap - reserveWords then Fifo.takeRecords cap hub rs { f with q := f.q ++ ps }
    else { f with waiting := r :: rs }

/-- The packer's work: completions owed first, then records. -/
def Fifo.pump (cap hub : Nat) (f : Fifo) : Fifo :=
  let f := Fifo.payOwed cap f.owed f
  Fifo.takeRecords cap hub f.waiting f

/-- M advances over released packets (R499). -/
def Fifo.advance (f : Fifo) : Fifo :=
  let n := (f.q.takeWhile (fun p => p.released)).length
  { f with q := f.q.drop n, s := f.s - n }

/-- Releases `DATA` packets of a stream up to `r`, in the sense of R494's comparison. -/
def Fifo.release (stream r : Nat) (f : Fifo) : Fifo :=
  ({ f with q := f.q.map fun p =>
      match p.kind with
      | .data st k => if st = stream && (r + 2 ^ 32 - k) % 2 ^ 32 < 2 ^ 31 then { p with released := true } else p
      | _ => p } : Fifo).advance

/-- A rewind: S goes to M, and every unreleased packet sent before is sent again (R499). -/
def Fifo.rewind (f : Fifo) : Fifo :=
  { f with s := 0, resend := ((f.q.take f.s).filter (fun p => !p.released)).length + 0 }

/-- The index of the next packet to send: S, past released packets. -/
def Fifo.nextIdx (f : Fifo) : Nat := f.s + ((f.q.drop f.s).takeWhile (fun p => p.released)).length

/-- The serialiser finishes the packet at S: completions and events are released when sent (R499). -/
def Fifo.sendOne (f : Fifo) : Fifo :=
  let i := f.nextIdx
  match f.q[i]? with
  | none => f
  | some p =>
    let rel := match p.kind with
      | .data _ _ => p.released
      | _ => true
    ({ f with
        q := f.q.set i { p with sent := true, released := rel }
        s := i + 1
        resend := f.resend - 1
        seq := (f.seq + 1) % 65536 } : Fifo).advance

/-- `HP_OUT_HELD` and `HP_OUT_UNSENT` in bytes, and the packet counter (R498, R517). -/
def Fifo.held (f : Fifo) : Nat := 8 * f.used
def Fifo.unsent (f : Fifo) : Nat := 8 * pktsWords (f.q.drop f.s)
def Fifo.packets (f : Fifo) : Nat := ((f.q.drop f.s).filter (fun p => !p.released)).length

/-- The reserve is full: less space is left than the largest completion needs (R500). -/
def Fifo.reserveFull (cap : Nat) (f : Fifo) : Bool := cap < f.used + pktWords 4096

/-- Data sent and not released is held (R439, R508). -/
def Fifo.unreleased (f : Fifo) : Bool := f.q.any fun p => match p.kind with | .data _ _ => p.sent && !p.released | _ => false

/-! ## Ports -/

/-- The code of a port, as `LOCK_STATE.OWNER` (R559). -/
def portCode : Port → Nat
  | .own => 0
  | .host => 1
  | .drip => 2
  | .i2c => 3
  | .debug => 4
  | .relay => 5

/-- The state kept for a port. -/
def State.port (s : State) (p : Port) : PortState := Tab.get (fun _ => {}) s.ports.st (portCode p)

/-- A port's state changed. -/
def State.updPort (s : State) (p : Port) (f : PortState → PortState) : State :=
  { s with ports := { s.ports with st := Tab.upd (fun _ => {}) s.ports.st (portCode p) f } }

/-- Writes a completion or event packet into the host FIFO, or holds it until there is space (R500). -/
def State.putHost (s : State) (p : OutPkt) : State :=
  { s with host := { s.host with owed := s.host.owed ++ [p] } }

/-- The completion packet of a command (R482): it echoes `TAG`, `OPCODE`, `UNIT` and `ADDR`. -/
def completionPkt (hub : Nat) (p : Packet) (status : Nat) (body : List Byte) : OutPkt :=
  { kind := .completion, opcode := p.opcode.toNat, pflags := 1, tag := p.tag.toNat, unitNo := p.unitNo.toNat,
    addr := p.addr.toNat, status := status, hub := hub, payload := body }

end Sys2Proof.Machine

namespace Sys2Proof
open Machine

/-- The command came by `PL_FWD`, over pair lane P0: this hub answers nothing for it (R570, R574). -/
def Packet.forwarded (p : Packet) : Bool := p.lane == 30

end Sys2Proof

namespace Sys2Proof.Machine

/-- The command is in flight on its port (R480). -/
def State.inFlight (s : State) (p : Packet) : Bool := (s.port p.port).inflight.contains (p.hub.toNat, p.tag.toNat)

/-- A command completes on the port it came from (R480, R482, R511, R516): one that came over the pair link does not, nor one
that a reset of its port has discarded (R488, R552). -/
def State.complete (s : State) (p : Packet) (status : Nat) (body : List Byte := []) : State :=
  if p.forwarded || (p.port != .own && p.port != .debug && !s.inFlight p) then s else
  let s := s.updPort p.port fun st =>
    { st with inflight := st.inflight.filter (fun x => !(x == (p.hub.toNat, p.tag.toNat))) }
  let c := completionPkt s.hubId p status body
  match p.port with
  | .own => s
  | .host => s.putHost c
  | .relay => s.putHost c
  | .drip => { s with drip := { s.drip with owed := s.drip.owed ++ [c] } }
  | .i2c =>
    let s' := s.updPort .i2c fun st => { st with outSeq := (st.outSeq + 1) % 65536 }
    { s' with ports := { s'.ports with response := c.bytes (s.port .i2c).outSeq, rspValid := true } }
  | .debug => { s with ports := { s.ports with dapStatus := status, dapData := BitVec.ofNat 32 (leAt body 0 4) } }

/-! ## Statuses and refusals (R484, R485) -/

def stOk : Nat := 0x00
def stBadOpcode : Nat := 0x01
def stBadAddr : Nat := 0x02
def stUnitAbsent : Nat := 0x03
def stLocked : Nat := 0x04
def stGuardFail : Nat := 0x05
def stLate : Nat := 0x06
def stBusy : Nat := 0x07
def stCrcBad : Nat := 0x08
def stNotActive : Nat := 0x09
def stStale : Nat := 0x0A
def stConflict : Nat := 0x0B
def stRefused : Nat := 0x0C
def stTimeout : Nat := 0x0D

/-- What a command answers: a status with a body, or later, from the unit that holds it. -/
inductive Reply
  | done (status : Nat) (body : List Byte)
  | later
deriving DecidableEq, Repr, Inhabited

/-- A refusal: status, `RUNIT`, `REASON`, `DETAIL` (R485). -/
structure Refuse where
  status : Nat
  runit : Nat
  reason : Nat := 0
  detail : Nat := 0
deriving DecidableEq, Repr, Inhabited

/-- The refusal body's eight bytes (R485). -/
def Refuse.body (r : Refuse) : List Byte := toLE 1 r.runit ++ [0] ++ toLE 2 r.reason ++ toLE 4 r.detail

/-- A reply of a status alone. The statuses that carry a refusal body carry one without a reason. -/
def Reply.of (status : Nat) (runit : Nat := 0) (reason : Nat := 0) (detail : Nat := 0) : Reply :=
  if status = stRefused || status = stConflict || status = stUnitAbsent || status = stLate then
    .done status (Refuse.body { status, runit, reason, detail })
  else .done status []

/-- The reply of a refusal. -/
def Refuse.reply (r : Refuse) : Reply := Reply.of r.status r.runit r.reason r.detail

def Reply.ok : Reply := .done stOk []

/-- The status a reply shows; a reply that comes later shows `OK` (a write that starts an operation). -/
def Reply.status : Reply → Nat
  | .done st _ => st
  | .later => stOk

/-! ## Streams' acknowledgement -/

/-- A stream's entry. -/
def State.stream (s : State) (id : Nat) : Stream := Tab.get (fun _ => {}) s.streams id

/-- A stream's entry changed. -/
def State.updStream (s : State) (id : Nat) (f : Stream → Stream) : State :=
  { s with streams := Tab.upd (fun _ => {}) s.streams id f }

/-- One `ACK` entry (R494): applied when r lies between a and n, otherwise ignored and counted. `routed` tells whether
`ROUTES` defines the stream. The Boolean says whether it was applied. -/
def State.ackOne (routed : Nat → Bool) (s : State) (id r : Nat) : State × Bool :=
  let (a, next, any) :=
    if id = 0 then (s.ev.acked, s.ev.rseq, s.ev.rseq != 0 || s.ev.acked != 0xFFFF_FFFF)
    else
      let st := s.stream id
      (st.acked, st.rseq, st.lastRseq != 0xFFFF_FFFF || st.rseq != 0)
  let n := (next + 2 ^ 32 - 1) % 2 ^ 32
  let d (x : Nat) := (x + 2 ^ 32 - a) % 2 ^ 32
  if (id = 0 || routed id) && any && d r ≤ d n then
    let s :=
      if id = 0 then { s with ev := { s.ev with acked := r } }
      else s.updStream id fun st => { st with acked := r }
    let s := { s with host := s.host.release id r, drip := s.drip.release id r }
    -- the times since the last advance start anew (R439, R508)
    let anew := fun (o : Option Nat) => if r = a then o else o.map fun _ => s.time.cyc
    let s := { s with time := { s.time with relayHeld := anew s.time.relayHeld }, ports := { s.ports with dripHeld := anew s.ports.dripHeld } }
    (s, true)
  else (s.bump 0x000B_0054, false)

/-- The entries of an `ACK` in order, and those that were applied. -/
def State.ackAll (routed : Nat → Bool) (s : State) : List (List Byte) → State × List (Nat × Nat)
  | [] => (s, [])
  | e :: es =>
    let k := (leAt e 0 2, leAt e 4 4)
    let (s', ok) := s.ackOne routed k.1 k.2
    let (s'', ks) := State.ackAll routed s' es
    (s'', if ok then k :: ks else ks)

/-- A rewind of the host FIFO, counted (R499). -/
def State.rewindHost (s : State) : State := ({ s with host := s.host.rewind } : State).bump 0x000B_004C

/-- A rewind of the drip FIFO, counted (R508). -/
def State.rewindDrip (s : State) : State := ({ s with drip := s.drip.rewind } : State).bump 0x000B_0098

/-- `OUT_DRDY` (R502): asserted at `HIGH`, released below `LOW`; a standby holds it released. -/
def State.updDrdy (standby : Bool) (s : State) : State :=
  let u := s.host.unsent
  let wm := s.regN 0x000B_000C
  let v :=
    if standby then false
    else if wm % 65536 * 1024 ≤ u && u != 0 then true
    else if u < wm / 65536 * 1024 || u = 0 then false
    else s.ports.outDrdy
  { s with ports := { s.ports with outDrdy := v } }

/-- Bytes waiting in the inbound FIFO (R503). -/
def State.inboundFill (s : State) : Nat := (s.ports.inbound.map (fun p => 20 + p.payload.length)).sum

/-- `CMD_STOP` follows the inbound fill (R503) where the hub is free to take commands; else it is asserted. -/
def State.updCmdStop (cleared : Bool) (s : State) : State :=
  let wm := s.regN 0x000B_0008
  let f := s.inboundFill
  let v :=
    if !cleared then true
    else if wm % 65536 * 1024 ≤ f then true
    else if f < wm / 65536 * 1024 then false
    else s.ports.cmdStop
  { s with ports := { s.ports with cmdStop := v } }

/-- Whether a stream has records still waiting to enter a FIFO. -/
def State.hasWaiting (s : State) (id : Nat) : Bool :=
  s.host.waiting.any (fun r => r.stream == id) || s.drip.waiting.any (fun r => r.stream == id)

end Sys2Proof.Machine
end

