-- ==== Sys2Proof/Machine/Operands.lean ====
section
/-! DEFINITION. The operand forms of the commands: the fields of packets' payloads, of messages and of image sections, read
from their bytes as the spec lays them out (R239, R442, R487, R523 to R529). -/

namespace Sys2Proof.Machine

/-! ## Packets -/

end Sys2Proof.Machine

namespace Sys2Proof
open Machine

/-- `PFLAGS` bits (R478). -/
def Packet.pflag (p : Packet) (i : Nat) : Bool := bit p.pflags.toNat i

/-- The first word of a payload. -/
def Packet.word (p : Packet) : Word := BitVec.ofNat 32 (leAt p.payload 0 4)

/-- The packet with the opcode a row of the table stands for. -/
def Packet.withOp (p : Packet) (op : Nat) : Packet := { p with opcode := BitVec.ofNat 8 op, delta := none }

/-- The packet as a write of a register (R483). -/
def Packet.asWrite (p : Packet) (a : Nat) : Packet := { p with opcode := 0x02, addr := BitVec.ofNat 32 a, delta := none }

/-- The packet as a guarded write of a register (R544). -/
def Packet.asGuarded (p : Packet) (a : Nat) : Packet := { p with opcode := 0x05, addr := BitVec.ofNat 32 a, delta := none }

end Sys2Proof

namespace Sys2Proof.Machine

/-! ## Sections of equal records -/

/-- The records of `n` bytes of a section's body in force. -/
def State.records (s : State) (stype n : Nat) : List (List Byte) :=
  let b := s.body stype
  chunks n b.length b

/-! ## Presence (R1, R3, R524) -/

/-- The variant's pod lanes, local channels and chains. -/
def State.podLanes (s : State) : Nat := if s.sys.variant = 3 then 12 else 24
def State.localChs (s : State) : Nat := if s.sys.variant = 3 then 16 else 32
def State.chainCount (s : State) : Nat := 32 * s.podLanes
def State.hasComb (s : State) : Bool := s.sys.variant == 1

/-- Whether a lane exists on the variant (R1, R4). -/
def State.lanePresent (s : State) (l : Nat) : Bool := l < 32 && (l < s.podLanes || 24 ≤ l)

/-- A host lane is enabled by the straps (R514). -/
def State.strapLane (s : State) (l : Nat) : Bool :=
  (l == 28 && s.sys.bootStrap.toNat ≤ 1) || (l == 29 && s.sys.bootStrap.toNat == 0)

/-- `SYS_CAP_UNITS` (R3). -/
def State.capUnits (s : State) : Nat :=
  s.sys.variant * 2 ^ 24 + s.localChs * 2 ^ 16 + s.podLanes * 2 ^ 8 + 2 + bnat s.hasComb

/-! ## LANES (R528) -/

/-- A lane's record in force. -/
def State.laneRec (s : State) (l : Nat) : Option (List Byte) := (s.records 0x0D 16).find? (fun r => byteAt r 0 == l)

/-- A field whose stored 0 means a default. -/
def orDefault (v d : Nat) : Nat := if v = 0 then d else v

def State.laneFlag (s : State) (l i : Nat) : Bool :=
  match s.laneRec l with
  | some r => bit (byteAt r 1) i
  | none => false

/-- Lag in 0.1 ms, drain length, quarantine limit and skew of a pod lane (R162, R169, R149). -/
def State.ingestLag (s : State) (l : Nat) : Nat := orDefault (((s.laneRec l).map (fun r => leAt r 6 2)).getD 0) 20
def State.gapDrain (s : State) (l : Nat) : Nat := orDefault (((s.laneRec l).map (fun r => byteAt r 8)).getD 0) 4
def State.quarLimit (s : State) (l : Nat) : Nat := orDefault (((s.laneRec l).map (fun r => leAt r 10 2)).getD 0) 1000
def State.podSkew (s : State) (l : Nat) : Int := ((s.laneRec l).map (fun r => sleAt r 12 4)).getD 0
def State.exp32 (s : State) (l : Nat) : Bool := s.laneFlag l 4
/-- The ingest lag in ns. -/
def State.lagNs (s : State) (l : Nat) : Nat := s.ingestLag l * 100_000

/-! ## CHAINS (R239) and the filter ROM's figures (R220) -/

/-- A chain's record in force. -/
def findChainRec (body : List Byte) (c : Nat) : Option (List Byte) :=
  (chunks 48 body.length body).find? fun r => leAt r 0 2 ≤ c && c < leAt r 0 2 + leAt r 2 2
def State.chainRec (s : State) (c : Nat) : Option (List Byte) := findChainRec (s.body 0x05) c

/-- Factor, taps, MAC per output, group delay and settle of the 32 responses (R220). -/
def romTable : List (Nat × Nat × Nat × Nat × Nat) :=
  [(1, 1, 0, 0, 0), (2, 255, 129, 127, 64), (2, 71, 37, 35, 18), (2, 23, 13, 11, 6), (4, 129, 129, 64, 16),
   (4, 57, 57, 28, 7), (4, 241, 241, 120, 30), (5, 161, 161, 80, 16), (5, 65, 65, 32, 7), (5, 361, 361, 180, 36),
   (8, 257, 257, 128, 16), (8, 113, 113, 56, 7), (8, 481, 481, 240, 30), (10, 321, 321, 160, 16),
   (10, 131, 131, 65, 7), (10, 721, 721, 360, 36)] ++
  [(1, 1023, 4, 511, 511), (1, 255, 4, 127, 127), (1, 145, 145, 72, 72), (1, 145, 145, 72, 72), (1, 145, 145, 72, 72),
   (1, 145, 145, 72, 72), (1, 145, 145, 72, 72), (1, 145, 145, 72, 72), (1, 145, 145, 72, 72), (1, 145, 145, 72, 72),
   (1, 145, 145, 72, 72), (4, 129, 129, 64, 16), (10, 321, 321, 160, 16), (1, 169, 169, 84, 84), (1, 101, 101, 50, 50),
   (1, 3, 2, 1, 1)]
def romRow (r : Nat) : Nat × Nat × Nat × Nat × Nat := romTable.getD r (1, 1, 0, 0, 0)
def romFactor (r : Nat) : Nat := (romRow r).1
def romTaps (r : Nat) : Nat := (romRow r).2.1
def romMac (r : Nat) : Nat := (romRow r).2.2.1
def romDelay (r : Nat) : Nat := (romRow r).2.2.2.1
def romSettle (r : Nat) : Nat := (romRow r).2.2.2.2

/-- The stages of a chain record given from byte 4 on: (response, shift) for stages 1 to n. -/
def stagesOf (cfg : List Byte) : List (Nat × Nat) :=
  (List.range (byteAt cfg 0)).map fun i =>
    let w := leAt cfg (4 + 2 * i) 2
    (bits w 0 5, bits w 5 4)
/-- `TAPB_STAGE` of such a record. -/
def tapbOf (cfg : List Byte) : Nat := byteAt cfg 1
def surgeRestartOf (cfg : List Byte) : Bool := bit (leAt cfg 2 2) 0

/-- P of the first `i` stages (R222). -/
def prodFactor (st : List (Nat × Nat)) (i : Nat) : Nat := (st.take i).foldl (fun p x => p * romFactor x.1) 1
def decimOf (cfg : List Byte) : Nat := let st := stagesOf cfg; prodFactor st st.length
/-- W at the output of stage `j`, ticks (R226). -/
def groupDelayAt (st : List (Nat × Nat)) (j : Nat) : Nat :=
  ((List.range j).map fun i => romDelay ((st.getD i (0, 0)).1) * prodFactor st i).sum
/-- K at the output of stage `j` (R231). -/
def settleAt (st : List (Nat × Nat)) (j : Nat) : Nat :=
  ceilDiv (((List.range j).map fun i => romSettle ((st.getD i (0, 0)).1) * prodFactor st (i + 1)).sum) (prodFactor st j)
/-- C of R223, MAC/s. -/
def costOf (st : List (Nat × Nat)) : Nat :=
  ((List.range st.length).map fun i => romMac ((st.getD i (0, 0)).1) * 800000 / prodFactor st (i + 1)).sum

/-- How often `p` divides `n`, at most `fuel` times. -/
def expOf (p : Nat) : Nat → Nat → Nat
  | 0, _ => 0
  | f + 1, n => if n % p = 0 && n != 0 then 1 + expOf p f (n / p) else 0
/-- The `RATE` code of a decimation D (R26). -/
def rateCode (d : Nat) : Nat := expOf 2 8 d * 16 + expOf 5 5 d
/-- D is 2^a · 5^b with a ≤ 8 and b ≤ 5 (R222). -/
def decimOk (d : Nat) : Bool := d == 2 ^ expOf 2 8 d * 5 ^ expOf 5 5 d

/-! ## ROUTES (R529) -/

/-- A route record. -/
structure Route where
  id : Nat
  kind : Nat
  port : Nat
  source : Nat
  items : Nat
  nxMode : Nat
  nxPre : Nat
  nxPool : Nat
  flushMs : Nat
  flushLag : Nat
  chans : List Nat
  raw : List Byte
deriving DecidableEq, Repr, Inhabited

/-- Routes of a body, in order; the fuel bounds their number. -/
def parseRoutes : Nat → List Byte → List Route
  | 0, _ => []
  | f + 1, b =>
    if b.length < 32 then []
    else
      let kind := byteAt b 2
      let src := leAt b 4 2
      let n := if kind = 1 then (2 * src + 7) / 8 * 8 else 0
      { id := leAt b 0 2, kind := kind, port := byteAt b 3, source := src, items := leAt b 6 2, nxMode := byteAt b 8,
        nxPre := byteAt b 9, nxPool := byteAt b 10, flushMs := orDefault (leAt b 12 2) 100, flushLag := leAt b 14 2,
        chans := if kind = 1 then (List.range src).map (fun i => leAt b (32 + 2 * i) 2) else [],
        raw := b.take (32 + n) } :: parseRoutes f (b.drop (32 + n))

def routesOf (body : List Byte) : List Route := parseRoutes (body.length / 32 + 1) body
def State.routes (s : State) : List Route := routesOf (s.body 0x0B)
def State.route (s : State) (id : Nat) : Option Route := s.routes.find? (fun r => r.id == id)
/-- Whether `ROUTES` defines a stream. -/
def State.routed (s : State) (id : Nat) : Bool := (s.route id).isSome

/-! ## TIME (R442) -/

def State.timeBody (s : State) : List Byte := s.body 0x0C
def State.tflag (s : State) (i : Nat) : Bool := bit (leAt s.timeBody 0 2) i
def State.stepLimit (s : State) : Nat := orDefault (leAt s.timeBody 8 4) 100
def State.holdLimit (s : State) : Nat := orDefault (leAt s.timeBody 12 4) 1000
def State.requalTime (s : State) : Nat := orDefault (leAt s.timeBody 16 2) 60
def State.ppsTau (s : State) : Nat := orDefault (leAt s.timeBody 18 2) 64
def State.holdDrift (s : State) : Nat := orDefault (leAt s.timeBody 20 4) 1000
def State.ppsErr (s : State) : Nat := orDefault (leAt s.timeBody 24 4) 20
def State.ppsDelay (s : State) : Int := sleAt s.timeBody 28 4
def State.ppsW (s : State) : Nat := orDefault (leAt s.timeBody 32 2) 100
def State.ppsOutAdj (s : State) : Int := sleAt s.timeBody 34 2
def State.chainId (s : State) : Nat := leAt s.timeBody 4 2
def State.taCount (s : State) : Nat := leAt s.timeBody 6 2
def padTo8 (n : Nat) : Nat := (n + 7) / 8 * 8
/-- The exported chains of a direction, in index order (R436). -/
def exportsOf (body : List Byte) (down : Bool) : List Nat :=
  let u := byteAt body 36
  let d := byteAt body 37
  if down then (List.range d).map (fun i => leAt body (128 + 2 * u + 2 * i) 2)
  else (List.range u).map (fun i => leAt body (128 + 2 * i) 2)
def State.exports (s : State) (down : Bool) : List Nat := exportsOf s.timeBody down
/-- The timed-action records of a body. -/
def taRecords (body : List Byte) : List (List Byte) :=
  let n := leAt body 6 2
  let o := 128 + padTo8 (2 * (byteAt body 36 + byteAt body 37))
  (List.range n).map fun i => (body.drop (o + 24 * i)).take 24
/-- ASYM_RATIO and ASYM_PS of a port (R408), `PAIR_ASYM_PS` of the pair link's (R592). -/
def State.asym (s : State) (port : Nat) : Int × Int :=
  if 4 ≤ port then (0, sleAt (s.body 0x0E) 16 4) else
  (sleAt s.timeBody (64 + 16 * port) 4, sleAt s.timeBody (68 + 16 * port) 4)

/-! ## HIVE_MAP (R377, R378) -/

/-- A region record. -/
structure Region where
  num : Nat
  typ : Nat
  owner : Nat
  rflags : Nat
  base : Nat
  size : Nat
deriving DecidableEq, Repr, Inhabited

def regionsOf (body : List Byte) : List Region :=
  (chunks 16 body.length body).map fun r =>
    { num := byteAt r 0, typ := byteAt r 1, owner := leAt r 2 2, rflags := byteAt r 4, base := leAt r 8 4, size := leAt r 12 4 }
def State.regions (s : State) : List Region := regionsOf (s.body 0x09)
/-- The region of a type and owner. -/
def State.region (s : State) (typ owner : Nat) : Option Region :=
  s.regions.find? (fun r => r.typ == typ && r.owner == owner)
/-- Its size, 0 where there is none. -/
def State.regionSize (s : State) (typ owner : Nat) : Nat := ((s.region typ owner).map (·.size)).getD 0

/-! ## The pair section is read in Pair.lean; whether the hub is a pair member (R561) -/

def State.paired (s : State) : Bool := bit (byteAt (s.body 0x0E) 0) 0

end Sys2Proof.Machine
end

