-- ==== Sys2Proof/Machine/Flags.lean ====
section
/-! DEFINITION. The flags of a sample word (R11 to R14), the estimated time error and `TIME_SUSPECT` (R403, R418 to R420), surge
marking (R639), and the stamps of output slots (R18 to R20, R112, R113). -/

namespace Sys2Proof.Machine

/-- The flags of a sample word (R11). -/
structure WordFlags where
  absent : Bool := false
  clip : Bool := false
  settling : Bool := false
  late : Bool := false
  slew : Bool := false
  suspect : Bool := false
  surge : Bool := false
  event : Bool := false
deriving DecidableEq, Repr, Inhabited

/-- The flag bits [11:4] as a number placed at bit 4. -/
def WordFlags.bits (f : WordFlags) : Nat :=
  2048 * bnat f.absent + 1024 * bnat f.clip + 512 * bnat f.settling + 256 * bnat f.late + 128 * bnat f.slew
    + 64 * bnat f.suspect + 32 * bnat f.surge + 16 * bnat f.event

/-- The greatest magnitude a value takes (R12). -/
def maxValue : Int := 2 ^ 31 - 1

/-- A sample word (R11 to R13): a value is saturated and then clipped; an `ABSENT` word carries no value, no range code and
only the three flags of R13. -/
def sampleWord (v : Int) (range : Nat) (f : WordFlags) (seq : Nat) : Word48 :=
  if f.absent then
    let f' : WordFlags := { absent := true, settling := f.settling, suspect := f.suspect, surge := f.surge }
    BitVec.ofNat 48 (0x8000_0000 * 65536 + f'.bits + seq % 16)
  else
    let f' := { f with clip := f.clip || satTo maxValue v != v }
    BitVec.ofNat 48 (ofSigned 32 (satTo maxValue v) * 65536 + range % 16 * 4096 + f'.bits + seq % 16)

/-- Fields of a word. -/
def wAbsent (w : Word48) : Bool := bit w.toNat 11
def wClip (w : Word48) : Bool := bit w.toNat 10
def wSettling (w : Word48) : Bool := bit w.toNat 9
def wSuspect (w : Word48) : Bool := bit w.toNat 6
def wValue (w : Word48) : Int := toSigned 32 (w.toNat / 65536)
def wRange (w : Word48) : Nat := bits w.toNat 12 4

/-! ## Time error -/

/-- The pair lane over which a standby's time is locked to the active, as port 4 or 5 (R565, R567): in `ACTIVE`, with 16 good
exchanges. -/
def State.pairPort (s : State) : Option Nat :=
  if s.isStandby then
    [4, 5].find? fun i => s.laneActive (26 + i) && 16 ≤ (Tab.get (fun _ => ({} : TrunkPort)) s.time.ports i).okRun
  else none

/-- The port whose exchanges source `TRUNK` stands for: on a standby the pair link, with the active in the upstream's place. -/
def State.timePort (s : State) : Option Nat := if s.pairPort.isSome then s.pairPort else s.time.upActive

/-- The estimated error e in ps; none while unbounded (R403, R418, R419). -/
def State.errPs (s : State) : Option Nat :=
  let t := s.time
  let dtNs := (t.now - t.errAt) / unitsPerNs
  if t.state = 0 then (if s.tflag 2 then some 0 else none)
  else if t.state = 3 then some (t.err0 + s.holdDrift * dtNs / 10 ^ 8)
  else if t.state = 4 then some (t.err0 + dtNs * 10)
  else if t.source = 0 then some (s.ppsErr * 1000)
  else if t.source = 1 then
    some ((Tab.get (fun _ => ({} : TrunkPort)) t.ports (s.timePort.getD 0)).farTerr * 1000 + 250)
  else if t.source = 2 then some (t.hostU * 1000 + s.holdDrift * ((t.cyc - t.hostAt) * 5 / 4) / 10 ^ 8)
  else none

/-- `TIME_ERR_EST` (R443): ns, saturating, all ones while unbounded. -/
def State.errEst (s : State) : Nat :=
  match s.errPs with
  | none => 0xFFFF_FFFF
  | some e => min 0xFFFF_FFFF (e / 1000)

/-- The condition of R420. -/
def State.suspectNow (s : State) : Bool :=
  if s.time.state = 4 then true
  else
    match s.errPs with
    | none => true
    | some e => s.holdLimit * 1000 < e

/-- The latest mark not later than a time in ns. -/
def markAt (marks : List (Nat × Bool)) (ns : Int) : Bool :=
  match marks.find? (fun m => (m.1 : Int) ≤ ns) with
  | some m => m.2
  | none => false

/-- Whether a stamp time in ns lies where `TIME_SUSPECT` holds, or within a surge episode. -/
def State.suspectAt (s : State) (ns : Int) : Bool := markAt s.time.suspectMarks ns
def State.surgeAtNs (s : State) (ns : Int) : Bool := markAt s.time.surgeMarks ns

/-- Records a change of `SUSPECT` at a time. -/
def State.markSuspect (s : State) (ns : Nat) (v : Bool) : State :=
  { s with time := { s.time with suspect := v, suspectMarks := (ns, v) :: s.time.suspectMarks } }

/-- Records the start or end of a surge episode as words see it (R639, R573). -/
def State.markSurge (s : State) (ns : Nat) (v : Bool) : State :=
  { s with time := { s.time with surgeMarks := (ns, v) :: s.time.surgeMarks } }

/-! ## Slots -/

/-- A channel's entries. -/
def State.local' (s : State) (k : Nat) : Local := Tab.get (fun _ => {}) s.field.ch k
def State.chain (s : State) (c : Nat) : Chain := Tab.get (fun _ => {}) s.chains c
def State.pod (s : State) (p : Nat) : PodLane := Tab.get (fun _ => {}) s.pods p

/-- N of a channel's `CONV` (R108, R127). -/
def FrontEnd.nplc (f : FrontEnd) : Nat := 2 ^ bits f.conv.toNat 0 3
/-- T_slot in ns (R111): the nominal window rounded to a whole µs, plus the gap. -/
def FrontEnd.slotNs (f : FrontEnd) (nom60 : Bool) : Nat :=
  ((if nom60 then (roundHalfEven (f.nplc * 1_000_000) 60).toNat else f.nplc * 20_000) + bits f.conv.toNat 3 8 * 100) * 1000
/-- T_mains in use (R109), in the 10 ns units that `FD_MAINS` and window times have (R106, R110). DESIGN CHOICE (log entry 147): the mean of
the measured cycles is rounded down to a whole unit. -/
def Field.mainsUnits (d : Field) : Nat :=
  if d.mainsValid && !d.periods.isEmpty then d.periods.sum / d.periods.length
  else if d.nom60 then 1_666_667 else 2_000_000
/-- T_mains as it was in use at a hub time in ns, in 10 ns (R108); for a time to come, as it is now. -/
def Field.unitsAt (d : Field) (ns : Nat) : Nat :=
  match d.mainsLog.find? fun m => m.1 ≤ ns with
  | some m => m.2
  | none => d.mainsUnits
/-- The length in ns of a window that starts at a time, with the clamp of R114. -/
def Field.windowNs (d : Field) (f : FrontEnd) (nplc start : Nat) : Nat :=
  min (nplc * d.unitsAt start * 10) (f.slotNs d.nom60 - 2_000_000)

/-- The decimation of the grid a chain's slots are numbered on: that of the outputs being delivered, or of its record. -/
def State.chainDecim (s : State) (c : Nat) : Nat :=
  if (s.chain c).insts.isEmpty then decimOf (((s.chainRec c).getD []).drop 4) else (s.chain c).decim

/-- The start of a local channel's slot on its grid, ns (R112). -/
def State.localSlotNs (s : State) (k slot : Nat) : Nat :=
  let l := s.local' k
  l.origin.getD 0 + slot * l.fe.slotNs s.field.nom60

/-- A time in ns, quantised to 10 ns as window starts are (R106). DESIGN CHOICE (log entry 107): upwards, so that a window never
starts before its slot. -/
def quantised (ns : Nat) : Nat := ceilDiv ns 10 * 10

/-- The place of a slot: the centre tick of a chain's output, the start in ns of a local channel's slot; and the period there. -/
def State.slotPlace (s : State) (ch slot : Nat) : Nat :=
  if ch < 768 then slot * s.chainDecim ch else s.localSlotNs (ch - 768) slot
def State.slotStep (s : State) (ch : Nat) : Nat :=
  if ch < 768 then s.chainDecim ch else (s.local' (ch - 768)).fe.slotNs s.field.nom60

/-- The nominal stamp time, in 1/65,536 ns, of the slot of a logical channel at a place: the centre tick less the declared group
delay (R18, R20), or the midpoint of the window that starts there (R19, R29). -/
def State.placeTime (s : State) (ch place : Nat) : Int :=
  if ch < 768 then ((place * 1250 * 65536 : Nat) : Int) - (s.pod (ch / 32)).gdelay
  else
    let f := (s.local' (ch - 768)).fe
    (((quantised place + s.field.windowNs f f.nplc place / 2) * 65536 : Nat) : Int)

/-- Its stamp word. -/
def State.placeStamp (s : State) (ch place : Nat) : Word48 :=
  BitVec.ofNat 48 ((s.placeTime ch place) % (2 ^ 48 : Int)).toNat

/-- The nominal stamp time of a slot. -/
def State.slotTime (s : State) (ch slot : Nat) : Int := s.placeTime ch (s.slotPlace ch slot)

end Sys2Proof.Machine
end

