-- ==== Sys2Proof/Machine/Hive.lean ====
section
/-! DEFINITION. Hive memory (R367 to R398): beats, ECC findings, scrubbing, regions, the bank arbiters with the transfers they
serve, and their committed settings. -/

namespace Sys2Proof.Machine

/-! ## Addresses (R368) -/

/-- The bank of a byte address. -/
def bankOf (a : Nat) : Nat := a / 1024 % 32
/-- The beat of a byte address within its bank. -/
def beatOf (a : Nat) : Nat := a / 32768 * 64 + a / 16 % 64
/-- The byte address of a beat of a bank. -/
def addrOfBeat (bank beat : Nat) : Nat := beat / 64 * 32768 + bank * 1024 + beat % 64 * 16

def hiveBytes : Nat := 0x0400_0000
/-- The staging area (R377). -/
def stagingBase : Nat := 0x0380_0000
def stagingSize : Nat := 0x0080_0000

/-- What an unlisted Hive byte reads as: clearing writes zeros (R375). -/
def hiveDefault : Nat → Byte := fun _ => 0

/-! ## Registers -/
def aCntCe : Nat := 0x0008_0048
def aCntUe : Nat := 0x0008_004C

/-! ## Arbiters (R383 to R388) -/

/-- One LFSR step (R386). -/
def lfsrStep (r : BitVec 16) : BitVec 16 :=
  let n := r.toNat
  let b := (n / 2 ^ 15 + n / 2 ^ 13 + n / 2 ^ 12 + n / 2 ^ 10) % 2
  BitVec.ofNat 16 (2 * n + b)

/-- `SEED` rotated left by `b` bits (R387). -/
def seedFor (seed b : Nat) : BitVec 16 := (BitVec.ofNat 16 seed).rotateLeft (b % 16)

/-- Class S requesters of a bank are 0 and 1 (R382); of an egress arbiter 0 to 2 (R441). -/
def isClassS (egress : Bool) (r : Nat) : Bool := if egress then r < 3 else r < 2

/-- The contender in whose ticket interval `v` lies. -/
def ticketPick (tickets : List Nat) : List Nat → Nat → Nat
  | [], _ => 0
  | [r], _ => r
  | r :: rs, v => let t := tickets.getD r 0; if v < t then r else ticketPick tickets rs (v - t)

/-- The contender with the largest wait counter, the lower ID on a tie. -/
def longestWait (waits : List Nat) : List Nat → Nat
  | [] => 0
  | [r] => r
  | r :: rs => let q := longestWait waits rs; if waits.getD q 0 ≤ waits.getD r 0 then r else q

/-- The winner among contenders in ascending ID, and the arbiter after an arbitration (R384 to R386). -/
def Arbiter.arbitrate (egress : Bool) (a : Arbiter) (cs : List Nat) : Nat × Arbiter :=
  let pick (xs : List Nat) : Nat × BitVec 16 :=
    let r := lfsrStep a.lfsr
    let total := (xs.map (fun x => a.tickets.getD x 0)).sum
    (if 0 < total then ticketPick a.tickets xs (r.toNat % total) else longestWait a.waits xs, r)
  let (w, l) :=
    match a.forced.find? (fun f => cs.contains f) with
    | some f => (f, a.lfsr)
    | none =>
      let ss := cs.filter (isClassS egress)
      pick (if ss.isEmpty then cs else ss)
  let waits := (a.waits.zip (List.range 8)).map fun wi =>
    if wi.2 = w then 0 else if cs.contains wi.2 then min (a.limits.getD wi.2 1) (wi.1 + 1) else wi.1
  let forced := a.forced.filter (· != w)
  let new := (List.range 8).filter fun i =>
    !forced.contains i && i != w && a.limits.getD i 1 ≤ waits.getD i 0
  (w, { a with lfsr := l, waits := waits, forced := forced ++ new, parked := if isClassS egress w then none else some w })

/-- How an arbiter serves: whether it is an egress arbiter, and its cycles per beat as a fraction (R383, R394). -/
structure Serves where
  egress : Bool
  num : Nat
  den : Nat
deriving DecidableEq, Repr, Inhabited

/-- A bank moves a beat a cycle; an egress beat is 16 bytes of block payload, 128 of the 992 bits that a block of 1,024 carries. -/
def bankServes : Serves := { egress := false, num := 1, den := 1 }
def egressServes : Serves := { egress := true, num := 512, den := 31 }

/-- The cycle after a granted transfer's last. -/
def Serves.stop (v : Serves) (x : Xfer) : Nat := x.start + ceilDiv (x.beats * v.num) v.den

/-- A grant given: to whom, whether as a forced requester, and how long it waited (R396); and the transfer. -/
structure Grant where
  req : Nat
  forced : Bool
  wait : Nat
  xfer : Xfer
deriving DecidableEq, Repr, Inhabited

/-- The requesters that assert a request in cycle `c`: a requester asks for its transfers one after another. -/
def Arbiter.contend (a : Arbiter) (c : Nat) : List Nat :=
  (List.range 8).filter fun r => (a.wants.find? fun x => x.req == r).any fun x => x.since ≤ c

/-- The cycle in which the next grant is decided, once the grant held has ended and some request is asserted (R383). -/
def Arbiter.turn (v : Serves) (a : Arbiter) : Option Nat :=
  ((a.wants.map (·.since)).min?).map fun c => max c ((a.owner.map v.stop).getD 0)

/-- A requester's first transfer is granted from cycle `start` on; its next is asked for when that ends. -/
def Arbiter.give (v : Serves) (a : Arbiter) (r start : Nat) (forced : Bool) : Arbiter × List Grant :=
  match a.wants.find? fun x => x.req == r with
  | some x =>
    let o := { x with start := start, forced := forced }
    ({ a with owner := some o
              wants := (a.wants.erase x).map fun y => if y.req = r then { y with since := max y.since (v.stop o) } else y },
     [{ req := r, forced := forced, wait := start - x.since, xfer := o }])
  | none => (a, [])

/-- The grant decided in cycle `c`: with no other requester waiting, the parked owner's, in the same cycle and without an arbitration; else
that of an arbitration, whose winner's transfer begins in the next cycle. `take` takes committed settings at each arbitration (R383, R392). -/
def Arbiter.serve (v : Serves) (take : Arbiter → Arbiter) (a : Arbiter) (c : Nat) : Arbiter × List Grant :=
  let cs := a.contend c
  if a.parked.any fun r => cs == [r] then a.give v (cs.headD 0) c false
  else
    let a := take a
    let (w, a') := a.arbitrate v.egress cs
    a'.give v w (c + 1) (a.forced.contains w)

/-- Grants up to before cycle `limit`, since a request asserted in the cycle of an arbitration takes part in it (R383). -/
def Arbiter.advance (v : Serves) (take : Arbiter → Arbiter) (limit : Nat) : Nat → Arbiter → Arbiter × List Grant
  | 0, a => (a, [])
  | f + 1, a =>
    match a.turn v with
    | none => (a, [])
    | some c =>
      if limit ≤ c then (a, [])
      else
        let (a, g) := a.serve v take c
        let (a, gs) := Arbiter.advance v take limit f a
        (a, g ++ gs)

/-- A class S request while a class B owner that did not win as a forced requester still moves beats: the owner stops at the next beat
boundary, waits with what is left, and its wait counter rises (R384, R388). -/
def Arbiter.preempt (a : Arbiter) (o : Xfer) (moved now : Nat) (x : Xfer) : Arbiter :=
  let lim := a.limits.getD o.req 1
  let n := min lim (a.waits.getD o.req 0 + 1)
  { a with
    owner := some { o with beats := moved }
    wants := { o with beats := o.beats - moved, since := now, forced := false } :: (a.wants ++ [x])
    waits := a.waits.set o.req n
    forced := if lim ≤ n && !a.forced.contains o.req then a.forced ++ [o.req] else a.forced }

/-- A request in cycle `now` (R383, R388): it waits, and preempts an owner of class B; the Boolean says that it did. A requester that still
moves beats asserts it when these end. -/
def Arbiter.request (v : Serves) (now : Nat) (x : Xfer) (a : Arbiter) : Arbiter × Bool :=
  match a.owner with
  | none => ({ a with wants := a.wants ++ [x] }, false)
  | some o =>
    let moved := (now - o.start) * v.den / v.num + 1
    if v.stop o ≤ now then ({ a with wants := a.wants ++ [x] }, false)
    else if o.req = x.req then ({ a with wants := a.wants ++ [{ x with since := v.stop o }] }, false)
    else if isClassS v.egress x.req && !isClassS v.egress o.req && !o.forced && !v.egress && moved < o.beats then
      (a.preempt o moved now x, true)
    else ({ a with wants := a.wants ++ [x] }, false)

/-- Settings taken from written words (R392, R395). -/
def ticketList (w0 w1 : Nat) : List Nat := (List.range 8).map fun i => bits (if i < 4 then w0 else w1) (8 * (i % 4)) 8
def limitList (ws : List Nat) : List Nat := (List.range 8).map fun i => bits (ws.getD (i / 2) 0) (16 * (i % 2)) 10

/-- The written arbiter settings of a block of registers, with the seed. -/
def State.writtenArb (s : State) (egress : Bool) : ArbSet :=
  let t := if egress then 0x0008_0030 else 0x0008_0014
  let l := if egress then 0x0008_0038 else 0x0008_001C
  { tickets := ticketList (s.regN t) (s.regN (t + 4)), limits := limitList ((List.range 4).map fun i => s.regN (l + 4 * i))
    seed := s.regN 0x0008_0010 % 65536, scrub := s.regN 0x0008_002C % 4096 }

/-- An arbiter's settings before any commit (R396), with its seed (R387). -/
def Arbiter.ready (egress : Bool) (b : Nat) (a : Arbiter) : Arbiter :=
  if !a.tickets.isEmpty then a
  else if egress then
    { a with tickets := ticketList 0x1010_1010 0x1010_1010, limits := List.replicate 8 16, lfsr := seedFor 0xACE1 b }
  else
    { a with tickets := ticketList 0x2020_4040 0x0810_1020
             limits := limitList [0x0004_0004, 0x0010_0010, 0x0010_0010, 0x0100_0010], lfsr := seedFor 0xACE1 b }

/-- An arbiter takes the settings of the last commit at its next arbitration, and is reseeded (R387, R392, R393). -/
def Arbiter.takeSettings (set : ArbSet) (egress : Bool) (b : Nat) (a : Arbiter) : Arbiter :=
  let a := a.ready egress b
  if a.pend then
    let forced := a.forced ++ (List.range 8).filter fun i => !a.forced.contains i && set.limits.getD i 1 ≤ a.waits.getD i 0
    { a with tickets := set.tickets, limits := set.limits, lfsr := seedFor set.seed b, scrub := set.scrub, pend := false, forced := forced }
  else a

/-- Grants are counted, and the longest wait noted (R396, R398). -/
def State.countGrant (s : State) (g : Grant) : State :=
  let o := 0x0008_0100 + 0x10 * g.req
  let s := s.bump o
  let s := if g.forced then s.bump (o + 4) else s
  s.setReg (o + 8) (BitVec.ofNat 32 (max (s.regN (o + 8)) (min 0xFFFF_FFFF g.wait)))

def State.bank (s : State) (b : Nat) : Arbiter := Tab.get (fun _ => ({} : Arbiter)) s.hive.banks b
def State.setBank (s : State) (b : Nat) (a : Arbiter) : State :=
  { s with hive := { s.hive with banks := Tab.set (fun _ => {}) s.hive.banks b a } }

/-- A bank's grants of the cycles before this one (R383). Nothing reads an arbiter between requests but the registers that count its
grants, so it is brought up to date where one of these looks at it. -/
def State.runBank (s : State) (b : Nat) : State :=
  let a := s.bank b
  if a.wants.isEmpty then s
  else
    let (a, gs) := a.advance bankServes (·.takeSettings s.hive.arbSet false b) s.time.cyc a.wants.length
    gs.foldl State.countGrant (s.setBank b a)
def State.runBanks (s : State) : State := (List.range 32).foldl State.runBank s

/-- A transfer of a requester in a bank, up to 64 beats (R383 to R388). -/
def State.grant (s : State) (b r beats : Nat) : State :=
  let s := s.runBank b
  let (a, pre) := (s.bank b).request bankServes s.time.cyc { req := r, beats := beats, since := s.time.cyc }
  let s := s.setBank b a
  if pre then s.bump 0x0008_0060 else s

/-! ## ECC (R370) -/

/-- The region number that holds an address, 0xFF outside every region or in staging (R397). -/
def State.regionNum (s : State) (a : Nat) : Nat :=
  ((s.regions.find? (fun r => r.base ≤ a && a < r.base + r.size)).map (·.num)).getD 0xFF

/-- A single-bit error is corrected and written back. -/
def State.eccCorrect (s : State) (word : Nat) : State :=
  let s := { s with hive := { s.hive with errs := Tab.set (fun _ => 0) s.hive.errs word 0, ceAddr := word } }
  s.bump aCntCe

/-- An uncorrectable word is recorded and raises `HIVE_UE`; three words name a record where R371 does. -/
def State.eccUe (s : State) (word req : Nat) (names : List Word := [0, 0, 0]) : State :=
  let reg := s.regionNum word
  let s := { s with hive := { s.hive with ue := true, ueAddr := word, ueInfo := req + reg * 8 } }
  ((s.noteCheck 0).bump aCntUe).raise 0x0801 word (BitVec.ofNat 32 (req + reg * 256) :: names)

/-- The word addresses of a byte range. -/
def wordsIn (a len : Nat) : List Nat := (List.range ((a % 8 + len + 7) / 8)).map fun i => a / 8 * 8 + 8 * i

/-- A read meets what its words hold: single errors are corrected, poisoned words recorded. Answers the poisoned ones. -/
def State.eccRead (s : State) (req : Nat) (l : List Nat) (names : List Word := [0, 0, 0]) : State × List Nat :=
  match l with
  | [] => (s, [])
  | w :: ws =>
    let e := Tab.get (fun _ => 0) s.hive.errs w
    if e = 1 then (s.eccCorrect w).eccRead req ws names
    else if e = 2 then
      let (s', ps) := (s.eccUe w req names).eccRead req ws names
      (s', w :: ps)
    else s.eccRead req ws names

/-! ## Transfers -/

/-- The granules a byte range touches: the bank of each and the beats there. -/
def granules (a len : Nat) : List (Nat × Nat) :=
  if len = 0 then []
  else (List.range ((a % 1024 + len + 1023) / 1024)).map fun i =>
    let g := a / 1024 * 1024 + 1024 * i
    (bankOf g, (min (a + len) (g + 1024) - 1) / 16 + 1 - max a g / 16)

/-- Transfers for a range. -/
def State.grants (s : State) (req a len : Nat) : State := (granules a len).foldl (fun s b => s.grant b.1 req b.2) s

/-- A byte of Hive. -/
def State.hiveByte (s : State) (a : Nat) : Byte := Tab.get hiveDefault s.hive.mem a

/-- Bytes of Hive as stored. -/
def State.hiveGet (s : State) (a len : Nat) : List Byte := (List.range len).map fun i => s.hiveByte (a + i)

/-- A read by a requester: bytes with poisoned words zeroed (R371), whether any was poisoned, and the state after. -/
def State.hiveRead (s : State) (req a len : Nat) : List Byte × Bool × State :=
  let s := s.grants req a len
  let (s, ps) := s.eccRead req (wordsIn a len)
  ((List.range len).map (fun i => if ps.contains ((a + i) / 8 * 8) then 0 else s.hiveByte (a + i)), !ps.isEmpty, s)

/-- The canonical form of Hive's memory: addresses strictly rising, and no byte listed that is 0, what an unlisted address reads as. -/
def Memory.wf (m : List Host.Cell) : Bool := Tab.wf hiveDefault m

/-- Bytes written one after another. -/
def memPut (m : List Host.Cell) (a : Nat) : List Byte → List Host.Cell
  | [] => m
  | b :: bs => memPut (Tab.set hiveDefault m a b) (a + 1) bs

/-- An armed injection strikes its word as that is written (R376). -/
def State.strike (s : State) (ws : List Nat) : State :=
  match s.hive.inject with
  | some (w, m) =>
    if ws.contains w then
      let s := { s with hive := { s.hive with errs := Tab.set (fun _ => 0) s.hive.errs w m, inject := none } }
      s.setReg 0x0008_0064 (s.reg 0x0008_0064 &&& ~~~0x1000_0000)
    else s
  | none => s

/-- A write by a requester (R369, R376): check bits are made anew, and an armed injection strikes its word. -/
def State.hiveWrite (s : State) (req a : Nat) (bs : List Byte) : State :=
  let s := s.grants req a bs.length
  let ws := wordsIn a bs.length
  let errs := ws.foldl (fun e w => Tab.set (fun _ => 0) e w 0) s.hive.errs
  let s := { s with hive := { s.hive with mem := memPut s.hive.mem a bs, errs := errs } }
  s.strike ws

/-! ## Rings and buffers of the units (R173, R341, R371, R378) -/

/-- The words that hold bytes `n` to `n + len` of what a unit keeps in a region, consecutive from a start and round the region. DESIGN
CHOICE (log entry 122): the spec gives the rings and buffers no layout; where they begin is free. -/
def Region.wordsOf (r : Region) (n len : Nat) : List Nat :=
  (List.range ((n % 8 + len + 7) / 8)).map fun i =>
    r.base + (8 * Config.regionStart r.num + n / 8 * 8 + 8 * i) % max 8 r.size

/-- The transfers that words in order take: a granule each. -/
def wordRuns : List Nat → List (Nat × Nat)
  | [] => []
  | w :: ws =>
    match wordRuns ws with
    | (a, n) :: rest => if w + 8 = a && w / 1024 = (a + n - 1) / 1024 then (w, n + 8) :: rest else (w, 8) :: (a, n) :: rest
    | [] => [(w, 8)]
def State.wordGrants (s : State) (req : Nat) (ws : List Nat) : State :=
  (wordRuns ws).foldl (fun s r => s.grants req r.1 r.2) s

/-- A unit writes bytes it keeps in its region. -/
def State.unitWrite (s : State) (req : Nat) (r : Option Region) (n len : Nat) : State :=
  match r with
  | none => s
  | some r =>
    let ws := r.wordsOf n len
    let s := s.wordGrants req ws
    let errs := if s.hive.errs.isEmpty then [] else ws.foldl (fun e w => Tab.set (fun _ => 0) e w 0) s.hive.errs
    ({ s with hive := { s.hive with errs := errs } } : State).strike ws

/-- The offsets, from the word that holds byte `n`, of words that are poisoned. -/
def State.poisoned (s : State) (r : Option Region) (n len : Nat) : List Nat :=
  match r with
  | none => []
  | some r =>
    if s.hive.errs.isEmpty then []
    else
      let ws := r.wordsOf n len
      (List.range ws.length).filterMap fun i =>
        if Tab.get (fun _ => 0) s.hive.errs (ws.getD i 0) = 2 then some (8 * i) else none

/-- A unit reads bytes it keeps in its region: errors are corrected or recorded. -/
def State.unitRead (s : State) (req : Nat) (r : Option Region) (n len : Nat) : State :=
  match r with
  | none => s
  | some r =>
    let ws := r.wordsOf n len
    let s := s.wordGrants req ws
    if s.hive.errs.isEmpty then s else (s.eccRead req ws).1

/-! ## Egress (R394, R439, R441) -/

def State.egressArb (s : State) (lane : Nat) : Arbiter := Tab.get (fun _ => ({} : Arbiter)) s.hive.egress lane
def State.setEgress (s : State) (lane : Nat) (a : Arbiter) : State :=
  { s with hive := { s.hive with egress := Tab.set (fun _ => {}) s.hive.egress lane a } }

/-- The message of a transfer as its lane sends it: a relay fragment is read from `TRUNK_BUF`, where a poisoned word is delivered as zeros
under a new CRC (R371, R441). -/
def State.egressBytes (s : State) (lane : Nat) (x : Xfer) : List Byte × State :=
  if x.req < 4 then (x.msg, s)
  else
    let r := s.region 0x07 (lane - 24)
    let zs := s.poisoned r x.place x.msg.length
    let s := s.unitRead 6 r x.place x.msg.length
    if zs.isEmpty then (x.msg, s)
    else
      let m := zeroWords (zs.map fun z => (z, 8)) (x.msg.take (x.msg.length - 2))
      (m ++ toLE 2 (crc16 m).toNat, s)

/-- A granted message goes out on its lane. The grant counters are those of the banks (R396). -/
def State.egressOut (lane : Nat) (s : State) (g : Grant) : State :=
  let (m, s) := s.egressBytes lane g.xfer
  s.send lane m

/-- A trunk lane's messages granted before cycle `limit` go out, in the order of their grants. -/
def State.runEgress (s : State) (limit lane : Nat) : State :=
  let a := s.egressArb lane
  if a.wants.isEmpty then s
  else
    let (a, gs) := a.advance egressServes (·.takeSettings s.hive.egrSet true (lane - 24)) limit a.wants.length
    gs.foldl (State.egressOut lane) (s.setEgress lane a)

/-- Those granted before this cycle; and as a command ends, with no other of its cycle behind it, those granted in it too. -/
def State.runLanes (s : State) (limit : Nat) : State := [24, 25, 26, 27].foldl (fun s l => s.runEgress limit l) s
def State.flushLanes (s : State) : State := s.runLanes (s.time.cyc + bnat s.sameCycle.isEmpty)

/-- A message at a trunk lane's egress arbiter (R394, R441): one transfer, never preempted. A relay fragment waits in `TRUNK_BUF`. The pair
lanes have no such arbiter. -/
def State.egress (s : State) (lane slot : Nat) (m : List Byte) : State :=
  if 28 ≤ lane || !s.carries lane then s.send lane m
  else
    let s := s.runEgress s.time.cyc lane
    let at' := Tab.get (fun _ => 0) s.hive.trunkPut lane
    let s := if slot < 4 then s else
      let s := s.unitWrite 6 (s.region 0x07 (lane - 24)) at' m.length
      { s with hive := { s.hive with trunkPut := Tab.set (fun _ => 0) s.hive.trunkPut lane (padTo8 (at' + m.length)) } }
    s.setEgress lane ((s.egressArb lane).request egressServes s.time.cyc
      { req := slot, beats := ceilDiv m.length 16, since := s.time.cyc, msg := m, place := at' }).1

/-! ## Scrubbing (R373, R374) -/

/-- What a scrub read finds in a word beside what is known of it: the worse of the two. -/
def State.scrubFinds (s : State) (w : Nat) (found : EccFinding) : State :=
  let e := match found with | .clean => 0 | .single => 1 | .double => 2
  if e ≤ Tab.get (fun _ => 0) s.hive.errs w then s
  else { s with hive := { s.hive with errs := Tab.set (fun _ => 0) s.hive.errs w e } }

/-- `SCRUB_PERIOD` of a bank, in cycles; and the cycle at which a pass's next read is due, the 131,072 being spaced evenly. -/
def State.scrubCycles (s : State) (bank : Nat) : Nat := (s.bank bank).scrub * 1000 * cycPerMs
def Scrub.dueAt (k : Scrub) (period : Nat) : Nat := k.passAt + k.beat * period / 131072

/-- The pass after a read of its next beat: late once it takes longer than the period; the next one begins a period after it, or at once
where it was late (R373, R374). -/
def Scrub.step (k : Scrub) (period now : Nat) (ces : List Nat) : Scrub :=
  let isOver := k.overran || decide (k.passAt + period < now)
  if k.beat + 1 < 131072 then { k with beat := k.beat + 1, now := ces ++ k.now, late := k.late || isOver, overran := isOver }
  else { beat := 0, passAt := max (k.passAt + period) now, late := isOver, now := [], before := ces ++ k.now }

/-- One scrub read of a bank, not before it is due: the next beat is read, corrected where it can be, which takes a second cycle within the
grant, and the pass may end. Scrubbing begins as Hive is cleared (R375). -/
def State.scrubRead (s : State) (bank : Nat) (found : BeatFinding) : State :=
  let k := Tab.get (fun _ => ({} : Scrub)) s.hive.scrubs bank
  let period := s.scrubCycles bank
  if !s.hive.initDone || s.time.cyc < k.dueAt period then s
  else
    let a := addrOfBeat bank k.beat
    let s := (s.scrubFinds a found.lower).scrubFinds (a + 8) found.upper
    let ces := [a, a + 8].filter fun w => Tab.get (fun _ => 0) s.hive.errs w == 1
    let s := s.grant bank 7 (1 + bnat (!ces.isEmpty))
    let (s, _) := s.eccRead 7 [a, a + 8]
    let s := ces.foldl (fun s w =>
      if k.before.contains w then
        ({ s with hive := { s.hive with ceRepeat := true } } : State).raise 0x0802 w
      else s) s
    let s := { s with hive := { s.hive with scrubs := Tab.set (fun _ => {}) s.hive.scrubs bank (k.step period s.time.cyc ces) } }
    if k.passAt + period < s.time.cyc && !k.overran then s.raise 0x0803 bank else s

/-- Every bank's first pass begins. -/
def State.scrubStart (s : State) : State :=
  { s with hive := { s.hive with
    scrubs := (List.range 32).foldl (fun t b => Tab.set (fun _ => {}) t b { passAt := s.time.cyc }) s.hive.scrubs } }

/-! ## Committed settings (R387, R390, R392) -/

/-- R390: the scrub limit could starve a pass. -/
def scrubStarves (limit period : Nat) : Bool := period * 800_000_000 < (limit + 8) * 65 * 131072

/-- A commit of the arbiter settings by `HIVE_ARB_COMMIT.ARB`. -/
def State.arbCommit (s : State) : Reply × State :=
  let s := s.runBanks
  if (List.range 32).any (fun b => (s.bank b).pend) then (Reply.of stBusy, s)
  else if s.regN 0x0008_0010 % 65536 = 0
      || scrubStarves ((s.writtenArb false).limits.getD 7 0) (s.regN 0x0008_002C % 4096) then
    (Reply.of stRefused 0x08, s)
  else
    (Reply.ok, { s with hive := { s.hive with
      banks := Tab.updAll (fun _ => {}) s.hive.banks (List.range 32) (fun _ a => { a with pend := true })
      arbSet := s.writtenArb false } })

/-- A commit of the egress settings by `HIVE_ARB_COMMIT.EGR` (R394). -/
def State.egrCommit (s : State) : Reply × State :=
  let s := s.runLanes s.time.cyc
  if (List.range 4).any (fun b => (s.egressArb (24 + b)).pend) then (Reply.of stBusy, s)
  else if s.regN 0x0008_0010 % 65536 = 0 then (Reply.of stRefused 0x08, s)
  else
    (Reply.ok, { s with hive := { s.hive with
      egress := Tab.updAll (fun _ => {}) s.hive.egress [24, 25, 26, 27] (fun _ a => { a with pend := true })
      egrSet := s.writtenArb true } })

/-- An `ARB_INIT` body applies: it writes the registers and commits both sets (R392, R395). -/
def State.applyArbInit (s : State) (b : List Byte) : State :=
  let s := (s.setReg 0x0008_0010 (BitVec.ofNat 32 (leAt b 0 2))).setReg 0x0008_002C (BitVec.ofNat 32 (leAt b 2 2))
  let s := (List.range 2).foldl (fun s i => s.setReg (0x0008_0014 + 4 * i) (BitVec.ofNat 32 (leAt b (8 + 4 * i) 4))) s
  let s := (List.range 4).foldl (fun s i => s.setReg (0x0008_001C + 4 * i) (BitVec.ofNat 32 (leAt b (16 + 4 * i) 4))) s
  let s := (List.range 2).foldl (fun s i => s.setReg (0x0008_0030 + 4 * i) (BitVec.ofNat 32 (leAt b (32 + 4 * i) 4))) s
  let s := (List.range 4).foldl (fun s i => s.setReg (0x0008_0038 + 4 * i) (BitVec.ofNat 32 (leAt b (40 + 4 * i) 4))) s
  { s with hive := { s.hive with
    banks := Tab.updAll (fun _ => {}) s.hive.banks (List.range 32) (fun _ a => { a with pend := true })
    egress := Tab.updAll (fun _ => {}) s.hive.egress [24, 25, 26, 27] (fun _ a => { a with pend := true })
    arbSet := s.writtenArb false, egrSet := s.writtenArb true } }

/-- A write of `HIVE_ECC_INJ` (R376, R397). -/
def State.writeEccInj (s : State) (v : Word) : Reply × State :=
  let m := bits v.toNat 26 2
  if s.sys.mode != .test || m = 3 then (Reply.of stRefused 0x08, s)
  else
    let w := bits v.toNat 3 23 * 8
    let keep := v &&& 0x0FFF_FFF8
    let s := { s with hive := { s.hive with inject := if m = 0 then none else some (w, m) } }
    (Reply.ok, s.setReg 0x0008_0064 (if m = 0 then keep else keep ||| 0x1000_0000))

/-! ## RDB and WRB (R381) -/

/-- Whether a range lies in staging, and the region that wholly holds it. -/
def inStaging (a len : Nat) : Bool := stagingBase ≤ a && a + len ≤ stagingBase + stagingSize
def State.regionOf (s : State) (a len : Nat) : Option Region :=
  s.regions.find? (fun r => r.base ≤ a && a + len ≤ r.base + r.size)

/-- Whether the spec gives what a byte of a region holds: all of a `HOST_WINDOW`, and a pool's descriptors and buffers (R461 to R463). Others
are written by producers in layouts the spec leaves open. -/
def State.laidOut (s : State) (r : Region) (a : Nat) : Bool :=
  r.typ == 6 || (r.typ == 4 &&
    (a < r.base + 4096 || r.base + 4096 + 98304 * (s.routes.filter fun t => t.nxMode != 0 && t.nxPool == r.owner).length ≤ a))

/-- Bytes read from a region: the model's where the layout is given, and free ones elsewhere; poisoned words are zeros (R371, R381). -/
def State.regionRead (s : State) (r : Region) (a n : Nat) : List Byte × Bool × State :=
  let (bs, bad, s') := s.hiveRead 5 a n
  let ps := (wordsIn a n).filter fun w => Tab.get (fun _ => 0) s.hive.errs w == 2
  let byte := fun i =>
    if ps.contains ((a + i) / 8 * 8) || s.laidOut r (a + i) then bs.getD i 0 else Config.regionByte s.free i
  ((List.range n).map byte, bad, { s' with free := s'.free + 1 })

/-- `RDB` (R381, R482). -/
def State.opRdb (s : State) (p : Packet) : Reply × State :=
  let a := p.addr.toNat
  let n := leAt p.payload 0 4
  if !s.hive.initDone then (Reply.of stBusy, s)
  else if p.payload.length != 4 || a % 16 != 0 || n % 16 != 0 || n < 16 || 4096 < n then (Reply.of stBadAddr, s)
  else if inStaging a n then
    let (bs, bad, s) := s.hiveRead 5 a n
    (Reply.done (if bad then stCrcBad else stOk) bs, s)
  else match s.regionOf a n with
    | some r =>
      if !bit r.rflags 0 then (Reply.of stBadAddr, s)
      else
        let (bs, bad, s) := s.regionRead r a n
        (Reply.done (if bad then stCrcBad else stOk) bs, s)
    | none => (Reply.of stBadAddr, s)

/-- `WRB` (R381). -/
def State.opWrb (s : State) (p : Packet) : Reply × State :=
  let a := p.addr.toNat
  let n := p.payload.length
  if !s.hive.initDone then (Reply.of stBusy, s)
  else if a % 16 != 0 || n % 16 != 0 || n = 0 then (Reply.of stBadAddr, s)
  else match s.regionOf a n with
    | some r => if bit r.rflags 1 && !inStaging a n then (Reply.ok, s.hiveWrite 5 a p.payload) else (Reply.of stBadAddr, s)
    | none => (Reply.of stBadAddr, s)

end Sys2Proof.Machine
end

