-- ==== Sys2Proof/Machine/Streams.lean ====
section
/-! DEFINITION. Streams (R29 to R43, R491 to R496): records emitted into their buffers, items assembled from the words of a
route's channels, unfilled spans and their `GAP` records, opening, closing and overflow. -/

namespace Sys2Proof.Machine

/-! ## Records into buffers -/

/-- Bytes a stream holds in its buffer: its records not yet in a FIFO or read by Nectar (R496). -/
def State.bufUsed (s : State) (id : Nat) : Nat :=
  ((s.host.waiting.filter (fun r => r.stream == id && r.typ != 0x0B)).map Record.size).sum
    + ((s.drip.waiting.filter (fun r => r.stream == id && r.typ != 0x0B)).map Record.size).sum
    + ((s.nx.inq.filter (fun r => r.stream == id)).map Record.size).sum

/-- The room a stream's records have: its `STREAM_BUF`, or the `PRODUCT` regions of its programs (R378). -/
def State.bufSize (s : State) (r : Route) : Nat :=
  if r.kind = 3 then ((bitList 8 r.source).map (fun g => s.regionSize 0x05 g)).sum else s.regionSize 0x03 r.id

/-- Whether a record fits a stream's buffer now. -/
def State.bufTakes (s : State) (r : Route) (size : Nat) : Bool := s.bufUsed r.id + size ≤ s.bufSize r

/-- A record put where its route sends it: the compressor's input, the drip FIFO or the host FIFO (R446, R508, R501). -/
def State.enqueue (s : State) (r : Route) (x : Record) : State :=
  if r.nxMode != 0 then { s with nx := { s.nx with inq := s.nx.inq ++ [x] } }
  else if r.port = 1 then { s with drip := { s.drip with waiting := s.drip.waiting ++ [x] } }
  else { s with host := { s.host with waiting := s.host.waiting ++ [x] } }

/-- The record with the stream's number, hub and relay flag filled in (R22, R24, R438). -/
def State.stamped (s : State) (r : Route) (x : Record) : Record :=
  { x with
    stream := r.id
    rseq := (s.stream r.id).rseq
    hub := s.hubPos
    hflags := x.hflags + (if s.gwDir != 0 && r.port = 0 then 4 else 0) }

/-- The region that holds a record of a route (R378): its stream's buffer, or that of the program whose product of an epoch it is. DESIGN
CHOICE (log entry 157): the rule says not which of a Comb stream's records lie in which; those that its `PRODUCT` size counts lie there, and
`MATCH` and `GAP` records in its `STREAM_BUF`. -/
def State.bufRegion (s : State) (r : Route) (x : Record) : Option Region :=
  if r.kind = 3 && 5 ≤ x.typ && x.typ ≤ 8 then s.region 0x05 (byteAt x.payload 0) else s.region 0x03 r.id

/-- Writes a record whatever the stream's state: it takes the next `RSEQ` (R24), and a place in its buffer: `CAPTURE` writes it there,
or `COMB_OUT` (R378). -/
def State.writeRecord (s : State) (r : Route) (x : Record) : State :=
  let at' := (s.stream r.id).written
  let reg := s.bufRegion r x
  let s := s.unitWrite (if r.kind = 3 then 2 else 1) reg at' x.size
  let x := { s.stamped r x with region := reg.map (·.num), place := at' }
  (s.enqueue r x).updStream r.id fun st =>
    { st with rseq := (st.rseq + 1) % 2 ^ 32, lastRseq := st.rseq, written := padTo8 (at' + x.size) }

/-- The rate code of a route (R26): its first channel's. -/
def State.routeRate (s : State) (r : Route) : Nat :=
  match r.chans.head? with
  | none => if r.kind = 3 then 0xFD else 0xFF
  | some c =>
    if c < 768 then rateCode (decimOf (((s.chainRec c).getD []).drop 4)) else 0xFE

/-- `CHSET` (R32): bit c of the bitmap for every channel named. -/
def chset (chs : List Nat) : List Byte :=
  (List.range 128).map fun i =>
    BitVec.ofNat 8 (((List.range 8).map fun j => if chs.contains (8 * i + j) then 2 ^ j else 0).sum)

/-- A `GAP` record (R32). -/
def gapRecord (stamp : Word48) (rate count : Nat) (g : Gap) (chs : List Nat) : Record :=
  { typ := 2, stream := 0, rseq := 0, stamp := stamp, rate := rate, hflags := 0, items := 1, fmt := 0, typeWord := 0,
    hub := 0, payload := toLE 4 count ++ toLE 1 g.cause ++ toLE 1 g.subject ++ toLE 1 (bnat g.est) ++ [0] ++ chset chs }

/-- The most slots one `GAP` record counts (R35). -/
def maxSpan : Nat := 0xFFFF_FFFF

/-- The slots of a span that start before a place, and their split into counts none of which is above `maxSpan`: the place of
each part's first slot and its count (R35). -/
def Gap.count (g : Gap) (stop : Nat) : Nat := ceilDiv (stop - g.start) (max 1 g.step)
def Gap.parts (g : Gap) (stop : Nat) : List (Nat × Nat) :=
  (List.range (ceilDiv (g.count stop) maxSpan)).map fun i =>
    (g.start + i * maxSpan * g.step, min maxSpan (g.count stop - i * maxSpan))

/-- The `RATE` code of a span's slots (R26, R32). -/
def Gap.rate (g : Gap) (ch : Nat) : Nat := if ch < 768 then rateCode g.step else 0xFE

/-- The `GAP` record of one part of a span of the channels `chs`. -/
def State.partRecord (s : State) (g : Gap) (chs : List Nat) (part : Nat × Nat) : Record :=
  let ch := chs.headD 0
  gapRecord (s.placeStamp ch part.1) (g.rate ch) part.2 g chs

/-- The `GAP` records of the channels `chs` for the slots of a span before the place `stop` (R34, R35). -/
def State.gapRecords (s : State) (g : Gap) (stop : Nat) (chs : List Nat) : List Record :=
  (g.parts stop).map (s.partRecord g chs)

/-! ## Closing -/

/-- The stamp of a stream's close point c (R36): of a slot for sample routes, of the tick otherwise. -/
def State.closeStamp (s : State) (r : Route) (st : Stream) : Word48 :=
  match r.chans.head?, st.next with
  | some ch, some _ => s.placeStamp ch st.answered
  | _, _ => stampOf (tickTime s.tick)

/-- What makes spans of several channels one span: all but the channels' own counters. -/
def Gap.key (g : Gap) : Gap := { g with seq := 0 }

/-- Groups the columns of a stream that have an open span before c, by span; each group is one record (R37). -/
def spanGroups (c : Nat) (cols : List (Nat × Column)) : List (Gap × List Nat) :=
  let open' := cols.filterMap fun cc => match cc.2.gap with
    | some g => if g.start < c then some (g.key, cc.1) else none
    | none => none
  let keys := (open'.map (·.1)).dedup
  keys.map fun g => (g, (open'.filter (fun x => x.1 == g)).map (·.2))

/-- The `GAP` records that end an opening at c (R37): those of the spans open there, and those that still wait to follow another record. -/
def State.finalGaps (s : State) (r : Route) (st : Stream) : List Record :=
  let c := st.answered
  ((spanGroups c (r.chans.zip st.cols)).flatMap fun gc => s.gapRecords gc.1 c gc.2)
    ++ (r.chans.zip st.cols).flatMap fun cc => cc.2.late.flatMap fun x => s.gapRecords x.2.1 (min x.2.2 c) [cc.1]

/-- A stream's buffer cannot take its next record: it closes at its last whole record, and the final `GAP` records await
space (R496, R37). -/
def State.overflow (s : State) (r : Route) : State :=
  let st := s.stream r.id
  let c := s.closeStamp r st
  let gaps := s.finalGaps r st
  let s := s.updStream r.id fun st =>
    { st with st := 2, closePoint := c, cols := [], recItems := [], pendingGaps := gaps }
  let s := s.raise 0x0B03 r.id (BitVec.ofNat 32 st.lastRseq :: stampWords c)
  s.bump 0x000B_0058

/-- Emits a record of an open stream, or closes the stream by overflow. -/
def State.emit (s : State) (r : Route) (x : Record) : State :=
  if (s.stream r.id).st = 1 then
    if s.bufTakes r x.size then s.writeRecord r x else s.overflow r
  else s

/-- Writes final `GAP` records while there is room; the rest stay pending. -/
def State.writeGaps (s : State) (r : Route) : List Record → State
  | [] => s.updStream r.id fun st => { st with pendingGaps := [] }
  | g :: gs =>
    if s.bufTakes r g.size then (s.writeRecord r g).writeGaps r gs
    else s.updStream r.id fun st => { st with pendingGaps := g :: gs }

/-- The payload of items (R29): words alone, or each with its stamp. -/
def itemBytes (fmt : Nat) (it : List SlotWord) : List Byte :=
  it.flatMap fun w => toLE 6 w.word.toNat ++ (if fmt = 1 then toLE 6 w.stamp.toNat else [])

/-- The slot counters of an item, by channel: the hub keeps those of each record's first item outside Hive (R372). -/
def itemSeqs (it : List SlotWord) : List Nat := it.map fun w => w.word.toNat % 16

/-- The item format of a route (R30). -/
def Route.fmt (r : Route) : Nat := if (r.chans.headD 0) < 768 then 0 else 1

/-- An opening ends at c, the first slot no record of it answers for: spans open there end with their `GAP` records, and items
of a record still open belong to no opening (R36, R37). -/
def State.endOpening (s : State) (r : Route) : State :=
  let st := s.stream r.id
  if st.st = 1 then
    let c := s.closeStamp r st
    let gaps := s.finalGaps r st
    let s := s.updStream r.id fun st => { st with st := 0, closePoint := c, cols := [], recItems := [] }
    s.writeGaps r gaps
  else s

/-- Closes the open `SAMPLES` record of a stream, if it holds an item (R29); a `STREAM_CLOSE` that waits for it takes hold
then (R494). -/
def State.closeRecord (s : State) (r : Route) : State :=
  let st := s.stream r.id
  if st.recItems.isEmpty then s
  else
    let x : Record :=
      { typ := 1, stream := 0, rseq := 0, stamp := st.recStamp, rate := st.recRate,
        hflags := st.recFlags + bnat (st.recItems.any (fun it => it.any (fun w => wSuspect w.word))),
        items := st.recItems.length, fmt := r.fmt, typeWord := r.chans.length, hub := 0,
        payload := st.recItems.flatMap (itemBytes r.fmt), seqs := itemSeqs (st.recItems.headD [])
        step := s.slotStep (r.chans.headD 0) }
    let n := st.next.getD 0
    let s' := s.emit r x
    if (s'.stream r.id).st = 1 then
      let s' := s'.updStream r.id fun st => { st with recItems := [], recFlags := 0, answered := max st.answered n }
      if st.closing.isSome then s'.endOpening r else s'
    else s'

/-- Every open stream stops at its last whole record (R645, R647). -/
def State.stopStreams (s : State) : State :=
  s.routes.foldl (fun s r => s.endOpening r) s

/-! ## Items -/

/-- Changes the columns of a stream by channel. -/
def State.updCols (s : State) (r : Route) (f : Nat → Column → Column) : State :=
  s.updStream r.id fun st => { st with cols := (r.chans.zip st.cols).map fun cc => f cc.1 cc.2 }

/-- The slot counter's low bits at a slot (R14). -/
def State.slotSeq (s : State) (ch : Nat) (slot : Int) : Nat :=
  let base : Int := if ch < 768 then (s.chain ch).ctr - (s.chain ch).next else (s.local' (ch - 768)).seqBase
  ((base + slot) % 16).toNat

/-- The slot of a channel's grid at a place. -/
def State.placeSlot (s : State) (ch place : Nat) : Int :=
  ((place : Int) - (if ch < 768 then 0 else (s.local' (ch - 768)).origin.getD 0)) / (max 1 (s.slotStep ch) : Nat)

/-- The counter at a place: counted from the span it lies in, where one is known. -/
def State.placeSeq (s : State) (ch place : Nat) (span : Option Gap) : Nat :=
  match span with
  | some g =>
    if g.start ≤ place then (g.seq + (place - g.start) / max 1 g.step) % 16 else s.slotSeq ch (s.placeSlot ch place)
  | none => s.slotSeq ch (s.placeSlot ch place)

/-- The placeholder word of a slot that lies in another record's span (R36). -/
def State.placeholder (s : State) (ch place : Nat) (span : Option Gap) : SlotWord :=
  let ns := s.placeTime ch place / 65536
  let st := s.placeStamp ch place
  { slot := 0, place := place, stamp := st, nominal := st,
    word := sampleWord 0 0 { absent := true, suspect := s.suspectAt ns, surge := s.surgeAtNs ns } (s.placeSeq ch place span) }

/-- Words before a place are dropped: they belong to no opening (R36). A word at which the counter restarts begins a new grid,
whose first slot can lie before the old grid's next (R15). -/
def Column.dropBefore (n : Nat) (c : Column) : Column :=
  { c with words := c.words.dropWhile (fun w => w.place < n && !w.restart) }

/-- The channel's word for the place of an item, if it has one; the column without it. -/
def Column.wordAt (c : Column) (m : Nat) : Option SlotWord := c.words.head?.filter (·.place == m)
def Column.without (c : Column) (m : Nat) : Column := if (c.wordAt m).isSome then { c with words := c.words.tail } else c

/-- The parts of a span of an open stream before a place are emitted as `GAP` records, and the span goes on after each. An overflow
meanwhile finds open what has no record yet (R37). -/
def State.emitParts (s : State) (r : Route) (g : Gap) (chs : List Nat) (parts : List (Nat × Nat)) : State :=
  parts.foldl (fun s p =>
    let s := s.emit r (s.partRecord g chs p)
    if (s.stream r.id).st = 1 then
      let stop := p.1 + p.2 * g.step
      (s.updCols r fun c col => if chs.contains c then { col with gap := col.gap.map fun g => { g with start := stop, seq := g.seq + p.2 } }
        else col).updStream r.id fun st => { st with answered := max st.answered stop }
    else s) s

/-- A span of an open stream ends before a place: its records are emitted (R34). -/
def State.emitSpan (s : State) (r : Route) (g : Gap) (stop : Nat) (chs : List Nat) : State :=
  let s := s.emitParts r g chs (g.parts stop)
  if (s.stream r.id).st = 1 then s.updCols r fun c col => if chs.contains c then { col with gap := none } else col else s

/-- Spans whose records wait for the item at a place: they follow the record that holds it (R124). -/
def State.emitLate (s : State) (r : Route) (m : Nat) : State :=
  let due := (r.chans.zip (s.stream r.id).cols).flatMap fun cc => (cc.2.late.filter (·.1 ≤ m)).map fun x => (cc.1, x.2)
  if due.isEmpty then s
  else
    let s := s.closeRecord r
    due.foldl (fun s x =>
      let s := (s.gapRecords x.2.1 x.2.2 [x.1]).foldl (fun s y => s.emit r y) s
      if (s.stream r.id).st = 1 then
        (s.updCols r fun c col => if c = x.1 then { col with late := col.late.filter fun y => y.2 != x.2 } else col).updStream r.id
          fun st => { st with answered := max st.answered x.2.2 }
      else s) s

/-- Takes one item, the earliest that some channel has a word for (R29); none when some channel's word has yet to come. Slots in
between lie in spans: an item that does not follow the last one begins a new record. -/
def State.itemStep (s : State) (r : Route) : Option State :=
  let st := s.stream r.id
  let cols := st.cols.map (Column.dropBefore (st.next.getD 0))
  if cols.any fun c => c.words.isEmpty && c.gap.isNone then none
  else
    match (cols.filterMap fun c => c.words.head?.map (·.place)).min? with
    -- every channel's slot lies in an open span: the record closes now (R39)
    | none => if st.recItems.isEmpty then none else some (s.closeRecord r)
    | some m =>
      let words := cols.map (·.wordAt m)
      let first := (words.findSome? id).getD default
      let restart := words.any fun w => w.any (·.restart)
      let s := if restart || st.next != some m then s.closeRecord r else s
      if (s.stream r.id).st = 1 then
        let item := ((r.chans.zip cols).zip words).map fun cw => cw.2.getD (s.placeholder cw.1.1 m cw.1.2.span)
        let s := s.updStream r.id fun st =>
          { st with
            recStamp := if st.recItems.isEmpty then first.nominal else st.recStamp
            recRate := if st.recItems.isEmpty then first.rate else st.recRate
            recFlags := if restart then 8 else st.recFlags
            recItems := st.recItems ++ [item]
            answered := if restart then m else if st.recItems.isEmpty then max st.answered m else st.answered
            next := some (m + first.step)
            cols := cols.map (·.without m) }
        let s := if r.items ≤ (s.stream r.id).recItems.length then s.closeRecord r else s
        some (s.emitLate r m)
      else none

/-- Items are taken while they are complete; `fuel` bounds them by the words held. -/
def State.takeItems (r : Route) : Nat → State → State
  | 0, s => s
  | f + 1, s => match s.itemStep r with
    | some s' => State.takeItems r f s'
    | none => s

/-- All complete items of a stream. -/
def State.items (s : State) (r : Route) : State :=
  s.takeItems r (2 * ((s.stream r.id).cols.map (fun c => c.words.length)).sum + 2)

/-! ## What producers do -/

/-- The open sample routes. -/
def State.openRoutes (s : State) : List Route := s.routes.filter fun r => r.kind == 1 && (s.stream r.id).st == 1

/-- A producer delivers a word of a channel into every open stream that carries it. -/
def State.deliver (s : State) (ch : Nat) (w : SlotWord) : State :=
  s.openRoutes.foldl (fun s r =>
    if r.chans.contains ch then
      let s := s.updCols r fun c col => if c = ch then { col with words := col.words ++ [w] } else col
      let s := s.updStream r.id fun st =>
        if st.next.isNone then { st with next := some w.place, first := w.place, answered := w.place } else st
      s.items r
    else s) s

/-- A span of a channel as a stream that opened at the place `first` sees it. -/
def Gap.from' (g : Gap) (first : Nat) : Gap :=
  let k := ceilDiv (first - g.start) (max 1 g.step)
  { g with start := g.start + k * g.step, seq := g.seq + k }

/-- The span of a channel from a place on. -/
def State.spanAt (s : State) (ch place cause subject : Nat) (est : Bool) : Gap :=
  { start := place, cause, subject, est, step := s.slotStep ch, seq := s.slotSeq ch (s.placeSlot ch place) }

/-- Channels' columns take open spans, without an event. -/
def State.placeSpans (s : State) (r : Route) (chs : List Nat) (start : Nat → Nat) (cause subject : Nat) (est : Bool) : State :=
  let first := (s.stream r.id).first
  s.updCols r fun c col =>
    if chs.contains c && col.gap.isNone then
      let g := (s.spanAt c (start c) cause subject est).from' first
      { col with gap := some g, span := some g }
    else col

/-- Spans open for channels: `GAP_OPEN` is raised for each open stream concerned (R34). `start` gives the place of each channel's
first missing slot. -/
def State.openSpans (s : State) (chs : List Nat) (start : Nat → Nat) (cause subject : Nat) (est : Bool := false) : State :=
  s.openRoutes.foldl (fun s r =>
    if r.chans.any (fun c => chs.contains c) then
      let s := s.placeSpans r chs start cause subject est
      let s := s.raise 0x0B02 r.id [BitVec.ofNat 32 (cause + subject * 256)]
      s.items r
    else s) s

/-- Spans go on in a new numbering, with the same cause (R35, R237). -/
def State.resumeSpans (s : State) (chs : List Nat) (start : Nat → Nat) (cause subject : Nat) (est : Bool := false) : State :=
  s.openRoutes.foldl (fun s r =>
    if r.chans.any (fun c => chs.contains c) then (s.placeSpans r chs start cause subject est).items r else s) s

/-- Spans close for channels: each channel's span ends at the slot before the place `stop`; equal spans share one record (R34). -/
def State.closeSpans (s : State) (chs : List Nat) (stop : Nat → Nat) : State :=
  s.openRoutes.foldl (fun s r =>
    let mine := (r.chans.zip (s.stream r.id).cols).filterMap fun cc => match cc.2.gap with
      | some g => if chs.contains cc.1 then some (g.key, stop cc.1, cc.1) else none
      | none => none
    let keys := (mine.map (fun m => (m.1, m.2.1))).dedup
    let s := keys.foldl (fun s k =>
      if (s.stream r.id).st = 1 then
        s.emitSpan r k.1 k.2 ((mine.filter (fun m => m.1 == k.1 && m.2.1 == k.2)).map (·.2.2))
      else s) s
    s.items r) s

/-- A span known whole when it is found: it opens, and closes with its record (R34). -/
def State.wholeSpan (s : State) (ch start count cause subject : Nat) : State :=
  (s.openSpans [ch] (fun _ => start) cause subject).closeSpans [ch] (fun _ => start + count * s.slotStep ch)

/-- The same, its record following the one that holds the item at the place `behind` (R124). -/
def State.lateSpan (s : State) (ch behind start count cause subject : Nat) : State :=
  let g := s.spanAt ch start cause subject false
  s.openRoutes.foldl (fun s r =>
    if r.chans.contains ch then
      let s := s.raise 0x0B02 r.id [BitVec.ofNat 32 (cause + subject * 256)]
      let held := (s.stream r.id).cols.any fun col => col.words.any fun w => w.place ≤ behind
      let s := s.updCols r fun c col =>
        if c = ch && (s.stream r.id).first ≤ start then
          { col with late := col.late ++ [(behind, g, start + count * g.step)], span := some g } else col
      if held then s else s.emitLate r behind
    else s) s

/-- The place that hub time has reached on a channel's grid. -/
def State.nowPlace (s : State) (ch : Nat) : Nat :=
  if ch < 768 then (s.ns + (s.pod (ch / 32)).gdelay / 65536) / 1250 else s.ns

/-- Open spans that have reached 0xFFFF_FFFF slots are recorded, and go on at the next slot (R35). DEDUCED (log entry 108): a slot counts
once hub time has reached its place. -/
def State.splitSpans (s : State) : State :=
  s.openRoutes.foldl (fun s r =>
    (spanGroups (2 ^ 64) (r.chans.zip (s.stream r.id).cols)).foldl (fun s gc =>
      if (s.stream r.id).st = 1 then
        let whole := (gc.1.parts (s.nowPlace (gc.2.headD 0) + 1)).filter fun p => p.2 == maxSpan
        s.emitParts r gc.1 gc.2 whole
      else s) s) s

/-! ## Opening -/

/-- The first slot of a channel's grid whose stamp is not earlier than a tick (R36); none while there is no grid. -/
def State.firstSlotAt (s : State) (ch tick : Nat) : Option Nat :=
  let t : Int := ((tick * 1250 * 65536 : Nat) : Int)
  if ch < 768 then
    let d := match (s.chain ch).insts.getLast? with
      | some i => decimOf i.cfg
      | none => decimOf (((s.chainRec ch).getD []).drop 4)
    let p := d * 1250 * 65536
    some (if p = 0 then 0 else ((t + (s.pod (ch / 32)).gdelay + p - 1) / p).toNat)
  else
    let l := s.local' (ch - 768)
    match l.origin with
    | none => none
    | some o =>
      let mid := s.field.windowNs l.fe l.fe.nplc s.ns / 2
      let p := l.fe.slotNs s.field.nom60
      let t := tick * 1250
      some (if p = 0 then 0 else if t ≤ o + mid then 0 else (t - o - mid + p - 1) / p)

/-- The place of that slot. -/
def State.firstPlaceAt (s : State) (ch tick : Nat) : Option Nat :=
  (s.firstSlotAt ch tick).map fun n =>
    if ch < 768 then
      n * (match (s.chain ch).insts.getLast? with
        | some i => decimOf i.cfg
        | none => decimOf (((s.chainRec ch).getD []).drop 4))
    else s.slotPlace ch n

/-- The open span of a producer. -/
def State.producerGap (s : State) (ch : Nat) : Option Gap :=
  if ch < 768 then (s.chain ch).gap else (s.local' (ch - 768)).gap

/-- A new opening of a stream (R24, R36, R494). -/
def State.openStream (s : State) (r : Route) : State :=
  let s0 := match r.chans.head? with
    | some ch => s.firstPlaceAt ch (s.tickAfter 0)
    | none => none
  let cols := r.chans.map fun ch =>
    let g := (s.producerGap ch).map fun g => g.from' (s0.getD 0)
    ({ gap := g, span := g } : Column)
  s.updStream r.id fun _ =>
    { st := 1, everOpened := true, next := s0, first := s0.getD 0, openAt := s.time.now, cols := cols, answered := s0.getD 0 }

/-- Streams whose close waits for its records complete once those have entered the FIFO (R494). -/
def State.completeCloses (s : State) : State :=
  s.routes.foldl (fun s r =>
    let st := s.stream r.id
    match st.closing with
    | some p =>
      if st.st != 1 && st.pendingGaps.isEmpty && !s.hasWaiting r.id && !(s.nx.inq.any (fun x => x.stream == r.id))
          && (Tab.get (fun _ => ({} : NxStream)) s.nx.streams r.id).recs.isEmpty then
        (s.updStream r.id fun st => { st with closing := none }).complete p stOk
          (toLE 4 st.lastRseq ++ toLE 6 st.closePoint.toNat ++ [0, 0])
      else s
    | none => s) s

/-- A lane whose transmitter is idle: `LISTEN` is set (R200), or it is a pod lane and this hub does not serve as the active
(R171). -/
def State.silent (s : State) (l : Nat) : Bool := s.laneFlag l 2 || (l < 24 && s.isStandby)

/-! ## Records read from their buffers (R371, R372) -/

/-- Whether some stretch delivered as poisoned, by offset and length, overlaps bytes `o` to `o + n`. -/
def strikes (zs : List (Nat × Nat)) (o n : Nat) : Bool := zs.any fun z => z.1 < o + n && o < z.1 + z.2

/-- Item q of a record's words after poisoned words: a sample word one overlaps is `ABSENT` with the `SEQ` of its slot, and no other
flag; a stamp word one overlaps is the midpoint of its slot's window (R371, R372). -/
def Record.mendWord (x : Record) (zs : List (Nat × Nat)) (q : Nat) : List Byte :=
  let n := max 1 x.seqs.length
  let w := if x.fmt = 1 then 12 else 6
  let o := x.lead + q * w
  let word := if strikes zs (32 + o) 6 then
      toLE 6 (sampleWord 0 0 { absent := true } (x.seqs.getD (q % n) 0 + q / n)).toNat
    else slice x.payload o 6
  let stamp := if strikes zs (32 + o + 6) 6 then
      toLE 6 (x.stamp + BitVec.ofNat 48 (q / n * x.step * 65536)).toNat
    else slice x.payload (o + 6) 6
  word ++ (if x.fmt = 1 then stamp else [])

/-- A record as its reader delivers it where words at some offsets are poisoned: items are mended, and any other bytes are zeros. -/
def Record.mend (x : Record) (zs : List (Nat × Nat)) : Record :=
  let items := x.typ == 1 || x.typ == 3 || x.typ == 4
  let inItems := fun (z : Nat × Nat) => items && 32 + x.lead ≤ z.1
  { x with
    payload := if items then
        x.payload.take x.lead ++ (List.range (x.items * x.seqs.length)).flatMap (x.mendWord (zs.filter inItems))
      else x.payload
    zeroed := zs.filter fun z => !inItems z }

/-- Words of a record are read one after another: errors are corrected or recorded, the event naming the record where its bytes are
delivered as zeros (R370, R371). -/
def State.recordWords (s : State) (req : Nat) (x : Record) : List (Nat × Nat) → State
  | [] => s
  | (w, o) :: rest =>
    let names := if (x.typ == 1 || x.typ == 3 || x.typ == 4) && 32 + x.lead ≤ o then [0, 0, 0]
      else [BitVec.ofNat 32 x.stream, BitVec.ofNat 32 x.rseq, BitVec.ofNat 32 o]
    ((s.eccRead req [w] names).1).recordWords req x rest

/-- The words a record lies in, each with the stretch of the record's bytes it holds: in its buffer, or in its pool (R378, R463). -/
def State.recordCover (s : State) (x : Record) : List (Nat × Nat × Nat) :=
  match s.regions.find? fun r => some r.num == x.region with
  | some r => ((r.wordsOf x.place x.size).zip (List.range (x.size / 8 + 2))).map fun w => (w.1, 8 * w.2, 8)
  | none =>
    (x.runs.zip (List.range x.runs.length)).flatMap fun ri =>
      let o := ((x.runs.take ri.2).map (·.2)).sum
      let (a, n) := ri.1
      (wordsIn a n).map fun w => (w, o + (max w a - a), min (w + 8) (a + n) - max w a)

/-- A requester reads a record from its buffer. -/
def State.recordRead (s : State) (req : Nat) (x : Record) : Record × State :=
  let cover := s.recordCover x
  let zs := if s.hive.errs.isEmpty then []
    else (cover.filter fun w => Tab.get (fun _ => 0) s.hive.errs w.1 == 2).map (·.2)
  let s := s.wordGrants req (cover.map (·.1))
  if s.hive.errs.isEmpty then (x, s)
  else (if zs.isEmpty then x else x.mend zs, s.recordWords req x (cover.map fun w => (w.1, w.2.1)))

def State.recordsRead (s : State) (req : Record → Nat) : List Record → List Record × State
  | [] => ([], s)
  | x :: xs =>
    let (x, s) := s.recordRead (req x) x
    let (xs, s) := s.recordsRead req xs
    (x :: xs, s)

/-- Records enter the host FIFO, and the drip FIFO, while there is space: `HOST` reads them from their buffers, and `TRUNK` those of a pool
that go to the trunk (R378, R500, R501). -/
def State.packHost (s : State) : State :=
  let n := s.host.waiting.length - (s.host.pump hostWords s.hubId).waiting.length
  let (xs, s) := s.recordsRead (fun x => if s.gwDir != 0 && x.typ = 0x0B then 6 else 5) (s.host.waiting.take n)
  { s with host := ({ s.host with waiting := xs ++ s.host.waiting.drop n } : Fifo).pump hostWords s.hubId }
def State.packDrip (s : State) : State :=
  let n := s.drip.waiting.length - (s.drip.pump dripWords s.hubId).waiting.length
  let (xs, s) := s.recordsRead (fun _ => 5) (s.drip.waiting.take n)
  { s with drip := ({ s.drip with waiting := xs ++ s.drip.waiting.drop n } : Fifo).pump dripWords s.hubId }

/-- What the outbound path does by itself as a command ends: the packers fill the FIFOs, closes complete, and the flow
signals follow (R498, R500, R502). -/
def State.settle (s : State) : State :=
  let s := s.splitSpans
  let s := { s with wire := s.wire.filter fun w => !s.silent w.lane }
  ((s.packHost).packDrip).completeCloses

end Sys2Proof.Machine
end

