-- ==== Sys2Proof/Machine/Chains.lean ====
section
/-! DEFINITION. Decimation chains (R214 to R238): the stage arithmetic, the taps with their marks, restarts and drains. A chain
turns input ticks into outputs; what takes them is in Ingest.lean. -/

namespace Sys2Proof.Machine

/-! ## Stage arithmetic -/

/-- Whether tap k of a response has a coefficient other than 0: a half-band response has its centre and every other tap (R220). -/
def tapUsed (r k : Nat) : Bool := if 1 ≤ r && r ≤ 3 then k == romDelay r || (k + romDelay r) % 2 == 1 else true

/-- What R220 and R221 give of a response whose coefficients they do not: its passband from and to, its stopbands, as fractions of the input
rate in 10^−4; the amplitude allowed in a stopband, of the gain, in 10^−9; the gain in 2^−22; and the ripple in 10^−7. An envelope response
turns the mean of |x|, 2/π of a sine's amplitude, into 4 times the amplitude: its low-pass has a gain of 2π. -/
structure RomFigures where
  pass : Nat × Nat
  stops : List (Nat × Nat)
  stopMax : Nat
  gain : Nat
  ripple : Nat
deriving DecidableEq, Repr, Inhabited

/-- Attenuations in dB as amplitudes in 10^−9, and ripples in dB/1000 as fractions in 10^−7, rounded up. -/
def ampOf (db : Nat) : Nat := ([(70, 316228), (80, 100000), (98, 12590), (100, 10000), (105, 5624), (110, 3163)].lookup db).getD 0
def rippleOf (mdb : Nat) : Nat := ([(2, 2304), (5, 5758), (10, 11520), (50, 57731)].lookup mdb).getD 0

/-- A low-pass row of R220 with its family's ripple; and a band-pass row, 70 dB down 0.03 beside its passband. -/
def lowPass (hi stop db gain mdb : Nat) : RomFigures :=
  { pass := (0, hi), stops := [(stop, 5000)], stopMax := ampOf db, gain := gain, ripple := rippleOf mdb }
def bandPass (lo hi : Nat) : RomFigures :=
  { pass := (lo, hi), stops := [(0, lo - 300), (hi + 300, 5000)], stopMax := ampOf 70, gain := 4 * 2 ^ 22, ripple := rippleOf 50 }

/-- The rows of R220 for responses 1 to 15, 18 to 25 and 26 to 30, with R221's ripples. -/
def romFigures : List (Nat × RomFigures) :=
  let g := 2 ^ 22
  let e := 26353589
  [(1, lowPass 2375 2625 98 (2 * g) 2), (2, lowPass 2000 3000 105 (2 * g) 5), (3, lowPass 1500 3500 70 (2 * g) 50),
   (4, lowPass 1000 1500 100 (4 * g) 5), (5, lowPass 800 1700 80 (4 * g) 50), (6, lowPass 1100 1400 110 (4 * g) 2),
   (7, lowPass 800 1200 100 (4 * g) 5), (8, lowPass 600 1400 80 (4 * g) 50), (9, lowPass 900 1100 110 (4 * g) 2),
   (10, lowPass 500 750 100 (8 * g) 5), (11, lowPass 400 850 80 (8 * g) 50), (12, lowPass 550 700 110 (8 * g) 2),
   (13, lowPass 400 600 100 (8 * g) 5), (14, lowPass 300 700 80 (8 * g) 50), (15, lowPass 450 550 110 (8 * g) 2)]
    ++ [(18, bandPass 500 1000), (19, bandPass 1000 2000), (20, bandPass 2000 3000), (21, bandPass 3000 4500),
   (22, bandPass 400 800), (23, bandPass 800 1500), (24, bandPass 1500 2500), (25, bandPass 2500 4000)]
    ++ [(26, lowPass 100 400 70 e 50), (27, lowPass 1000 1500 100 e 50), (28, lowPass 400 600 100 e 50),
   (29, lowPass 1000 1300 80 g 10), (30, lowPass 2500 3000 80 g 10)]

/-- cos(2πf) within 10^−7, by its series at half the angle. -/
def cosTurn (f : Rat) : Rat :=
  let a := f * mkRat 314159265359 100000000000
  let z := a * a
  let c := (List.range 9).foldr (fun k acc => 1 - z * acc * mkRat 1 ((2 * k + 1) * (2 * k + 2))) 1
  2 * c * c - 1

/-- The amplitude of a linear-phase response at cos(2πf) = x, about its centre tap d: the centre and twice each pair times T_k(x). -/
def firAt (h : List Int) (d : Nat) (x : Rat) : Rat :=
  ((List.range d).foldl (fun (a : Rat × Rat × Rat) k =>
    (a.1 + 2 * ((h.getD (d - 1 - k) 0 : Int) : Rat) * a.2.2, a.2.2, 2 * x * a.2.2 - a.2.1)) (((h.getD d 0 : Int) : Rat), 1, x)).1

/-- 31 frequencies spaced evenly within a band. -/
def bandPoints (b : Nat × Nat) : List Rat := (List.range 31).map fun j => cosTurn (mkRat (32 * b.1 + (b.2 - b.1) * (j + 1)) 320000)

/-- A response has its gain, within the ripple, over its passband, and its attenuation over its stopbands. -/
def RomFigures.holds (g : RomFigures) (h : List Int) (d : Nat) : Bool :=
  (bandPoints g.pass).all (fun x => decide (|firAt h d x - (g.gain : Rat)| * 10000000 ≤ (g.gain : Rat) * (g.ripple : Rat)))
    && g.stops.all fun b => (bandPoints b).all fun x => decide (|firAt h d x| * 1000000000 ≤ (g.gain : Rat) * (g.stopMax : Rat))

/-- What the spec says of a response's coefficients (R217 to R221): 24-bit, linear-phase, as many other than 0 as its MAC per
output, a sum of magnitudes below 2^26, and its bands, which are looked at where `bandPoints` lie. -/
def romAdmits (r : Nat) (h : List Int) : Bool :=
  h.length == romTaps r && h.all (fun c => -(2 ^ 23) ≤ c && c < 2 ^ 23) && h.reverse == h
    && (List.range (romTaps r)).all (fun k => tapUsed r k == (h.getD k 0 != 0))
    && decide ((h.map Int.natAbs).sum < 2 ^ 26)
    && (romFigures.lookup r).all fun g => g.holds h (romDelay r)

/-- Coefficients of a response's shape, its gain spread over its taps. They stand in only where the free ones are not admitted, which no
chip's are. -/
def romFallback (r : Nat) : List Int :=
  let g := ((romFigures.lookup r).map (·.gain)).getD (romMac r)
  let n := romMac r
  (List.range (romTaps r)).map fun k =>
    if !tapUsed r k then 0 else if k = romDelay r then ((g - (n - 1) * (g / n) : Nat) : Int) else ((g / n : Nat) : Int)

/-- The coefficients of the responses whose figures alone the spec gives (log entry 15): free, within R217 to R221. -/
def romCoeffs (r : Nat) : List Int :=
  let h := (List.range (romTaps r)).map (Config.romCoeff r)
  if romAdmits r h then h else romFallback r

/-- Coefficient h[k] of a response (R217, R220): given for `BYPASS`, the two DC-blocking responses and `DIFF` (R221). -/
def coeff (r k : Nat) : Int :=
  if r = 0 then 2 ^ 22
  else if r = 16 || r = 17 then
    let l := if r = 16 then 512 else 128
    (if k + 1 = l then ((l * l : Nat) : Int) else 0) - ((min (k + 1) (2 * l - 1 - k) : Nat) : Int)
  else if r = 31 then (if k = 0 then 2 ^ 21 else if k = 2 then -(2 ^ 21) else 0)
  else (romCoeffs r).getD k 0

/-- The divisor's exponent before the shift (R217). -/
def stageExp (r : Nat) : Nat := if r = 16 then 18 else if r = 17 then 14 else 22

/-- The envelope responses take |x| first (R217). -/
def stageInput (r : Nat) (x : Int) : Int := if 26 ≤ r && r ≤ 28 then min (x.natAbs : Int) (2 ^ 47 - 1) else x

/-- The accumulation, saturating at ±(2^63 − 1); the Boolean says it saturated. -/
def accumulate (r : Nat) : Nat → List Samp → Int × Bool → Int × Bool
  | _, [], a => a
  | k, x :: xs, (acc, sat) =>
    let v := acc + coeff r k * stageInput r x.val
    let c := satTo (2 ^ 63 - 1) v
    accumulate r (k + 1) xs (c, sat || c != v)

/-- One output of a stage from its input history, latest first (R217, R218, R230); positions before the first input hold 0. -/
def stageOut (r sh : Nat) (hist : List Samp) : Samp × Bool :=
  let win := hist.take (romTaps r)
  let (acc, sat) := accumulate r 0 win (0, false)
  let y := roundHalfEven acc (2 ^ (stageExp r + sh))
  let y' := satTo (2 ^ 47 - 1) y
  let sat := sat || y' != y
  ({ val := y', miss := win.any (·.miss), clip := win.any (·.clip) || sat,
     rng := ((win[romDelay r]?).map (·.rng)).getD 0 }, sat)

/-- An input goes through the stages (R219, R226): each stage's output lies at the centre of its window, and is kept when
that centre is on the grid of its decimation. Answers the histories and the outputs of the stages that gave one. -/
def feedStages : List (Nat × Nat) → List (List Samp) → Nat → Int → Samp → List (List Samp) × List (Int × Samp × Bool)
  | [], _, _, _, _ => ([], [])
  | (r, sh) :: st, hs, p, c, x =>
    let h := (x :: hs.headD []).take (romTaps r)
    let p' := p * romFactor r
    let co := c - ((romDelay r * p : Nat) : Int)
    if co % (p' : Int) = 0 then
      let (y, sat) := stageOut r sh h
      let (hs', outs) := feedStages st hs.tail p' co y
      (h :: hs', (co, y, sat) :: outs)
    else (h :: hs.tail, [])

/-! ## Instances -/

/-- Tap B's value (R225) and whether it saturated. -/
def tapBValue (y : Int) : Int × Bool :=
  let v := satTo maxValue y
  let w := roundHalfEven v 256
  let w' := satTo (2 ^ 23 - 1) w
  (w', v != y || w' != w)

/-- A new instance that accepts inputs from tick `f` on, from empty (R231). -/
def ChainInst.start (cfg : List Byte) (f : Nat) : ChainInst :=
  { cfg := cfg, first := f, hist := (stagesOf cfg).map (fun _ => []) }

/-- Whether an output at a centre belongs to the instance (R40, R236). -/
def ChainInst.owns (i : ChainInst) (c : Int) : Bool :=
  (i.first : Int) ≤ c && (match i.stopAt with | some b => c < (b : Int) | none => true)

/-- One input tick into an instance: the instance after it, its outputs, and how many saturations its stages and its tap B met. -/
def ChainInst.feed (i : ChainInst) (tick : Nat) (x : Samp) : ChainInst × List ChainOut × Nat × Nat :=
  let st := stagesOf i.cfg
  let n := st.length
  let j := tapbOf i.cfg
  let (hist, outs) := feedStages st i.hist 1 tick x
  let sats := (outs.filter (fun o => o.2.2)).length
  let i := { i with hist := hist }
  let (i, ob, satB) :=
    if j = 0 then (i, ([] : List ChainOut), 0)
    else match outs[j - 1]? with
      | none => (i, [], 0)
      | some (c, y, _) =>
        if i.owns c then
          let (v, sat) := tapBValue y.val
          ({ i with outB := i.outB + 1 },
           [{ tapB := true, centre := c.toNat, samp := { y with val := v }, settling := i.outB < settleAt st j,
              decim := prodFactor st j }], bnat sat)
        else (i, [], 0)
  let (i, oa) :=
    match outs[n - 1]? with
    | none => (i, ([] : List ChainOut))
    | some (c, y, _) =>
      if i.owns c then
        ({ i with outA := i.outA + 1 },
         [{ tapB := false, centre := c.toNat, samp := y, settling := i.outA < settleAt st n, decim := prodFactor st n
            newRate := i.newRate && i.outA == 0 }])
      else (i, [])
  (i, ob ++ oa, sats, satB)

/-- An old instance has stopped: every output it owns has come (R236). `tick` is the last input tick. -/
def ChainInst.stopped (i : ChainInst) (tick : Nat) : Bool :=
  match i.stopAt with
  | none => false
  | some b =>
    let st := stagesOf i.cfg
    b + groupDelayAt st st.length ≤ tick + 1

/-! ## Chains -/

/-- The first instance takes over the new rate of one that went before it and delivered nothing: the counter restarts at its first tap A
output (R15). -/
def inheritRate : List ChainInst → List ChainInst
  | [] => []
  | i :: rest =>
    { i with newRate := true
             held := match i.held with | o :: os => { o with newRate := true } :: os | [] => [] } :: rest

/-- Tap A outputs that may leave: those of the first instance, and with each that has stopped those of the next (R31, R236). -/
def releaseHeld (tick : Nat) : List ChainInst → List ChainInst × List ChainOut
  | [] => ([], [])
  | i :: rest =>
    if i.stopped tick then
      let (is, os) := releaseHeld tick rest
      if i.newRate && i.outA = 0 then
        (match os with
          | o :: os => (is, { o with newRate := true } :: os)
          | [] => (inheritRate is, []))
      else (is, i.held ++ os)
    else ({ i with held := [] } :: rest, i.held)

/-- One input tick into a chain: every instance that has begun takes it (R236). Tap B outputs leave at once (R228). -/
def Chain.feed (c : Chain) (tick : Nat) (x : Samp) : Chain × List ChainOut × Nat × Nat :=
  let fed := c.insts.map fun i => if i.first ≤ tick then i.feed tick x else (i, [], 0, 0)
  let (insts, outA) := releaseHeld tick (fed.map fun r => { r.1 with held := r.1.held ++ r.2.1.filter (!·.tapB) })
  ({ c with insts }, (fed.flatMap fun r => r.2.1.filter (·.tapB)) ++ outA, (fed.map (·.2.2.1)).sum, (fed.map (·.2.2.2)).sum)

/-- The outputs of tap A or tap B still owed before a drain whose first missing input is tick `m`, after inputs up to
`last` (R39, R232): each is `ABSENT`, since its support reaches past what arrived. -/
def ChainInst.owed (i : ChainInst) (m last : Nat) (b : Bool) : List ChainOut :=
  let st := stagesOf i.cfg
  let j := if b then tapbOf i.cfg else st.length
  if j = 0 then []
  else
    let p := prodFactor st j
    let w := groupDelayAt st j
    let k := settleAt st j
    -- centres not yet given: those whose support ends after `last`
    let from' := max (ceilDiv i.first p) (if last + 1 ≤ w then 0 else ceilDiv (last + 1 - w) p)
    let stop := match i.stopAt with | some x => min x m | none => m
    let upto := ceilDiv stop p
    let done := if b then i.outB else i.outA
    (List.range (upto - from')).map fun q =>
      { tapB := b, centre := (from' + q) * p, samp := { miss := true }, settling := done + q < k, decim := p
        newRate := !b && i.newRate && done + q == 0 }

/-- Whether an instance leaves no tap A output behind at a drain. -/
def ChainInst.mute (i : ChainInst) (m last : Nat) : Bool := i.outA = 0 && (i.owed m last false).isEmpty

/-- Every tap A output of the instances, in turn, at a drain; `rate` says that one before them changed the rate and delivered nothing (R15). -/
def owedInTurn (m last : Nat) : Bool → List ChainInst → List ChainOut
  | _, [] => []
  | rate, i :: rest =>
    let os := i.held ++ i.owed m last false
    let os := if rate && i.outA = i.held.length then (match os with | o :: t => { o with newRate := true } :: t | [] => []) else os
    os ++ owedInTurn m last ((rate || i.newRate) && i.mute m last) rest

/-- A chain is drained at first missing tick `m` (R39, R232): each instance in turn delivers what it owes. What is left is the
newest, its rate still new when nothing came of it or of one before it; of a chain whose record was removed, nothing is left (R215). -/
def Chain.drain (c : Chain) (m last : Nat) : Chain × List ChainOut :=
  let outs := (c.insts.flatMap fun i => i.owed m last true) ++ owedInTurn m last false c.insts
  let new := (c.insts.reverse.takeWhile fun i => i.mute m last).any (·.newRate)
  let left := (c.insts.getLast?.filter fun i => i.stopAt.isNone).toList.map fun i =>
    { i with hist := [], held := [], outA := 0, outB := 0, newRate := new }
  ({ c with insts := left, drained := !left.isEmpty }, outs)

/-- The grids a drain leaves undelivered (R36): the starts and decimations of instances with a new rate that have not begun, nor any after
them. -/
def Chain.pendingGrids (c : Chain) (m last : Nat) : List (Nat × Nat) :=
  ((c.insts.reverse.takeWhile fun i => i.mute m last).reverse.filter (·.newRate)).map fun i => (i.first, decimOf i.cfg)

/-- A chain's slots go on in the grid of decimation `d` from tick `b` on, its counter from 0 (R15). -/
def Chain.renumber (c : Chain) (b d : Nat) : Chain :=
  { c with next := ceilDiv b (max 1 d), decim := d, ctr := 0, restart := true
           insts := c.insts.map fun i => { i with newRate := false } }

/-- A detector starts disarmed (R234); a holdoff that runs goes on, since it counts every slot (R235). -/
def Detector.disarm (d : Detector) : Detector := { d with armed := false }

/-- A drained chain restarts at its first accepted tick (R40, R231, R232): the slots up to its first output have counted (R14). -/
def Chain.restartAt (c : Chain) (f : Nat) : Chain :=
  let slot := max c.next (ceilDiv f (max 1 c.decim))
  { c with drained := false, insts := (c.insts.getLast?.map (fun i => ChainInst.start i.cfg f)).toList
           next := slot, ctr := c.ctr + (slot - c.next), gap := none, det0 := c.det0.disarm, det1 := c.det1.disarm }

/-! ## Detectors (R233 to R235) -/

/-- Settings of detector `d` in bytes 20–43 of a record: level, hysteresis, holdoff, direction, enable. -/
def detSettings (thr : List Byte) (d : Nat) : Int × Nat × Nat × Nat × Bool :=
  let o := 12 * d
  (sleAt thr o 4, leAt thr (o + 4) 4 % 2 ^ 31, leAt thr (o + 8) 2, byteAt thr (o + 10) % 4, bit (byteAt thr (o + 10)) 7)

/-- One word at a detector: whether it fires, and the detector after it. -/
def Detector.step (d : Detector) (set : Int × Nat × Nat × Nat × Bool) (usable : Bool) (v : Int) : Detector × Bool :=
  let (level, hyst, holdoff, dir, en) := set
  let hold := d.hold - 1
  if !usable || !en then ({ d with hold := hold }, false)
  else
    let past := if dir = 0 then decide (level ≤ v) else if dir = 1 then decide (v ≤ level) else decide (level ≤ (v.natAbs : Int))
    let back := if dir = 0 then decide (v < level - hyst) else if dir = 1 then decide (level + hyst < v)
      else decide ((v.natAbs : Int) < level - hyst)
    if d.armed && past && d.hold = 0 then ({ armed := false, hold := holdoff }, true)
    else ({ armed := d.armed || back, hold := hold }, false)

end Sys2Proof.Machine
end

