-- ==== Sys2Proof/Machine/Trig.lean ====
section
/-! DEFINITION. Trigger units and capture engines (R332 to R361): events offered, taken and judged in stamp order, fires, the
rings, records cut around a fire stamp, segmented fall-back and masks. Times are full hub time in 1/65,536 ns. -/

namespace Sys2Proof.Machine

/-! ## Times -/

/-- Hub time in 1/65,536 ns. -/
def State.sub (s : State) : Int := ((s.time.now * 65536 / unitsPerNs : Nat) : Int)

/-- A stamp word extended to the full time nearest hub time (R21). -/
def State.extend (s : State) (w : Nat) : Int :=
  let base := s.sub
  let m : Int := 2 ^ 48
  let d := ((w : Int) - base) % m
  base + (if d < 2 ^ 47 then d else d - m)

/-- A `CORE` cycle of hub time in 1/65,536 ns: an arrival in the cycle of a limit is in time. -/
def State.cycleSub (s : State) : Int := ((s.time.increment * 65536 / unitsPerNs : Nat) : Int)

/-- The stamp word of a full time. -/
def stampOfSub (t : Int) : Word48 := BitVec.ofNat 48 (t % (2 ^ 48 : Int)).toNat

/-- 1/65,536 ns in a ns, a µs. -/
def subNs (n : Nat) : Int := ((n * 65536 : Nat) : Int)
def subUs (n : Nat) : Int := subNs (n * 1000)

/-! ## TRIGGER_NET (R362, R363) -/

def State.netBody (s : State) : List Byte := s.body 0x06
def State.swarmMaster (s : State) : Bool := bit (byteAt s.netBody 0) 0
def State.swarmEn (s : State) : Bool := bit (byteAt s.netBody 0) 1
/-- `SWARM_LAT`, µs. -/
def State.swarmLat (s : State) : Nat := orDefault (leAt s.netBody 4 4) 1000
def State.toutW (s : State) (ball : Nat) : Nat := leAt s.netBody (8 + 2 * ball) 2
def unitRec (net : List Byte) (u : Nat) : List Byte := (net.drop (32 + 48 * u)).take 48
def engineRec (net : List Byte) (e : Nat) : List Byte := (net.drop (800 + 64 * e)).take 64
def State.unitRec (s : State) (u : Nat) : List Byte := Machine.unitRec s.netBody u
def State.engineRec (s : State) (e : Nat) : List Byte := Machine.engineRec s.netBody e
def unitOn (r : List Byte) : Bool := byteAt r 0 == 1
/-- The ranges of source IDs of a unit record (R335). -/
def unitRanges (r : List Byte) : List (Nat × Nat) :=
  (List.range (byteAt r 7)).map fun i => (leAt r (8 + 4 * i) 2, leAt r (10 + 4 * i) 2)
def unitHas (r : List Byte) (src : Nat) : Bool := (unitRanges r).any fun x => x.1 ≤ src && src ≤ x.2
def engOn (r : List Byte) : Bool := bit (byteAt r 0) 0
def engFlag (r : List Byte) (i : Nat) : Bool := bit (byteAt r 0) i
def engNch (r : List Byte) : Nat := leAt r 2 2
def engFirst (r : List Byte) : Nat := leAt r 4 2
def engPre (r : List Byte) : Nat := leAt r 8 4
def engPost (r : List Byte) : Nat := leAt r 12 4
def engRing (r : List Byte) : Nat := leAt r 16 4
def engMergeWin (r : List Byte) : Nat := leAt r 20 2
def engSegLen (r : List Byte) : Nat := leAt r 22 2
def engSegPre (r : List Byte) : Nat := leAt r 24 2
def engSegQuiet (r : List Byte) : Nat := orDefault (leAt r 26 2) 10
def engMaskLen (r : List Byte) : Nat := leAt r 28 2
/-- Bytes of the envelopes of engines before `e`. -/
def maskOffset (net : List Byte) (e : Nat) : Nat :=
  1312 + ((List.range e).map fun i => let r := engineRec net i; if engFlag r 4 then 8 * engMaskLen r else 0).sum
/-- The upper and lower point i of an engine's envelope (R353, R362). -/
def maskPoint (net : List Byte) (e i : Nat) : Int × Int :=
  (sleAt net (maskOffset net e + 8 * i) 4, sleAt net (maskOffset net e + 8 * i + 4) 4)
/-- Detector settings of a local channel, as bytes 20–43 of a chain record lay them out (R333, R363). -/
def State.localThr (s : State) (k : Nat) : List Byte :=
  let o := maskOffset s.netBody 8 + 32 * k
  (s.netBody.drop o).take 12 ++ (s.netBody.drop (o + 16)).take 12

/-! ## Slots of an engine (R340) -/

/-- The slot period in ns of a logical channel. -/
def State.slotPeriod (s : State) (ch : Nat) : Nat :=
  if ch < 768 then 1250 * s.chainDecim ch else s.slotStep ch

/-- The first slot of a channel's grid whose nominal stamp is not earlier than a time. -/
def State.slotFrom (s : State) (ch : Nat) (t : Int) : Nat :=
  let p := subNs (s.slotPeriod ch)
  let o := s.slotTime ch 0
  if p = 0 then 0 else ((t - o + p - 1) / p).toNat

def engWord (r : List Byte) : Nat := if engFirst r < 768 then 6 else 12
/-- T_COPY in ns (R341). -/
def copyNs (slots nch w : Nat) : Nat := ceilDiv (slots * nch * w) 16 * 5

/-! ## Latency bounds and horizons (R332, R336) -/

/-- δ of a pod lane: the group delay its pod has declared. DESIGN CHOICE (log entry 156): the most R156 allows for a pod that has declared
none yet. -/
def State.declaredDelay (s : State) (p : Nat) : Int :=
  if (s.pod p).caps.isEmpty then subNs 1_000_000 else leAt (s.pod p).caps 2 6

/-- λ of the words of a channel: the tap A bound of R228, or the local bound of R332 with the window as T_mains is now. -/
def State.wordLambda (s : State) (ch : Nat) : Int :=
  if ch < 768 then
    let st := stagesOf (((s.chainRec ch).getD []).drop 4)
    s.declaredDelay (ch / 32) + subNs (groupDelayAt st st.length * 1250 + s.lagNs (ch / 32) + 5000)
  else
    let f := (s.local' (ch - 768)).fe
    subNs (s.field.windowNs f f.nplc s.ns / 2 + 1_000_000)

/-- λ of a source ID; `matchLam` is the bound of R322 for a program. -/
def State.lambda (s : State) (matchLam : Nat → Int) (src : Nat) : Int :=
  if src < 0x600 then s.wordLambda (src / 2)
  else if src < 0x640 then s.wordLambda (768 + (src - 0x600) / 2)
  else if src < 0x1000 then matchLam ((src - 0x800) / 256)
  else if src < 0x1008 then
    let r := s.engineRec (src - 0x1000)
    subNs (engPost r * s.slotPeriod (engFirst r) + 2000)
      + ((List.range (engNch r)).map fun i => s.wordLambda (engFirst r + i)).foldl max 0
  else if src = 0x1020 then subUs s.swarmLat
  else subUs 1

/-- The source IDs of a unit that exist: they bound its horizon. -/
def sourceUsed (src : Nat) : Bool :=
  src < 0x640 || (0x800 ≤ src && src < 0x1000) || (0x1000 ≤ src && src < 0x1008) || src == 0x1010 || src == 0x1011
    || src == 0x1020 || src == 0x1021 || (0x1040 ≤ src && src < 0x1080)

/-- H_u of a unit record, as a load computes it (R336). -/
def State.horizonOf (s : State) (ml : Nat → Int) (r : List Byte) : Int :=
  ((unitRanges r).flatMap fun x => (List.range (x.2 + 1 - x.1)).map fun i => s.lambda ml (x.1 + i)).foldl max 0 + subUs 2

/-! ## State of units and engines -/

def State.tunit (s : State) (u : Nat) : TrigUnit := Tab.get (fun _ => {}) s.trig.units u
def State.updUnit (s : State) (u : Nat) (f : TrigUnit → TrigUnit) : State :=
  { s with trig := { s.trig with units := Tab.upd (fun _ => {}) s.trig.units u f } }
def State.engine (s : State) (e : Nat) : Engine := Tab.get (fun _ => {}) s.trig.engines e
def State.updEngine (s : State) (e : Nat) (f : Engine → Engine) : State :=
  { s with trig := { s.trig with engines := Tab.upd (fun _ => {}) s.trig.engines e f } }

/-- Register addresses of the block (R364). -/
def tuReg (u o : Nat) : Nat := 0x0007_0100 + 0x40 * u + o
def ceReg (e o : Nat) : Nat := 0x0007_0800 + 0x80 * e + o

/-! ## Events to the units -/

/-- A source sends the units an event (R332): it is on its way until it arrives. -/
def State.trigSend (s : State) (src : Nat) (t : Int) (chan : Option Nat := none) : State :=
  { s with trig := { s.trig with transit := s.trig.transit ++ [{ t, src, chan }] } }

/-- Stamp order, equal stamps by source ID (R337). -/
def TrigEvent.le (a b : TrigEvent) : Bool := a.t < b.t || (a.t == b.t && a.src ≤ b.src)
def insertEvent (e : TrigEvent) : List TrigEvent → List TrigEvent
  | [] => [e]
  | x :: xs => if TrigEvent.le x e then x :: insertEvent e xs else e :: x :: xs

/-- An event reaches the units: each unit that has the source queues it, or discards it as late (R337). -/
def State.trigArrive (s : State) (e : TrigEvent) : State :=
  (List.range 16).foldl (fun s u =>
    let r := s.unitRec u
    if unitOn r && unitHas r e.src then
      if e.t + (s.tunit u).horizon + s.cycleSub ≤ s.sub then s.bump (tuReg u 0x1C)
      else s.updUnit u fun x => { x with queue := insertEvent e x.queue }
    else s) s

/-! ## Engines -/

/-- H_e of R341, of the units that drive an engine; `hu` is H_u of a unit. -/
def State.engHorizon (s : State) (hu : Nat → Int) (e : Nat) : Int :=
  ((List.range 16).map fun u =>
    let r := s.unitRec u
    if unitOn r && bit (leAt r 4 2) e then hu u + subUs (leAt r 2 2) else 0).foldl max 0

/-- A_e of R342. -/
def State.allowance (s : State) (e : Nat) : Int :=
  let r := s.engineRec e
  subNs ((engRing r - engPre r - engPost r - 16) * s.slotPeriod (engFirst r)
    - copyNs (engPre r + engPost r) (engNch r) (engWord r))

/-- Where the word of a slot and channel index lies in an engine's ring region, and its bytes. -/
def ringPlace (r : List Byte) (slot i : Nat) : Nat := (slot % max 1 (engRing r) * engNch r + i) * engWord r
def State.ringRegion (s : State) (e : Nat) : Option Region := s.region 0x02 e

/-- A word of an engine's channel enters the ring (R341, R349). -/
def State.ringWord (s : State) (ch : Nat) (w : SlotWord) : State :=
  (List.range 8).foldl (fun s e =>
    let r := s.engineRec e
    if engOn r && engFirst r ≤ ch && ch < engFirst r + engNch r then
      let g := s.engine e
      if g.ringStopped then s
      else if g.copies.any (fun c => c.2.1 + engRing r ≤ w.slot) then
        s.updEngine e fun g => { g with ringStopped := true, copyWait := true }
      else
        let i := ch - engFirst r
        let top := max (g.newest.getD w.slot) w.slot
        let ring := if g.ring.any (fun x => x.slot == w.slot) then
            g.ring.map fun x => if x.slot = w.slot then { x with words := x.words ++ [(i, w)] } else x
          else { slot := w.slot, words := [(i, w)] } :: g.ring
        (s.unitWrite 1 (s.ringRegion e) (ringPlace r w.slot i) (engWord r)).updEngine e fun g =>
          { g with newest := some top, ring := ring.filter fun x => top < x.slot + engRing r }
    else s) s

/-- An arm in the order of the times. -/
def insertArm (a : EngineArm) : List EngineArm → List EngineArm
  | [] => [a]
  | x :: xs => if x.time ≤ a.time then x :: insertArm a xs else a :: x :: xs

/-- Whether an engine counts as armed for a fire stamp: its arm time is at or before it (R343, R344). -/
def Engine.armedFor (g : Engine) (t : Int) : Bool :=
  (g.armed && g.armAt ≤ t) || g.arms.any fun a => a.time ≤ t

/-- The ready time t_r: PRE slots after the first fresh slot, and not before the arm time (R348). -/
def State.readyTime (s : State) (e : Nat) : Int :=
  let r := s.engineRec e
  let g := s.engine e
  let ch := engFirst r
  let n := s.slotFrom ch g.fill
  let arm := if g.armed then g.armAt else (g.arms.head?).elim g.armAt (·.time)
  if engPre r = 0 then arm else max arm (s.slotTime ch (n + engPre r))

/-- Starts collecting a record or segment on a fire. A set arm that has brought the fire in is spent. -/
def State.collect (s : State) (e : Nat) (f : Fire) (dead : Nat) : State :=
  let r := s.engineRec e
  s.updEngine e fun g =>
    { g with
      coll := some { fire := f.stamp, trig := s.slotFrom (engFirst r) f.stamp, latency := f.latency, kind := f.kind, num := f.num, dead
                     copyWait := g.copyWait }
      arms := if g.seg then g.arms else g.arms.filter fun a => s.sub < a.time
      lastFire := stampOfSub f.stamp
      dead := if g.seg then g.dead else dead
      copyWait := if g.seg then g.copyWait else false
      segReady := false }

def satCount (n : Nat) : Nat := min 0xFFFF_FFFF (n + 1)
def State.ignoreBusy (s : State) (e : Nat) : State :=
  (s.updEngine e fun g => { g with ignBusy := satCount g.ignBusy }).bump (ceReg e 0x38)
def State.ignorePre (s : State) (e : Nat) (t : Int) : State :=
  (s.updEngine e fun g => { g with
    ignPre := satCount g.ignPre, ignPreFirst := if g.ignPre = 0 then stampOfSub t else g.ignPreFirst }).bump (ceReg e 0x34)
def State.missFire (s : State) (e : Nat) (t : Int) : State :=
  (s.updEngine e fun g => { g with
    missed := satCount g.missed, missedFirst := if g.missed = 0 then stampOfSub t else g.missedFirst }).bump (ceReg e 0x3C)

/-- The place of a slot that may lie before the first of its grid, and its nominal stamp time. -/
def State.placeOf (s : State) (ch : Nat) (slot : Int) : Nat :=
  (((s.slotPlace ch 0 : Nat) : Int) + slot * (s.slotStep ch : Nat)).toNat
def State.timeOf (s : State) (ch : Nat) (slot : Int) : Int := s.placeTime ch (s.placeOf ch slot)

/-- The first slot of a record that has `pre` slots before its trigger slot. -/
def Collect.first (c : Collect) (pre : Nat) : Int := (c.trig : Int) - pre

/-- The end of a segment being collected, as a stamp (R351). -/
def State.segmentEnd (s : State) (e : Nat) (c : Collect) : Int :=
  let r := s.engineRec e
  s.timeOf (engFirst r) (c.first (engSegPre r) + engSegLen r)

/-- A fire while an engine collects: it merges within `MERGE_WIN`, realigning to an earlier stamp; in segmented mode one stamped at or
after the re-arm time waits for its own segment (R346, R351). -/
def State.mergeFire (s : State) (e : Nat) (c : Collect) (f : Fire) : State :=
  let r := s.engineRec e
  let w := subUs (engMergeWin r)
  if (s.engine e).seg && s.segmentEnd e c + subUs 1 ≤ f.stamp then
    s.updEngine e fun g => { g with segWait := g.segWait ++ [f] }
  else if c.fire - w ≤ f.stamp && f.stamp < c.fire + w then
    let c' := if f.stamp < c.fire then { c with fire := f.stamp, trig := s.slotFrom (engFirst r) f.stamp, latency := f.latency } else c
    (s.updEngine e fun g =>
      { g with coll := some { c' with merges := min 0xFFFF (c.merges + 1) }, lastFire := stampOfSub c'.fire }).bump (ceReg e 0x40)
  else if (s.engine e).seg then s.missFire e f.stamp
  else s.ignoreBusy e

/-- PRE fresh slots precede the trigger slot of a fire stamp (R344). -/
def State.freshBefore (s : State) (e : Nat) (t : Int) : Bool :=
  let r := s.engineRec e
  let trig := s.slotFrom (engFirst r) t
  engPre r = 0 || (engPre r ≤ trig && (s.engine e).fill ≤ s.slotTime (engFirst r) (trig - engPre r))

/-- A fire judged by the engine's state (R344, R346, R349 to R351, R354). -/
def State.judgeFire (s : State) (e : Nat) (f : Fire) : State :=
  let r := s.engineRec e
  let g := s.engine e
  let t := f.stamp
  if g.maskStopped || g.ringStopped then s.ignoreBusy e
  else
    match g.coll with
    | some c => s.mergeFire e c f
    | none =>
      if g.seg then
        if t < g.segEnd + subUs 1 then s.missFire e t else s.collect e f 0
      else if g.armedFor t && s.freshBefore e t then
        s.collect e f (match g.lastEnd with | some tc => min 0xFFFF_FFFF ((s.readyTime e - tc) / 65536).toNat | none => 0)
      else
        let inDead := match g.lastEnd with
          | some tc => decide (tc ≤ t) && (decide (t < s.readyTime e) || !(g.armed || !g.arms.isEmpty))
          | none => false
        if engFlag r 2 && inDead then
          (s.updEngine e fun g => { g with seg := true, segNum := 0, segEnd := t - subUs 1, segFires := [] }).collect e f 0
        else if g.armedFor t then s.ignorePre e t
        else s.ignoreBusy e

/-- A fire reaches a capture engine; in segmented mode its stamp counts towards `SEG_QUIET` whatever becomes of it (R352). -/
def State.fireAt (s : State) (e : Nat) (f : Fire) : State :=
  if !engOn (s.engineRec e) then s
  else
    let s := s.judgeFire e f
    s.updEngine e fun g => if g.seg then { g with segFires := g.segFires ++ [f.stamp] } else g

/-- A fire reaches an engine now. -/
def State.fireEngine (s : State) (e : Nat) (t : Int) (kind num : Nat) : State :=
  s.fireAt e { stamp := t, kind, num, latency := s.sub - t }

/-! ## Records (R347, R353, R359 to R361) -/

/-- The `ABSENT` word of a slot on a channel's grid. -/
def State.slotHolder (s : State) (ch : Nat) (slot : Int) : SlotWord := s.placeholder ch (s.placeOf ch slot) none

/-- The word of a ring slot for a channel index, `ABSENT` where none is held (R41). -/
def State.ringRead (s : State) (e : Nat) (slot i : Nat) : SlotWord :=
  let g := s.engine e
  let r := s.engineRec e
  match (g.ring.find? (fun x => x.slot == slot)).bind (fun x => (x.words.find? (fun w => w.1 == i)).map (·.2)) with
  | some w =>
    -- what poisoned words leave of it (R371, R372)
    let zs := s.poisoned (s.ringRegion e) (ringPlace r slot i) (engWord r)
    let o := ringPlace r slot i % 8
    if zs.isEmpty then w
    else
      { w with
        word := if strikes zs o 6 then sampleWord 0 0 { absent := true } (w.word.toNat % 16) else w.word
        stamp := if engWord r = 12 && strikes zs (o + 6) 6 then w.nominal else w.stamp }
  | none => s.slotHolder (engFirst r + i) slot

/-- `CAPTURE` reads a record's slots from the ring as it copies them (R371, R378). -/
def State.ringCopy (s : State) (e : Nat) (first : Int) (n : Nat) : State :=
  let r := s.engineRec e
  (List.range n).foldl (fun s j =>
    if first + j < 0 then s else s.unitRead 1 (s.ringRegion e) (ringPlace r (first + j).toNat 0) (engNch r * engWord r)) s

/-- How many pre slots are no longer held (R347). -/
def State.preLost (s : State) (e : Nat) (c : Collect) (pre : Nat) : Nat :=
  let r := s.engineRec e
  let a := s.allowance e
  let lam := c.latency
  let p := subNs (s.slotPeriod (engFirst r))
  if a < lam && p != 0 then min pre (((lam - a) + p - 1) / p).toNat else 0

/-- The slots of a record from `first` on, `n` of them; the first `lost` are `ABSENT`, as are those before the grid's first. -/
def State.recordItems (s : State) (e : Nat) (first : Int) (n lost : Nat) : List (List SlotWord) :=
  let r := s.engineRec e
  (List.range n).map fun j =>
    (List.range (engNch r)).map fun i =>
      if j < lost || first + j < 0 then s.slotHolder (engFirst r + i) (first + j) else s.ringRead e (first + j).toNat i

/-- The first word that violates the mask: point, channel index and the word (R353). -/
def State.maskFirst (s : State) (e : Nat) (post : List (List SlotWord)) : Option (Nat × Nat × SlotWord) :=
  let r := s.engineRec e
  let mch := leAt r 6 2
  ((post.take (engMaskLen r)).zip (List.range (engMaskLen r))).findSome? fun it =>
    let (hi, lo) := maskPoint s.netBody e it.2
    (it.1.zip (List.range it.1.length)).findSome? fun w =>
      if (mch = 0xFFFF || mch = w.2) && !wAbsent w.1.word && (hi < wValue w.1.word || wValue w.1.word < lo) then
        some (it.2, w.2, w.1)
      else none

/-- The parts of a closed record (R359 to R361). -/
def State.capParts (s : State) (e typ pre post : Nat) (c : Collect) (items : List (List SlotWord)) (lost : Nat)
    (mask : Option (Nat × Nat × SlotWord)) (tw : Nat) : List Record :=
  let r := s.engineRec e
  let g := s.engine e
  let nch := engNch r
  let fmt := if engFirst r < 768 then 0 else 1
  let per := max 1 (32768 / (nch * engWord r))
  let parts := chunks per items.length items
  let sub (k : Nat) : List Byte :=
    toLE 1 e ++ toLE 1 c.kind ++ toLE 2 c.num ++ toLE 6 (stampOfSub c.fire).toNat ++ toLE 2 c.merges ++ toLE 4 pre
      ++ toLE 4 post ++ toLE 2 nch ++ toLE 2 k ++ toLE 2 parts.length
      ++ toLE 2 (mask.elim 0xFFFF (·.2.1)) ++ toLE 4 (mask.elim 0xFFFF_FFFF (·.1)) ++ toLE 4 lost
      ++ toLE 4 (min 0xFFFF_FFFF (c.latency / 65536).toNat) ++ toLE 4 g.ignPre ++ toLE 6 g.ignPreFirst.toNat ++ toLE 2 s.trig.swarmSeq
      ++ toLE 4 g.missed ++ toLE 6 g.missedFirst.toNat ++ toLE 2 0 ++ toLE 8 s.trig.armedMask ++ toLE 4 g.ignBusy ++ toLE 4 0
  let chans := (List.range nch).flatMap (fun i => toLE 2 (engFirst r + i))
  let chans := chans ++ List.replicate (padTo8 chans.length - chans.length) 0
  let flags := (if typ = 3 then 8 * bnat (c.dead == 0xFFFF_FFFF) + 32 * bnat mask.isSome + 128 * bnat c.copyWait else 0)
    + 16 * bnat (lost != 0) + 64 * bnat (c.kind == 2)
  (parts.zip (List.range parts.length)).map fun pk =>
    { typ := typ, stream := 0, rseq := 0, stamp := ((pk.1.head?.bind (·.head?)).map (·.nominal)).getD 0,
      rate := if engFirst r < 768 then rateCode (s.slotPeriod (engFirst r) / 1250) else 0xFE,
      hflags := flags + bnat (pk.1.any (fun it => it.any (fun w => wSuspect w.word))),
      items := pk.1.length, fmt := fmt, typeWord := tw, hub := 0,
      payload := sub pk.2 ++ chans ++ pk.1.flatMap (itemBytes fmt), seqs := itemSeqs (pk.1.headD [])
      lead := 80 + chans.length, step := s.slotStep (engFirst r) }

/-- The stream bound to an engine (R348, R529). -/
def State.engineRoute (s : State) (e : Nat) : Option Route := s.routes.find? (fun r => r.kind == 2 && r.source == e)

/-- A closed record waits for its copy to the stream's buffer, after those before it (R348). -/
def State.startCopy (s : State) (e first slots : Nat) (parts : List Record) : State :=
  let r := s.engineRec e
  s.updEngine e fun g =>
    { g with
      copies := g.copies ++ [(parts, first, max s.time.cyc ((g.copies.getLast?).elim 0 (·.2.2)) + copyNs slots (engNch r) (engWord r) * 4 / 5)]
      coll := none, ignPre := 0, ignPreFirst := 0, missed := 0, missedFirst := 0, ignBusy := 0 }

/-- A `CAPTURE` record closes (R348, R353, R354): built, mask tested, copying, and re-arm set when `REARM` is 1. `upto` cuts
off slots stamped from a time on as `ABSENT` (R645, R647). -/
def State.closeCapture (s : State) (e : Nat) : State :=
  let r := s.engineRec e
  match (s.engine e).coll with
  | none => s
  | some c =>
    let pre := engPre r
    let n := pre + engPost r
    let first := c.first pre
    let lost := s.preLost e c pre
    let items := s.recordItems e first n lost
    let mask := if engFlag r 4 then s.maskFirst e (items.drop pre) else none
    let parts := s.capParts e 3 pre (engPost r) c items lost mask c.dead
    let tc := s.timeOf (engFirst r) (first + n)
    let s := (s.ringCopy e first n).startCopy e first.toNat n parts
    let s := s.updEngine e fun g =>
      { g with
        lastEnd := some tc, fill := tc, armed := false
        arms := if engFlag r 1 && mask.isNone then
            insertArm { time := tc + subNs (copyNs n (engNch r) (engWord r)), source := .rearm } g.arms
          else g.arms
        maskStopped := mask.isSome }
    let s := s.bump (ceReg e 0x2C)
    let s := if lost = 0 then s else s.bump (ceReg e 0x44)
    match mask with
    | none => s
    | some m =>
      let s := (s.raise 0x0702 e).bump (ceReg e 0x48)
      s.trigSend (0x1000 + e) (s.extend m.2.2.stamp.toNat)

/-- A segment closes (R351). -/
def State.closeSegment (s : State) (e : Nat) : State :=
  let r := s.engineRec e
  match (s.engine e).coll with
  | none => s
  | some c =>
    let pre := engSegPre r
    let n := engSegLen r
    let first := c.first pre
    let lost := s.preLost e c pre
    let items := s.recordItems e first n lost
    let parts := s.capParts e 4 pre (n - pre) c items lost none (s.engine e).segNum
    let s := (s.ringCopy e first n).startCopy e first.toNat n parts
    let next := (s.engine e).segWait
    let stop := s.timeOf (engFirst r) (first + n)
    let s := s.updEngine e fun g =>
      { g with segNum := g.segNum + 1, segEnd := stop, segWait := [], segFires := g.segFires.filter (stop ≤ ·) }
    let s := s.bump (ceReg e 0x30)
    let s := if lost = 0 then s else s.bump (ceReg e 0x44)
    next.foldl (fun s f => s.judgeFire e f) s

/-- A record being collected closes with what its ring holds: slots not written are `ABSENT` (R41, R345). -/
def State.cutRecord (s : State) (e : Nat) : State :=
  if (s.engine e).coll.isNone then s else if (s.engine e).seg then s.closeSegment e else s.closeCapture e

/-- An engine's ring without the slots before a place, which are on another grid: no write on the new grid overtakes a copy of them. -/
def Engine.anew (g : Engine) (place : Nat) (fill : Int) : Engine :=
  let ring := g.ring.filter fun x => x.words.all fun w => place ≤ w.2.place
  { g with ring := ring, newest := (ring.map (·.slot)).max?, fill := max g.fill fill
           copies := g.copies.map fun c => (c.1, 2 ^ 64, c.2.2) }

/-- A channel's grid moves: from a place on its slots are numbered anew. DESIGN CHOICE (log entry 129): an engine that captures it closes a
record under way, and fills its ring from there. -/
def State.ringAnew (s : State) (ch place : Nat) (fill : Int) : State :=
  (List.range 8).foldl (fun s e =>
    let r := s.engineRec e
    if engOn r && engFirst r ≤ ch && ch < engFirst r + engNch r then (s.cutRecord e).updEngine e fun g => g.anew place fill
    else s) s

/-- Whether the last slot a collection needs is written (R348, R351): every channel's word is in, or can no longer come. -/
def State.collectDone (s : State) (e : Nat) : Bool :=
  let r := s.engineRec e
  let g := s.engine e
  match g.coll with
  | none => false
  | some c =>
    let last := (if g.seg then c.first (engSegPre r) + engSegLen r else c.first (engPre r) + (engPre r + engPost r : Nat)) - 1
    let t := s.timeOf (engFirst r) last
    let late := ((List.range (engNch r)).map fun i => s.wordLambda (engFirst r + i)).foldl max 0
    let held := g.ring.any fun x => (x.slot : Int) == last && engNch r ≤ x.words.length
    decide (t ≤ s.sub) && (held || decide (t + late ≤ s.sub))

/-- A copy completes when its time has come and the stream's buffer takes the record (R348, R349). -/
def State.copyDone (s : State) (e : Nat) : State :=
  match (s.engine e).copies with
  | [] => s
  | (parts, _, at') :: rest =>
    if s.time.cyc < at' then s
    else
      match s.engineRoute e with
      | none => s.updEngine e fun g => { g with copies := rest }
      | some r =>
        if (s.stream r.id).st = 1 && !s.bufTakes r ((parts.map Record.size).sum) then
          s.updEngine e fun g => g
        else
          let s := parts.foldl (fun s x => s.emit r x) s
          s.updEngine e fun g =>
            { g with
              copies := rest
              ringStopped := false
              fill := if g.ringStopped then max g.fill s.sub else g.fill }

/-! ## Fires of a unit (R338, R339) -/

/-- Pulses `TRIG_OUT0` or `TRIG_OUT1`; a pulse under way is extended (R339). -/
def State.pulse (s : State) (ball : Nat) (us : Nat) : State :=
  let stop := s.time.cyc + us * cycPerUs
  if ball = 0 then { s with trig := { s.trig with out0 := some (max stop (s.trig.out0.getD 0)) } }
  else { s with trig := { s.trig with out1 := some (max stop (s.trig.out1.getD 0)) } }

/-- A message from an egress slot (R441) on every trunk lane in `ACTIVE` of the directions given (R432): lanes 24 and 25 lead
upstream, 26 and 27 downstream. -/
def State.sendTrunk (s : State) (up down : Bool) (slot : Nat) (m : List Byte) : State :=
  let one (s : State) (l : Nat) : State := if s.laneActive l then s.egress l slot m else s
  let s := if up then [24, 25].foldl one s else s
  if down then [26, 27].foldl one s else s

/-- A swarm message's key is noted as seen (R435). -/
def State.noteSeen (s : State) (kind a b : Nat) : State :=
  { s with time := { s.time with
      seen := (kind, a, b, s.time.cyc) :: s.time.seen.filter (fun k => s.time.cyc < k.2.2.2 + 1000 * cycPerMs) } }
def State.wasSeen (s : State) (kind a b : Nat) : Bool :=
  s.time.seen.any (fun k => k.1 == kind && k.2.1 == a && k.2.2.1 == b && s.time.cyc < k.2.2.2 + 1000 * cycPerMs)

/-- Originates a swarm `FIRE` (R358, R434, R435). -/
def State.swarmFireOut (s : State) (t : Int) (engines : Nat) : State :=
  let body := toLE 1 s.hubId ++ toLE 2 s.trig.fid ++ toLE 6 (stampOfSub t).toNat ++ toLE 1 engines
  let s := s.noteSeen 2 s.hubId s.trig.fid
  let s := { s with trig := { s.trig with fid := (s.trig.fid + 1) % 65536 } }
  (s.sendTrunk true true 1 (message 0x32 body)).bump 0x0007_0014

/-- A unit fires with a stamp (R339). -/
def State.fireUnit (s : State) (u : Nat) (t : Int) : State :=
  let r := s.unitRec u
  let out := leAt r 4 2
  let s := s.updUnit u fun x => { x with last := stampOfSub t }
  let s := (bitList 8 out).foldl (fun s e => s.fireEngine e t 0 u) s
  let s := if bit out 8 then s.pulse 0 (s.toutW 0) else s
  let s := if bit out 9 then s.pulse 1 (s.toutW 1) else s
  let s := if bit out 10 then s.swarmFireOut t (byteAt r 6) else s
  let s := if bit out 11 then s.raise 0x0701 u (stampWords (stampOfSub t)) else s
  s.bump (tuReg u 0x14)

/-- A unit takes its next event when H_u has passed since its stamp, and judges coincidence (R337, R338). -/
def State.takeEvent (s : State) (u : Nat) : State :=
  let r := s.unitRec u
  match (s.tunit u).queue with
  | [] => s
  | e :: rest =>
    if !unitOn r || s.sub < e.t + (s.tunit u).horizon then s
    else
      let s := s.updUnit u fun x => { x with queue := rest }
      if (match (s.tunit u).absorb with | some a => decide (e.t < a) | none => false) then s.bump (tuReg u 0x18)
      else
        let w := subUs (leAt r 2 2)
        let win := (insertEvent e (s.tunit u).taken).filter fun x => e.t - w < x.t && x.t ≤ e.t
        let srcs := (win.map (·.src)).dedup
        if byteAt r 1 ≤ srcs.length then
          let t := (win.map (·.t)).foldl min e.t
          let taken := (insertEvent e (s.tunit u).taken)
          let s := s.updUnit u fun x => { x with absorb := some (t + w), taken := taken.filter (fun x => t + w ≤ x.t) }
          let s := s.bumpBy (tuReg u 0x18) win.length
          s.fireUnit u t
        else s.updUnit u fun x => { x with taken := win }

end Sys2Proof.Machine
end

