-- ==== Sys2Proof/Machine/Spectral.lean ====
section
/-! DEFINITION. The arithmetic of the Comb programs: binary32 and binary64 rounding (R262, R305, R311, R312), the window ROM
(R303), twiddles and rotation factors (R304), the transform (R304) and the power iteration (R312). -/

namespace Sys2Proof.Machine

/-! ## Rounding to a binary format -/

/-- 2^k as a rational, k of either sign. -/
def pow2 (k : Int) : Rat := if 0 ≤ k then ((2 ^ k.toNat : Nat) : Rat) else 1 / ((2 ^ (-k).toNat : Nat) : Rat)

/-- floor(log2 q) of a positive rational. -/
def log2Rat (q : Rat) : Int :=
  let e : Int := (Nat.log2 q.num.natAbs : Int) - (Nat.log2 q.den : Int)
  if q < pow2 e then e - 1 else e

/-- Round to nearest even to `p` significant bits, with the least exponent `emin` of a unit (subnormals). -/
def roundBin (p : Nat) (emin : Int) (q : Rat) : Rat :=
  if q = 0 then 0
  else
    let a := if q < 0 then -q else q
    let u := max (log2Rat a - ((p : Int) - 1)) emin
    let r := ((roundRat (a * pow2 (-u)) : Int) : Rat) * pow2 u
    if q < 0 then -r else r

/-- binary32 and binary64 values of a rational. -/
def rnd32 (q : Rat) : Rat := roundBin 24 (-149) q
def rnd64 (q : Rat) : Rat := roundBin 53 (-1074) q

/-- The bit pattern of a rational rounded to binary32; past the range it is an infinity. -/
def bits32 (q : Rat) : Nat :=
  let v := rnd32 q
  if v = 0 then 0
  else
    let a := if v < 0 then -v else v
    let sign := if v < 0 then 2 ^ 31 else 0
    let e := log2Rat a
    if 127 < e then sign + 0x7F80_0000
    else if e < -126 then sign + (a * pow2 149).num.toNat
    else sign + (e + 127).toNat * 2 ^ 23 + ((a * pow2 (23 - e)).num.toNat - 2 ^ 23)

/-- +infinity. -/
def infBits : Nat := 0x7F80_0000

/-- Integer square root, from bit `k` down. -/
def isqrtFrom : Nat → Nat → Nat → Nat
  | 0, n, r => if (r + 1) * (r + 1) ≤ n then r + 1 else r
  | k + 1, n, r => let r' := r + 2 ^ (k + 1); isqrtFrom k n (if r' * r' ≤ n then r' else r)
def isqrt (n : Nat) : Nat := isqrtFrom (Nat.log2 n / 2 + 1) n 0

/-- The square root of a rational, correctly rounded to binary32. -/
def sqrt32 (q : Rat) : Rat :=
  if q ≤ 0 then 0
  else
    let e := (60 - log2Rat q / 2).toNat
    let x := q * pow2 (2 * e)
    let n := isqrt (x.num.toNat / x.den)
    let exact : Bool := ((n * n : Nat) : Rat) == x
    rnd32 (((2 * n + bnat (!exact) : Nat) : Rat) / pow2 (e + 1))

/-! ## Trigonometry at load -/

/-- π · 2^160, to the nearest integer below. -/
def piFix : Nat := 4591442807048218921384805199743311128454155024418

/-- Σ of alternating terms x^(2i)/(2i + j)! for a fixed-point x² (scale 2^160). -/
def seriesFrom (x2 : Nat) : Nat → Nat → Int → Int → Int
  | 0, _, _, acc => acc
  | f + 1, n, term, acc =>
    let t := -(term * x2 / ((2 ^ 160 : Nat) : Int)) / (((n + 1) * (n + 2) : Nat) : Int)
    seriesFrom x2 f (n + 2) t (acc + t)

/-- cos and sin of a fraction num / den of a full turn, as rationals good to 2^−140; exact at quarter turns. -/
def cosSinTurn (num den : Nat) : Rat × Rat :=
  let q := 4 * (num % den)
  let k := q / den
  let r := q % den
  let x := piFix * r / (2 * den)
  let x2 := x * x / 2 ^ 160
  let c := seriesFrom x2 60 0 ((2 ^ 160 : Nat) : Int) ((2 ^ 160 : Nat) : Int)
  let s := seriesFrom x2 60 1 (x : Int) (x : Int)
  let cq : Rat := if r = 0 then 1 else mkRat c (2 ^ 160)
  let sq : Rat := if r = 0 then 0 else mkRat s (2 ^ 160)
  if k = 0 then (cq, sq) else if k = 1 then (-sq, cq) else if k = 2 then (-cq, -sq) else (sq, -cq)

/-- Window ROM entry n of length N (R303). -/
def windowRom (w n len : Nat) : Int :=
  let c (k : Nat) : Rat := (cosSinTurn (k * n) len).1
  let v : Rat :=
    if w = 0 then 1 - 1 / 32768
    else if w = 1 then 1 / 2 - c 1 / 2
    else if w = 2 then
      21557895 / 100000000 - 41663158 / 100000000 * c 1 + 277263158 / 1000000000 * c 2
        - 83578947 / 1000000000 * c 3 + 6947368 / 1000000000 * c 4
    else 35875 / 100000 - 48829 / 100000 * c 1 + 14128 / 100000 * c 2 - 1168 / 100000 * c 3
  roundRat (v * 32768)

/-- e^(∓j2π num/den) in 2^−22, through binary64 (R304). -/
def twiddle (num den : Nat) : Int × Int :=
  let (c, s) := cosSinTurn num den
  (roundRat (rnd64 c * 4194304), roundRat (rnd64 (-s) * 4194304))
def rotation (num den : Nat) : Int × Int :=
  let (c, s) := cosSinTurn num den
  (roundRat (rnd64 c * 4194304), roundRat (rnd64 s * 4194304))

/-- A complex product in 2^−22, each part rounded once half to even. -/
def cmul22 (w b : Int × Int) : Int × Int :=
  (roundHalfEven (w.1 * b.1 - w.2 * b.2) 4194304, roundHalfEven (w.1 * b.2 + w.2 * b.1) 4194304)

/-- Every second element, from the first or from the second. -/
def evens : List α → List α
  | [] => []
  | [x] => [x]
  | x :: _ :: xs => x :: evens xs
def odds : List α → List α
  | [] => []
  | [_] => []
  | _ :: y :: xs => y :: odds xs

/-- The radix-2 decimation-in-time transform of 2^k values (R304): each butterfly rounds t = W · b once. -/
def fft : Nat → List (Int × Int) → List (Int × Int)
  | 0, xs => xs
  | k + 1, xs =>
    let e := fft k (evens xs)
    let o := fft k (odds xs)
    let ts := (o.zip (List.range o.length)).map fun bq => cmul22 (twiddle bq.2 (2 ^ (k + 1))) bq.1
    let ps := e.zip ts
    ps.map (fun p => (p.1.1 + p.2.1, p.1.2 + p.2.2)) ++ ps.map (fun p => (p.1.1 - p.2.1, p.1.2 - p.2.2))

/-- The history value of a missing entry, 0x80_0000 (R248). -/
def missingCode : Int := -8388608
/-- sat24. -/
def sat24 (v : Int) : Int := satTo (2 ^ 23 - 1) v

/-- The scaled spectrum of one channel's frame (R304) for the bins asked, each with whether it saturated. `rot` is the fraction of
a turn per bin of step 3. -/
def spectrum (nlog win shift : Nat) (bins : List Nat) (rot : Option (Nat × Nat)) (xs : List Int) : List (Int × Int × Bool) :=
  let n := 2 ^ nlog
  let u := (xs.zip (List.range n)).map fun xi => (roundHalfEven (xi.1 * windowRom win xi.2 n) 32768, (0 : Int))
  let x := fft nlog u
  bins.map fun i =>
    let v := x.getD i (0, 0)
    let v := match rot with
      | some (a, b) => cmul22 (rotation (i * a) b) v
      | none => v
    let re := roundHalfEven v.1 (2 ^ shift)
    let im := roundHalfEven v.2 (2 ^ shift)
    (sat24 re, sat24 im, sat24 re != re || sat24 im != im)

/-- `SCALE` (R305). -/
def specScale (nlog win shift : Nat) : Rat :=
  let n := 2 ^ nlog
  let e : Int := ((List.range n).map fun i => let w := windowRom win i n; w * w).sum
  pow2 (2 * shift + 1) * pow2 30 / ((n : Rat) * (e : Rat))

/-! ## The power iteration (R312), on binary32 values held as rationals -/

/-- A complex binary32 value. -/
abbrev C32 := Rat × Rat
def c32Add (a b : C32) : C32 := (rnd32 (a.1 + b.1), rnd32 (a.2 + b.2))
def c32Sub (a b : C32) : C32 := (rnd32 (a.1 - b.1), rnd32 (a.2 - b.2))
def c32Mul (a b : C32) : C32 := (rnd32 (a.1 * b.1 - a.2 * b.2), rnd32 (a.1 * b.2 + a.2 * b.1))
def c32Conj (a : C32) : C32 := (a.1, -a.2)
def c32Div (a : C32) (s : Rat) : C32 := (rnd32 (a.1 / s), rnd32 (a.2 / s))
/-- |a|² with each real operation rounded once. -/
def c32Sq (a : C32) : Rat := rnd32 (rnd32 (a.1 * a.1) + rnd32 (a.2 * a.2))
def c32Sum (xs : List C32) : C32 := match xs with | [] => (0, 0) | x :: r => r.foldl c32Add x
def r32Sum (xs : List Rat) : Rat := match xs with | [] => 0 | x :: r => r.foldl (fun a b => rnd32 (a + b)) x

/-- A matrix times a vector. -/
def matVec (a : List (List C32)) (v : List C32) : List C32 := a.map fun row => c32Sum ((row.zip v).map fun x => c32Mul x.1 x.2)

/-- The index of the largest of a list, the lowest on a tie. -/
def argMax : List Rat → Nat → Nat → Rat → Nat
  | [], _, best, _ => best
  | x :: xs, i, best, b => if b < x then argMax xs (i + 1) i x else argMax xs (i + 1) best b

/-- The inner loop: `iter` turns, leaving on a zero norm. -/
def powerLoop (a : List (List C32)) : Nat → List C32 → List C32 × Bool
  | 0, v => (v, false)
  | k + 1, v =>
    let y := matVec a v
    let n := sqrt32 (r32Sum (y.map c32Sq))
    if n = 0 then (v, true) else powerLoop a k (y.map fun x => c32Div x n)

/-- One singular pair, whether the norm vanished, and the deflated matrix. DEDUCED (log entry 128): a modulus is the rounded root of the
rounded sum of the two rounded squares, and `lam * v v^H` is the rounded product of `lam` and the rounded `v v^H`. -/
def singularPair (iter : Nat) (a : List (List C32)) : Rat × List C32 × Bool × List (List C32) :=
  let c := a.length
  let diag := (List.range c).map fun i => ((a.getD i []).getD i (0, 0)).1
  let i0 := argMax (diag.drop 1) 1 0 (diag.getD 0 0)
  let (v, zero) := powerLoop a iter ((List.range c).map fun i => if i = i0 then (1, 0) else (0, 0))
  let lam := (c32Sum ((v.zip (matVec a v)).map fun x => c32Mul (c32Conj x.1) x.2)).1
  let mods := v.map fun x => sqrt32 (c32Sq x)
  let m := argMax (mods.drop 1) 1 0 (mods.getD 0 0)
  let vm := v.getD m (0, 0)
  let mag := sqrt32 (c32Sq vm)
  let v := v.map fun x => if mag = 0 then x else c32Div (c32Mul x (c32Conj vm)) mag
  let a' := (a.zip v).map fun rv => (rv.1.zip v).map fun xw =>
    let p := c32Mul rv.2 (c32Conj xw.2)
    c32Sub xw.1 (rnd32 (lam * p.1), rnd32 (lam * p.2))
  (lam, v, zero, a')

/-- The first `k` pairs of a bin's matrix. -/
def singularPairs (iter : Nat) : Nat → List (List C32) → List (Rat × List C32) × Bool
  | 0, _ => ([], false)
  | k + 1, a =>
    let (lam, v, z, a') := singularPair iter a
    let (ps, z') := singularPairs iter k a'
    ((lam, v) :: ps, z || z')

end Sys2Proof.Machine
end

