-- ==== Sys2Proof/Machine/Comb.lean ====
section
/-! DEFINITION. The Comb fabric and its programs at work (R243 to R283, R289 to R323): program records, feeds and history, applied
delays, beam blocks, FFT frames, and template detection. -/

namespace Sys2Proof.Machine

/-! ## Program records (R289, R298, R301, R306, R315, R318) -/

def recProg (r : List Byte) : Nat := byteAt r 0
def recType (r : List Byte) : Nat := byteAt r 1
def recFirst (r : List Byte) : Nat := byteAt r 2
def recLast (r : List Byte) : Nat := byteAt r 3
def recFrames (r : List Byte) : Nat := recLast r + 1 - recFirst r

/-- Program records of a `COMB_PROG` body. -/
def parseProgs : Nat → List Byte → List (List Byte)
  | 0, _ => []
  | f + 1, b =>
    let n := leAt b 4 4
    if b.length < 64 || n = 0 then [] else b.take n :: parseProgs f (b.drop n)
def progsOf (body : List Byte) : List (List Byte) := parseProgs 9 body
def State.progRec (s : State) (p : Nat) : Option (List Byte) := (progsOf (s.body 0x07)).find? fun r => recProg r == p

/-- The slots of a program with a feed, in order of frame then slot: slot key (12 · frame + slot), feed, weight (R290, R307). -/
def recSlots (r : List Byte) : List (Nat × Nat × Int) :=
  (List.range (recFrames r)).flatMap fun f =>
    (List.range 12).filterMap fun j =>
      let ch := leAt r (64 + 48 * f + 2 * j) 2
      if ch = 0xFFFF then none else some (12 * (recFirst r + f) + j, ch, sleAt r (64 + 48 * f + 24 + 2 * j) 2)
def recFeeds (r : List Byte) : List Nat := (recSlots r).map (·.2.1)
def recTail (r : List Byte) : List Byte := r.drop (64 + 48 * recFrames r)

def srpG (r : List Byte) : Nat := leAt r 8 4
def srpFb (r : List Byte) : Nat := 25000 * 2 ^ byteAt r 12
def srpRb (r : List Byte) : Nat := 400000 / srpFb r
def srpShift (r : List Byte) : Nat := byteAt r 13
def srpRefDelay (r : List Byte) : Nat := leAt r 14 2
def srpTauMax (r : List Byte) : Nat := leAt r 16 2
def srpRows (r : List Byte) : Nat := leAt r 18 2
def srpOutputs (r : List Byte) : Nat := byteAt r 20

def specNlog (r : List Byte) : Nat := byteAt r 8
def specN (r : List Byte) : Nat := 2 ^ specNlog r
def specWindow (r : List Byte) : Nat := byteAt r 9
def specHop (r : List Byte) : Nat := if byteAt r 10 = 0 then specN r else if byteAt r 10 = 1 then specN r / 2 else specN r / 4
def specShift (r : List Byte) : Nat := byteAt r 11
def xsFirstBin (r : List Byte) : Nat := leAt r 12 2
def xsBins (r : List Byte) : Nat := leAt r 14 2
def xsOutputs (r : List Byte) : Nat := byteAt r 16
def xsK (r : List Byte) : Nat := byteAt r 17
def xsIter (r : List Byte) : Nat := byteAt r 18
def bandCount (r : List Byte) : Nat := byteAt r 12
def bandMode (r : List Byte) : Nat := byteAt r 13
def matchT (r : List Byte) : Nat := leAt r 8 2
def matchL (r : List Byte) : Nat := leAt r 10 2
def matchNorm (r : List Byte) : Bool := byteAt r 13 == 1
def matchWin (r : List Byte) : Nat := leAt r 14 2
def matchHold (r : List Byte) : Nat := leAt r 16 4
def matchTap (r : List Byte) (t k : Nat) : Int := sleAt (recTail r) (2 * (t * matchL r + k)) 2
def matchThr (r : List Byte) (t : Nat) : Nat := leAt (recTail r) (2 * matchT r * matchL r + 8 * t) 8

/-! ## CHANNEL_MAP (R275, R525) -/

def mapRecords (body : List Byte) : List (List Byte) := chunks 16 body.length body
def State.mapRec (s : State) (ch : Nat) : Option (List Byte) := (mapRecords (s.body 0x03)).find? fun r => leAt r 0 2 == ch
def State.foreignLag (s : State) (ch : Nat) : Nat := ((s.mapRec ch).map fun r => leAt r 8 4).getD 0

/-! ## Feeds (R252, R255) -/

/-- The tap B stages of a chain record from byte 4 on. -/
def tapbDecim (cfg : List Byte) : Nat := prodFactor (stagesOf cfg) (tapbOf cfg)

/-- T_h of a feed, ns. -/
def State.feedPeriod (s : State) (ch : Nat) : Nat :=
  if ch < 768 then 1250 * tapbDecim (((s.chainRec ch).getD []).drop 4)
  else if ch < 800 then (s.local' (ch - 768)).fe.slotNs s.field.nom60
  else 2500

/-- λ_f of a feed in 1/65,536 ns; a local channel's is the bound of R332. -/
def State.feedLag (s : State) (ch : Nat) : Int :=
  if ch < 768 then
    let cfg := ((s.chainRec ch).getD []).drop 4
    (s.pod (ch / 32)).gdelay + subNs (groupDelayAt (stagesOf cfg) (tapbOf cfg) * 1250 + s.lagNs (ch / 32) + 5000)
  else if ch < 800 then s.wordLambda ch
  else subNs (s.foreignLag ch + 20000)

/-- ρ of a feed at a sample period in ns, in 1/65,536 ns (R252): δ mod T_h. A foreign channel's δ lies in its stamps; the last sample's
residual stands. -/
def State.residAt (s : State) (period ch : Nat) : Nat :=
  let p := period * 65536
  if ch < 768 then (if p = 0 then 0 else (s.pod (ch / 32)).gdelay % p)
  else if ch < 800 then 0
  else Tab.get (fun _ => 0) s.comb.resid ch

def State.feedResid (s : State) (ch : Nat) : Nat := s.residAt (s.feedPeriod ch) ch

/-- L_P and the skew of a program, in 1/65,536 ns. -/
def State.progLag (s : State) (r : List Byte) : Int := ((recFeeds r).map s.feedLag).foldl max 0
def State.progSkew (s : State) (r : List Byte) : Int :=
  match recFeeds r with
  | [] => 0
  | c :: cs => s.progLag r - (cs.map s.feedLag).foldl min (s.feedLag c)
/-- T_h of a program, ns. -/
def State.progPeriod (s : State) (r : List Byte) : Nat := match recFeeds r with | [] => 2500 | c :: _ => s.feedPeriod c
/-- Whether a program's feeds are local channels, and the grid origin its indices count from. -/
def recLocal (r : List Byte) : Bool := match recFeeds r with | [] => false | c :: _ => 768 ≤ c && c < 800
def State.progOrigin (s : State) (r : List Byte) : Nat :=
  match recFeeds r with
  | [] => 0
  | c :: _ => if 768 ≤ c && c < 800 then (s.local' (c - 768)).origin.getD 0 else 0

/-- The time of index k of a program, ns (R252, R293). -/
def State.indexNs (s : State) (r : List Byte) (k : Nat) : Nat := s.progOrigin r + k * s.progPeriod r
/-- The first index whose time is not earlier than a time in ns. -/
def State.firstIndex (s : State) (r : List Byte) (ns : Nat) : Nat := ceilDiv (ns - s.progOrigin r) (max 1 (s.progPeriod r))

/-! ## Loads and budgets (R282, R295, R313) -/

/-- A program's load in MAC/s. -/
def State.progLoad (s : State) (r : List Byte) : Rat :=
  let c : Rat := ((recFeeds r).length : Rat)
  let fs : Rat := 1000000000 / (s.progPeriod r : Rat)
  let n : Rat := (specN r : Rat)
  let rf : Rat := fs / (specHop r : Rat)
  if recType r = 0 then (srpG r : Rat) * c * (srpFb r : Rat)
  else if recType r = 1 then
    let b : Rat := (xsBins r : Rat)
    rf * (c * (n + 2 * n * (specNlog r : Rat) + 4 * b) + 4 * b * c * (c + 1) / 2)
  else if recType r = 2 then
    (matchT r : Rat) * (matchL r : Rat) * c * fs + (if matchNorm r then 2 * c * fs else 0)
  else rf * c * (2 * n + 2 * n * (specNlog r : Rat))

/-- A program's budget at a derate percentage. -/
def progBudget (r : List Byte) (pct : Nat) : Rat := 81920000000 * (recFrames r : Rat) * (pct : Rat) / 100

/-- W of R313, and the time it takes at a percentage, s. -/
def svdWork (r : List Byte) : Nat :=
  if bit (xsOutputs r) 1 then xsBins r * xsK r * (xsIter r + 2) * (recFeeds r).length ^ 2 else 0
def svdTime (r : List Byte) (pct : Nat) : Rat := (svdWork r : Rat) / (10240000000 * (pct : Rat) / 100)

/-- Whether a program fits at a percentage, for an epoch in 100 ms (R282, R313). -/
def State.progFits (s : State) (r : List Byte) (pct eds : Nat) : Bool :=
  s.progLoad r ≤ progBudget r pct && (recType r != 1 || svdTime r pct ≤ (eds : Rat) / 20)

/-! ## History (R248 to R254) -/

def missEntry : Nat → HistEntry := fun _ => {}
def HistEntry.missing (e : HistEntry) : Bool := e.val == missingCode

/-- Entries a slot's ring holds (R247, R297). -/
def ringLen (r : List Byte) : Nat := if recType r = 0 || recType r = 2 then 16384 else 8192

/-- A sample enters a slot at an index. -/
def ProgInst.store (i : ProgInst) (slot k : Nat) (e : HistEntry) : ProgInst :=
  { i with hist := Tab.upd (fun _ => []) i.hist slot fun h =>
      (Tab.set missEntry h k e).filter fun x => k < x.1 + ringLen i.cfg || k < x.1 }

/-- Where the index 0 of a slot's grid lies in its history. -/
def ProgInst.gridAt (i : ProgInst) (slot : Nat) : Nat := Tab.get (fun _ => 0) i.grids slot

/-- A feed's slot counter starts again from 0 (R293): its new grid follows what history holds of the old. -/
def State.combRegrid (s : State) (ch : Nat) : State :=
  let move (i : ProgInst) : ProgInst :=
    (recSlots i.cfg).foldl (fun i x =>
      if x.2.1 = ch then
        let top := (Tab.get (fun _ => []) i.hist x.1).foldl (fun m e => max m (e.1 + 1)) (i.gridAt x.1)
        { i with grids := Tab.set (fun _ => 0) i.grids x.1 top }
      else i) i
  { s with comb := { s.comb with insts := s.comb.insts.map move } }

/-- The index of a stamp (R252) at a sample period in ns. -/
def indexOfStamp (t : Int) (period : Nat) : Nat :=
  let p := subNs period
  if p = 0 then 0 else ((t + p - 1) / p).toNat

/-- Entries with indices not earlier than one are forgotten, as time has stepped back over them. -/
def ProgInst.forget (i : ProgInst) (k : Nat) : ProgInst :=
  { i with hist := i.hist.map fun sh => (sh.1, sh.2.filter fun x => x.1 < i.gridAt sh.1 + k) }

/-! ## Parity (R249, R310) -/

/-- A parity error in a frame is counted and reported. -/
def State.parityError (s : State) (frame : Nat) : State :=
  let s := s.bump (0x0009_1000 + 0x80 * frame + 0x14)
  let s := s.bump 0x0009_0024
  let s := { s with comb := { s.comb with parity := true } }
  (s.noteCheck 2).raise 0x0901 frame

def hitFrame : ParityHit → Nat
  | .history f _ _ => f
  | .anchor f _ => f
  | .accumulator f _ => f

/-- Whether a parity error strikes an entry. -/
def hitsEntry (slot : Nat) (k : Int) : ParityHit → Bool
  | .history f j n => 12 * f + j == slot && (n : Int) == k
  | _ => false

/-- The entry a program reads at an index, on a grid whose index 0 lies at `g` in history; as missing where parity struck it. -/
def ProgInst.read (i : ProgInst) (hits : List ParityHit) (g slot : Nat) (k : Int) : HistEntry :=
  if decide (k < 0) || hits.any (hitsEntry slot k) then {}
  else Tab.get missEntry (Tab.get (fun _ => []) i.hist slot) (g + k.toNat)

/-! ## Applied delays (R264 to R268) -/

/-- Fields of a frame record of `ANCHORS` (R287), as a bank holds it. -/
def bankRows (b : List Byte) : Nat := leAt b 2 2
def rowFirst (b : List Byte) (r : Nat) : Nat := leAt b (8 + 16 * r) 2
def rowLen (b : List Byte) (r : Nat) : Nat := byteAt b (8 + 16 * r + 2) + 1
def rowFlags (b : List Byte) (r : Nat) : Nat := byteAt b (8 + 16 * r + 3)
def rowPage (b : List Byte) (r sg j : Nat) : Nat := bits (leAt b (8 + 16 * r + 4) 12) (2 * (12 * sg + j)) 2
def anchorAt (b : List Byte) (r sg j : Nat) : Nat × Int × Int :=
  let o := 8 + 16 * bankRows b + 9 * (48 * r + 12 * sg + j)
  (leAt b o 3, sleAt b (o + 3) 3, sleAt b (o + 6) 3)
/-- The anchor delay of a segment, 2^−12 q. -/
def anchorDelay (b : List Byte) (r sg j : Nat) : Int := ((rowPage b r sg j * 2 ^ 24 + (anchorAt b r sg j).1 : Nat) : Int)

/-- τ after k steps of the recurrence of R268: τ0 + k·D1 + k(k−1)/2·D2 on exact integers. -/
def tauStep (d2 : Int) : Nat → Int → Int → Int
  | 0, tau, _ => tau
  | k + 1, tau, d => tauStep d2 k (tau + d) (d + d2)
def tauAt (b : List Byte) (r sg j k : Nat) : Int :=
  let a := anchorAt b r sg j
  tauStep a.2.2 k (anchorDelay b r sg j) a.2.1

/-- The row of a point. -/
def rowOf (b : List Byte) (p : Nat) : Option Nat :=
  (List.range (bankRows b)).find? fun r => rowFirst b r ≤ p && p < rowFirst b r + rowLen b r
/-- n_j(p) of a slot in history entries; none where the table has no such point. -/
def appliedDelay (b : List Byte) (j p : Nat) : Option Int :=
  (rowOf b p).map fun r =>
    let q := p - rowFirst b r
    roundHalfEven (tauAt b r (q / 64) j (q % 64)) 4096

/-- The active anchor table of a frame. -/
def State.activeBank (s : State) (f : Nat) : List Byte :=
  Tab.get (fun _ => []) (if s.comb.activeB.contains f then s.comb.bankB else s.comb.bankA) f

/-! ## SRP blocks (R258 to R262) -/

/-- One contribution to a beam word. -/
def srpTerm (i : ProgInst) (w : Work) (hits : List ParityHit) (p m : Nat) (x : Nat × Nat × Int) : Int × Option (Nat × Nat × HistEntry) :=
  let f := x.1 / 12
  if hits.any (fun h => match h with | .anchor g b => g == f && b == p / 16 | _ => false) then (0, none)
  else
    match appliedDelay (Tab.get (fun _ => []) w.banks f) (x.1 % 12) p with
    | none => (0, none)
    | some n =>
      if (srpTauMax i.cfg : Int) < n then (0, none)
      else
        let k := ((m * srpRb i.cfg : Nat) : Int) - srpRefDelay i.cfg + n
        let e := i.read hits (i.gridAt x.1) x.1 k
        ((if e.missing then 0 else x.2.2 * e.val), some (x.1, k.toNat, e))

/-- The beam words of one sample into the point accumulators. -/
def srpSample (i : ProgInst) (hits : List ParityHit) (m : Nat) (w : Work) : Work × List (Nat × Nat × HistEntry) :=
  (List.range (srpG i.cfg)).foldl (fun wr p =>
    let ts := (recSlots i.cfg).map (srpTerm i wr.1 hits p m)
    let b := (ts.map (·.1)).sum
    let v := roundHalfEven b (2 ^ (15 + srpShift i.cfg))
    let v' := sat24 v
    let a := (Tab.get (fun _ => ((0 : Int), (0 : Int))) wr.1.acc p).1 + v' * v'
    let a' := min a (2 ^ 64 - 1)
    let sat := v' != v || a' != a
    ({ wr.1 with acc := Tab.set (fun _ => (0, 0)) wr.1.acc p (a', 0)
                 sat := if sat && !wr.1.sat.contains p then p :: wr.1.sat else wr.1.sat },
     wr.2 ++ ts.filterMap (·.2))) (w, [])

/-- An entry read, in the missing and settling counts by frame (R253, R326). -/
def countRead (ms : Tab Nat × Tab Nat) (x : Nat × Nat × HistEntry) : Tab Nat × Tab Nat :=
  let more (t : Tab Nat) : Tab Nat := Tab.upd (fun _ => 0) t (x.1 / 12) fun n => min 0xFFFF_FFFF (n + 1)
  if x.2.2.missing then (more ms.1, ms.2) else if x.2.2.settling then (ms.1, more ms.2) else ms

/-- Counts of entries read, each once, by frame. -/
def Work.count (w : Work) (reads : List (Nat × Nat × HistEntry)) : Work :=
  let ms := reads.dedup.foldl countRead (w.miss, w.settle)
  { w with miss := ms.1, settle := ms.2 }

/-- The first beam sample at or after a time in ns. -/
def beamFirst (r : List Byte) (ns : Nat) : Nat := ceilDiv (ns * srpFb r) 1_000_000_000

/-- A block of 16 beam samples (R258): those at or after the boundary are computed, so that what they read counts, but not accumulated;
where the epoch has ended early there are none. -/
def srpBlock (i : ProgInst) (hits : List ParityHit) (w : Work) : Work :=
  let m0 := beamFirst i.cfg w.start + 16 * w.next
  let stop := beamFirst i.cfg w.stop
  let all := (List.range 16).map (m0 + ·)
  let (w', reads) := (all.filter (· < stop)).foldl (fun wr m => let (a, b) := srpSample i hits m wr.1; (a, wr.2 ++ b)) (w, [])
  let past := if w.closed then [] else (all.filter (stop ≤ ·)).flatMap fun m => (srpSample i hits m w').2
  { w'.count (reads ++ past) with
    next := w.next + 1, accepted := w'.accepted + (all.filter (· < stop)).length, parity := w'.parity + hits.length }

/-- Blocks in an epoch's work. -/
def srpBlocks (r : List Byte) (w : Work) : Nat := ceilDiv (beamFirst r w.stop - beamFirst r w.start) 16

/-! ## FFT frames (R302, R309, R310, R317) -/

/-- The first index of a work's grid at or after a time in ns. -/
def Work.firstIndex (w : Work) (ns : Nat) : Nat := ceilDiv (ns - w.origin) (max 1 w.period)

/-- FFT frames in an epoch's work. -/
def specFrames (r : List Byte) (w : Work) : Nat :=
  let k0 := w.firstIndex w.start
  let k1 := w.firstIndex w.stop
  if k1 - k0 < specN r then 0 else (k1 - k0 - specN r) / specHop r + 1

/-- Bin edges of bands in modes 1 and 2 (R316): the least bin not below F_REF · G^((2x ± 1) / 2k) · N / fs, clipped. DEDUCED (log entry 155): the
edge is decided on exact integers, where the hub computes it in binary64; the two differ only where the value lies within that rounding of
a whole bin. -/
def bandEdge (fref k n period : Nat) (h : Int) : Nat :=
  let top := n / 2
  let lhs (b : Nat) : Nat := (b * 10 ^ 12) ^ (20 * k)
  let rhs : Nat := (fref * n * period) ^ (20 * k)
  let e : Int := 3 * h
  let below (b : Nat) : Bool := if 0 ≤ e then decide (lhs b < rhs * 10 ^ e.toNat) else decide (lhs b * 10 ^ (-e).toNat < rhs)
  max 1 (((List.range top).filter below).length)

/-- lo_b and hi_b of a band, at a sample period in ns. -/
def bandRange (period : Nat) (r : List Byte) (b : Nat) : Nat × Nat :=
  if bandMode r = 0 then (leAt (recTail r) (2 * b) 2, leAt (recTail r) (2 * b + 2) 2)
  else
    let k := if bandMode r = 1 then 1 else 3
    let x : Int := toSigned 8 (byteAt r 14) + b
    (bandEdge (leAt r 16 4) k (specN r) period (2 * x - 1),
     bandEdge (leAt r 16 4) k (specN r) period (2 * x + 1))

/-- The bins a spectral program uses. -/
def specBins (period : Nat) (r : List Byte) : List Nat :=
  if recType r = 1 then (List.range (xsBins r)).map (· + xsFirstBin r)
  else
    let rs := (List.range (bandCount r)).map (bandRange period r)
    (List.range (specN r / 2)).filter fun i => rs.any fun x => x.1 ≤ i && i < x.2

/-- Pairs (i, j), i ≤ j, row by row (R308). -/
def pairsUpTo (c : Nat) : List (Nat × Nat) := (List.range c).flatMap fun i => (List.range (c - i)).map fun d => (i, i + d)

/-- Adds to a pair of accumulators that saturate at the given bounds. -/
def Work.addTo (w : Work) (key : Nat) (a b lim : Int) (lo : Int) : Work :=
  if w.dead.contains key then w
  else
    let x := Tab.get (fun _ => ((0 : Int), (0 : Int))) w.acc key
    let y := (max lo (min lim (x.1 + a)), max lo (min lim (x.2 + b)))
    let sat := y != (x.1 + a, x.2 + b)
    { w with acc := Tab.set (fun _ => (0, 0)) w.acc key y
             sat := if sat && !w.sat.contains key then key :: w.sat else w.sat }

/-- The accumulator entry a parity hit strikes: entries are dealt in runs to the frames (R308). -/
def accKey (r : List Byte) (f e : Nat) : Nat :=
  let c := (recFeeds r).length
  ceilDiv (xsBins r * (c * (c + 1) / 2)) (max 1 (recFrames r)) * (f - recFirst r) + e

/-- One FFT frame of an XSPEC or BAND program, at the sample period its epoch runs on (R46). -/
def State.specFrame (s : State) (i : ProgInst) (hits : List ParityHit) (w : Work) : Work :=
  let r := i.cfg
  let n := specN r
  let k0 := w.firstIndex w.start + w.next * specHop r
  let slots := recSlots r
  let data := slots.map fun x =>
    (x, (List.range n).map fun q => i.read hits (Tab.get (fun _ => 0) w.grids x.1) x.1 ((k0 + q : Nat) : Int))
  let w := w.count (data.flatMap fun d => (d.2.zip (List.range n)).map fun e => (d.1.1, k0 + e.2, e.1))
  let w := { w with next := w.next + 1, parity := w.parity + hits.length }
  let w := hits.foldl (fun w h => match h with
    | .accumulator f e =>
      let key := accKey r f e
      { w with acc := Tab.set (fun _ => (0, 0)) w.acc key (0, 0), dead := key :: w.dead }
    | _ => w) w
  let bins := specBins w.period r
  let spec (d : (Nat × Nat × Int) × List HistEntry) : List (Int × Int × Bool) :=
    let rot := if recType r = 1 then some (s.residAt w.period d.1.2.1, n * w.period * 65536) else none
    spectrum (specNlog r) (specWindow r) (specShift r) bins rot (d.2.map (·.val))
  if recType r = 1 then
    if data.any (fun d => d.2.any (·.missing)) then { w with dropped := w.dropped + 1 }
    else
      let xs := data.map spec
      let ps := pairsUpTo slots.length
      let w := { w with accepted := w.accepted + 1 }
      (List.range bins.length).foldl (fun w b =>
        (ps.zip (List.range ps.length)).foldl (fun w pe =>
          let x := (xs.getD pe.1.1 []).getD b (0, 0, false)
          let y := (xs.getD pe.1.2 []).getD b (0, 0, false)
          w.addTo (b * ps.length + pe.2) (x.1 * y.1 + x.2.1 * y.2.1)
            (if pe.1.1 = pe.1.2 then 0 else x.2.1 * y.1 - x.1 * y.2.1) (2 ^ 63 - 1) (-(2 ^ 63 - 1))) w) w
      |> fun w => { w with specSat := w.specSat + (xs.map fun x => (x.filter (·.2.2)).length).sum }
  else
    (data.zip (List.range data.length)).foldl (fun w dc =>
      if dc.1.2.any (·.missing) then w
      else
        let x := bins.zip (spec dc.1)
        let w := { w with chN := Tab.upd (fun _ => 0) w.chN dc.2 (· + 1)
                          specSat := w.specSat + (x.filter (·.2.2.2)).length }
        (List.range (bandCount r)).foldl (fun w b =>
          let (lo, hi) := bandRange w.period r b
          let p := ((x.filter fun v => lo ≤ v.1 && v.1 < hi).map fun v => v.2.1 * v.2.1 + v.2.2.1 * v.2.2.1).sum
          w.addTo (dc.2 * bandCount r + b) p 0 (2 ^ 64 - 1) 0) w) { w with accepted := w.accepted + 1 }

/-! ## Instances at work -/

/-- Changes the instances of a program. -/
def State.updInsts (s : State) (f : ProgInst → ProgInst) : State :=
  { s with comb := { s.comb with insts := s.comb.insts.map f } }

/-- How many blocks or frames an epoch's work has. -/
def workTotal (r : List Byte) (w : Work) : Nat :=
  if recType r = 0 then srpBlocks r w else if recType r = 2 then 0 else specFrames r w

/-- The time of the last sample of the next block or frame, in 1/65,536 ns. -/
def workNext (r : List Byte) (w : Work) : Int :=
  if recType r = 0 then (((beamFirst r w.start + 16 * w.next + 15) * 1_000_000_000 * 65536 / srpFb r : Nat) : Int)
  else subNs (w.origin + (w.firstIndex w.start + w.next * specHop r + specN r - 1) * w.period)

/-- The instance of a program whose first unfinished work is next, with its place, and that work's place. -/
def State.nextWork (s : State) (p : Nat) : Option (Nat × ProgInst × Nat × Work) :=
  (s.comb.insts.zip (List.range s.comb.insts.length)).findSome? fun ii =>
    if recProg ii.1.cfg = p then
      (ii.1.works.zip (List.range ii.1.works.length)).findSome? fun ww =>
        if ww.1.next < workTotal ii.1.cfg ww.1 then some (ii.2, ii.1, ww.2, ww.1) else none
    else none

/-- Replaces one piece of work. -/
def State.setWork (s : State) (ii wi : Nat) (w : Work) : State :=
  { s with comb := { s.comb with insts :=
      (s.comb.insts.zip (List.range s.comb.insts.length)).map fun x =>
        if x.2 = ii then { x.1 with works := x.1.works.set wi w } else x.1 } }

/-- The next block or frame of a program runs. -/
def State.runWork (s : State) (hits : List ParityHit) (ii : Nat) (i : ProgInst) (wi : Nat) (w : Work) : State :=
  let w' := if recType i.cfg = 0 then srpBlock i hits w else s.specFrame i hits w
  let newSat := (w'.sat.filter fun k => !w.sat.contains k).length
  let s := s.setWork ii wi w'
  let s := if recType i.cfg = 0 then (List.range newSat).foldl (fun s _ => s.bump 0x0009_002C) s else s
  hits.foldl (fun s h => s.parityError (hitFrame h)) s

/-- L_P of an epoch's work: that of the configuration it ran under (R46, R255). -/
def State.workLag (s : State) (i : ProgInst) (w : Work) : Int := w.lag.getD (s.progLag i.cfg)

/-- A block or frame of a program, once L_P has passed since its last sample (R255). -/
def State.combWork (s : State) (spectral : Bool) (p : Nat) (hits : List ParityHit) : State :=
  match s.nextWork p with
  | some (ii, i, wi, w) =>
    if (recType i.cfg != 0) == spectral && workNext i.cfg w + s.workLag i w ≤ s.sub then s.runWork hits ii i wi w else s
  | none => s

/-- Every remaining block and frame of a program, as an epoch ends at a time step (R48). -/
def State.finishWork (p : Nat) : Nat → State → State
  | 0, s => s
  | f + 1, s =>
    match s.nextWork p with
    | some (ii, i, wi, w) => State.finishWork p f (s.runWork [] ii i wi w)
    | none => s

/-! ## MATCH (R319 to R323) -/

/-- A parity error in a frame's copy of the templates (R318): the frame adds nothing to what is being processed (R249). -/
def hitsTemplates (slot : Nat) : ParityHit → Bool
  | .anchor f _ => f == slot / 12
  | _ => false

/-- The value of an index for a slot and template: |c|, E_x and whether it settles; none where an entry is missing, or parity struck the
templates. -/
def matchEval (i : ProgInst) (hits : List ParityHit) (slot t n : Nat) : Option (Nat × Nat × Bool) :=
  let r := i.cfg
  let l := matchL r
  if n + 1 < l || hits.any (hitsTemplates slot) then none
  else
    let es := (List.range l).map fun k => i.read hits (i.gridAt slot) slot ((n + 1 - l + k : Nat) : Int)
    if es.any (·.missing) then none
    else
      let c := ((es.zip (List.range l)).map fun ek => matchTap r t ek.2 * ek.1.val).sum
      some (c.natAbs, ((es.map fun (e : HistEntry) => e.val * e.val).sum).toNat, es.any (·.settling))

/-- E_h of a template. -/
def matchEh (r : List Byte) (t : Nat) : Nat := (((List.range (matchL r)).map fun k => matchTap r t k * matchTap r t k).sum).toNat

/-- The test of R320. -/
def matchCrosses (r : List Byte) (t : Nat) (c ex : Nat) : Bool :=
  let th := matchThr r t
  if matchNorm r then
    let q := th % 65536
    ex != 0 && q * q * matchEh r t * ex ≤ c * c * 2 ^ 32
  else th % 2 ^ 56 ≤ c

/-- Whether a score beats another, strictly (R320, R321). -/
def scoreBeats (norm : Bool) (a b : Nat × Nat) : Bool := if norm then b.1 * b.1 * a.2 < a.1 * a.1 * b.2 else b.1 < a.1

/-- The first crossing from an index on, before a limit. -/
def firstCrossing (i : ProgInst) (hits : List ParityHit) (slot t : Nat) : Nat → Nat → Option Nat
  | 0, _ => none
  | f + 1, n =>
    match matchEval i hits slot t n with
    | some (c, ex, _) => if matchCrosses i.cfg t c ex then some n else firstCrossing i hits slot t f (n + 1)
    | none => firstCrossing i hits slot t f (n + 1)

/-- The detection index of a window of `len` indices, with its score (R321). -/
def bestInWindow (i : ProgInst) (hits : List ParityHit) (slot t n len : Nat) : Option (Nat × Nat × Nat × Bool) :=
  (List.range len).foldl (fun best q =>
    match matchEval i hits slot t (n + q) with
    | some (c, ex, st) =>
      if matchCrosses i.cfg t c ex then
        match best with
        | none => some (n + q, c, ex, st)
        | some b => if scoreBeats (matchNorm i.cfg) (c, ex) (b.2.1, b.2.2.1) then some (n + q, c, ex, st) else best
      else best
    | none => best) none

/-- The pair's place in `pos`. -/
def pairKey (chan t : Nat) : Nat := chan * 256 + t

/-- The bound of R322 in 1/65,536 ns, for a program. -/
def State.matchLam (s : State) (p : Nat) : Int :=
  match s.progRec p with
  | some r => subNs ((matchL r - 1 + matchWin r + 16) * s.progPeriod r) + s.progLag r + subUs 20
  | none => 0

/-- L_P of a MATCH instance. -/
def State.instLag (s : State) (i : ProgInst) : Int := i.lag.getD (s.progLag i.cfg)

/-- One past the last index of an instance whose samples have all had their time to arrive by a time (R255). -/
def State.arrived (s : State) (i : ProgInst) (t : Int) : Nat := ((t - s.instLag i) / max 1 (subNs i.period) + 1).toNat

/-- The first index of a MATCH instance at or after a time in ns: its feeds are never local (R292). -/
def ProgInst.indexAt (i : ProgInst) (ns : Nat) : Nat := ceilDiv ns (max 1 i.period)

/-- The 100 ms intervals of the spans that hold an entry of a slot whose residual is ρ (R323, R325). -/
def ProgInst.intervalsOf (i : ProgInst) (rho k : Nat) : List Nat :=
  let at' (n : Nat) : Nat := ((subNs (n * i.period) - rho) / subNs 100_000_000).toNat
  let a := at' (k + 1 - matchL i.cfg)
  (List.range (at' k + 1 - a)).map (a + ·)

/-- Entries below an index that a MATCH program has read and not yet counted are counted, and their intervals noted where one is missing
(R253, R325). -/
def State.countTo (s : State) (i : ProgInst) (n : Nat) : ProgInst :=
  let reads := (recSlots i.cfg).flatMap fun x =>
    (List.range (n - i.counted)).map fun q =>
      (x.2.1, x.1, i.counted + q, i.read [] (i.gridAt x.1) x.1 ((i.counted + q : Nat) : Int))
  let ms := (reads.map (·.2)).foldl countRead (i.miss, i.settle)
  let bad := (reads.filter fun r => r.2.2.2.missing).flatMap fun r => i.intervalsOf (s.residAt i.period r.1) r.2.2.1
  { i with miss := ms.1, settle := ms.2, counted := max i.counted n, degr := (i.degr ++ bad).dedup }

/-- Entries that parity makes missing for a read of a MATCH program are counted so, and their intervals noted (R249, R325). -/
def State.strikeMatch (s : State) (i : ProgInst) (hits : List ParityHit) : ProgInst :=
  hits.foldl (fun i h =>
    match h with
    | .history f j n =>
      match (recSlots i.cfg).find? fun x => x.1 == 12 * f + j with
      | some x =>
        { i with miss := (countRead (i.miss, i.settle) (x.1, n, {})).1
                 degr := (i.degr ++ i.intervalsOf (s.residAt i.period x.2.1) n).dedup }
      | none => i
    | _ => i) i

/-- What a window of a pair gives in a stretch: where the pair looks on next, and the detection. Crossings below `before` open windows; none
while the window has not ended by the index `limit`, unless it is to end there (`early`). -/
def State.matchFind (s : State) (i : ProgInst) (sp : MatchSpan) (hits : List ParityHit) (slot chan t before limit : Nat) (early : Bool) :
    Option (Nat × Detection) :=
  let pos := Tab.get (fun _ => sp.base) sp.pos (pairKey chan t)
  match firstCrossing i hits slot t (before - pos) pos with
  | none => none
  | some n =>
    if limit < n + matchWin i.cfg && !early then none
    else
      match bestInWindow i hits slot t n (min (matchWin i.cfg) (limit - n)) with
      | none => none
      | some (d, c, ex, st) =>
        let stamp := subNs ((d + 1 - matchL i.cfg) * i.period) - s.residAt i.period chan
        some (max (d + matchHold i.cfg + 1) (n + matchWin i.cfg),
          { idx := d, stamp := stamp, chan := chan, templ := t, settling := st, score := c
            norm := if matchNorm i.cfg then matchEh i.cfg t * ex else 0 })

/-- The MATCH instances of a program, with their places; the running one is the last. -/
def State.matchInsts (s : State) (p : Nat) : List (ProgInst × Nat) :=
  (s.comb.insts.zip (List.range s.comb.insts.length)).filter fun x => recProg x.1.cfg == p && recType x.1.cfg == 2

/-- Changes one instance. -/
def State.updInst (s : State) (ii : Nat) (f : ProgInst → ProgInst) : State :=
  { s with comb := { s.comb with insts :=
      (s.comb.insts.zip (List.range s.comb.insts.length)).map fun x => if x.2 = ii then f x.1 else x.1 } }

/-- A detection of a stretch is made, and may leave for the trigger network (R321, R322). -/
def State.detect (s : State) (ii si next : Nat) (det : Detection) : State :=
  let cfg := ((s.comb.insts[ii]?).map (·.cfg)).getD []
  let s := s.updInst ii fun i =>
    { i with dets := i.dets ++ [det]
             spans := (i.spans.zip (List.range i.spans.length)).map fun x =>
               if x.2 = si then { x.1 with pos := Tab.set (fun _ => x.1.base) x.1.pos (pairKey det.chan det.templ) next } else x.1 }
  if bit (matchThr cfg det.templ) 63 then s.trigSend (0x800 + 256 * recProg cfg + det.templ) det.stamp (some det.chan) else s

/-- The index up to which a stretch can be read, of those arrived. -/
def MatchSpan.limit (sp : MatchSpan) (n : Nat) : Nat := sp.stop.elim n (min n)

/-- The first window of a pair that has ended, over a program's instances and their stretches: instance, stretch, and what it gives. -/
def State.matchEnded (s : State) (p chan t : Nat) (hits : List ParityHit) : Option (Nat × Nat × Nat × Detection) :=
  (s.matchInsts p).findSome? fun x =>
    let i := x.1
    if matchT i.cfg ≤ t then none
    else match (recSlots i.cfg).find? fun y => y.2.1 == chan with
      | none => none
      | some y =>
        (i.spans.zip (List.range i.spans.length)).findSome? fun z =>
          let n := z.1.limit (s.arrived i s.sub)
          (s.matchFind i z.1 hits y.1 chan t n n false).map fun r => (x.2, z.2, r)

/-- The peak window of a pair ends: its detection is made (R321). Parity errors met are counted and reported (R249). -/
def State.matchWindow (s : State) (p chan t : Nat) (hits : List ParityHit) : State :=
  let pair (i : ProgInst) : Bool := decide (t < matchT i.cfg) && (recFeeds i.cfg).contains chan
  if !(s.matchInsts p).any fun x => pair x.1 then s
  else
    let found := s.matchEnded p chan t hits
    let ii := found.elim (((s.matchInsts p).getLast?).elim 0 (·.2)) (·.1)
    let s := s.updInst ii fun i => s.strikeMatch i hits
    let s := match found with
      | some (ii, si, next, det) => s.detect ii si next det
      | none => s
    hits.foldl (fun s h => s.parityError (hitFrame h)) s

/-- A pair's windows that crossings below `before` open are run, in a stretch. -/
def State.runPair (ii si slot chan t before limit : Nat) (early : Bool) : Nat → State → State
  | 0, s => s
  | f + 1, s =>
    match s.comb.insts[ii]? with
    | none => s
    | some i =>
      match i.spans[si]? with
      | none => s
      | some sp =>
        match s.matchFind i sp [] slot chan t (sp.limit before) (sp.limit limit) (early && sp.stop.isNone) with
        | some (next, det) => State.runPair ii si slot chan t before limit early f (s.detect ii si next det)
        | none => s

/-- The windows of an instance that crossings below `before` open are run, for every pair and stretch. -/
def State.runWindows (s : State) (ii before limit : Nat) (early : Bool) : State :=
  match s.comb.insts[ii]? with
  | none => s
  | some i =>
    (List.range i.spans.length).foldl (fun s si =>
      (recSlots i.cfg).foldl (fun s x =>
        (List.range (matchT i.cfg)).foldl (fun s t => State.runPair ii si x.1 x.2.1 t before limit early (before + 1) s) s) s) s

/-! ## Samples enter history (R252 to R254, R276, R293, R297) -/

/-- Before a ring loses its oldest entries to one at an index, a MATCH program has read them (R248, R297). -/
def State.readRings (s : State) (ch k : Nat) : State :=
  if k < 16384 then s
  else
    let mine := (s.comb.insts.zip (List.range s.comb.insts.length)).filter fun x => recType x.1.cfg == 2 && (recFeeds x.1.cfg).contains ch
    mine.foldl (fun s x =>
      let lost := k + 1 - 16384
      let s := s.runWindows x.2 (lost + matchL x.1.cfg - 1) (s.arrived x.1 s.sub) false
      if Tab.get (fun _ => 0) s.comb.state (recProg x.1.cfg) = 1 then s.updInst x.2 fun i => s.countTo i lost else s) s

/-- A sample of a feed enters every program that takes it; local feeds are counted by slot (R293). -/
def State.combStore (s : State) (ch k : Nat) (e : HistEntry) : State :=
  let s := s.readRings ch k
  let put (i : ProgInst) : ProgInst := (recSlots i.cfg).foldl (fun i x => if x.2.1 = ch then i.store x.1 (i.gridAt x.1 + k) e else i) i
  { s with comb := { s.comb with insts := s.comb.insts.map put } }

/-- A tap B output of a chain enters history (R252, R253). -/
def State.combTapB (s : State) (c : Nat) (stamp : Int) (period : Nat) (v : Int) (miss settling : Bool) : State :=
  if s.hasComb then
    s.combStore c (indexOfStamp stamp period) { val := if miss then missingCode else v, settling := settling && !miss }
  else s

/-- A local word enters history (R293). -/
def State.combLocal (s : State) (k slot : Nat) (w : Word48) : State :=
  if s.hasComb then
    s.combStore (768 + k) slot
      (if wAbsent w then {} else { val := sat24 (roundHalfEven (wValue w) 256), settling := wSettling w })
  else s

/-- A late foreign sample counts in the epoch under way. -/
def ProgInst.countLate (i : ProgInst) : ProgInst :=
  match i.works.getLast? with
  | some w => { i with works := i.works.dropLast ++ [{ w with late := min 0xFFFF_FFFF (w.late + 1) }] }
  | none => i

/-- A foreign sample enters history, or is late and counted (R276, R277). -/
def State.combForeign (s : State) (ch : Nat) (stamp : Int) (v : Int) (settling : Bool) : State :=
  if !s.hasComb then s
  else if stamp + s.feedLag ch < s.sub then
    let insts := s.comb.insts.map fun i => if (recFeeds i.cfg).contains ch then i.countLate else i
    ({ s with comb := { s.comb with insts := insts } } : State).bump 0x0009_0028
  else
    let p := subNs 2500
    let s := { s with comb := { s.comb with resid := Tab.set (fun _ => 0) s.comb.resid ch ((-stamp) % p).toNat } }
    s.combStore ch (indexOfStamp stamp 2500) { val := v, settling := settling }

end Sys2Proof.Machine
end

