-- ==== Sys2Proof/Machine/CombOut.lean ====
section
/-! DEFINITION. The Comb at epoch boundaries and at load: programs started, suspended and stopped (R46, R281, R282, R294), anchor
rebuilds and bank swaps (R271 to R274), product records and their order (R323 to R331), the refusals of `COMB_PROG` and
`ANCHORS` (R246, R256, R263, R270, R291, R296), and the registers of the `COMB` block (R284). -/

namespace Sys2Proof.Machine

/-! ## Products (R311, R317, R324 to R331) -/

/-- The stream a program's products go to (R529). -/
def State.progRoute (s : State) (p : Nat) : Option Route := s.routes.find? fun r => r.kind == 3 && bit r.source p

def le32 (q : Rat) : List Byte := toLE 4 (bits32 q)
def sumTab (t : Tab Nat) : Nat := min 0xFFFF_FFFF ((t.map (·.2)).sum)

/-- Whether `SUSPECT` held anywhere in a span of hub time. -/
def State.suspectIn (s : State) (a b : Nat) : Bool := s.suspectAt a || s.time.suspectMarks.any fun m => m.2 && a ≤ m.1 && m.1 < b

/-- The product subheader (R326). -/
def subheader (i : ProgInst) (w : Work) (nAcc pflags part parts : Nat) : List Byte :=
  toLE 1 (recProg i.cfg) ++ toLE 1 (recType i.cfg) ++ toLE 1 (recFirst i.cfg) ++ toLE 1 (recLast i.cfg)
    ++ toLE 2 w.epochDs ++ toLE 1 w.derate ++ toLE 1 pflags ++ toLE 4 (min 0xFFFF_FFFF nAcc) ++ toLE 4 (sumTab w.miss)
    ++ toLE 4 (sumTab w.settle) ++ toLE 4 (min 0xFFFF_FFFF w.parity) ++ toLE 4 w.late ++ toLE 2 part ++ toLE 2 parts

/-- The records of one product (R324, R325, R327): `typeSub` gives the type subheader of the part that starts at an item. -/
def State.productRecords (s : State) (i : ProgInst) (w : Work) (typ fmt nAcc pflags sat : Nat) (typeSub : Nat → List Byte)
    (items : List (List Byte)) : List Record :=
  let size := (items.headD []).length
  let per := max 1 (32768 / max 1 size)
  let parts := chunks per items.length items
  let flags := 8 * bnat (sumTab w.miss != 0 || w.parity != 0) + 16 * bnat (sat != 0) + 32 * bnat (sumTab w.settle != 0)
    + 64 * bnat w.first + 2 * bnat w.short + bnat (s.suspectIn w.start w.stop)
  (parts.zip (List.range parts.length)).map fun pk =>
    { typ := typ, stream := 0, rseq := 0, stamp := stampOfNs w.start, rate := 0xFD, hflags := flags, items := pk.1.length,
      fmt := fmt, typeWord := w.num, hub := 0,
      payload := subheader i w nAcc pflags pk.2 parts.length ++ typeSub (pk.2 * per) ++ pk.1.flatten }

/-- Mean power of a point; none where the point saturated (R262, R299). -/
def pointMean (w : Work) (p : Nat) : Option Rat :=
  if w.sat.contains p then none
  else some (rnd32 ((Tab.get (fun _ => ((0 : Int), (0 : Int))) w.acc p).1 / (max 1 w.accepted : Nat) : Rat))
def meanBits : Option Rat → Nat
  | none => infBits
  | some q => bits32 q
def meanLess : Option Rat → Option Rat → Bool
  | some a, some b => a < b
  | some _, none => true
  | none, _ => false

/-- Puts a point among the best, the largest first and the lower index first on a tie (R262). -/
def rankPoint (n : Nat) (x : Nat × Option Rat) : List (Nat × Option Rat) → List (Nat × Option Rat)
  | [] => if n = 0 then [] else [x]
  | y :: ys => if n = 0 then [] else if meanLess y.2 x.2 then (x :: y :: ys).take n else y :: rankPoint (n - 1) x ys

/-- `MAP` and `PEAKS` (R298, R328). -/
def State.srpProducts (s : State) (i : ProgInst) (w : Work) : List (Nat × List Record) :=
  let r := i.cfg
  let g := srpG r
  let ms := (List.range g).map fun p => (p, pointMean w p)
  let head (idx : Nat) : List Byte :=
    toLE 4 g ++ toLE 4 idx ++ toLE 1 (byteAt r 12) ++ toLE 1 (srpShift r) ++ toLE 2 0 ++ toLE 4 w.sat.length ++ toLE 16 0
  let best := ms.foldl (fun b m => rankPoint 16 m b) []
  (if bit (srpOutputs r) 0 then
    [(0, s.productRecords i w 0x05 0 w.accepted 0 w.sat.length head (ms.map fun m => toLE 4 (meanBits m.2)))] else [])
  ++ (if bit (srpOutputs r) 1 then
    [(1, s.productRecords i w 0x06 0 w.accepted 0 w.sat.length (fun _ => head 0)
      (best.map fun m => toLE 4 m.1 ++ toLE 4 (meanBits m.2)))] else [])

/-- The mean matrix entry of R311. -/
def xsMean (w : Work) (key : Nat) : Rat × Rat :=
  let x := Tab.get (fun _ => ((0 : Int), (0 : Int))) w.acc key
  if w.accepted = 0 then (0, 0) else (rnd32 (mkRat x.1 w.accepted), rnd32 (mkRat x.2 w.accepted))

/-- The type subheader of `XSPEC`. -/
def xsHead (w : Work) (r : List Byte) (idx : Nat) : List Byte :=
  toLE 1 (recFeeds r).length ++ toLE 1 (specNlog r) ++ toLE 1 (specWindow r) ++ toLE 1 (byteAt r 10) ++ toLE 2 (xsFirstBin r)
    ++ toLE 2 (xsBins r) ++ toLE 1 (specShift r) ++ toLE 1 (xsK r) ++ toLE 1 (xsIter r) ++ toLE 1 (byteAt r 19)
    ++ le32 (specScale (specNlog r) (specWindow r) (specShift r)) ++ toLE 4 idx
    ++ toLE 4 (min 0xFFFF_FFFF (w.sat.length + w.specSat)) ++ toLE 4 w.dropped ++ toLE 4 0

def State.xsMatrix (s : State) (i : ProgInst) (w : Work) : List (Nat × List Record) :=
  let r := i.cfg
  let c := (recFeeds r).length
  let n := xsBins r * (c * (c + 1) / 2)
  if bit (xsOutputs r) 0 then
    [(2, s.productRecords i w 0x07 0 w.accepted (bnat (w.accepted = 0)) (w.sat.length + w.specSat) (xsHead w r)
      ((List.range n).map fun k => let m := xsMean w k; le32 m.1 ++ le32 m.2))]
  else []

/-- The bin's mean matrix, the lower triangle the conjugate of the upper (R312). -/
def xsBinMatrix (w : Work) (c b : Nat) : List (List C32) :=
  let np := c * (c + 1) / 2
  let entry (i j : Nat) : C32 := xsMean w (b * np + i * c - i * (i - 1) / 2 + (j - i))
  (List.range c).map fun i => (List.range c).map fun j => if i ≤ j then entry i j else c32Conj (entry j i)

def State.xsPairs (s : State) (i : ProgInst) (w : Work) : List (Nat × List Record) :=
  let r := i.cfg
  let c := (recFeeds r).length
  let all := (List.range (xsBins r)).map fun b => singularPairs (xsIter r) (xsK r) (xsBinMatrix w c b)
  let items := all.flatMap fun a => a.1.map fun lv => le32 lv.1 ++ lv.2.flatMap fun z => le32 z.1 ++ le32 z.2
  [(3, s.productRecords i w 0x07 1 w.accepted (bnat (w.accepted = 0) + 2 * bnat (all.any (·.2)))
    (w.sat.length + w.specSat) (xsHead w r) items)]

def State.bandProducts (s : State) (i : ProgInst) (w : Work) : List (Nat × List Record) :=
  let r := i.cfg
  let nb := bandCount r
  let feeds := recFeeds r
  let head (idx : Nat) : List Byte :=
    toLE 2 feeds.length ++ toLE 1 nb ++ toLE 1 (bandMode r) ++ toLE 1 (specNlog r) ++ toLE 1 (specWindow r) ++ toLE 1 (byteAt r 10)
      ++ toLE 1 (specShift r) ++ le32 (specScale (specNlog r) (specWindow r) (specShift r)) ++ toLE 1 (byteAt r 15) ++ toLE 3 0
      ++ toLE 4 idx ++ toLE 4 (min 0xFFFF_FFFF (w.sat.length + w.specSat)) ++ toLE 8 0
  let items := (feeds.zip (List.range feeds.length)).map fun cc =>
    let nf := Tab.get (fun _ => 0) w.chN cc.2
    toLE 2 cc.1 ++ toLE 2 0 ++ toLE 4 nf ++ (List.range nb).flatMap fun b =>
      le32 (if nf = 0 then 0 else mkRat (Tab.get (fun _ => ((0 : Int), (0 : Int))) w.acc (cc.2 * nb + b)).1 nf)
  [(4, s.productRecords i w 0x08 0 (specFrames r w) 0 (w.sat.length + w.specSat) head items)]

/-- What an epoch's work gives at its end, but for the singular pairs. -/
def State.workProducts (s : State) (i : ProgInst) (w : Work) : List (Nat × List Record) :=
  if recType i.cfg = 0 then s.srpProducts i w
  else if recType i.cfg = 1 then s.xsMatrix i w
  else if recType i.cfg = 3 then s.bandProducts i w
  else []

/-- Records of a stream that come before others: by stamp on each side of a time step, and products of one epoch in the order of R331. -/
def HeldProduct.before (a b : HeldProduct) : Bool :=
  a.gen < b.gen || (a.gen == b.gen && (a.time < b.time || (a.time == b.time
    && (a.prog < b.prog || (a.prog == b.prog && a.kind < b.kind)))))

/-- A program of the stream may yet emit a record that comes before one (R31, R331): of an epoch's work that is not emitted, or of a MATCH
interval that is not over. -/
def State.owes (s : State) (r : Route) (h : HeldProduct) : Bool :=
  s.comb.insts.any fun i =>
    let p := recProg i.cfg
    bit r.source p &&
      if recType i.cfg = 2 then
        h.gen == s.comb.gen && !(i.spans.isEmpty && i.dets.isEmpty) && decide (subNs (i.interval * 100_000_000) < h.time)
      else i.works.any fun w =>
        let w' : HeldProduct := { h with gen := w.gen, time := subNs w.start, prog := p, kind := if w.emitted then 3 else 0 }
        if w.gen = h.gen && subNs w.start = h.time then
          h.kind != 5 && (p < h.prog || (p == h.prog && h.kind == 3 && !w.emitted))
        else w'.before h

/-- Held records enter their streams in order while nothing goes before them; `all` waits for nothing. -/
def State.flushProducts (all : Bool) : Nat → State → State
  | 0, s => s
  | f + 1, s =>
    let ready := s.comb.held.filter fun h =>
      (all || (match s.route h.stream with | some r => !s.owes r h | none => true))
        && s.comb.held.all fun k => k.stream != h.stream || !k.before h
    match ready with
    | [] => s
    | h :: _ =>
      let s := { s with comb := { s.comb with held := s.comb.held.erase h } }
      let s := match s.route h.stream with
        | some r => h.recs.foldl (fun s x => s.emit r x) s
        | none => s
      State.flushProducts all f s

/-- What is held goes out as far as it may. -/
def State.sendHeld (s : State) (all : Bool) : State := State.flushProducts all (s.comb.held.length + 1) s

/-- Holds records of a program, by their stamp and kind, and sends what may go. -/
def State.holdProducts (s : State) (p gen : Nat) (ps : List (Int × Nat × List Record)) : State :=
  let hs := match s.progRoute p with
    | some r => ps.map fun x => ({ stream := r.id, gen := gen, time := x.1, prog := p, kind := x.2.1, recs := x.2.2 } : HeldProduct)
    | none => []
  ({ s with comb := { s.comb with held := s.comb.held ++ hs } } : State).sendHeld false

/-- The totals of a program's frames for a closed epoch are shown (R253). -/
def State.showCounts (s : State) (r : List Byte) (miss settle : Tab Nat) : State :=
  (List.range (recFrames r)).foldl (fun s q =>
    let f := recFirst r + q
    { s with comb := { s.comb with
      miss := Tab.set (fun _ => 0) s.comb.miss f (Tab.get (fun _ => 0) miss f)
      settle := Tab.set (fun _ => 0) s.comb.settle f (Tab.get (fun _ => 0) settle f) } }) s

/-- The instance of a program with the oldest work, and that work. -/
def State.oldestWork (s : State) (p : Nat) : Option (Nat × ProgInst × Work) :=
  (s.comb.insts.zip (List.range s.comb.insts.length)).findSome? fun ii =>
    if recProg ii.1.cfg = p then ii.1.works.head?.map fun w => (ii.2, ii.1, w) else none

/-- Instances that have stopped and owe nothing go. -/
def State.dropDone (s : State) : State :=
  { s with comb := { s.comb with insts := s.comb.insts.filter fun i => !(i.stopped && i.works.isEmpty && i.dets.isEmpty && i.spans.isEmpty) } }

/-- An epoch's products enter the outbound path. `final` says that nothing is left for later: singular pairs go with them. -/
def State.emitWork (s : State) (p ii : Nat) (i : ProgInst) (w : Work) (final : Bool) : State :=
  let svd := recType i.cfg == 1 && bit (xsOutputs i.cfg) 1
  let ps := s.workProducts i w ++ (if final && svd then s.xsPairs i w else [])
  let wait := (svdTime i.cfg w.derate * 800000000).ceil.toNat
  let s := s.showCounts i.cfg w.miss w.settle
  let held := { w with emitted := true, svdAt := some (s.time.cyc + wait) }
  let i' := { i with works := if svd && !final then held :: i.works.tail else i.works.tail }
  let s := { s with comb := { s.comb with insts := s.comb.insts.set ii i' } }
  (s.holdProducts p w.gen (ps.map fun x => (subNs w.start, x))).dropDone

/-- The singular pairs of emitted work enter the outbound path. -/
def State.emitPairs (s : State) (p ii : Nat) (i : ProgInst) (w : Work) : State :=
  let ps := s.xsPairs i w
  let s := { s with comb := { s.comb with insts := s.comb.insts.set ii { i with works := i.works.tail } } }
  (s.holdProducts p w.gen (ps.map fun x => (subNs w.start, x))).dropDone

/-- An epoch's closed products enter the outbound path (R262, R300, R314, R317), once its boundary has come or it was closed early. -/
def State.productEmit (s : State) (p : Nat) : State :=
  match s.oldestWork p with
  | none => s
  | some (ii, i, w) =>
    if w.emitted || w.next < workTotal i.cfg w || (!w.closed && s.ns < w.stop) then s else s.emitWork p ii i w false

/-- The power iteration ends and its records enter the outbound path (R314). -/
def State.svdDone (s : State) (p : Nat) : State :=
  match s.oldestWork p with
  | none => s
  | some (ii, i, w) =>
    match w.svdAt with
    | none => s
    | some at' => if s.time.cyc < at' then s else s.emitPairs p ii i w

/-- Work that an early end has closed is emitted with it (R48, R647): at Q to the last record, at a step up to a power iteration. -/
def State.emitClosed (p : Nat) (final : Bool) : Nat → State → State
  | 0, s => s
  | f + 1, s =>
    match s.oldestWork p with
    | none => s
    | some (ii, i, w) =>
      if w.emitted then (if final then State.emitClosed p final f (s.emitPairs p ii i w) else s)
      else if w.next < workTotal i.cfg w then s
      else State.emitClosed p final f (s.emitWork p ii i w final)

/-! ## MATCH records (R323, R329) -/

def detLess (a b : Detection) : Bool :=
  a.stamp < b.stamp || (a.stamp == b.stamp && (a.chan < b.chan || (a.chan == b.chan && a.templ < b.templ)))
def insertDet (d : Detection) : List Detection → List Detection
  | [] => [d]
  | x :: xs => if detLess d x then d :: x :: xs else x :: insertDet d xs

/-- A detection's item. -/
def Detection.item (d : Detection) (normed : Bool) : List Byte :=
  let score : Nat :=
    if normed then
      (if d.norm = 0 then 0 else bits32 (sqrt32 (mkRat ((d.score * d.score : Nat) : Int) d.norm)))
    else bits32 (d.score : Rat)
  toLE 6 (stampOfSub d.stamp).toNat ++ toLE 2 d.chan ++ toLE 1 d.templ ++ toLE 1 (bnat d.settling) ++ toLE 2 0 ++ toLE 4 score

/-- The 100 ms interval a detection's stamp lies in (R323). -/
def Detection.interval (d : Detection) : Nat := (d.stamp / subNs 100_000_000).toNat

/-- The records of detections, in order of their stamps, each of one interval (R323, R325, R329). -/
def State.matchRecords (s : State) (i : ProgInst) (due : List Detection) : List (Int × Nat × List Record) :=
  let r := i.cfg
  ((due.map (·.interval)).dedup).flatMap fun q =>
    let mine := due.filter fun d => d.interval == q
    (chunks 256 mine.length mine).map fun ds =>
      let t := (ds.head?.map (·.stamp)).getD 0
      (t, 5, [{ typ := 0x09, stream := 0, rseq := 0, stamp := stampOfSub t, rate := 0xFF,
                hflags := 8 * bnat (i.degr.contains q) + 32 * bnat (ds.any (·.settling)) + 64 * bnat (decide (q * 100_000_000 < i.firstStop))
                  + bnat (ds.any fun d => s.suspectAt (d.stamp / 65536)),
                items := ds.length, fmt := 0, typeWord := recProg r, hub := 0,
                payload := toLE 1 (recProg r) ++ toLE 1 (bnat (matchNorm r)) ++ toLE 1 (byteAt r 12) ++ [0]
                  ++ toLE 6 (stampOfNs (q * 100_000_000)).toNat ++ toLE 6 0 ++ ds.flatMap fun d => d.item (matchNorm r) }])

/-- What a program has read so far is counted while it runs (R253). -/
def State.countRun (s : State) (i : ProgInst) (n : Nat) : ProgInst :=
  if Tab.get (fun _ => 0) s.comb.state (recProg i.cfg) = 1 then s.countTo i n else { i with counted := max i.counted n }

/-- An interval of an instance ends: what it read is counted, stretches that lie before it are done with, and the records of detections
stamped before its end enter the outbound path, each under its own interval (R323, R329). -/
def State.closeInterval (s : State) (ii : Nat) : State :=
  match s.comb.insts[ii]? with
  | none => s
  | some i =>
    let t1 := (i.interval + 1) * 100_000_000
    let s := s.runWindows ii ((i.spans.filterMap (·.stop)).foldl max 0) (s.arrived i s.sub) false
    let i := s.countRun ((s.comb.insts[ii]?).getD i) (s.arrived i s.sub)
    let due := (i.dets.filter fun d => d.stamp < subNs t1).foldl (fun l d => insertDet d l) []
    let recs := s.matchRecords i due
    let i' := { i with interval := i.interval + 1, dets := i.dets.filter fun d => !(d.stamp < subNs t1)
                       spans := i.spans.filter fun sp => sp.stop.all fun u => i.indexAt t1 < u
                       degr := i.degr.filter fun q => i.interval < q }
    let s := { s with comb := { s.comb with insts := s.comb.insts.set ii i' } }
    (s.holdProducts (recProg i.cfg) s.comb.gen recs).dropDone

/-- The 100 ms interval of a MATCH program whose turn it is ends. -/
def State.matchInterval (s : State) (p : Nat) : State :=
  match s.matchInsts p with
  | [] => s
  | (i, ii) :: _ =>
    let r := i.cfg
    let t1 := subNs ((i.interval + 1) * 100_000_000)
    if s.sub < t1 + subNs ((matchL r - 1 + matchWin r) * i.period) + s.instLag i then s else s.closeInterval ii

/-- A time step, or Q, comes at a time in ns: windows under way end there, and every detection goes out under its interval (R323, R415, R647).
DEDUCED (log entry 137). -/
def State.finishMatch (s : State) (ns : Nat) : State :=
  let all := (s.comb.insts.zip (List.range s.comb.insts.length)).filter fun x => recType x.1.cfg == 2
  all.foldl (fun s x =>
    let n := x.1.indexAt ns
    let s := s.runWindows x.2 n n true
    let i := s.countRun ((s.comb.insts[x.2]?).getD x.1) n
    let recs := s.matchRecords i (i.dets.foldl (fun l d => insertDet d l) [])
    let s := s.updInst x.2 fun _ => { i with dets := [], spans := i.spans.filter (·.stop.isNone), firstStop := 0 }
    s.holdProducts (recProg i.cfg) s.comb.gen recs) s

/-! ## Programs at a boundary (R46, R281, R282, R294) -/

def State.progState (s : State) (p : Nat) : Nat := Tab.get (fun _ => 0) s.comb.state p
def State.setProgState (s : State) (p v : Nat) : State :=
  { s with comb := { s.comb with state := Tab.set (fun _ => 0) s.comb.state p v } }

/-- L_P of what ran until now is that of the configuration it ran under (R46); what goes on takes the new one's. -/
def State.freezeLags (s : State) : State :=
  s.updInsts fun i =>
    let lag := i.lag.getD (s.progLag i.cfg)
    { i with lag := some lag, works := i.works.map fun w => { w with lag := some (w.lag.getD lag) } }
def State.thawLags (s : State) : State := s.updInsts fun i => if i.stopped then i else { i with lag := none }

/-- A MATCH program's detection ends at a time in ns: no window of it goes past (R294, R330). -/
def ProgInst.closeSpans (i : ProgInst) (ns : Nat) : ProgInst :=
  { i with spans := i.spans.map fun sp => if sp.stop.isSome then sp else { sp with stop := some (i.indexAt ns) } }

/-- The `COMB_PROG` body in force has changed at a time in ns: programs whose record is no longer there stop, and new ones await their first
epoch (R254, R294). -/
def State.applyProgs (s : State) (ns : Nat) : State :=
  let recs := progsOf (s.body 0x07)
  let s := s.updInsts fun i => if recs.contains i.cfg then i else { (i.closeSpans ns) with stopped := true }
  let s := (List.range 8).foldl (fun s p =>
    if recs.any (fun r => recProg r == p) then
      (if s.comb.insts.any (fun i => recProg i.cfg == p && !i.stopped) then s else s.setProgState p 3)
    else s.setProgState p 0) s
  s.dropDone

/-- The percentage of the coming epoch: the lower of both hubs' pending values in a pair (R281, R283). -/
def State.comingDerate (s : State) : Nat :=
  if s.paired && s.comb.pairPct != 0 then min s.comb.pending s.comb.pairPct else s.comb.pending

/-- The live instance of a program, made where there is none. -/
def State.ensureInst (s : State) (r : List Byte) (ns : Nat) : State :=
  if s.comb.insts.any (fun i => i.cfg == r && !i.stopped) then s
  else
    let i : ProgInst :=
      { cfg := r, born := ns, counted := s.firstIndex r ns, interval := ns / 100_000_000, period := s.progPeriod r }
    { s with comb := { s.comb with insts := s.comb.insts ++ [i] } }

/-- A suspended program makes nothing for the epoch that begins at a time in ns (R282, R330): windows wholly before it stand. -/
def State.suspendProg (s : State) (r : List Byte) (num ns : Nat) : State :=
  let p := recProg r
  let s := s.setProgState p 2
  let s := s.updInsts fun i => if i.cfg = r && !i.stopped then i.closeSpans ns else i
  let s := s.bump (0x0009_0100 + 0x40 * p + 0x18)
  let s := s.bump 0x0009_0030
  s.raise 0x0903 p [BitVec.ofNat 32 num]

/-- The totals of an ending epoch of a MATCH program are shown, or of one in which a program was suspended, which read nothing (R253). -/
def State.closeCounts (s : State) (r : List Byte) (ns : Nat) : State :=
  let p := recProg r
  match s.comb.insts.find? fun i => i.cfg == r && !i.stopped with
  | none => s
  | some i =>
    let i' := s.countRun i (s.arrived i (subNs ns))
    let s := if s.progState p = 2 then s.showCounts r [] [] else if recType r = 2 && s.progState p = 1 then s.showCounts r i'.miss i'.settle else s
    if recType r = 2 then s.updInsts fun j => if j.cfg = r && !j.stopped then { i' with miss := [], settle := [] } else j else s

/-- The epoch under way closes at a time in ns, on the configuration it ran on: its totals show, and frames of no program show none (R253). -/
def State.closeEpoch (s : State) (ns : Nat) : State :=
  if s.cfg.epoch.isNone then s.updInsts fun i => if recType i.cfg = 2 then { i with miss := [], settle := [] } else i
  else
    let recs := progsOf (s.body 0x07)
    let owned (f : Nat) : Bool := recs.any fun r => recFirst r ≤ f && f ≤ recLast r
    let s := { s with comb := { s.comb with
      miss := s.comb.miss.filter fun x => owned x.1, settle := s.comb.settle.filter fun x => owned x.1 } }
    recs.foldl (fun s r => s.closeCounts r ns) s

/-- The work of an epoch for a program, on the grid in force. -/
def State.newWork (s : State) (r : List Byte) (i : ProgInst) (num start stop eds : Nat) : Work :=
  { num := num, start := start, stop := stop, gen := s.comb.gen, first := !i.everRan, derate := s.comb.derate, epochDs := eds
    origin := s.progOrigin r, period := s.progPeriod r, grids := i.grids
    banks := (List.range (recFrames r)).filterMap fun q =>
      let b := s.activeBank (recFirst r + q)
      if recType r = 0 && !b.isEmpty then some (recFirst r + q, b) else none }

/-- The new epoch starts for every program (R46 step 5, R282). -/
def State.startEpochWork (s : State) (num start stop eds : Nat) : State :=
  let s := { s with comb := { s.comb with derate := s.comingDerate } }
  (progsOf (s.body 0x07)).foldl (fun s r =>
    let p := recProg r
    let s := s.ensureInst r start
    if !s.progFits r s.comb.derate eds then s.suspendProg r num start
    else
      let s := s.setProgState p 1
      s.updInsts fun i =>
        if i.cfg = r && !i.stopped then
          { i with
            everRan := true, firstStop := if i.everRan then i.firstStop else stop
            works := if recType r = 2 then i.works else i.works ++ [s.newWork r i num start stop eds]
            spans := if recType r != 2 || i.spans.any (·.stop.isNone) then i.spans else i.spans ++ [{ base := i.indexAt start }] }
        else i) s

/-- The running epoch ends at a time, before its boundary (R48) or at Q (`final`, R647): its work is done on what history holds, and its
products are emitted. -/
def State.endEpochWork (s : State) (ns : Nat) (short final : Bool) : State :=
  let cut (w : Work) : Work :=
    if ns < w.stop && w.start ≤ ns then { w with stop := ns, short := short, closed := true } else { w with closed := true }
  let s := ((s.finishMatch ns).closeEpoch ns).updInsts fun i => { i with works := i.works.map cut }
  let works (s : State) (p : Nat) : List (ProgInst × Work) :=
    (s.comb.insts.filter fun i => recProg i.cfg == p).flatMap fun i => i.works.map (i, ·)
  let s := (List.range 8).foldl (fun s p =>
    let s := State.finishWork p ((works s p).map fun x => workTotal x.1.cfg x.2).sum s
    State.emitClosed p final (2 * (works s p).length + 1) s) s
  let s := s.dropDone
  -- what is stamped before the step goes before what is stamped after it (R415)
  ({ s with comb := { s.comb with gen := s.comb.gen + bnat short } } : State).sendHeld final

/-- Time has stepped from one time in ns to another (R415): indices not earlier than the new time's are forgotten, and MATCH pairs look on
from there, what is left of their holdoffs included (R321). -/
def State.stepComb (s : State) (oldNs newNs : Nat) : State :=
  s.updInsts fun i =>
    let k := s.firstIndex i.cfg newNs
    let spans := i.spans.map fun sp => { sp with base := k, pos := sp.pos.map fun x => (x.1, k + (x.2 - i.indexAt oldNs)) }
    { (i.forget k) with spans := spans, counted := k, degr := [], interval := newNs / 100_000_000 }

/-! ## Anchor banks (R271 to R274) -/

/-- The frame records of an `ANCHORS` body (R287). -/
def parseAnchors : Nat → List Byte → List (List Byte)
  | 0, _ => []
  | f + 1, b =>
    let n := 8 + 448 * leAt b 2 2
    if b.isEmpty then [] else b.take n :: parseAnchors f (b.drop n)
def anchorsOf (body : List Byte) : List (List Byte) := parseAnchors 65 body

/-- A full image's tables go to bank A, which becomes active (R271). -/
def State.loadAnchors (s : State) (body : List Byte) : State :=
  (anchorsOf body).foldl (fun s b =>
    let f := byteAt b 0
    { s with comb := { s.comb with bankA := Tab.set (fun _ => []) s.comb.bankA f b
                                   activeB := s.comb.activeB.filter (· != f) } }) s

/-- A rebuild's tables go to the inactive banks, marked valid or not. -/
def State.writeInactive (s : State) (frames : List (List Byte)) (valid : Bool) : State :=
  frames.foldl (fun s b =>
    let f := byteAt b 0
    let toA := s.comb.activeB.contains f
    { s with comb := { s.comb with
        bankA := if toA then Tab.set (fun _ => []) s.comb.bankA f b else s.comb.bankA
        bankB := if toA then s.comb.bankB else Tab.set (fun _ => []) s.comb.bankB f b
        valid := if valid then f :: s.comb.valid.filter (· != f) else s.comb.valid.filter (· != f) } }) s

/-- T_RB in ns. -/
def Rebuild.tRb (b : Rebuild) : Nat := if b.compressed then 6_000_000 else 3_000_000
/-- Whether a boundary at a time may apply the rebuild's commit. -/
def Rebuild.ripe (b : Rebuild) (ns : Nat) : Bool := b.finished && b.startAt + b.tRb ≤ ns
/-- Frames written and checked by a time (R285). DEDUCED (log entry 124): how far a rebuild has come is free until it is done, but it never
goes back. -/
def Rebuild.done (b : Rebuild) (ns : Nat) : Nat :=
  let n := b.frames.length
  if b.finished then n else ((List.range n).filter fun k => Config.rebuildFrameNs b.startAt k ≤ ns - b.startAt).length

/-- The banks of the frames rebuilt swap together (R273, step 4 of R46). -/
def State.swapBanks (s : State) : State :=
  match s.comb.rebuild with
  | none => s
  | some b =>
    let fs := b.frames.map fun x => byteAt x 0
    { s with comb := { s.comb with
      activeB := (s.comb.activeB.filter fun f => !fs.contains f) ++ fs.filter fun f => !s.comb.activeB.contains f
      valid := s.comb.valid.filter fun f => !fs.contains f
      rebuild := none, rebuildLate := false } }

/-- A boundary falls too early for the rebuild under way (R273). -/
def State.rebuildMissed (s : State) : State :=
  let s := { s with comb := { s.comb with rebuildLate := true } }
  (s.bump 0x0009_0020).raise 0x0902 0

/-! ## Refusals at load. They are judged on a state that holds the configuration that would result. -/

/-- The first failure of several checks. -/
def firstFail : List (Option Refuse) → Option Refuse
  | [] => none
  | some r :: _ => some r
  | none :: rest => firstFail rest
/-- A check that fails with a refusal when its condition holds. -/
def failIf (c : Bool) (r : Refuse) : Option Refuse := if c then some r else none
/-- A refusal of the `COMB`. -/
def combRef (reason detail : Nat) : Refuse := { status := stRefused, runit := 0x09, reason := reason, detail := detail }

def allZero (bs : List Byte) : Bool := bs.all (· == 0)

/-- The length of a program record without its padding (R289). -/
def recLen (r : List Byte) : Nat :=
  let tail := if recType r = 2 then 2 * matchT r * matchL r + 8 * matchT r
    else if recType r = 3 && bandMode r = 0 then 2 * (bandCount r + 1) else 0
  64 + 48 * recFrames r + tail

/-- Field ranges and bytes that must be 0 (`LAYOUT`, R289, R296, R298, R301, R306, R315, R318, R260). -/
def recLayoutBad (r : List Byte) : Bool :=
  let c := (recFeeds r).length
  let ty := recType r
  7 < recProg r || 3 < ty || 63 < recLast r || recLast r < recFirst r || leAt r 4 4 != padTo8 (recLen r) || r.length != padTo8 (recLen r)
    || !allZero (r.drop (recLen r)) || (recFeeds r).any (927 < ·)
    || (ty != 0 && (List.range (recFrames r)).any fun f => !allZero (slice r (64 + 48 * f + 24) 24))
    || (if ty = 0 then
          srpG r < 16 || 65536 < srpG r || 2 < byteAt r 12 || 15 < srpShift r || 16000 < srpRefDelay r + 16 * srpRb r
            || srpRows r < 1 || 256 < srpRows r || 3 < srpOutputs r || !allZero (slice r 21 43)
        else if ty = 2 then
          matchT r < 1 || 256 < matchT r || matchL r < 16 || 4096 < matchL r || matchL r % 16 != 0
            || 32768 < matchT r * matchL r || 1 < byteAt r 13 || matchWin r < 1 || 4096 < matchWin r || !allZero (slice r 20 44)
            || ((List.range (matchT r)).any fun t =>
                let th := matchThr r t
                bits th 56 7 != 0
                  || (if matchNorm r then th % 65536 == 0 || bits th 16 40 != 0 else th % 2 ^ 56 == 0))
        else
          specNlog r < 8 || 12 < specNlog r || 3 < specWindow r || 2 < byteAt r 10 || 15 < specShift r
            || (if ty = 1 then
                  xsBins r < 1 || 256 < xsBins r || specN r / 2 + 1 < xsFirstBin r + xsBins r || xsOutputs r = 0 || 3 < xsOutputs r
                    || 128 < c || (if bit (xsOutputs r) 1 then xsK r < 1 || 8 < xsK r || xsIter r < 1 || 64 < xsIter r
                                   else xsK r != 0 || xsIter r != 0)
                    || !allZero (slice r 20 44)
                else
                  bandCount r < 1 || 32 < bandCount r || 2 < bandMode r || !allZero (slice r 20 44)
                    || (if bandMode r = 0 then
                          (List.range (bandCount r)).any (fun b => leAt (recTail r) (2 * b + 2) 2 ≤ leAt (recTail r) (2 * b) 2)
                            || leAt (recTail r) 0 2 < 1 || specN r / 2 < leAt (recTail r) (2 * bandCount r) 2
                        else leAt r 16 4 < 1 || 400_000_000 < leAt r 16 4)))

/-- Feeds a program may not take (`FEED`, R251, R215, R292). -/
def State.recFeedBad (s : State) (r : List Byte) : Bool :=
  let fs := recFeeds r
  let ty := recType r
  fs.dedup.length != fs.length || fs.any fun ch =>
    if ch < 768 then
      match s.chainRec ch with
      | none => true
      | some x => tapbOf (x.drop 4) == 0 || (ty = 0 && tapbDecim (x.drop 4) != 2)
    else if ch < 800 then ty = 0 || ty = 2 || !(fs.all fun c => 768 ≤ c && c < 800)
    else (s.mapRec ch).isNone

/-- What channels of one route, engine or program must share: the rate of pod chains, the slot grid of local channels (R28, R292). -/
def State.gridOf (s : State) (ch : Nat) : Bool × Nat × Option Nat :=
  if ch < 768 then (false, decimOf (((s.chainRec ch).getD []).drop 4), none)
  else (true, s.slotPeriod ch, (s.local' (ch - 768)).origin)
def State.gridsDiffer (s : State) (chs : List Nat) : Bool :=
  match chs with
  | [] => false
  | c :: cs => cs.any fun d => s.gridOf d != s.gridOf c

/-- Rates or grids that differ (`RATE`, R291, R292). -/
def State.recRateBad (s : State) (r : List Byte) : Bool :=
  let fs := recFeeds r
  let p := s.progPeriod r
  let code := if recLocal r then 0xFE else match fs with
    | [] => byteAt r (if recType r = 1 then 19 else if recType r = 3 then 15 else 12)
    | _ => rateCode (p / 1250)
  fs.any (fun c => s.feedPeriod c != p) || (recLocal r && s.gridsDiffer fs)
    || (recType r = 1 && byteAt r 19 != code) || (recType r = 3 && byteAt r 15 != code) || (recType r = 2 && byteAt r 12 != code)

/-- One program record's refusal; `before` are the records before it. -/
def State.recCheck (s : State) (before : List (List Byte)) (r : List Byte) : Option Refuse :=
  let p := recProg r
  let c := (recFeeds r).length
  let eNs := s.cfg.epochDs * 100_000_000
  firstFail
    [failIf (recLayoutBad r || before.any fun b => recProg b == p) (combRef 0x000A p),
     failIf (before.any fun b => recFirst b ≤ recLast r && recFirst r ≤ recLast b)
       { status := stConflict, runit := 0x09, detail := p },
     failIf (s.recFeedBad r) (combRef 0x000B p),
     (((recFeeds r).find? fun ch => 768 ≤ ch && ch < 800 && !(s.local' (ch - 768)).fe.inUse).map fun ch =>
       combRef 0x010B ch),
     failIf (s.recRateBad r) (combRef 0x000C p),
     failIf (recType r == 1 && 18432 < ceilDiv (xsBins r * (c * (c + 1) / 2)) (recFrames r)) (combRef 0x0017 p),
     failIf ((recType r == 1 || recType r == 3) && eNs / max 1 (s.progPeriod r) < specN r) (combRef 0x000D p),
     failIf (recType r == 1 && (s.cfg.epochDs : Rat) / 20 < svdTime r s.comb.derate) (combRef 0x000E p),
     failIf (recType r == 3 && (List.range (bandCount r)).any fun b =>
       let x := bandRange (s.progPeriod r) r b
       min x.2 (specN r / 2) ≤ max 1 x.1) (combRef 0x000F p),
     failIf (progBudget r s.comb.derate < s.progLoad r) (combRef 0x0003 p),
     failIf (subNs 800_000 < s.progSkew r) (combRef 0x0006 p)]

/-- The first record of an SRP program with which the points of all exceed the capping unit's (R263). -/
def capOverrun (recs : List (List Byte)) : Option Nat :=
  let srp := recs.filter fun r => recType r == 0
  ((List.range srp.length).find? fun n => 131072 < ((srp.take (n + 1)).map srpG).sum).map fun n => recProg (srp.getD n [])

/-- The refusals of `COMB_PROG` (R246, R263, R291). -/
def State.combProgCheck (s : State) : Option Refuse :=
  let body := s.body 0x07
  let recs := (progsOf body).take 8
  -- what follows the last record that can be read is one whose length does not fit it, or one too many
  let left := body.drop (recs.map List.length).sum
  firstFail
    [firstFail ((List.range recs.length).map fun i => s.recCheck (recs.take i) (recs.getD i [])),
     failIf (!left.isEmpty) (combRef 0x000A (recProg left)),
     (capOverrun recs).map (combRef 0x000A)]

/-- Segments of a row, and a segment's length. -/
def rowSegs (b : List Byte) (r : Nat) : Nat := ceilDiv (rowLen b r) 64
def segLen (b : List Byte) (r sg : Nat) : Nat := min 64 (rowLen b r - 64 * sg)

/-- The used rows of a table, rows 0 onward, and their lengths (R266, R270). -/
def usedRows (b : List Byte) : Nat := ((List.range (bankRows b)).takeWhile fun r => rowFlags b r == 1).length
def usedLens (b : List Byte) : List Nat := (List.range (usedRows b)).map (rowLen b)

/-- The first row whose used length differs between two tables. -/
def lensDiffer (a b : List Byte) : Option Nat :=
  (List.range (max (usedRows a) (usedRows b))).find? fun r => (usedLens a)[r]? != (usedLens b)[r]?

/-- The row at which the row lengths of a table pass G, or after which they fall short of it (R270). -/
def totalRow (g : Nat) (b : List Byte) : Option Nat :=
  let sum (r : Nat) : Nat := ((usedLens b).take (r + 1)).sum
  if (usedLens b).sum = g then none
  else some (((List.range (usedRows b)).find? fun r => g < sum r).getD (usedRows b - 1))

/-- The slots of a frame that have a feed. -/
def frameSlots (rec : List Byte) (f : Nat) : List Nat :=
  (recSlots rec).filterMap fun x => if x.1 / 12 = f then some (x.1 % 12) else none

/-- The first row of a table with a layout fault (`ANCHOR_LAYOUT`): lengths, first points, and what must be 0. -/
def anchorLayoutRow (rec b : List Byte) : Option Nat :=
  let slots := frameSlots rec (byteAt b 0)
  (List.range (bankRows b)).find? fun r =>
    if usedRows b ≤ r then
      !allZero (slice b (8 + 16 * r) 16) || !allZero (slice b (8 + 16 * bankRows b + 432 * r) 432)
    else
      let first := if r = 0 then 0 else rowFirst b (r - 1) + rowLen b (r - 1)
      rowLen b r % 16 != 0 || rowFirst b r != first
        || (List.range 4).any fun sg => (List.range 12).any fun j =>
          (rowSegs b r ≤ sg || !slots.contains j) && (rowPage b r sg j != 0 || anchorAt b r sg j != (0, 0, 0))

/-- The first row of a table with a segment join or a delay out of bounds. -/
def anchorBoundRow (rec b : List Byte) : Option Nat :=
  (List.range (usedRows b)).find? fun r => (List.range (rowSegs b r - 1)).any fun sg =>
    (frameSlots rec (byteAt b 0)).any fun j => 2048 < (tauAt b r sg j 64 - anchorDelay b r (sg + 1) j).natAbs
def anchorRangeRow (rec b : List Byte) : Option Nat :=
  (List.range (usedRows b)).find? fun r => (List.range (rowSegs b r)).any fun sg => (List.range (segLen b r sg)).any fun k =>
    (frameSlots rec (byteAt b 0)).any fun j =>
      let n := roundHalfEven (tauAt b r sg j k) 4096; n < 0 || (srpRefDelay rec : Int) < n

/-- One frame record's refusal (R270, R274, R287, R288). -/
def State.anchorCheck (s : State) (before : List (List Byte)) (b : List Byte) : Option Refuse :=
  let f := byteAt b 0
  let at' (row : Option Nat) (reason : Nat) : Option Refuse := row.map fun r => combRef reason (f * 65536 + r)
  match (progsOf (s.body 0x07)).find? fun r => recType r == 0 && recFirst r ≤ f && f ≤ recLast r with
  | none => some (combRef 0 f)
  | some rec =>
    firstFail
      [failIf (63 < f || byteAt b 1 != recProg rec || b.length != 8 + 448 * bankRows b || bankRows b < 1 || 256 < bankRows b
          || (before.any fun x => byteAt x 0 == f)) (combRef 0 f),
       failIf (!allZero (slice b 4 4) || bankRows b != srpRows rec) (combRef 0x0009 (f * 65536)),
       at' (anchorLayoutRow rec b) 0x0009,
       at' (totalRow (srpG rec) b) 0x0009,
       at' (anchorBoundRow rec b) 0x0007,
       at' (anchorRangeRow rec b) 0x0008]

/-- Tables that stand for a program's frames not named: those in force (R271), whichever program they came for. -/
def State.standingBanks (s : State) (rec : List Byte) (named : List Nat) : List (List Byte) :=
  (((List.range (recFrames rec)).map (recFirst rec + ·)).filter fun f => !named.contains f).filterMap fun f =>
    let b := s.activeBank f
    if b.isEmpty then none else some b

/-- The refusals of an `ANCHORS` body: each record in order, then row lengths that differ between frames of one program, the tables in
force of frames not named among them. -/
def State.anchorsCheck (s : State) (body : List Byte) : Option Refuse :=
  let recs := anchorsOf body
  let named := recs.map fun b => byteAt b 0
  let others (p : Nat) : List (List Byte) := ((s.progRec p).map fun r => s.standingBanks r named).getD []
  firstFail
    [firstFail ((List.range recs.length).map fun i => s.anchorCheck (recs.take i) (recs.getD i [])),
     recs.findSome? fun b =>
       (((recs.filter fun x => byteAt x 1 == byteAt b 1) ++ others (byteAt b 1)).findSome? fun x => lensDiffer x b).map fun row =>
         combRef 0x0009 (byteAt b 0 * 65536 + row)]

/-- A `REF_DELAY` that a table in force exceeds is refused (R260): `anchors` are the tables that come with it. -/
def State.standingCheck (s : State) (anchors : List Byte) : Option Refuse :=
  let named := (anchorsOf anchors).map fun b => byteAt b 0
  ((progsOf (s.body 0x07)).filter fun r => recType r == 0).findSome? fun r =>
    (s.standingBanks r named).findSome? fun b => (anchorRangeRow r b).map fun row => combRef 0x0008 (byteAt b 0 * 65536 + row)

/-- R294: a new `G` or `NROWS` needs tables for every frame of the program; `old` is the body in force. -/
def State.anchorsMissing (s : State) (old anchors : List Byte) : Option Refuse :=
  let named := (anchorsOf anchors).map fun b => byteAt b 0
  ((progsOf (s.body 0x07)).find? fun r => recType r == 0
    && (match (progsOf old).find? fun o => recProg o == recProg r && recType o == 0 with
        | some o => srpG o != srpG r || srpRows o != srpRows r
        | none => false)
    && (List.range (recFrames r)).any fun q => !named.contains (recFirst r + q)).map fun r => combRef 0x0009 (recFirst r * 65536)

/-! ## Registers (R284, R285) -/

def State.frameProg (s : State) (f : Nat) : Option (List Byte) :=
  (progsOf (s.body 0x07)).find? fun r => recFirst r ≤ f && f ≤ recLast r
def mac6 (q : Rat) : Nat := (q / 1000000).floor.toNat

/-- The read-only registers of the block; none for those the register file holds. -/
def State.readComb (s : State) (o : Nat) : Option Nat :=
  let c := s.comb
  let recs := progsOf (s.body 0x07)
  let bankBits (lo : Nat) : Nat := ((List.range 32).map fun i => if c.activeB.contains (lo + i) then 2 ^ i else 0).sum
  if o = 0 then some 0x0040_0040
  else if o = 4 then
    let any (v : Nat) : Bool := (List.range 8).any fun p => s.progState p == v
    some (bnat (any 1) + 2 * bnat (c.rebuild.any fun b => !b.finished) + 4 * bnat (c.rebuild.any (·.finished))
      + 8 * bnat c.rebuildLate + 16 * bnat (c.derate < 100) + 32 * bnat c.parity + 64 * bnat (any 2))
  else if o = 8 then some (c.derate + c.pending * 256 + (if s.paired then c.pairPct else 0) * 65536)
  else if o = 0xC then some (mac6 ((recs.filter fun r => s.progState (recProg r) == 1).map s.progLoad).sum)
  else if o = 0x10 then some (bankBits 0)
  else if o = 0x14 then some (bankBits 32)
  else if o = 0x18 then
    some (match c.rebuild with
      | some b => b.done s.ns + b.frames.length * 128 + 16384 * bnat b.compressed
      | none => 0)
  else if o = 0x1C then some (((recs.filter fun r => recType r == 0).map srpG).sum)
  else if 0x100 ≤ o && o < 0x300 then
    let p := (o - 0x100) / 0x40
    let q := (o - 0x100) % 0x40
    let r := recs.find? fun r => recProg r == p
    if q = 0x18 then none
    else match r with
      | none => some 0
      | some r =>
        if q = 0 then some (recType r + 4 + recFirst r * 8 + recLast r * 512)
        else if q = 4 then some (mac6 (s.progLoad r))
        else if q = 8 then some (mac6 (progBudget r c.derate))
        else if q = 0xC then some (s.progLag r / 65536).toNat
        else if q = 0x10 then some (s.progSkew r / 65536).toNat
        else if q = 0x14 then some (s.progState p)
        else some 0
  else if 0x1000 ≤ o && o < 0x3000 then
    let f := (o - 0x1000) / 0x80
    let q := (o - 0x1000) % 0x80
    let r := s.frameProg f
    let feed (j : Nat) : Nat := match r with
      | none => 0x3FF
      | some r => let ch := leAt r (64 + 48 * (f - recFirst r) + 2 * j) 2; if ch = 0xFFFF then 0x3FF else ch
    let slots := ((List.range 12).filter fun j => feed j != 0x3FF)
    if q = 0 then
      some (bnat (c.activeB.contains f) + 2 * bnat (c.valid.contains f) + (r.elim 0 recProg) * 4 + 32 * bnat r.isSome
        + slots.length * 64)
    else if q ≤ 0x10 then
      let i := (q - 4) / 4
      some (feed (3 * i) + feed (3 * i + 1) * 1024 + feed (3 * i + 2) * 1048576)
    else if q = 0x14 then none
    else if q = 0x18 then some (Tab.get (fun _ => 0) c.miss f)
    else if q = 0x1C then some (Tab.get (fun _ => 0) c.settle f)
    else if 0x20 ≤ q && q < 0x50 then
      let j := (q - 0x20) / 4
      some (if feed j = 0x3FF then 0 else s.feedResid (feed j) * 4096 / 65536)
    else some 0
  else if 0x34 ≤ o then some 0
  else none

end Sys2Proof.Machine
end

