-- ==== Sys2Proof/Machine/Ingest.lean ====
section
/-! DEFINITION. Ingest (R141 to R175): frames from pods sorted, held and fed to the chains; missing frames, drains, resends and
quarantine; and what chains' outputs reach: streams, capture rings, detectors, the Comb and the trunk's exports. -/

namespace Sys2Proof.Machine

def State.updPod (s : State) (p : Nat) (f : PodLane → PodLane) : State := { s with pods := Tab.upd (fun _ => {}) s.pods p f }
def State.updChain (s : State) (c : Nat) (f : Chain → Chain) : State := { s with chains := Tab.upd (fun _ => {}) s.chains c f }
/-- Registers of a pod lane (R174) and of a chain (R241). -/
def podReg (p o : Nat) : Nat := 0x0005_0100 + 0x80 * p + o
def chReg (c o : Nat) : Nat := 0x0006_1000 + 0x40 * c + o

/-! ## Outputs of chains (R218, R224, R225, R227, R233 to R235) -/

/-- Saturations of `n` stage outputs and `m` tap B values are shown and counted; one at tap B alone leaves `CHAIN_CLIP_ANY` (R225). -/
def State.chainSaturated (s : State) (c n m : Nat) : State :=
  if n + m = 0 then s
  else
    let a := 0x0006_0200 + 4 * (c / 32)
    let s := s.setReg a (s.reg a ||| BitVec.ofNat 32 (2 ^ (c % 32)))
    let s := if n = 0 then s else s.setReg 0x0006_0004 1
    s.bumpBy (chReg c 0x3C) (n + m)

/-- Changes of threshold settings up to a centre tick take effect: a detector whose settings change, or whose chain restarts, starts
disarmed (R234, R236). -/
def Chain.takeThr (c : Chain) (centre : Nat) : Chain :=
  let due := c.thrNext.takeWhile fun x => x.at' ≤ centre
  due.foldl (fun c x =>
    { c with thr := x.thr
             det0 := if x.restart || detSettings c.thr 0 != detSettings x.thr 0 then c.det0.disarm else c.det0
             det1 := if x.restart || detSettings c.thr 1 != detSettings x.thr 1 then c.det1.disarm else c.det1 })
    { c with thrNext := c.thrNext.drop due.length }

/-- The stamp of a centre tick on a lane, in 1/65,536 ns (R226). -/
def State.centreTime (s : State) (c centre : Nat) : Int := subNs (centre * 1250) - (s.pod (c / 32)).gdelay

/-- A tap A output becomes a word (R227) and goes to streams, rings and the trigger network. -/
def State.tapA (s : State) (ch : Nat) (o : ChainOut) : State :=
  let c := (s.chain ch).takeThr o.centre
  let rs := c.restart || o.newRate
  let ctr := if o.newRate then 0 else c.ctr
  let t := s.centreTime ch o.centre
  let v := satTo maxValue o.samp.val
  let usable := !o.samp.miss && !o.settling
  let (d0, f0) := c.det0.step (detSettings c.thr 0) usable v
  let (d1, f1) := c.det1.step (detSettings c.thr 1) usable v
  let w := sampleWord o.samp.val o.samp.rng
    { absent := o.samp.miss, clip := o.samp.clip, settling := o.settling, suspect := s.suspectAt (t / 65536),
      surge := s.surgeAtNs (t / 65536), event := f0 || f1 } ctr
  let slot := o.centre / max 1 o.decim
  let s := if o.newRate then s.ringAnew ch o.centre t else s
  let s := s.updChain ch fun _ =>
    { c with next := slot + 1, decim := o.decim, ctr := ctr + 1, restart := false, det0 := d0, det1 := d1 }
  let s := (List.range (bnat f0 + bnat f1)).foldl (fun s _ => s.bump (chReg ch 0x38)) s
  let s := if f0 then s.trigSend (2 * ch) t else s
  let s := if f1 then s.trigSend (2 * ch + 1) t else s
  let sw : SlotWord := { slot := slot, place := o.centre, step := o.decim, word := w, stamp := stampOfSub t
                         nominal := stampOfSub t, restart := rs, rate := rateCode o.decim }
  (s.ringWord ch sw).deliver ch sw

/-- A tap B output goes to the Comb (R252). -/
def State.tapB (s : State) (ch : Nat) (o : ChainOut) : State :=
  s.combTapB ch (s.centreTime ch o.centre) (o.decim * 1250) o.samp.val o.samp.miss o.settling

/-- A tap B output is exported in each direction whose list holds its chain (R436). -/
def State.exportOut (s : State) (ch : Nat) (o : ChainOut) : State :=
  let out (down : Bool) : List Exported :=
    let ex := s.exports down
    ((ex.zip (List.range ex.length)).filter fun ci => ci.1 == ch).map fun ci =>
      { down, index := ci.2, stamp := s.centreTime ch o.centre, code := ofSigned 24 (if o.samp.miss then missingCode else o.samp.val)
        setl := o.settling && !o.samp.miss, due := s.time.cyc + 2 * cycPerUs }
  { s with time := { s.time with exported := s.time.exported ++ (out false ++ out true) } }

/-- Every output of one chain in turn. -/
def State.chainOuts (s : State) (ch : Nat) (os : List ChainOut) : State :=
  os.foldl (fun s o => if o.tapB then (s.tapB ch o).exportOut ch o else s.tapA ch o) s

/-! ## Feeding a tick (R153, R155, R162, R216) -/

/-- The range code of a slot at a tick. -/
def rangeAt (rs : List (Nat × Nat)) (tick slot : Nat) : Nat :=
  match rs.find? fun r => r.1 ≤ tick with
  | some r => bits r.2 (4 * slot) 4
  | none => 0

/-- The input of a channel slot: missing without a frame, without valid data, or by its own code. -/
def inputSample (l : PodLane) (tick slot : Nat) (h : Option Held) : Samp :=
  match h with
  | none => { miss := true }
  | some f =>
    let v := leAt f.body (3 * slot) 3
    if bit f.status 0 || bit f.status 2 || v = 0x80_0000 || f.body.length < 3 * slot + 3 then { miss := true }
    else { val := toSigned 24 v * 256, clip := v == 0x7F_FFFF || v == 0x80_0001
           rng := rangeAt l.ranges tick slot }

/-- One tick of a lane enters its chains. -/
def State.feedTick (s : State) (p n : Nat) (h : Option Held) : State :=
  let l := s.pod p
  let s := (List.range 32).foldl (fun (s : State) q =>
    let ch := 32 * p + q
    let c := s.chain ch
    if c.insts.isEmpty || c.drained then s
    else
      let (c', os, nsat, nb) := c.feed n (inputSample l n q h)
      ((s.updChain ch fun _ => c').chainSaturated ch nsat nb).chainOuts ch os) s
  s.updPod p fun l => { l with lastFed := n, nextTick := n + 1, held := l.held.filter fun x => x.1 != n
                               outstanding := l.outstanding.filter fun x => x.1 != n }

/-! ## Drains (R39, R165, R169) -/

/-- Spans of drained chains end before tick `b` on their old grids, and go on from there on a grid of decimation `d`, with the
counter from 0 (R15, R36, R237). -/
def State.renumberChains (s : State) (chs : List Nat) (b : Nat) (d : Nat → Nat) : State :=
  let s := s.closeSpans chs fun _ => b
  chs.foldl (fun s ch =>
    match (s.chain ch).gap with
    | some g =>
      let s := s.ringAnew ch b (s.centreTime ch b)
      let s := s.updChain ch fun c => c.renumber b (d ch)
      let start := s.slotPlace ch (s.chain ch).next
      let s := s.updChain ch fun c => { c with gap := some { g with start := start, step := c.decim, seq := 0 } }
      s.resumeSpans [ch] (fun _ => start) g.cause g.subject g.est
    | none => s) s

/-- Every chain of a lane is drained with first missing tick `m`; the span opens (R34, R39). Where a change of rate has not yet
delivered a slot, the span goes on in the new grid (R237). -/
def State.drainChains (s : State) (p m cause : Nat) (est : Bool) : State :=
  let last := (s.pod p).nextTick - 1
  let chs := (List.range 32).map (32 * p + ·)
  let live := chs.filter fun ch => !(s.chain ch).insts.isEmpty && !(s.chain ch).drained
  let grids := live.map fun ch => (ch, (s.chain ch).pendingGrids m last)
  let s := live.foldl (fun s ch =>
    let (c, os) := (s.chain ch).drain m last
    (s.updChain ch fun _ => c).chainOuts ch os) s
  -- a chain whose record was removed ends with what it owed
  let live := live.filter fun ch => (s.chain ch).drained
  let start := fun ch => s.slotPlace ch (s.chain ch).next
  let s := s.openSpans live start cause p est
  let s := live.foldl (fun s ch =>
    s.updChain ch fun c => { c with gap := some { start := c.next * c.decim, step := c.decim, seq := c.ctr, cause, subject := p, est } }) s
  let turns := (grids.flatMap fun cg => cg.2.map fun g => (g.1, g.2, cg.1))
  let bs := (turns.map (·.1)).dedup
  let s := bs.foldl (fun s b =>
    let mine := turns.filter (·.1 == b)
    s.renumberChains (mine.map (·.2.2)) b fun ch => ((mine.find? (·.2.2 == ch)).map (·.2.1)).getD 1) s
  let s := s.updPod p fun l =>
    { l with running := false, drained := true, held := [], outstanding := [], badTicks := [], missRun := 0, lagDue := false }
  s.bump (podReg p 0x64)

/-- Where the frame of a tick lies in its lane's ring (R173). -/
def State.ringSlot (s : State) (p n : Nat) : Nat := n % (ceilDiv (s.lagNs p) 1250 + 64) * 104

/-- The next tick of a lane enters the chains with its frame, or as a missing one (R162); the run of missing frames that grows too long
drains the lane (R165). A frame of which a word is poisoned counts as not held (R371). -/
def State.takeTick (s : State) (p : Nat) : State :=
  let l := s.pod p
  let n := l.nextTick
  let frame := (l.held.find? fun h => h.1 == n).map (·.2)
  let lost := !(s.poisoned (s.region 0x01 p) (s.ringSlot p n) 104).isEmpty
  let s := if frame.isSome then s.unitRead 0 (s.region 0x01 p) (s.ringSlot p n) 104 else s
  match frame.filter fun _ => !lost with
  | some f =>
    let s := (s.updPod p fun l => { l with missRun := 0, badTicks := l.badTicks.filter (n < ·) }).feedTick p n (some f)
    if f.resent then s.bump (podReg p 0x5C) else s
  | none =>
    let first := if l.missRun = 0 then n else l.missFirst
    if s.gapDrain p ≤ l.missRun then
      let crc := l.badTicks.any fun b => first ≤ b && b ≤ n
      s.drainChains p first (if crc then 2 else 1) false
    else
      let s := (s.updPod p fun l => { l with missRun := l.missRun + 1, missFirst := first }).feedTick p n none
      s.bump (podReg p 0x60)

/-- Ticks up to before `m` that still wait enter the chains. -/
def State.feedUpTo (p m : Nat) : Nat → State → State
  | 0, s => s
  | f + 1, s => if (s.pod p).running && (s.pod p).nextTick < m then State.feedUpTo p m f (s.takeTick p) else s

/-- A running lane is drained at a tick, whatever still waits before it being fed. -/
def State.drainLane (s : State) (p m cause : Nat) (est : Bool := false) : State :=
  let s := State.feedUpTo p m (m - (s.pod p).nextTick) s
  if (s.pod p).running then s.drainChains p m cause est else s

/-- The hub time, in units, at which the lag of a tick expires. -/
def State.lagExpiry (s : State) (p n : Nat) : Nat := tickTime n + s.lagNs p * unitsPerNs
/-- Whether it has expired: an arrival in the cycle of the expiry is in time (R165). -/
def State.lagExpired (s : State) (p n : Nat) : Bool :=
  n < (s.pod p).nextTick || s.lagExpiry p n + s.time.increment ≤ s.time.now
/-- The first tick whose lag has not expired. -/
def State.firstUnexpired (s : State) (p : Nat) : Nat :=
  let u := 1250 * unitsPerNs
  let lag := s.lagNs p * unitsPerNs
  max (s.pod p).nextTick (if s.time.now < lag then 0 else (s.time.now - lag) / u + 1)

/-- The lag of a lane's next tick expires: it enters the chains (R162). -/
def State.lagTick (s : State) (p : Nat) : State :=
  if !(s.pod p).running || s.time.now < s.lagExpiry p (s.pod p).nextTick then s else s.takeTick p

/-! ## Errors and quarantine (R168, R169) -/

/-- A lane is quarantined. -/
def State.quarantine (s : State) (p : Nat) : State :=
  let s := s.drainLane p (s.firstUnexpired p) 7
  let s := s.updPod p fun l => { l with quarantined := true, drained := true, running := false }
  s.raise 0x0502 p

/-- An error of a pod: counted under its own counter and in `POD_ERR_SEC`; past the limit the lane is quarantined. -/
def State.podError (s : State) (p o : Nat) : State :=
  let s := (s.bump (podReg p o)).updPod p fun l => { l with errSec := l.errSec + 1 }
  let s := if o = 0x40 then { s with pair := { s.pair with crcErrs := s.pair.crcErrs + 1 } } else s
  if s.quarLimit p < (s.pod p).errSec && !(s.pod p).quarantined then s.quarantine p else s
def podCrcBad : Nat := 0x40
def podExtra : Nat := 0x44
def podUnsol : Nat := 0x4C
def podBadMsg : Nat := 0x50
def podMismatch : Nat := 0x54

/-- Whether a pod's messages are looked at: its lane is in `CAPS` or `ACTIVE` and it is not quarantined (R169). -/
def State.podHears (s : State) (p : Nat) : Bool :=
  let st := (Tab.get (fun _ => ({} : Lane)) s.lanes p).st
  (st == 5 || st == 6) && !(s.pod p).quarantined

/-- A message of a pod whose CRC is bad is an error; a good one goes on. `f` takes it. -/
def State.podMessage (s : State) (p : Nat) (m : List Byte) (f : State → State) : State :=
  if !s.podHears p then s else if crcGood m then f s else s.podError p podCrcBad

/-! ## Resends (R164, R171) -/

/-- Runs of adjacent ticks, at most 64 long, of a rising list. -/
def tickRuns : List Nat → List (Nat × Nat)
  | [] => []
  | n :: ns =>
    match tickRuns ns with
    | (m, k) :: rest => if m = n + 1 && k < 64 then (n, k + 1) :: rest else (n, 1) :: (m, k) :: rest
    | [] => [(n, 1)]

/-- `RESEND_REQ` messages for ticks whose lag does not expire within 10 µs; a standby sends its ticks to the active. A quarantined
lane is sent `TICK` alone (R169). -/
def State.requestTicks (s : State) (p : Nat) (ns : List Nat) : State :=
  let ns := ns.filter fun n => s.time.now + 10000 * unitsPerNs < s.lagExpiry p n
  if ns.isEmpty || (s.pod p).quarantined then s
  else
    let s := s.updPod p fun l => { l with outstanding := l.outstanding.map fun o => if ns.contains o.1 then (o.1, s.time.cyc) else o }
    if s.isStandby then s.plSend (.ticks p ns)
    else
      let s := (tickRuns ns).foldl (fun s r => s.send p (message 0x13 (toLE 4 (r.1 % 2 ^ 32) ++ toLE 1 r.2))) s
      s.bumpBy (podReg p 0x58) ns.length

/-- Ticks become outstanding, once only: those not held, from the last that were on to before `n`. -/
def State.markOutstanding (s : State) (p n : Nat) : State :=
  let l := s.pod p
  let from' := max l.outMark l.nextTick
  let new := ((List.range (n - from')).map (from' + ·)).filter fun k => !(l.held.any fun h => h.1 == k)
  let s := s.updPod p fun l =>
    { l with outMark := max l.outMark n, outstanding := l.outstanding ++ new.map fun k => (k, s.time.cyc) }
  s.requestTicks p new

/-! ## Frames (R151, R159, R163, R166) -/

/-- The latest tick, not later than now, with the given low bits. -/
def State.resolveTick (s : State) (low w : Nat) : Nat :=
  let cur := s.tick
  cur - (cur + 2 ^ w - low % 2 ^ w) % 2 ^ w

/-- The tick a full tick number names: the nearest to now, and none before tick 0 (R163). -/
def State.nearestTick (s : State) (n : Nat) : Nat :=
  let cur := s.tick
  let d := (n + 2 ^ 32 - cur % 2 ^ 32) % 2 ^ 32
  if d < 2 ^ 31 || cur + d < 2 ^ 32 then cur + d else cur + d - 2 ^ 32

/-- The pod's channel count in force. -/
def PodLane.count (l : PodLane) : Nat := byteAt l.caps 1

/-- The latest `STATUS`, with its event (R154). -/
def State.podStatus (s : State) (p st : Nat) : State :=
  let old := (s.pod p).lastStatus
  let s := s.updPod p fun l => { l with lastStatus := st }
  if old % 16 != st % 16 then s.raise 0x0501 p [BitVec.ofNat 32 st] else s

/-- The lane takes its first accepted frame (R40, R166): spans close and chains restart. Missing slots carry the stamps of the group
delay they were missed with; the one accepted anew applies from here (R167). -/
def State.restartLane (s : State) (p n : Nat) : State :=
  let gd := leAt (s.pod p).caps 2 6
  let chs := ((List.range 32).map (32 * p + ·)).filter fun ch => !(s.chain ch).insts.isEmpty
  let next := fun ch => s.slotPlace ch ((s.chain ch).restartAt n).next
  let s := s.closeSpans chs next
  let s := chs.foldl (fun s ch => s.updChain ch fun c => c.restartAt n) s
  s.updPod p fun l =>
    { l with running := true, drained := false, nextTick := n, outMark := n, outstanding := [], badTicks := []
             missRun := 0, held := [], gdelay := gd }

/-- A good frame is held for its tick; `live` says it is no `RESEND_FRAME`. One that arrives in the cycle in which its lag expires enters
the chains now (R165). DESIGN CHOICE (log entry 150): the latest `STATUS` (R154) is that of the live frame held last. -/
def State.holdFrame (s : State) (p n st : Nat) (body : List Byte) (live : Bool) : State :=
  let was := !live && (s.pod p).outstanding.any fun o => o.1 == n
  let s := s.updPod p fun l =>
    { l with held := l.held ++ [(n, { status := st, body := body, resent := was })]
             outstanding := l.outstanding.filter fun o => o.1 != n }
  let s := s.unitWrite 0 (s.region 0x01 p) (s.ringSlot p n) 104
  let s := if live then s.podStatus p st else s
  let s := s.markOutstanding p n
  if (s.pod p).lagDue then (s.updPod p fun l => { l with lagDue := false }).lagTick p else s

/-- `FRAME`, `TICK_FRAME` and `RESEND_FRAME`: 0, 1 and 2. A good frame before any `START` is dropped whatever its length, since the pod's
channel count may not be known yet (R159). DESIGN CHOICE (log entry 151): a frame of the wrong length counts as one with a bad CRC. -/
def State.podFrame (s : State) (p kind : Nat) (m : List Byte) : State :=
  if !s.podHears p then s
  else
    let l := s.pod p
    let c := l.count
    let o := if kind = 2 then 5 else 1
    let body := (m.drop o).take (3 * c)
    let seq := leAt m (o + 3 * c) 2
    let st := byteAt m (o + 3 * c + 2)
    let len := 3 * c + 6 + (if kind = 0 then 0 else 4)
    if crcGood m && l.startTick.isNone then s.bump (podReg p 0x68)
    else if !crcGood m || m.length != len then
      -- the tick a bad frame was for is taken from its own field
      (s.updPod p fun l => { l with badTicks := s.resolveTick seq 16 :: l.badTicks }).podError p podCrcBad
    else
      let n := if kind = 2 then s.nearestTick (leAt m 1 4) else s.resolveTick seq 16
      let early := match l.startTick with | some t => decide (n < t) | none => true
      let tc := leAt m (o + 3 * c + 3) 4
      if early then s.bump (podReg p 0x68)
      else if l.drained || !l.running then
        if kind = 1 && n % 64 = 0 && tc = n % 2 ^ 32 && !s.lagExpired p n then
          (s.restartLane p n).holdFrame p n st body true
        else s.bump (podReg p 0x68)
      else if kind = 0 && n % 64 = 0 then s.podError p podBadMsg
      else if kind = 1 && n % 64 != 0 then s.podError p podBadMsg
      else if kind = 1 && tc != n % 2 ^ 32 then s.podError p podMismatch
      else if s.lagExpired p n then s.bump (podReg p 0x48)
      else if l.held.any fun h => h.1 == n then s.podError p podExtra
      else if kind = 2 && !(l.outstanding.any fun x => x.1 == n) && !(l.partner.contains n) then s.podError p podUnsol
      else if kind != 2 && n + 64 < s.tick then s.bump (podReg p 0x48)
      else s.holdFrame p n st body (kind != 2)

/-! ## Capabilities and start (R149, R156 to R158) -/

/-- The result of a capability block, the first that applies. -/
def State.podCapsResult (s : State) (p : Nat) (b : List Byte) : Nat :=
  if byteAt b 0 != 1 || (b.drop 25).any (· != 0) then 1
  else if byteAt b 1 != 16 && byteAt b 1 != 32 then 2
  else if (byteAt b 1 == 32) != s.exp32 p then 3
  else if 1_000_000 * 65536 < leAt b 2 6 then 4
  else if leAt b 8 2 < ceilDiv (s.lagNs p) 1250 then 5
  else if 100_000 < leAt b 10 4 then 6
  else if 1 < byteAt b 24 then 7
  else 0

/-- D once the echoes and the turnaround are known (R149); a takeover adds nothing here. DESIGN CHOICE (log entry 109): the rule gives the
division no rounding; D is whole ps, half to even. -/
def State.podDelay (s : State) (p : Nat) : State :=
  s.updPod p fun l =>
    if l.echoes.length = 16 && !l.caps.isEmpty then
      { l with delay := roundHalfEven (((l.echoes.sum : Nat) : Int) - 16 * (leAt l.caps 10 4 : Nat)) 32 + s.podSkew p }
    else l

/-- The tick a timed start names: the first pending `POD_START` entry for the lane at least 100 µs ahead (R158, R424). -/
def State.timedStart (s : State) (p : Nat) : Option Nat :=
  ((List.range 64).filterMap fun e =>
    let a := Tab.get (fun _ => ({} : TaEntry)) s.time.acts e
    if a.pending && a.action = 3 && bit a.arg p && s.ns + 100_000 ≤ a.time then some (a.time / 1250) else none).min?

/-- An entry for the lane has run, or falls due within 100 µs: too late for a timed start (R424). -/
def State.startGone (s : State) (p : Nat) : Bool :=
  (List.range 64).any fun e =>
    let a := Tab.get (fun _ => ({} : TaEntry)) s.time.acts e
    a.action == 3 && bit a.arg p && (a.ran || (a.pending && decide (a.time < s.ns + 100_000)))

/-- `TICK_LOAD` and `START` (R158). A lane with a timed start waits for its entry, unless that has run (log entry 87) or the lane had not
reached `ACTIVE` as TRAIN ended (R635); a quarantined one waits for its release (R169). DESIGN CHOICE (log entry 153): the next `TICK` that
`TICK_LOAD` names is that of the tick after the current one. -/
def State.podStart (s : State) (p : Nat) : State :=
  let timed := s.laneFlag p 5 && !(s.pod p).untimed
  let untimed := ceilDiv (s.tickAfter 100_000) 64 * 64
  let tickOf := if !timed then some untimed else s.timedStart p <|> (if s.startGone p then some untimed else none)
  if (s.pod p).quarantined then s.updPod p fun l => { l with started := false, startTick := none }
  else
    let s := s.send p (message 0x14 (toLE 4 ((s.tick + 1) % 2 ^ 32)))
    let s := match tickOf with
      | some n => s.send p (message 0x11 (toLE 4 (n % 2 ^ 32) ++ toLE 1 0))
      | none => s
    s.updPod p fun l => { l with started := tickOf.isSome, startTick := tickOf }

/-- A lane that leaves service: it delivers no frames until it passes through `CAPS` again (R167). -/
def State.podDown (s : State) (p : Nat) : State :=
  s.updPod p fun l => { l with inCaps := false, started := false, startTick := none }

/-- A lane enters `CAPS`: 16 `ECHO` messages go out (R149). -/
def State.podEnterCaps (s : State) (p : Nat) : State :=
  let s := s.updPod p fun l => { l with inCaps := true, echoes := [] }
  if s.silent p || (s.pod p).quarantined then s
  else (List.range 16).foldl (fun s i => s.send p (message 0x15 (toLE 1 i))) s

/-! ## Ranges, commands (R155, R160) -/

def State.podRange (s : State) (p : Nat) (m : List Byte) : State :=
  s.podMessage p m fun s =>
    let l := s.pod p
    if byteAt l.caps 24 = 0 || m.length != 23 then s.podError p podBadMsg
    else
      -- not before the first tick not yet fed
      let n := max (s.nearestTick (leAt m 1 4)) l.nextTick
      s.updPod p fun l => { l with ranges := (n, leAt m 5 16) :: l.ranges.filter fun r => r.1 < n }

def State.podCmdResp (s : State) (p : Nat) (m : List Byte) : State :=
  s.podMessage p m fun s =>
    if m.length != 9 then s.podError p podBadMsg
    else
    match (s.pod p).cmd with
    | some (tag, _) =>
      if tag = byteAt m 1 then
        s.updPod p fun l => { l with cmd := none, respTag := tag, respResult := byteAt m 2, respData := BitVec.ofNat 32 (leAt m 3 4) }
      else s.podError p podUnsol
    | none => s.podError p podUnsol

/-- A write of `POD_CMD` (R160, R161). -/
def State.writePodCmd (s : State) (p : Nat) (v : Word) : Reply × State :=
  let code := v.toNat % 256
  let tag := v.toNat / 256 % 256
  if (s.pod p).cmd.isSome then (Reply.of stBusy, s)
  else if 4 ≤ code && code < 0x40 then (Reply.of stRefused 0x05, s)
  else
    let msg := message 0x12 (toLE 1 tag ++ toLE 1 code ++ toLE 4 (s.regN (podReg p 0x2C)))
    let s := if (s.pod p).quarantined then s else s.send p msg
    (Reply.ok, s.updPod p fun l => { l with cmd := some (tag, s.time.cyc) })

/-- A lane resumes after its quarantine is released (R170); its pod, when it waits for its start, is started. -/
def State.releaseQuar (s : State) (p : Nat) : State :=
  if !(s.pod p).quarantined then s
  else
    let s := s.updPod p fun l => { l with quarantined := false, errSec := 0, drained := true, running := false }
    if s.laneActive p && !(s.pod p).started && !s.silent p then s.podStart p else s

/-! ## Chains' configuration (R236 to R238) -/

/-- Whether two records' stages or tap B differ. -/
def stagesDiffer (a b : List Byte) : Bool := a.take 2 != b.take 2 || (a.drop 4).take 12 != (b.drop 4).take 12

/-- A chain takes a record (from its byte 4 on), or none, at change point `b`. `force` restarts it with nothing changed. -/
def Chain.configure (c : Chain) (rec : Option (List Byte)) (b : Nat) (force laneRuns : Bool) : Chain :=
  match rec with
  | none =>
    if c.drained || !laneRuns then { c with insts := [], drained := false, gap := none }
    else { c with insts := c.insts.map fun i => if i.stopAt.isSome then i else { i with stopAt := some b } }
  | some r =>
    let thr := (r.drop 16).take 24
    match c.insts.getLast? with
    | none =>
      let d := decimOf r
      { c with insts := [ChainInst.start r b], drained := !laneRuns, thr := thr, thrNext := [], det0 := {}, det1 := {}
               next := ceilDiv b (max 1 d), decim := d, ctr := 0, restart := false }
    | some i =>
      let old := (i.cfg.drop 16).take 24
      -- an instance whose record was removed before still stops there, and another begins
      let gone := i.stopAt.any (· < b)
      if stagesDiffer i.cfg r || force || gone then
        if c.drained then { c with insts := [ChainInst.start r b], thr := thr, thrNext := [] }
        else
          let k := { ChainInst.start r b with newRate := gone || decimOf i.cfg != decimOf r }
          { c with insts := (c.insts.map fun j => if j.stopAt.isSome then j else { j with stopAt := some b }) ++ [k]
                   thrNext := c.thrNext ++ [{ at' := b, thr := thr, restart := true }] }
      else
        { c with insts := c.insts.dropLast ++ [{ i with cfg := r, stopAt := none }]
                 thrNext := if old == thr then c.thrNext else c.thrNext ++ [{ at' := b, thr := thr, restart := false }] }

/-- Every chain takes the `CHAINS` body in force at change point `b`; a change of rate that reaches a drained chain goes on with its
span in the new grid (R237). -/
def State.configureChains (s : State) (b : Nat) : State :=
  let recOf := fun ch => (s.chainRec ch).map (·.drop 4)
  let moved := (List.range s.chainCount).filter fun ch =>
    (s.chain ch).gap.isSome && (recOf ch).any fun r => decimOf r != (s.chain ch).decim
  let s := s.renumberChains moved b fun ch => ((recOf ch).map decimOf).getD 1
  (List.range s.chainCount).foldl (fun s ch =>
    let rec' := recOf ch
    let runs := (s.pod (ch / 32)).running
    if rec'.isNone && (s.chain ch).insts.isEmpty then s
    else s.updChain ch fun c =>
      let c := c.configure rec' b false runs
      if c.drained && c.gap.isNone && !c.insts.isEmpty then
        { c with gap := some { start := c.next * c.decim, step := c.decim, seq := c.ctr, cause := 1, subject := ch / 32 } }
      else c) s

/-- Chains with `SURGE_RESTART` restart at the tick after SURGE ends (R238). -/
def State.surgeRestart (s : State) (b : Nat) : State :=
  (List.range s.chainCount).foldl (fun s ch =>
    match (s.chain ch).insts.getLast? with
    | some i =>
      if surgeRestartOf i.cfg && !(s.chain ch).drained && i.stopAt.isNone then
        s.updChain ch fun c => c.configure (some i.cfg) b true (s.pod (ch / 32)).running
      else s
    | none => s) s

/-- Every chain stops at once, without a drain and without a span (R645, R647). -/
def State.stopChains (s : State) : State :=
  let s := (List.range s.chainCount).foldl (fun s ch =>
    if (s.chain ch).insts.isEmpty then s else s.updChain ch fun c => { c with insts := [], drained := false, gap := none }) s
  (List.range 24).foldl (fun s p =>
    if (s.pod p).running then s.updPod p fun l => { l with running := false, drained := true, held := [], outstanding := [] } else s) s

/-! ## TICK (R146) -/

/-- `TICK` on every pod lane in `ACTIVE`, once for every tick: it leaves at the tick instant less the lane's D. Only the active of a
pair transmits (R171). -/
def State.sendTicks (s : State) : State :=
  if s.isStandby || s.time.tickSent = some s.tick then s
  else
    let s := { s with time := { s.time with tickSent := some s.tick } }
    (List.range s.podLanes).foldl (fun s p =>
      if s.laneActive p && (s.carries p || s.returns p) then
        let (ofs, s) := s.fresh Config.tickOffset
        let m := message 0x10 (toLE 2 (s.tick % 65536) ++ toLE 2 ofs.toNat)
        if s.returns p then s.send p m
        else { s with wire := s.wire ++ [{ lane := p, bytes := m, leaves := some ((s.tick * 1_250_000 : Nat) - (s.pod p).delay) }] }
      else s) s

end Sys2Proof.Machine
end

