-- ==== Sys2Proof/Machine/Lanes.lean ====
section
/-! DEFINITION. The serial lanes (chapter 5): bring-up from `DETECT` to `ACTIVE`, its failures, the test features of TEST, and
eye margin scans. -/

namespace Sys2Proof.Machine

/-- A register of lane `l` (R211). -/
def laneReg (l o : Nat) : Nat := 0x0004_1000 + 0x100 * l + o

def State.lane (s : State) (l : Nat) : Lane := Tab.get (fun _ => {}) s.lanes l
def State.updLane (s : State) (l : Nat) (f : Lane → Lane) : State := { s with lanes := Tab.upd (fun _ => {}) s.lanes l f }

/-- Classes (R176): 0 pod, 1 trunk, 2 host, 3 pair. -/
def laneClass (l : Nat) : Nat := if l < 24 then 0 else if l < 28 then 1 else if l < 30 then 2 else 3

/-- Settings of a lane's record in force; the reset values of `LANE_CFG` without one (R212). -/
def State.lanePreset (s : State) (l : Nat) : Nat := ((s.laneRec l).map fun r => byteAt r 2 % 16).getD 5
def State.laneFar (s : State) (l : Nat) : Nat := ((s.laneRec l).map fun r => byteAt r 2 / 16).getD 0
def State.laneSearch (s : State) (l : Nat) : Bool := ((s.laneRec l).map fun r => bit (byteAt r 1) 3).getD true
def State.eyeHMin (s : State) (l : Nat) : Nat := orDefault (((s.laneRec l).map fun r => byteAt r 3).getD 0) 19
def State.eyeVMin (s : State) (l : Nat) : Nat := orDefault (((s.laneRec l).map fun r => byteAt r 4).getD 0) 15

/-! ## Line rates (R176) -/

/-- Cycles that `n` line bits take, a cycle begun counting whole; and the line bits of some cycles: 1.6 or 6.4 Gbit/s. -/
def lineCycles (l n : Nat) : Nat := if l < 24 then ceilDiv n 2 else ceilDiv n 8
def lineBits (l cycles : Nat) : Nat := if l < 24 then 2 * cycles else 8 * cycles

/-! ## States (R188 to R190) -/

/-- A lane enters `DETECT`; its medium, preset and search settings are taken anew (R188). Leaving `BACKOFF` clears its retry counts
(R190). A pod lane is out of `CAPS` (R175). -/
def State.enterDetect (s : State) (l : Nat) : State :=
  let s := if l < 24 && (s.lane l).st = 5 then s.podDown l else s
  let (m, pr, se, fp) := (s.laneFlag l 1, s.lanePreset l, s.laneSearch l, s.laneFar l)
  s.updLane l fun x =>
    { x with st := 1, entered := s.time.cyc, medium := m, preset := pr, search := se, farPreset := fp, rxReady := false
             locked := false, scan := none, tries := if x.st = 7 then [] else x.tries }

/-- A lane enters `TRAIN` at its preset; a search starts with preset 0 (R194, R195). A listening lane requests nothing. -/
def State.enterTrain (s : State) (l : Nat) : State :=
  let listen := s.silent l
  s.updLane l fun x =>
    { x with st := 2, entered := s.time.cyc, txPreset := x.preset, tcwAt := s.time.cyc, rxReady := false, confirms := 0, readyAt := none
             searching := x.search && !listen, best := none, rxPreset := if x.search then 0 else x.farPreset, locked := false }

/-- Any other state is entered; leaving `BACKOFF` clears the retry counts (R190). `BITLOCK` waits for clean bits from here on, and `SYMLOCK` hunts sync words from here on. -/
def State.enterLane (s : State) (l st : Nat) : State :=
  s.updLane l fun x =>
    { x with st := st, entered := s.time.cyc, cleanFrom := s.time.cyc, huntFrom := if st = 4 then s.time.cyc else x.huntFrom
             tries := if x.st = 7 then [] else x.tries }

/-- What follows once a pair lane is down (R589): with neither lane in `ACTIVE` and the partner not known to be down, the hubs
are blind and comparison stops. -/
def State.pairLinkCheck (s : State) : State :=
  if s.pair.role = 0 || s.laneActive 30 || s.laneActive 31 || s.pair.blind then s
  else
    let s := { s with pair := { s.pair with blind := true, mine := [], theirs := [], cleanFrom := none, lockedAt := none } }
    (s.raise 0x0C03 0).bump 0x000C_0048

/-- A lane has left `ACTIVE` (R198): the event with a code, and what its class does about it (R167, R499, R589). -/
def State.laneLeft (s : State) (l code : Nat) : State :=
  let s := s.updLane l fun x => { x with scan := none }
  let s := s.raise 0x0402 l [BitVec.ofNat 32 code]
  if l < 24 then s.podDown l
  else if laneClass l = 2 then s.rewindHost
  else if laneClass l = 3 then s.pairLinkCheck
  else s

/-- Retries of a bring-up state and where its failure leads (R189). -/
def afterFailure (st : Nat) : Nat := if st = 3 then 2 else if st = 4 then 3 else 1

/-- A failure of the lane's state (R190): counted, recorded, and leading on or to `BACKOFF`. -/
def State.laneFail (s : State) (l code : Nat) : State :=
  let st := (s.lane l).st
  let s := s.bump (laneReg l 0x3C)
  let s := s.updLane l fun x => { x with lastCode := code, tries := Tab.upd (fun _ => 0) x.tries st (· + 1) }
  let s := if l < 24 && st = 5 then s.podDown l else s
  if st != 1 && 3 ≤ Tab.get (fun _ => 0) (s.lane l).tries st then (s.enterLane l 7).raise 0x0401 l
  else if afterFailure st = 1 then s.enterDetect l
  else if afterFailure st = 2 then s.enterTrain l
  else (s.enterLane l 3).updLane l fun x => { x with locked := false }

/-- A lane reaches `ACTIVE` (R190); a pod is started (R158). A listening hub starts no pod and takes the frames it observes. -/
def State.enterActive (s : State) (l : Nat) : State :=
  let s := (s.enterLane l 6).updLane l fun x => { x with tries := [], reached := true }
  if l < 24 then
    if s.silent l then s.updPod l fun x => { x with started := true, startTick := some 0 } else s.podStart l
  else s

/-- The capability exchange of a lane's class ends (R197). -/
def State.capsDone (s : State) (l : Nat) (ok : Bool) : State :=
  if (s.lane l).st != 5 then s else if ok then s.enterActive l else s.laneFail l 8

/-- `TCAPS` of this hub on a trunk lane (R430, R434). -/
def State.sendTcaps (s : State) (l : Nat) : State :=
  let m := message 0x24 (toLE 1 1 ++ toLE 1 s.hubId ++ toLE 1 (bnat s.sys.pairId) ++ toLE 1 (l - 24) ++ toLE 2 s.chainId
    ++ List.replicate 10 0)
  let p := l - 24
  let s := { s with time := { s.time with ports := Tab.upd (fun _ => ({} : TrunkPort)) s.time.ports p fun x =>
    { x with ackSent := false, ackGot := false } } }
  s.send l m

/-- A lane enters `CAPS`. The host and pair classes have no block to exchange: their lanes go on to `ACTIVE` at once. -/
def State.enterCaps (s : State) (l : Nat) : State :=
  let s := s.enterLane l 5
  if l < 24 then s.podEnterCaps l
  else if laneClass l = 1 then s.sendTcaps l
  else s.enterActive l

/-! ## Bring-up events -/

def State.laneDetected (s : State) (l : Nat) (term energy : Bool) : State :=
  if (s.lane l).st != 1 then s
  else
    let s := s.updLane l fun x => { x with termSeen := term, energy := energy }
    if energy || (term && !s.silent l) then s.enterTrain l else s

/-- Timeouts in µs and codes of the bring-up states (R189, R199). -/
def laneTimeout (st : Nat) : Option (Nat × Nat) :=
  [(1, 100000, 1), (2, 25000, 2), (3, 100, 5), (4, 50, 6), (5, 10000, 7)].lookup st

def State.laneTimedOut (s : State) (l : Nat) : State :=
  let x := s.lane l
  match laneTimeout x.st with
  | some (us, code) => if x.entered + us * cycPerUs ≤ s.time.cyc then s.laneFail l code else s
  | none => s

/-- A valid training control word (R192). -/
def tcwValid (w : Nat) : Bool := w / 65536 + w % 65536 == 65535

/-- One more, or none, of the consecutive valid TCWs with `RX_READY` that count once this end's own is set; at 8 the 16 further blocks
begin (R193). -/
def Lane.confirm (x : Lane) (now : Nat) (good : Bool) : Lane :=
  if x.readyAt.isSome then x
  else if !good || !x.rxReady then { x with confirms := 0 }
  else { x with confirms := x.confirms + 1, readyAt := if 8 ≤ x.confirms + 1 then some now else none }

def State.trainingBlock (s : State) (l w : Nat) : State :=
  if (s.lane l).st != 2 then s
  else if !tcwValid w then s.updLane l fun x => x.confirm s.time.cyc false
  else if bits w 9 2 != laneClass l then s.laneFail l 3
  else
    s.updLane l fun x =>
      { x.confirm s.time.cyc (bit w 8) with
        tcwAt := s.time.cyc, txPreset := if w % 16 ≤ 10 then w % 16 else x.txPreset }

def State.tcwTimedOut (s : State) (l : Nat) : State :=
  let x := s.lane l
  if x.st = 2 && x.tcwAt + 1000 * cycPerUs ≤ s.time.cyc then s.laneFail l 4 else s

/-- The best preset so far with the one just scanned: the larger opening, the lower number on a tie (R195). -/
def betterPreset (best : Option (Nat × Nat)) (opening p : Nat) : Nat × Nat :=
  match best with
  | some (o, q) => if o < opening then (opening, p) else (o, q)
  | none => (opening, p)

def State.presetStep (s : State) (l opening : Nat) : State :=
  let x := s.lane l
  if x.st != 2 || !x.searching || s.time.cyc < x.entered + (x.rxPreset + 1) * 1000 * cycPerUs then s
  else
    let b := betterPreset x.best opening x.rxPreset
    s.updLane l fun x =>
      if x.rxPreset < 10 then { x with best := some b, rxPreset := x.rxPreset + 1 }
      else { x with best := some b, rxPreset := b.2, searching := false }

/-- A PHY override register of a lane (R213): 0x0 the transmitter's, 0x4 the receiver's. -/
def phyReg (l o : Nat) : Nat := 0x0200_0000 + 0x1000 * l + o

/-- The receiver has adapted: 1 ms, after the 11 ms of a search (R195). An override fixes the CTLE step, and can freeze the DFE
(R213). -/
def State.rxAdapted (s : State) (l ctle : Nat) (dfe : Word) : State :=
  let x := s.lane l
  let ms := if x.best.isSome then 12 else 1
  if x.st != 2 || x.searching || x.rxReady || s.time.cyc < x.entered + ms * 1000 * cycPerUs then s
  else
    let o := s.regN (phyReg l 4)
    s.updLane l fun x =>
      { x with rxReady := true, ctle := if bit o 0 then bits o 1 4 else ctle % 16
               dfe := if bit o 0 && bit o 5 then x.dfe else BitVec.ofNat 32 (dfe.toNat % 2 ^ 30) }

/-- The 16 further training blocks have been sent (R193). -/
def Lane.handshakeOver (x : Lane) (l now : Nat) : Bool :=
  match x.readyAt with
  | some c => decide (c + lineCycles l (16 * 1024) ≤ now)
  | none => false

def State.handshakeDone (s : State) (l : Nat) : State :=
  let x := s.lane l
  if x.st = 2 && x.handshakeOver l s.time.cyc && !s.silent l then s.enterLane l 3 else s

/-- A listening lane follows the far end's training blocks to their stop (R200). -/
def State.farTrainingEnd (s : State) (l : Nat) : State :=
  if (s.lane l).st = 2 && s.silent l then s.enterLane l 3 else s

/-- Bit lock, 2,048 line bits after the last that was not clean (R196). -/
def State.bitLocked (s : State) (l : Nat) : State :=
  let x := s.lane l
  if x.st = 3 && x.cleanFrom + lineCycles l 2048 ≤ s.time.cyc then s.enterLane l 4 else s

/-- Four sync words have matched, each 1,024 bits after the one before, since the hunt began (R183). -/
def Lane.huntOver (x : Lane) (l now : Nat) : Bool := x.huntFrom + lineCycles l (3 * 1024 + 32) ≤ now

def State.symlocked (s : State) (l : Nat) : State :=
  let x := s.lane l
  if !x.huntOver l s.time.cyc then s
  else if x.st = 4 then (s.updLane l fun x => { x with locked := true, missRun := 0 }).enterCaps l
  else if x.st = 5 then s.updLane l fun x => { x with locked := true, missRun := 0 }
  else s

/-- The run of missed sync words that goes on now: a block takes 1,024 bits, and up to 34 more stuffed (R180, R183). -/
def Lane.run (x : Lane) (l now : Nat) : Nat := if now ≤ x.missAt + lineCycles l 1058 then min 4 x.missRun else 0

/-- Symbol lock is lost, by 4 consecutive misses (R183, R198): those of them that no command has told are counted with it (R184), and
the hunt starts again. -/
def State.symlockLost (s : State) (l : Nat) : State :=
  let x := s.lane l
  let s := if x.locked then s.bumpBy (laneReg l 0x34) (4 - x.run l s.time.cyc) else s
  if x.st = 6 then
    let s := s.bump (laneReg l 0x38)
    let s := (s.enterLane l 4).updLane l fun x => { x with lastCode := 9, tries := [], locked := false, missRun := 0 }
    s.laneLeft l 9
  else s.updLane l fun x => { x with locked := false, missRun := 0, huntFrom := s.time.cyc }

def State.backoffEnd (s : State) (l : Nat) : State :=
  let x := s.lane l
  if x.st = 7 && x.entered + 1000 * cycPerMs ≤ s.time.cyc then s.enterDetect l else s

/-! ## Enabling, retraining -/

/-- A lane is enabled or disabled (R188). -/
def State.setEnable (s : State) (l : Nat) (on : Bool) : State :=
  let x := s.lane l
  if on = x.enable then s
  else
    let s := s.updLane l fun x => { x with enable := on }
    if on then (if x.st = 8 then s else s.enterDetect l)
    else
      let s := if x.st = 8 then s else (s.enterLane l 0).updLane l fun x => { x with locked := false, scan := none, tries := [] }
      if x.st = 6 then s.laneLeft l x.lastCode else if l < 24 && x.st = 5 then s.podDown l else s

/-- A write of `LANE_RETRAIN` (R198). A lane in `PATTERN` stays there: its generator has taken it out of bring-up (R202). -/
def State.retrain (s : State) (v : Nat) : State :=
  (bitList 32 v).foldl (fun s l =>
    let x := s.lane l
    if !x.enable || x.st = 8 then s
    else
      let s := (s.updLane l fun x => { x with lastCode := 10 }).enterDetect l
      if x.st = 6 then s.laneLeft l 10 else s) s

/-! ## Test features (R201 to R207) -/

def State.inTest (s : State) : Bool := s.sys.mode == .test

/-- The longest run of equal bits in 32 consecutive bits of a repeating 64-bit pattern stays below 32 (R203). -/
def patternOk (p : Nat) : Bool :=
  (List.range 64).all fun i =>
    let w := (List.range 32).map fun j => bit p ((i + j) % 64)
    w.any (· != w.headD false)

/-- The taps n and m of a PRBS x^n + x^m + 1 by its code (R202). -/
def prbsTaps (code : Nat) : Option (Nat × Nat) := [(1, 7, 6), (2, 9, 5), (3, 15, 14), (4, 23, 18), (5, 31, 28)].lookup code
/-- A register of n bits, the oldest on top, steps once; and its contents after k steps from all ones. -/
def prbsStep (n m r : Nat) : Nat := (2 * r + bnat (bit r (n - 1) != bit r (m - 1))) % 2 ^ n
def prbsAt (n m : Nat) : Nat → Nat
  | 0 => 2 ^ n - 1
  | k + 1 => prbsStep n m (prbsAt n m k)
/-- Bit k of a pattern: of a PRBS its first n bits are the ones it starts from; a user pattern repeats. -/
def patternBit (code user k : Nat) : Bool :=
  match prbsTaps code with
  | some (n, m) => bit (prbsAt n m k) (n - 1)
  | none => bit user (k % 64)

/-- Whether an injection inverts bit k after its `GO` (R206). -/
def Injection.hits (j : Injection) (k : Nat) : Bool :=
  if j.mode = 1 then k == 0 else if j.mode = 2 then k % max 1 j.n == 0 else decide (j.mode = 3 ∧ k < j.len)

/-- `LANE_USER_HI`:`LANE_USER_LO`. -/
def State.userBits (s : State) (l : Nat) : Nat := s.regN (laneReg l 0x18) * 2 ^ 32 + s.regN (laneReg l 0x14)

/-- Where an injection lies against a lane's pattern: how many bits went out from its `GO` to the pattern's start, and how many of the
pattern before its `GO`. -/
def State.injectAt (s : State) (l : Nat) (j : Injection) : Nat × Nat :=
  (lineBits l ((s.lane l).entered - j.from'), lineBits l (j.from' - (s.lane l).entered))

/-- Line bit k of a lane in `PATTERN`, from its entry on: its pattern, inverted where an injection strikes. -/
def State.patternOut (s : State) (l k : Nat) : Bool :=
  let x := s.lane l
  let b := patternBit (s.regN (laneReg l 0x10) % 8) (s.userBits l) k
  match x.inject with
  | some j =>
    let (past, k0) := s.injectAt l j
    b != (k0 ≤ k && j.hits (past + k - k0))
  | none => b

/-! ## What a lane's transmitter sends (R188, R191 to R194, R200, R202, R207) -/

inductive LaneTx
  | idle | detectPulse | training | blocks | pattern | retransmit
deriving DecidableEq, Repr, Inhabited

/-- The transmitter at its balls. A copper lane in `DETECT` pulses its receiver-detect test every 100 µs; an optical one sends training
blocks (R191). DEDUCED (log entry 121): in `BACKOFF`, where the spec names nothing to send, it is idle. -/
def State.laneTx (s : State) (l : Nat) : LaneTx :=
  let x := s.lane l
  if s.laneLoop l = 1 then .idle
  else if s.laneLoop l = 2 then .retransmit
  else if x.st = 8 then .pattern
  else if !x.enable || s.silent l then .idle
  else if x.st = 1 then
    (if x.medium then .training else if (s.time.cyc - x.entered) % (100 * cycPerUs) = 0 then .detectPulse else .idle)
  else if x.st = 2 then .training
  else if 3 ≤ x.st && x.st ≤ 6 then .blocks
  else .idle

/-- The preset transmitted: an override in TEST, else the one trained (R193, R213). -/
def State.sentPreset (s : State) (l : Nat) : Nat :=
  let o := s.regN (phyReg l 0)
  if bit o 0 then bits o 1 4 else (s.lane l).txPreset

/-- C−1, C0 and C+1 of the presets, in 1/24 of full swing (R194). -/
def ffePresets : List (Int × Int × Int) :=
  [(0, 24, 0), (0, 21, -3), (0, 19, -5), (0, 17, -7), (0, 15, -9), (-2, 22, 0), (-2, 19, -3), (-2, 17, -5), (-3, 18, -3),
   (-3, 16, -5), (-4, 14, -6)]
def State.laneFfe (s : State) (l : Nat) : Int × Int × Int := ffePresets.getD (s.sentPreset l) (0, 24, 0)

/-- The hub's own TCW (R192): the preset it asks for, the one it sends, its readiness and its class. -/
def State.ownTcw (s : State) (l : Nat) : Nat :=
  let x := s.lane l
  let low := x.rxPreset % 16 + 16 * (s.sentPreset l % 16) + 256 * bnat x.rxReady + 512 * laneClass l
  low + 65536 * (65535 - low)

/-- Training block k since the lane began to send them, before stuffing: the sync word, the TCW, and 960 bits of a PRBS7 that goes on
from block to block (R192). -/
def State.trainingBits (s : State) (l k : Nat) : List Bool :=
  (List.range 32).map (bit 0x3A9C_F4E1) ++ (List.range 32).map (bit (s.ownTcw l))
    ++ (List.range 960).map fun i => patternBit 1 0 (960 * k + i)

/-- The lane enters `PATTERN`, starts another pattern there, or leaves it for `DETECT`. -/
def State.setGen (s : State) (l : Nat) (on : Bool) (anew : Bool := false) : State :=
  let x := s.lane l
  if on then
    if x.st = 8 then (if anew then s.enterLane l 8 else s)
    else
      let s := (s.enterLane l 8).updLane l fun x => { x with locked := false, scan := none }
      if x.st = 6 then s.laneLeft l x.lastCode else if l < 24 then s.podDown l else s
  else if x.st != 8 then s
  else
    let s := s.updLane l fun x => { x with inject := none, scan := none }
    if x.enable then s.enterDetect l else s.enterLane l 0

/-- Whether a checker finds no error in received bits, oldest first (R204): a PRBS seeds itself from the first n of them, and a user pattern
is tried at its 64 rotations. -/
def checkerFits (code user : Nat) (bs : List Bool) : Bool :=
  match prbsTaps code with
  | some (n, m) =>
    (List.range (bs.length - n)).all fun i => bs.getD (i + n) false == (bs.getD i false != bs.getD (i + n - m) false)
  | none => (List.range 64).any fun r => (List.range bs.length).all fun i => bs.getD i false == bit user ((i + r) % 64)

/-- How many bits a checker takes before it compares: a PRBS seeds its register. -/
def checkerSeed (code : Nat) : Nat := ((prbsTaps code).map (·.1)).getD 0

/-- The lane's own pattern comes back to its receiver (R207): near-end loopback, with the generator on. -/
def State.looped (s : State) (l : Nat) : Bool := s.laneLoop l == 1 && (s.lane l).st == 8

/-- The codes of the generator and of the checker (R202, R204). -/
def State.genCode (s : State) (l : Nat) : Nat := s.regN (laneReg l 0x10) % 8
def State.chkCode (s : State) (l : Nat) : Nat := s.regN (laneReg l 0x10) / 8 % 8

/-- Line bits of the present pattern sent up to a cycle. -/
def State.patternAge (s : State) (l c : Nat) : Nat := lineBits l (c - (s.lane l).entered)

/-- How many of the bits from `a` up to `b` after its `GO` an injection inverts (R206). -/
def Injection.count (j : Injection) (a b : Nat) : Nat :=
  if j.mode = 1 then (if a = 0 ∧ 0 < b then 1 else 0)
  else if j.mode = 2 then ceilDiv b (max 1 j.n) - ceilDiv a (max 1 j.n)
  else if j.mode = 3 then min b j.len - a
  else 0

/-- The errors among a looped lane's own line bits from `a` up to `b`: those that injections struck. -/
def State.loopErrors (s : State) (l a b : Nat) : Nat :=
  match (s.lane l).inject with
  | some j =>
    let (past, k0) := s.injectAt l j
    if b ≤ k0 then 0 else j.count (past + max a k0 - k0) (past + b - k0)
  | none => 0

/-- What the checker has compared since it came into sync is counted, in whole units of 2^20 bits, with the errors among it (R204). A
looped lane meets the errors it injects (R206, R207); of any other line the errors are free (log entry 123). -/
def State.checkerCount (s : State) (l : Nat) : State :=
  let x := s.lane l
  if !x.chkSync then s
  else
    let n := lineBits l (s.time.cyc - x.chkFrom) / 2 ^ 20
    let (e, s) :=
      if s.looped l then (s.loopErrors l (s.patternAge l x.chkFrom) (s.patternAge l s.time.cyc) - x.chkErrs, s)
      else s.fresh Config.chkErrors
    ((s.bumpBy (laneReg l 0x44) (n - x.chkDone)).bumpBy (laneReg l 0x40) e).updLane l fun x =>
      { x with chkDone := max x.chkDone n, chkErrs := x.chkErrs + e }

/-- The checker seeks sync anew. -/
def State.checkerSeeks (s : State) (l : Nat) : State :=
  (s.checkerCount l).updLane l fun x => { x with chkSync := false, chkFrom := s.time.cyc, chkDone := 0, chkErrs := 0 }

/-- A write of `LANE_TEST_CTRL`. -/
def State.writeTestCtrl (s : State) (l v : Nat) : Reply × State :=
  let v := v % 256
  let gen := v % 8
  let chk := v / 8 % 8
  if (v != 0 && !s.inTest) || gen = 7 || chk = 7 || v / 64 = 3 || (gen = 6 && !patternOk (s.userBits l)) then
    (Reply.of stRefused 0x04, s)
  else
    let old := s.regN (laneReg l 0x10)
    let s := s.setReg (laneReg l 0x10) (BitVec.ofNat 32 v)
    let s := if old / 8 % 8 = chk then s else s.checkerSeeks l
    (Reply.ok, s.setGen l (gen != 0) (gen != old % 8))

/-- Whether the line carries 64 bits without an error after the checker's seed: of a looped lane, its own last bits do (R204, R207). -/
def State.checkerClean (s : State) (l : Nat) : Bool :=
  let n := checkerSeed (s.chkCode l) + 64
  let k := s.patternAge l s.time.cyc
  !s.looped l || (n ≤ k && checkerFits (s.chkCode l) (s.userBits l) ((List.range n).map fun i => s.patternOut l (k - n + i)))

/-- 64 consecutive error-free bits, after those that seed a PRBS (R204). -/
def State.checkerSync (s : State) (l : Nat) : State :=
  let x := s.lane l
  let n := checkerSeed (s.chkCode l) + 64
  if s.inTest && s.chkCode l != 0 && !x.chkSync && x.chkFrom + lineCycles l n ≤ s.time.cyc && s.checkerClean l then
    s.updLane l fun x => { x with chkSync := true, chkFrom := s.time.cyc, chkDone := 0, chkErrs := 0 }
  else s

/-- 256 errors within 1,024 bits: the checker loses sync. Its errors while in sync, `errors` in all, and the bits compared, `mi` units in
all, are counted as far as they were not yet, and the loss; it seeds again (R204). -/
def State.checkerLost (s : State) (l errors mi : Nat) : State :=
  let x := s.lane l
  if x.chkSync && 256 ≤ errors then
    let s := (((s.bumpBy (laneReg l 0x40) (errors - x.chkErrs)).bumpBy (laneReg l 0x44) (mi - x.chkDone)).bump (laneReg l 0x48))
    s.updLane l fun x => { x with chkSync := false, chkFrom := s.time.cyc, chkDone := 0, chkErrs := 0 }
  else s

/-- A write of `LANE_INJ_GO` (R206). -/
def State.writeInjGo (s : State) (l v : Nat) : Reply × State :=
  let ctrl := s.regN (laneReg l 0x1C)
  let mode := ctrl % 4
  let n := s.regN (laneReg l 0x20)
  let go := bit v 0
  if go && (!s.inTest || (mode = 2 && n < 2) || (mode = 3 && ctrl / 4 % 65536 = 0)) then (Reply.of stRefused 0x04, s)
  else
    let now := s.time.cyc
    (Reply.ok, s.updLane l fun x =>
      let j := if go && mode != 0 then some { mode := mode, from' := now, n := n, len := ctrl / 4 % 65536 } else x.inject
      { x with inject := if bit v 1 then j.filter (·.mode != 2) else j })

/-- What leaving TEST does to lanes (R202, R213, R649). -/
def State.lanesLeaveTest (s : State) : State :=
  (List.range 32).foldl (fun s l =>
    let s := s.setReg (laneReg l 0x10) 0
    let s := (s.setReg (0x0200_0000 + 0x1000 * l) 0).setReg (0x0200_0004 + 0x1000 * l) 0
    (((s.checkerCount l).updLane l fun x => { x with inject := none, chkSync := false }).setGen l false)) s

/-! ## Eye scans (R208 to R210, R617) -/

/-- The planner starts the next scan of its queue, when none of its own runs. A lane that is not in `ACTIVE` is left out; one
with a software scan waits behind the others. -/
def State.nextPlanned (s : State) : State :=
  let q := s.clk.scanQueue.filter fun l => s.laneActive l
  let running := (List.range 32).any fun l => match (s.lane l).scan with | some e => e.planner | none => false
  let (busy, free) := (q.filter fun l => (s.lane l).scan.isSome, q.filter fun l => (s.lane l).scan.isNone)
  if running then s
  else
    match free with
    | l :: _ =>
      let before := q.takeWhile (· != l)
      let rest := (q.dropWhile (· != l)).drop 1
      let s := { s with clk := { s.clk with scanQueue := rest ++ before } }
      s.updLane l fun x => { x with scan := some { planner := true, dwell := 1, from' := s.time.cyc }, eyePlanner := true }
    | [] => { s with clk := { s.clk with scanQueue := busy } }

/-- A write of `LANE_EYE_CTRL` (R209). -/
def State.writeEyeCtrl (s : State) (l v : Nat) : Reply × State :=
  let x := s.lane l
  let s' := s.setReg (laneReg l 0x28) (BitVec.ofNat 32 (v % 8 / 2 * 2))
  if !bit v 0 then (Reply.ok, s')
  else if x.scan.isSome then (Reply.of stBusy, s)
  else if x.st != 6 && x.st != 8 then (Reply.of stRefused 0x04, s)
  else (Reply.ok, s'.updLane l fun x => { x with scan := some { dwell := v / 2 % 4, from' := s.time.cyc }, eyePlanner := false })

/-- The result of one direction. -/
def Lane.setEye (x : Lane) (dir n : Nat) : Lane :=
  if dir = 0 then { x with eyeL := n } else if dir = 1 then { x with eyeR := n }
  else if dir = 2 then { x with eyeU := n } else { x with eyeD := n }

/-- A scan ends and is judged (R210). -/
def State.eyeDone (s : State) (l : Nat) : State :=
  let x := s.lane l
  let low := x.eyeL + x.eyeR < s.eyeHMin l || x.eyeU + x.eyeD < s.eyeVMin l
  let s := s.updLane l fun x => { x with scan := none, eyeValid := true, eyeLow := low }
  let s := if low && !x.eyeLow then s.raise 0x0403 l else s
  s.nextPlanned

/-- A step has dwelt: 10^6 to 10^9 bits have passed (R208). -/
def EyeScan.dwelt (e : EyeScan) (l now : Nat) : Bool := e.from' + lineCycles l (10 ^ (6 + e.dwell)) ≤ now

/-- A step's dwell ends (R208). -/
def State.eyeStep (s : State) (l : Nat) (disagree : Bool) : State :=
  match (s.lane l).scan with
  | none => s
  | some e =>
    if !e.dwelt l s.time.cyc then s
    else
      let e := { e with from' := s.time.cyc }
      let n := if disagree then e.steps else e.steps + 1
      if disagree || 32 ≤ n then
        let s := s.updLane l fun x => (x.setEye e.dir n)
        if 3 ≤ e.dir then s.eyeDone l
        else s.updLane l fun x => { x with scan := some { e with dir := e.dir + 1, steps := 0 } }
      else s.updLane l fun x => { x with scan := some { e with steps := n } }

/-! ## Line events -/

/-- A stuff bit that is not opposite to its run (R181): the clean bits of `BITLOCK` begin anew (R196). -/
def State.stuffErr (s : State) (l : Nat) : State :=
  (s.bump (laneReg l 0x30)).updLane l fun x => { x with cleanFrom := s.time.cyc }

/-- A missed sync word under lock (R184); the run of misses goes on, or begins (R183). -/
def State.syncMiss (s : State) (l : Nat) : State :=
  if (s.lane l).locked then
    (s.bump (laneReg l 0x34)).updLane l fun x => { x with missRun := x.run l s.time.cyc + 1, missAt := s.time.cyc }
  else s

end Sys2Proof.Machine
end

