-- ==== Sys2Proof/Machine/LocalValue.lean ====
section
/-! DEFINITION. From a conversion to a `VALUE` (R82): ranges, ratiometric scaling, the pair mean, offset, gain and ageing
corrections, linearisation and cold-junction compensation (chapters 2 and 3). -/

namespace Sys2Proof.Machine

/-! ## Fields of a channel's settings (R101 to R104, R127) -/

def FrontEnd.mode (f : FrontEnd) : Nat := bits f.exc.toNat 0 2
def FrontEnd.level (f : FrontEnd) : Nat := bits f.exc.toNat 2 10
/-- T_PRE in ns. -/
def FrontEnd.preNs (f : FrontEnd) : Nat := bits f.exc.toNat 12 8 * 100_000
def FrontEnd.imax (f : FrontEnd) : Nat := bits f.exc.toNat 20 5
def FrontEnd.leads (f : FrontEnd) : Nat := bits f.lead.toNat 0 2
def FrontEnd.fixedCode (f : FrontEnd) : Nat := bits f.range.toNat 0 3
def FrontEnd.fixed (f : FrontEnd) : Bool := bit f.range.toNat 3
def FrontEnd.curveNo (f : FrontEnd) : Nat := bits f.curve.toNat 0 4
def FrontEnd.subtype (f : FrontEnd) : Nat := bits f.curve.toNat 4 2
def FrontEnd.cjcDesignated (f : FrontEnd) : Bool := bit f.curve.toNat 6
def FrontEnd.cjcCh (f : FrontEnd) : Nat := bits f.curve.toNat 7 5
def FrontEnd.gapNs (f : FrontEnd) : Nat := bits f.conv.toNat 3 8 * 100_000

/-- The 16 source currents in µA (R55). -/
def sourceMicroA : List Nat := [10, 20, 50, 100, 150, 200, 250, 300, 400, 500, 600, 750, 1000, 1250, 1500, 2000]
def FrontEnd.sourceUa (f : FrontEnd) : Nat := sourceMicroA.getD (f.level % 16) 0

/-- V_set of R54, volts. -/
def FrontEnd.vset (f : FrontEnd) : Rat := 1 + (f.level : Rat) / 100

/-- `EXC` as the register shows it: a field the mode does not use reads 0 (R101). -/
def normalExc (w : Word) : Word :=
  let n := w.toNat
  let m := n % 4
  if m = 1 then BitVec.ofNat 32 (n % 2 ^ 25)
  else if m = 2 then BitVec.ofNat 32 (m + bits n 2 4 * 4 + bits n 12 8 * 4096)
  else 0

/-- FS of a range code in volts (R76): adjacent ranges differ by a factor of 4. -/
def fullScale (c : Nat) : Rat := 10 / ((4 ^ c : Nat) : Rat)

/-- I_k of R62 in units of 10 nA. -/
def FrontEnd.budgetCurrent (f : FrontEnd) : Nat :=
  if f.mode = 1 then 115 * f.imax * 1000
  else if f.mode = 2 then (if f.leads = 1 then 2 else 1) * 101 * f.sourceUa
  else 0

/-! ## Factory data (R134) -/

def q30 (w : Word) : Rat := (toSigned 32 w.toNat : Rat) / ((2 ^ 30 : Nat) : Rat)
/-- A word of field OTP (R134): the gaps of its table read 0. -/
def otpRead (o : Nat) : Word :=
  let fixed := o = 0x4 || o = 0x8 || o = 0x10 || o = 0x14 || (0x20 ≤ o && o < 0x30) || o = 0xFFC
  let chan := 0x100 ≤ o && o < 0x900 && (o - 0x100) % 0x40 < 0x28
  if o = 0 then 1 else if fixed || chan then Config.otpWord o else 0

/-- The check of field OTP (R135): `OTP_CRC` is the CRC-32C of bytes 0x0000 to 0x0FFB. -/
def otpGood : Bool := otpRead 0xFFC == crc32c ((List.range 0x3FF).flatMap fun i => toLE 4 (otpRead (4 * i)).toNat)

def rangeGain (k c : Nat) : Rat := q30 (Config.otpWord (0x100 + 0x40 * k + 4 * c))
def witnessR0 (k : Nat) : Rat := q30 (Config.otpWord (0x118 + 0x40 * k))
def currTrimA (k : Nat) : Rat := q30 (Config.otpWord (0x11C + 0x40 * k))
def currTrimB (k : Nat) : Rat := q30 (Config.otpWord (0x120 + 0x40 * k))
/-- The main reference in volts. -/
def vref : Rat := ((Config.otpWord 0x10).toNat : Rat) / 10_000_000

/-! ## Stages 1 to 6 -/

/-- Stage 1 (R107): the input voltage of a raw count. -/
def stage1 (k code units : Nat) (zero : Rat) (count : Int) : Rat :=
  ((count : Rat) - zero) * rangeGain k code * vref * Config.countScale code units

/-- Stage 2 (R74). -/
def stage2 (f : FrontEnd) (v vsense : Rat) : Rat :=
  if f.leads = 3 then (if vsense = 0 then Config.senseZero v else v * f.vset / vsense) else v

/-- A value saturated by R12, with whether it was. -/
def saturated (i : Int) : Int × Bool := (satTo maxValue i, satTo maxValue i != i)

/-- Stage 4: Q31 of the word's range. -/
def stage4 (code : Nat) (v : Rat) : Int × Bool := saturated (roundRat (v / fullScale code * ((2 ^ 31 : Nat) : Rat)))

/-- Stage 5 (R125). -/
def stage5 (f : FrontEnd) (code : Nat) (raw : Int) : Int × Bool :=
  let ofs : Rat := (toSigned 32 f.ofs.toNat : Rat)
  let q := satTo maxValue (roundRat (ofs / 100_000_000 * ((2 ^ 31 : Nat) : Rat) / fullScale code))
  saturated (roundHalfEven ((raw - q) * toSigned 32 f.gain.toNat) (2 ^ 30))

/-- Stage 6 (R126): the ageing factor, given as A − 1 in 10^−8. -/
def stage6 (age : Int) (v : Int) : Int × Bool := saturated (roundHalfEven (v * (100_000_000 + age)) 100_000_000)

/-! ## Stage 7 (R83 to R90) -/

/-- Domains of curves 1 to 10 in m°C (R83). -/
def curveDomain : List (Int × Int) :=
  [(0, 0), (250000, 1820000), (-200000, 1000000), (-210000, 1200000), (-200000, 1372000), (-200000, 1300000),
   (-50000, 1768000), (-50000, 1768000), (-200000, 400000), (-200000, 850000), (-55000, 150000)]

/-- A result within a domain, or the nearer end with `CLIP` (R88). -/
def clampTo (lo hi v : Int) : Int × Bool := if v < lo then (lo, true) else if hi < v then (hi, true) else (v, false)

/-- Volts of a stage-6 result. -/
def voltsOf (code : Nat) (v : Int) : Rat := (v : Rat) * fullScale code / ((2 ^ 31 : Nat) : Rat)

/-- The whole temperature in m°C, within a domain, up to which a rising reference function stays at or below `y`; `n` halvings. -/
def inverseAt (f : Int → Rat) (y : Rat) : Nat → Int → Int → Int
  | 0, lo, _ => lo
  | n + 1, lo, hi =>
    let mid := (lo + hi) / 2
    if mid = lo then lo else if f mid ≤ y then inverseAt f y n mid hi else inverseAt f y n lo mid

/-- The error, in m°C, that a curve may add (R83). -/
def curveError : List Int := [0, 30, 10, 10, 10, 10, 20, 20, 10, 5, 10]

/-- A temperature with the error its curve adds: free within ± the limit of R83 (log entry 110). -/
def withError (curve : Nat) (x : Rat) (t : Int) : Int :=
  let e := curveError.getD curve 0
  t + max (-e) (min e (Config.curveError curve x))

/-- A temperature curve given by its rising reference function (R83, R88). -/
def byReference (curve : Nat) (f : Int → Rat) (x : Rat) : Int × Bool :=
  let (lo, hi) := curveDomain.getD curve (0, 0)
  if x < f lo then (lo, true)
  else if f hi < x then (hi, true)
  else (((withError curve x (inverseAt f x 24 lo (hi + 1))) |> max lo |> min hi), false)

/-- A thermocouple, with the cold-junction temperature in m°C (R83, R90). -/
def thermocouple (curve : Nat) (cj : Int) (volts : Rat) : Int × Bool :=
  byReference curve (Config.tcVolts curve) (volts + Config.tcVolts curve cj)

/-- The sensor resistance of R85. -/
def FrontEnd.resistance (f : FrontEnd) (k : Nat) (volts : Rat) : Rat :=
  let i := (f.sourceUa : Rat) / 1_000_000
  let it := if f.leads = 1 then (i * currTrimA k + i * currTrimB k) / 2 else i * currTrimA k
  volts / it

/-- The platinum curve of R83: an R₀ in Ω at a temperature in m°C. PRESUMED (log entry 142): the coefficients of the standard that the rule
names, IEC 60751, of α = 0.00385; the spec does not print them. -/
def platinum (r0 : Nat) (t : Int) : Rat :=
  let c : Rat := (t : Rat) / 1000
  let below : Rat := if t < 0 then -4183 / 10 ^ 15 * (c - 100) * (c * c * c) else 0
  r0 * (1 + 39083 / 10 ^ 7 * c - 5775 / 10 ^ 10 * (c * c) + below)

def rtd (f : FrontEnd) (k : Nat) (volts : Rat) : Int × Bool :=
  byReference 9 (platinum ([100, 500, 1000].getD f.subtype 100)) (f.resistance k volts)

/-- The value of a binary32 word; for one that is no number, a free value. -/
def binary32 (w : Word) : Rat :=
  let n := w.toNat
  let e : Nat := bits n 23 8
  let m : Nat := n % 2 ^ 23
  let a : Rat :=
    if e = 255 then Config.notANumber w
    else if e = 0 then (m : Rat) / ((2 ^ 149 : Nat) : Rat)
    else if 150 ≤ e then (((2 ^ 23 + m) * 2 ^ (e - 150) : Nat) : Rat)
    else ((2 ^ 23 + m : Nat) : Rat) / ((2 ^ (150 - e) : Nat) : Rat)
  if bit n 31 then -a else a

/-- The sum of z^(2i+1) / (2i+1) for `n` terms from `k` = 2i + 1 on, in 2^−64 units; `p` is z^k. -/
def atanhTerms (z2 : Nat) : Nat → Nat → Nat → Nat
  | 0, _, _ => 0
  | n + 1, k, p => p / k + atanhTerms z2 n (k + 2) (p * z2 / 2 ^ 64)

/-- ln x of a positive rational, within 2^−50 of it times its size: x = 2^e · m with m from 1 to 2, and ln m = 2 atanh((m−1)/(m+1)). -/
def lnRat (x : Rat) : Rat :=
  let e : Int := (Nat.log2 x.num.toNat : Int) - Nat.log2 x.den
  let m : Rat := if 0 ≤ e then x / ((2 ^ e.toNat : Nat) : Rat) else x * ((2 ^ (-e).toNat : Nat) : Rat)
  let (m, e) := if m < 1 then (2 * m, e - 1) else (m, e)
  let z : Nat := ((m - 1) / (m + 1) * ((2 ^ 64 : Nat) : Rat)).floor.toNat
  let s := 2 * atanhTerms (z * z / 2 ^ 64) 24 1 z
  -- ln 2 in 2^−64
  ((s : Int) + e * 12786308645202655660 : Int) / ((2 ^ 64 : Nat) : Rat)

/-- Curve 10 (R85): 1/T = A + B·ln R + C·(ln R)³. -/
def thermistor (f : FrontEnd) (k : Nat) (volts : Rat) : Int × Bool :=
  let r := f.resistance k volts
  let l := lnRat r
  let inv := binary32 f.param0 + binary32 f.param1 * l + binary32 f.param2 * (l * l * l)
  if r ≤ 0 || inv ≤ 0 then (150000, true)
  else
    let (lo, hi) := curveDomain.getD 10 (0, 0)
    let (t, c) := clampTo lo hi (roundRat ((1 / inv - 27315 / 100) * 1000))
    if c then (t, true) else (withError 10 r t |> max lo |> min hi, false)

/-- Curve 11 (R86): strain in 10^−9, within ±0.1. DESIGN CHOICE (log entry 111): a quarter bridge with Vr of 0.5 or above, where the formula
divides by 0 or turns negative, reads as beyond the positive end. -/
def strain (f : FrontEnd) (volts : Rat) : Int × Bool :=
  let vr := volts / f.vset
  let gf := (f.param0.toNat : Rat) / ((2 ^ 28 : Nat) : Rat)
  let far := f.subtype = 0 && 1 ≤ 2 * vr
  let e := if f.subtype = 0 then 4 * vr / (gf * (1 - 2 * vr)) else if f.subtype = 1 then 2 * vr / gf else vr / gf
  if far || 1 / 10 < e then (100_000_000, true)
  else if e < -(1 / 10) then (-100_000_000, true)
  else (roundRat (e * 1_000_000_000), false)

/-- Curve 12 (R87). -/
def squareRoot (f : FrontEnd) (x : Int) : Int :=
  let a := x.natAbs
  if a < f.param0.toNat then 0
  else if x < 0 then -(isqrt (a * 2 ^ 31) : Int) else (isqrt (a * 2 ^ 31) : Int)

/-- Stage 7: `VALUE`, and whether the input lay outside the domain. -/
def linearise (f : FrontEnd) (k code : Nat) (cj : Int) (v : Int) : Int × Bool :=
  let c := f.curveNo
  if 1 ≤ c && c ≤ 8 then thermocouple c cj (voltsOf code v)
  else if c = 9 then rtd f k (voltsOf code v)
  else if c = 10 then thermistor f k (voltsOf code v)
  else if c = 11 then strain f (voltsOf code v)
  else if c = 12 then saturated (squareRoot f v)
  else (v, false)

/-- Stages 5 to 7 of a stage-4 result. -/
def correctAndLinearise (f : FrontEnd) (k code : Nat) (age cj : Int) (raw : Int) : Int × Bool :=
  let (a, c5) := stage5 f code raw
  let (b, c6) := stage6 age a
  let (v, c7) := linearise f k code cj b
  let (w, c8) := saturated v
  (w, c5 || c6 || c7 || c8)

/-! ## Ranging (R78 to R80) -/

/-- The highest code whose 80 % a voltage stays below; 0 when there is none. -/
def highestCode (x : Rat) : Nat := ((List.range 6).filter fun c => x < 8 / 10 * fullScale c).getLast?.getD 0

/-- The code of the next conversion and the conversions counted towards rule 3, latest first. `x` is |x|. -/
def autorange (code : Nat) (downs : List Rat) (x : Rat) (overRange : Bool) : Nat × List Rat :=
  let next : Nat × List Rat :=
    if overRange then (0, [])
    else if 95 / 100 * fullScale code ≤ x then (highestCode x, [])
    else if x < 2 / 10 * fullScale code then
      let d := x :: downs
      if 3 ≤ d.length then (highestCode (d.foldl max 0), d.take 2) else (code, d)
    else (code, [])
  if next.1 = code then next else (next.1, [])

/-! ## Noise (R120) in 10^−1 nV -/

def noiseTable : List (List Nat) :=
  [[15000, 10700, 7600, 5400, 4000], [3600, 2600, 1800, 1300, 950], [1200, 860, 610, 440, 330], [500, 360, 260, 190, 150],
   [300, 220, 160, 120, 95], [250, 180, 130, 95, 75]]
/-- noise(c, n) in volts; `n` is the NPLC code. -/
def noiseVolts (c n : Nat) : Rat := (((noiseTable.getD c []).getD n 0 : Nat) : Rat) / 10_000_000_000

/-- The square root of a non-negative rational to the nearest whole number, ties to even. -/
def nearestRoot (q : Rat) : Nat :=
  let n := isqrt (q.num.toNat / q.den)
  let h := (n : Rat) + 1 / 2
  if h * h < q then n + 1 else if h * h = q && n % 2 = 1 then n + 1 else n

end Sys2Proof.Machine
end

