-- ==== Sys2Proof/Machine/Local.lean ====
section
/-! DEFINITION. The local channels at work (chapters 2 and 3): slots and windows on their grids, excitation pulses, words and
their flags, spot conversions, housekeeping in the gaps, ageing, mains, calibration, and what stops and restarts a channel. -/

namespace Sys2Proof.Machine

/-- A register of local channel k (R100). -/
def fdReg (k o : Nat) : Nat := 0x0100_1000 + 0x40 * k + o

def State.updLocal (s : State) (k : Nat) (f : Local → Local) : State :=
  { s with field := { s.field with ch := Tab.upd (fun _ => {}) s.field.ch k f } }

/-- The channels of the variant, and those in use. -/
def State.localsUsed (s : State) : List Nat := (List.range s.localChs).filter fun k => (s.local' k).fe.inUse

/-- Slots run: no surge episode holds the field die, and the mode is one in which acquisition runs. -/
def State.localsRun (s : State) : Bool :=
  s.field.surgeAt.isNone && !s.field.resetting &&
    (s.sys.mode == .train || s.sys.mode == .run || s.sys.mode == .shadow || s.sys.mode == .takeover
      || s.sys.mode == .holdover || (s.sys.mode == .quiesce && s.sys.quiesceAt.isSome))

/-! ## Excitation (R56 to R69) -/

/-- Whether a channel's drive may be on (R65, R69, R575, R643). DESIGN CHOICE (log entry 112): a field-die reset keeps `SYS_EXC_ENABLE` (R632),
and R66 tests the OTP check at the guarded write only; drives stay allowed though the repeated check fails or is still to come. -/
def State.driveAllowed (s : State) (k : Nat) : Bool :=
  let l := s.local' k
  l.fe.inUse && l.fe.mode != 0 && s.sys.excEn && !l.heldOut && !l.isolated && !s.isStandby

/-- A fault of the drive that holds now overlaps the window under way, once that has started (R56, R57). -/
def State.markFault (s : State) (k : Nat) : State :=
  s.updLocal k fun l =>
    if l.limiting || l.compliance then
      { l with window := l.window.map fun w => { w with fault := w.fault || decide (w.start ≤ s.ns) } }
    else l

/-- The most a channel's drive delivers, µA: the top of the limit's range (R56), or its sources' nominal current (R55, R57). -/
def FrontEnd.driveUa (f : FrontEnd) : Nat :=
  if f.mode = 1 then 1150 * f.imax else if f.leads = 1 then 2 * f.sourceUa else f.sourceUa

/-- A channel's drive from now on is noted; the marks of the last 100 ms are kept (R61). -/
def Local.noteDrive (l : Local) (now : Nat) : Local :=
  let old := l.excLog.filter fun e => now < e.at' + 100 * cycPerMs
  let base := (l.excLog.drop old.length).take 1
  let mark : DriveMark :=
    { at' := now, on := l.excOn, measured := l.excOn && (l.fe.mode == 1 || l.compliance), ua := if l.excOn then l.fe.driveUa else 0 }
  { l with excLog := mark :: (old ++ base) }

/-- A drive switches. -/
def State.setDrive (s : State) (k : Nat) (on : Bool) : State :=
  if (s.local' k).excOn = on then s
  else
    (s.markFault k).updLocal k fun l =>
      { l with excOn := on, limiting := l.limiting && on, compliance := l.compliance && on }.noteDrive s.time.cyc

/-- The stretches of the last 100 ms in which a drive was on: each mark with the cycles from and to which it held. -/
def onStretches (now : Nat) : List DriveMark → Nat → List (DriveMark × Nat × Nat)
  | [], _ => []
  | e :: rest, stop =>
    let from' := max e.at' (now - 100 * cycPerMs)
    (if e.on then [(e, from', stop)] else []) ++ (if e.at' + 100 * cycPerMs ≤ now then [] else onStretches now rest from')

/-- Cycles of the last 100 ms in which a channel's drive was on. -/
def State.onCycles (s : State) (k : Nat) : Nat :=
  ((onStretches s.time.cyc (s.local' k).excLog s.time.cyc).map fun x => x.2.2 - x.2.1).sum

/-- The measured duty in 1/65,536, saturating (R61, R100). DESIGN CHOICE (log entry 143): rounded down, as the average current is. -/
def State.dutyOf (s : State) (k : Nat) : Nat := min 0xFFFF (s.onCycles k * 65536 / (100 * cycPerMs))

/-- The average current of a channel over the last 100 ms, µA, each stretch at the current driven in it, and the total measured over
all channels (R61, R97). DESIGN CHOICE (log entry 143): each channel's average is rounded down to a whole µA, and the total is the sum of those. -/
def State.averageCurrent (s : State) (k : Nat) : Nat :=
  ((onStretches s.time.cyc (s.local' k).excLog s.time.cyc).map fun x =>
    (x.2.2 - x.2.1) * (if x.1.measured then min (Config.loadCurrent k x.2.1 x.2.2) x.1.ua else x.1.ua)).sum / (100 * cycPerMs)
def State.excTotal (s : State) : Nat := ((List.range s.localChs).map s.averageCurrent).sum

/-- A drive's fault: its bit in `FD_EXC_FAULT`, and the window under way (R56, R57). -/
def State.excFault (s : State) (k : Nat) : State :=
  (s.setReg 0x0100_0020 (s.reg 0x0100_0020 ||| BitVec.ofNat 32 (2 ^ k))).markFault k

def State.limitEngages (s : State) (k : Nat) : State :=
  let l := s.local' k
  if l.excOn && l.fe.mode = 1 then (s.updLocal k fun l => { l with limiting := true }).excFault k else s
def State.limitEnds (s : State) (k : Nat) : State := (s.markFault k).updLocal k fun l => { l with limiting := false }
/-- A source's compliance is lost or comes back: its current is measured meanwhile (R57, R61). -/
def State.setCompliance (s : State) (k : Nat) (lost : Bool) : State :=
  if (s.local' k).compliance = lost then s
  else s.updLocal k fun l => { l with compliance := lost }.noteDrive s.time.cyc
def State.complianceLost (s : State) (k : Nat) : State :=
  let l := s.local' k
  if l.excOn && l.fe.mode = 2 then (s.setCompliance k true).excFault k else s
def State.complianceBack (s : State) (k : Nat) : State := (s.markFault k).setCompliance k false

/-- The pulse of a slot is due: T_PRE before its start has come (R59). -/
def State.pulseDueFor (s : State) (k slot : Nat) : Bool :=
  let l := s.local' k
  s.driveAllowed k && s.localsRun && l.origin.isSome && decide (s.localSlotNs k slot ≤ s.ns + l.fe.preNs)
def State.pulseDue (s : State) (k : Nat) : Bool := s.pulseDueFor k (s.local' k).next

/-- The pulse of a 3-wire channel that is driven ends or is cut: the sources are exchanged for the next (R72). DEDUCED (log entry 144): a
pulse that only a spot has begun exchanges nothing, as the slots keep their scheduled orientation (R122, R123). -/
def State.pulseDone (s : State) (k : Nat) : State :=
  let l := s.local' k
  if l.excOn && l.fe.leads = 1 && l.fe.mode != 0 && !(l.spot.any (·.drove) && !s.pulseDue k) then
    s.updLocal k fun l => { l with swap := !l.swap }
  else s

/-- Every drive switches off; windows under way go on without excitation, and their words are `ABSENT` (R67). -/
def State.drivesOff (s : State) : State :=
  s.localsUsed.foldl (fun s k =>
    let s := (s.pulseDone k).setDrive k false
    s.updLocal k fun l =>
      if l.fe.mode = 0 then l else { l with window := l.window.map fun w => { w with noDrive := true } }) s

/-- `SYS_EXC_ENABLE` takes a value (R66, R67). -/
def State.setExcEnable (s : State) (on : Bool) : Reply × State :=
  if on && !s.field.otpOk then (Reply.of stRefused 0x00, s)
  else
    let s := { s with sys := { s.sys with excEn := on } }
    (Reply.ok, if on then s else s.drivesOff)

/-- The drive switches on T_PRE before the next slot (R59). -/
def State.pulseOn (s : State) (k : Nat) : State := if s.pulseDue k then s.setDrive k true else s

/-- The drive at the end of a slot's pulse: it stays on where T_PRE reaches over the gap (R60), or where the pulse of the slot that runs next
has begun (R59). -/
def State.pulseEnd (s : State) (k slot : Nat) : State :=
  let l := s.local' k
  let s := s.pulseDone k
  if l.fe.gapNs ≤ l.fe.preNs || s.pulseDueFor k slot then s else s.setDrive k false

/-- A spot that switched the drive on is over: the drive goes off, unless the next slot's pulse has begun (R59, R60). -/
def State.spotDriveEnd (s : State) (k : Nat) (drove : Bool) : State :=
  if drove && !s.pulseDue k then s.setDrive k false else s

/-! ## Windows (R108, R113, R114) -/

/-- A window of a channel's present settings; a spot's has the orientation opposite to the last slot conversion (R122). -/
def State.newWindow (s : State) (k : Nat) (spot : Bool) (slot start nplc : Nat) (late : Bool) : Window :=
  let l := s.local' k
  let len := s.field.windowNs l.fe nplc start
  { spot := spot, slot := slot, start := start, len := len, code := l.code, late := late
    noDrive := (l.fe.mode != 0 && !l.excOn) || l.heldOut, fault := (l.limiting || l.compliance) && decide (start ≤ s.ns)
    settling := l.settleNext && !spot, clamped := decide (len < nplc * s.field.unitsAt start * 10), fe := l.fe
    swap := if spot then (l.half.map fun h => !h.swap).getD l.swap else l.swap }

/-- A change of range is counted (R77, R79). -/
def State.setCode (s : State) (k code : Nat) (downs : List Rat) : State :=
  let l := s.local' k
  let s := if l.code = code then s else s.bump (fdReg k 0x24)
  s.updLocal k fun l => { l with code := code, downs := if l.code = code then downs else [] }

/-- The code of the next conversion where `FIXED` is in force and none is running (R80, R103). -/
def State.fixCode (s : State) (k : Nat) : State :=
  let l := s.local' k
  if l.fe.fixed && l.window.isNone && l.code != l.fe.fixedCode then s.setCode k l.fe.fixedCode [] else s

/-- No window runs any longer: a fallback of the cold junction ends where the settings that stand now take none (R91, R105). -/
def Local.idle (l : Local) : Local :=
  { l with window := none
           cjcFallback := l.cjcFallback && l.fe.inUse && l.fe.cjcDesignated && 1 ≤ l.fe.curveNo && l.fe.curveNo ≤ 8 }

/-- A slot starts on its grid (R113), not before the channel's start-up witness comparisons (R139). -/
def State.windowStart (s : State) (k : Nat) : State :=
  let l := s.local' k
  let start := quantised (s.localSlotNs k l.next)
  if !l.fe.inUse || !l.witnessed || l.origin.isNone || !s.localsRun || l.window.isSome || l.spot.isSome || s.ns < start then s
  else
    let s := s.fixCode k
    let w := s.newWindow k false l.next start l.fe.nplc false
    s.updLocal k fun l => { l with window := some w, next := l.next + 1, task := none, settleNext := false }

/-! ## The cold junction (R89, R91) -/

/-- The on-die sensor of a ball group, m°C, now (R89, R97). -/
def State.cjSensor (s : State) (g : Nat) : Int := Config.cjSensor g s.time.cyc

/-- The on-die sensor stands in for a designated channel (R91). -/
def State.fallbackCj (s : State) (k : Nat) : Int × State :=
  let v := s.cjSensor (k / 8)
  let s := s.bump 0x0100_002C
  let s := if (s.local' k).cjcFallback then s else s.raise 0x1001 k
  (v, s.updLocal k fun l => { l with cjcFallback := true })

/-- The cold-junction temperature for a conversion stamped `ns`, with the fallback of R91. DEDUCED (log entry 113): the designated channel's
latest word is the one it delivered last; where that is stamped after `ns`, its stamp does not lie within the 2 s before. -/
def State.coldJunction (s : State) (k : Nat) (f : FrontEnd) (ns : Nat) : Int × State :=
  let designated := (s.local' f.cjcCh).last.filter fun x =>
    !wAbsent x.1 && !wClip x.1 && !wSettling x.1 && decide (x.2 ≤ ns) && decide (ns ≤ x.2 + 2_000_000_000)
  if !f.cjcDesignated then (s.cjSensor (k / 8), s.updLocal k fun l => { l with cjcFallback := false })
  else
    match designated with
    | some x => (wValue x.1, s.updLocal k fun l => { l with cjcFallback := false })
    | none => s.fallbackCj k

/-! ## Words (R72, R73, R78, R82, R138) -/

/-- The auto-zero mean of a code (R117). -/
def Local.zeroMean (l : Local) (k code : Nat) : Rat :=
  match Tab.get (fun _ => []) l.zeros code with
  | [] => Config.zeroBefore k code
  | zs => zs.sum / zs.length

/-- A moves towards its target by at most `SLEW_STEP`, in 10^−8 (R138). -/
def slewAge (age target : Int) (step : Nat) : Int :=
  let d := 10 * (step : Int)
  if target < age - d then age - d else if age + d < target then age + d else target

/-- What a window's conversion gives: the word without its counter, whether it can enter the ranging rules, the stage-4 result
in volts, and its own half of a 3-wire pair. -/
structure Formed where
  val : Int
  flags : WordFlags
  x : Rat
  over' : Bool
  volts : Rat
  half : PairHalf
deriving DecidableEq, Repr, Inhabited

/-- The word of a window from its conversion (R82). `age` is the factor to use. -/
def State.formWord (s : State) (k : Nat) (w : Window) (c : Conversion) (age : Int) (slewing : Bool) : Formed × State :=
  let l := s.local' k
  let f := w.fe
  let mid := w.start + w.len / 2
  let v1 := stage1 k w.code (w.len / 10) (l.zeroMean k w.code) c.count
  let senseLow := f.leads = 3 && c.vsense < f.vset / 2
  let s := s.updLocal k fun l => { l with senseLow := senseLow }
  let s := if senseLow then s.excFault k else s
  let v2 := stage2 f v1 c.vsense
  let clip1 := c.overRange || w.fault || l.limiting || l.compliance || senseLow
  let half : PairHalf := { volts := v2, clip := clip1, settling := w.settling, absent := w.noDrive, swap := w.swap }
  let pair := f.leads = 1
  let (v3, clip3, settling, absent) : Rat × Bool × Bool × Bool :=
    if pair then
      match l.half with
      | some h => ((v2 + h.volts) / 2, clip1 || h.clip, w.settling || h.settling, w.noDrive || h.absent)
      | none => (v2, clip1, true, w.noDrive)
    else (v2, clip1, w.settling, w.noDrive)
  let (raw, c4) := stage4 w.code v3
  let (cj, s) := if 1 ≤ f.curveNo && f.curveNo ≤ 8 && !absent then s.coldJunction k f mid else (0, s)
  let (v, c5) := correctAndLinearise f k w.code age cj raw
  ({ val := v, x := if v1 < 0 then -v1 else v1, over' := c.overRange, volts := voltsOf w.code raw, half := half
     flags := { absent := absent, clip := clip3 || c4 || c5, settling := settling, late := w.late, slew := slewing
                suspect := s.suspectAt mid, surge := s.surgeAtNs mid } }, s)

/-- The detectors of a local channel see a word (R333). -/
def State.localDetect (s : State) (k : Nat) (f : Formed) : Bool × Bool × State :=
  let l := s.local' k
  let thr := s.localThr k
  let usable := !f.flags.absent && !f.flags.settling
  let v := satTo maxValue f.val
  let (d0, f0) := l.det0.step (detSettings thr 0) usable v
  let (d1, f1) := l.det1.step (detSettings thr 1) usable v
  (f0, f1, s.updLocal k fun l => { l with det0 := d0, det1 := d1 })

/-- Slots that no word comes for still count towards `HOLDOFF` (R333). -/
def State.skipDetect (s : State) (k n : Nat) : State :=
  s.updLocal k fun l => { l with det0 := { l.det0 with hold := l.det0.hold - n }, det1 := { l.det1 with hold := l.det1.hold - n } }

/-- A calibration step counts a slot that has passed, and takes its word when it can (R129). -/
def State.calTake (s : State) (k slot code : Nat) (w : Option Formed) (age : Int) : State :=
  s.updLocal k fun l =>
    match l.cal with
    | some st =>
      if slot < st.fromSlot || st.n ≤ st.volts.length then l
      else
        let st := { st with slots := st.slots + 1 }
        match w with
        | some f =>
          if f.flags.absent || f.flags.settling then { l with cal := some st }
          else
            { l with calCount := st.volts.length + 1
                     cal := some { st with volts := st.volts ++ [f.volts], codes := st.codes ++ [code], ages := st.ages ++ [age]
                                           clip := st.clip || f.flags.clip } }
        | none => { l with cal := some st }
    | none => l

/-- The housekeeping task of the gap after the slot with a value of the slot counter (R116, R117). -/
def Local.taskAfter (l : Local) (ctr : Nat) : Nat :=
  let t := if ctr % 16 < 14 then 0 else ctr % 16 - 13
  if t != 0 && !l.zeroed.contains l.code then 0 else t

/-- A slot's word goes to its consumers. -/
def State.deliverLocal (s : State) (k slot : Nat) (word stamp : Word48) (restart : Bool) : State :=
  let ch := 768 + k
  let place := s.slotPlace ch slot
  let sw : SlotWord :=
    { slot := slot, place := place, step := s.slotStep ch, word := word, stamp := stamp, nominal := s.placeStamp ch place
      restart := restart }
  ((s.combLocal k slot word).ringWord ch sw).deliver ch sw

/-- The range of the next conversion (R77 to R80). R67 and R68 keep what an undriven conversion gives out of it; `FIXED` ends the count
of rule 3 (DEDUCED, log entry 114). -/
def State.rangeNext (s : State) (k : Nat) (w : Window) (driven : Bool) (f : Formed) : State :=
  let s :=
    if w.fe.fixed then s.updLocal k fun l => { l with downs := [] }
    else if driven then let n := autorange w.code (s.local' k).downs f.x f.over'; s.setCode k n.1 n.2
    else s
  s.fixCode k

/-- A window of a displaced slot ran into the next slot (R124). -/
def State.overran (s : State) (k : Nat) (w : Window) : Bool :=
  w.late && decide (s.localSlotNs k (s.local' k).next < w.start + w.len)

/-- A displaced slot that ran into the next one costs that slot (R124). -/
def State.lateWindowEnd (s : State) (k : Nat) (w : Window) : State :=
  let nxt := (s.local' k).next
  let ch := 768 + k
  if s.overran k w then
    let s := s.lateSpan ch (s.slotPlace ch w.slot) (s.slotPlace ch nxt) 1 4 k
    let s := (s.skipDetect k 1).calTake k nxt 0 none 0
    s.updLocal k fun l => { l with next := nxt + 1 }
  else s

/-- A slot's window ends (R116): its word is formed and delivered, and the next range is chosen. A displaced slot occupies the gap
after it, which runs no task (R119). -/
def State.windowEnd (s : State) (k : Nat) (c : Conversion) : State :=
  let l := s.local' k
  match l.window with
  | none => s
  | some w =>
    if w.spot || s.ns < w.start + w.len then s
    else
      let driven := !w.noDrive
      let w := if w.slot < l.absentTo then { w with noDrive := true } else w
      let age := slewAge l.age l.ageTarget s.field.slewStep
      let (f, s) := s.formWord k w c age (l.age != l.ageTarget)
      let s := (s.pulseEnd k ((s.local' k).next + bnat (s.overran k w))).updLocal k Local.idle
      let s := s.rangeNext k w driven f
      let (f0, f1, s) := if s.isStandby then (false, false, s) else s.localDetect k f
      let seq := w.slot + l.seqBase
      let word := sampleWord f.val w.code { f.flags with event := f0 || f1 } seq
      let mid := w.start + w.len / 2
      let stamp := stampOfNs mid
      let restart := l.restart
      let s := s.updLocal k fun l => { l with age := age, half := some f.half, last := some (word, mid), restart := false }
      let s := s.updLocal k fun l => { l with task := if w.late then none else some (l.taskAfter seq, l.code) }
      let s := s.calTake k w.slot w.code (some f) age
      let s := (List.range (bnat f0 + bnat f1)).foldl (fun s _ => s.bump 0x0007_0020) s
      let s := if f0 then s.trigSend (0x600 + 2 * k) (subNs mid) else s
      let s := if f1 then s.trigSend (0x600 + 2 * k + 1) (subNs mid) else s
      let s := if s.isStandby then s else s.deliverLocal k w.slot word stamp restart
      let s := if s.isActive then s.plSend (.localWord k w.slot word stamp) else s
      s.lateWindowEnd k w

/-! ## Spots (R121 to R124) -/

/-- The body of a `SPOT` completion. -/
def spotBody (word : Word48) (mid : Nat) : List Byte := toLE 6 word.toNat ++ toLE 6 (stampOfNs mid).toNat

/-- Where a spot of window `len` starting at `start` leaves the slots: the slot it displaces. -/
def State.spotDisplaces (s : State) (k start len : Nat) : Option Nat :=
  let l := s.local' k
  match l.window with
  | some w => some w.slot
  | none => if l.origin.isSome && s.localSlotNs k l.next < start + len then some l.next else none

/-- How much longer, in ns, a spot keeps a drive on: a spot of window `len` from `start`, with the slot it displaces (R61, R123). -/
def State.spotExtra (s : State) (k start len : Nat) (disp : Option Nat) : Nat :=
  let l := s.local' k
  let stop := start + len
  if l.excOn && l.fe.gapNs ≤ l.fe.preNs then 0
  else
    match disp, l.window with
    | some _, some w => stop + 100_000 + s.field.windowNs l.fe l.fe.nplc stop - (if l.excOn then w.start + w.len else s.ns)
    | some _, none => stop + 100_000 - (s.ns + if l.excOn then 0 else l.fe.preNs)
    | none, _ => stop - s.ns

/-- The measured 100 ms average with a spot added, µA (R64). DESIGN CHOICE (log entry 115): the spot adds I_k of R62 for the time by which it
lengthens the channel's drive, at most 100 ms, to the average measured now; a drive that may not be on adds nothing. -/
def State.spotTotal (s : State) (k start len : Nat) (disp : Option Nat) : Nat :=
  let l := s.local' k
  s.excTotal + if l.excOn || s.driveAllowed k then
    l.fe.budgetCurrent * min 100_000_000 (s.spotExtra k start len disp) / 100_000_000 / 100 else 0

/-- From when a spot's window may start for its drive (R122): at once, or T_PRE later on one that is off. -/
def State.spotReady (s : State) (k : Nat) : Nat :=
  let l := s.local' k
  quantised (s.ns + if l.fe.mode != 0 && !l.excOn then l.fe.preNs else 0)

/-- When a spot's window starts; DEDUCED (log entry 116): not before the channel's start-up comparisons (R139), which are reckoned at 16 ms where
they are still to come. -/
def State.spotStart (s : State) (k : Nat) : Nat :=
  s.spotReady k + if (s.local' k).witnessed then 0 else 16_000_000

/-- A displaced slot `j` would run too near to slot j + 2 (R121). -/
def State.spotTooLate (s : State) (k stop : Nat) (disp : Option Nat) : Bool :=
  let l := s.local' k
  disp.any fun j => decide (s.localSlotNs k (j + 2) < stop + 100_000 + s.field.windowNs l.fe l.fe.nplc stop + 2_000_000)

/-- `SPOT` (R121). A slot it aborts keeps its `SETTLING` for its new window; a task of the gap goes on until the spot starts (R119). -/
def State.opSpot (s : State) (p : Packet) : Reply × State :=
  let k := p.addr.toNat
  let l := s.local' k
  let n := byteAt p.payload 0
  if 32 ≤ k || p.payload.length != 4 then (Reply.of stBadAddr, s)
  else if s.localChs ≤ k then (Reply.of stUnitAbsent 0x10 0 (768 + k), s)
  else if !l.fe.inUse then (Reply.of stRefused 0x10 0x010B (768 + k), s)
  else if bits l.fe.conv.toNat 0 3 < n then (Reply.of stRefused 0x10, s)
  else
    let start := s.spotStart k
    let len := s.field.windowNs l.fe (2 ^ n) start
    let disp := s.spotDisplaces k start len
    if l.spot.isSome || l.cal.isSome || s.field.surgeAt.isSome || !s.localsRun || s.sys.mode == .quiesce
        || 400_000 < s.spotTotal k start len disp || s.spotTooLate k (start + len) disp then (Reply.of stBusy, s)
    else
      let drives := l.fe.mode != 0 && !l.excOn && s.driveAllowed k
      let sp : Spot :=
        { pkt := p, ready := s.spotReady k, startAt := start, len := len, aborted := l.window.map (·.slot), drove := drives }
      let s := s.updLocal k fun l => { l with window := none, settleNext := l.settleNext || l.window.any (·.settling) }
      let s := s.fixCode k
      let s := if drives then s.setDrive k true else s
      let w := s.newWindow k true 0 start (2 ^ n) false
      let s := s.updLocal k fun l =>
        { l with spot := some sp, window := some w, downs := [], task := if start ≤ quantised s.ns then none else l.task }
      (Reply.later, s)

/-- The slot that a spot costs the grid if it ends at `stop` (R123): the one it aborted, or the next, once that should have started. -/
def State.spotSlot (s : State) (k : Nat) (sp : Spot) (stop : Nat) : Option Nat :=
  match sp.aborted with
  | some j => some j
  | none =>
    let l := s.local' k
    if l.origin.isSome && s.localSlotNs k l.next < stop then some l.next else none

/-- A displaced slot starts its window (R123). -/
def State.runDisplaced (s : State) (k j start : Nat) : State :=
  let w := s.newWindow k false j start (s.local' k).fe.nplc true
  s.updLocal k fun l => { l with window := some w, settleNext := false, next := max l.next (j + 1) }

/-- A spot window ends: the completion goes out, and the displaced slot starts its window (R122, R123). DESIGN CHOICE (log entry 145): `SEQ` counts
the spots before this one, so that the first after reset carries 0. -/
def State.spotEnd (s : State) (k : Nat) (c : Conversion) : State :=
  let l := s.local' k
  match l.spot, l.window with
  | some sp, some w =>
    let stop := sp.startAt + sp.len
    if s.ns < stop || !l.witnessed then s
    else
      let disp := s.spotSlot k sp stop
      let (f, s) := s.formWord k w c l.age (l.age != l.ageTarget)
      let code0 := w.code
      let s := s.updLocal k fun l => { l.idle with spot := none, task := none, spotCount := l.spotCount + 1 }
      let s := s.rangeNext k w (!w.noDrive) f
      let word := sampleWord f.val w.code f.flags l.spotCount
      let s := match disp with
        | some j => s.runDisplaced k j (quantised (if (s.local' k).code = code0 then stop else stop + 100_000))
        | none => s.spotDriveEnd k sp.drove
      s.complete sp.pkt stOk (spotBody word (sp.startAt + sp.len / 2))
  | _, _ => s

/-- A spot under way ends without a conversion: an `ABSENT` word at its scheduled midpoint (R122). -/
def State.abortSpot (s : State) (k : Nat) : State :=
  let l := s.local' k
  match l.spot with
  | some sp =>
    let mid := sp.startAt + sp.len / 2
    let word := sampleWord 0 0 { absent := true, suspect := s.suspectAt mid, surge := s.surgeAtNs mid } l.spotCount
    let s := s.updLocal k fun l => { l.idle with spot := none, spotCount := l.spotCount + 1 }
    s.complete sp.pkt stOk (spotBody word mid)
  | none => s

/-! ## Calibration (R128 to R133) -/

/-- The body of a `CAL` completion (R487). -/
def calBody (reason code : Nat) (mean : Int) (sd ofs gain : Nat) : List Byte :=
  toLE 1 reason ++ toLE 1 code ++ [0, 0] ++ toLE 4 (ofSigned 32 mean) ++ toLE 4 sd ++ toLE 4 ofs ++ toLE 4 gain

/-- A section of an image: its header and body (R521). -/
def imageSection (stype : Nat) (body : List Byte) : List Byte :=
  let h := toLE 1 stype ++ [1, 0, 0] ++ toLE 4 body.length ++ toLE 4 body.length
  h ++ toLE 4 (crc32c (h ++ body)).toNat ++ body

/-- The partial image of a calibration (R537). -/
def calImage (k ofs gain : Nat) : List Byte :=
  let hdr := toLE 4 0x4259_494D ++ [1, 1, 0, 2] ++ toLE 4 132 ++ toLE 4 0 ++ List.replicate 16 0
  let rec' := toLE 1 k ++ [2] ++ List.replicate 34 0 ++ toLE 4 ofs ++ toLE 4 gain ++ List.replicate 4 0
  let img := imageSection 1 hdr ++ imageSection 4 (List.replicate 16 0 ++ rec')
  img ++ toLE 4 (crc32c img).toNat

/-- A step ends with a reason (R131). -/
def State.calRefuse (s : State) (k : Nat) (reason code : Nat) (mean : Int) (sd : Nat) : State :=
  match (s.local' k).cal with
  | some st =>
    (s.updLocal k fun l => { l with cal := none, calState := 5, calReason := reason }).complete st.pkt stRefused
      (calBody reason code mean sd 0 0)
  | none => s

/-- A running step ends with `ABORTED`, and a held zero is discarded (R129, R132). DESIGN CHOICE (log entry 117): the completion carries the code
in force then, and a mean and a standard deviation of 0, whatever words the step had taken. -/
def State.calDrop (s : State) (k : Nat) : State :=
  let s := s.calRefuse k 5 (s.local' k).code 0 0
  s.updLocal k fun l => { l with heldZero := none, calState := if l.calState = 2 then 0 else l.calState }

/-- The first slot of a grid that starts at or after a time. -/
def State.slotAt (s : State) (k ns : Nat) : Nat :=
  let l := s.local' k
  let o := l.origin.getD 0
  let p := l.fe.slotNs s.field.nom60
  if ns ≤ o || p = 0 then 0 else ceilDiv (ns - o) p

/-- `CAL` (R128). A step counts slots that start after now (R129). -/
def State.opCal (s : State) (p : Packet) : Reply × State :=
  let k := p.addr.toNat
  let l := s.local' k
  let op := byteAt p.payload 0
  let n := leAt p.payload 2 2
  let x := sleAt p.payload 4 4
  let fail := fun (st reason : Nat) => (Reply.done st (calBody reason 0 0 0 0 0), s)
  if 32 ≤ k || p.payload.length != 8 then fail stBadAddr 0
  else if s.localChs ≤ k then fail stUnitAbsent 0
  else if 2 < op || 256 < n || !l.fe.inUse then fail stRefused 7
  else if op = 2 then
    let s := s.calDrop k
    (Reply.done stOk (calBody 0 l.code 0 0 0 0), s)
  else if l.cal.isSome then fail stBusy 0
  else if !s.localsRun || s.sys.mode == .quiesce then fail stBusy 0
  else if op = 1 && ((x.natAbs : Rat) / 100_000_000 < fullScale l.code / 10) then fail stRefused 3
  else
    (Reply.later, s.updLocal k fun l =>
      { l with cal := some { pkt := p, isSpan := op == 1, n := if n = 0 then 16 else n, x := x
                             fromSlot := if l.origin.isSome then max l.next (s.slotAt k (s.ns + 1)) else l.next }
               calState := if op = 0 then 1 else 3, calCount := 0, heldZero := if op = 0 then none else l.heldZero })

/-- Sample variance. -/
def variance (vs : List Rat) (m : Rat) : Rat :=
  if vs.length ≤ 1 then 0 else (vs.map fun v => (v - m) * (v - m)).sum / ((vs.length : Rat) - 1)

/-- A step has its N words (R130). -/
def State.calStepEnd (s : State) (k : Nat) : State :=
  let l := s.local' k
  match l.cal with
  | none => s
  | some st =>
    if st.volts.length < st.n then s
    else
      let c := st.codes.headD 0
      let m := st.volts.sum / st.volts.length
      let var := variance st.volts m
      let sd := min 0xFFFF_FFFF (nearestRoot (var * ((10 ^ 20 : Nat) : Rat)))
      let mean := roundRat (m * 100_000_000)
      let lim := 8 * noiseVolts c (bits l.fe.conv.toNat 0 3)
      let noisy := 1 < st.n && lim * lim < var
      if st.codes.any (· != c) then s.calRefuse k 4 c mean sd
      else if !st.isSpan then
        if st.clip || fullScale c / 20 < (if m < 0 then -m else m) then s.calRefuse k 1 c mean sd
        else if noisy then s.calRefuse k 2 c mean sd
        else
          (s.updLocal k fun l => { l with cal := none, calState := 2, calReason := 0, heldZero := some m }).complete st.pkt stOk
            (calBody 0 c mean sd 0 0)
      else
        match l.heldZero with
        | none => s.calRefuse k 6 c mean sd
        | some z =>
          let as' : Rat := 1 + ((st.ages.sum : Int) : Rat) / (st.ages.length * 100_000_000)
          let d := (m - z) * as'
          let x : Rat := (st.x : Rat) / 100_000_000
          let dev := d / x - 1
          if st.clip || 1 / 10 < dev || dev < -(1 / 10) then s.calRefuse k 3 c mean sd
          else if noisy then s.calRefuse k 2 c mean sd
          else
            let ofs := ofSigned 32 (roundRat (z * 100_000_000))
            let gain := ofSigned 32 (roundRat (x / d * ((2 ^ 30 : Nat) : Rat)))
            let body := calBody 0 c mean sd ofs gain
            let owner := (Tab.get (fun _ => ({} : Lock)) s.ports.locks 0).owner
            if owner = portCode st.pkt.port then
              let img := calImage k ofs gain
              let s := s.hiveWrite 5 stagingBase img
              let s := { s with cfg := { s.cfg with stagedLen := img.length } }
              (s.updLocal k fun l => { l with cal := none, calState := 4, calReason := 0 }).complete st.pkt stOk body
            else
              (s.updLocal k fun l => { l with cal := none, calState := 2, calReason := 0 }).complete st.pkt stLocked body

/-- A step has run out of slots (R129). -/
def State.calTimeout (s : State) (k : Nat) : State :=
  match (s.local' k).cal with
  | some st => if 4 * st.n + 16 ≤ st.slots && st.volts.length < st.n then s.calRefuse k 5 (s.local' k).code 0 0 else s
  | none => s

/-! ## Housekeeping, ageing, mains (R109, R116 to R118, R137 to R139) -/

/-- A spot that has started leaves the task of the gap no result (R119). -/
def Local.taskNow (l : Local) (ns : Nat) : Option (Nat × Nat) := if l.spot.any fun sp => sp.startAt ≤ ns then none else l.task

/-- The task of a gap completes: `reading` is the auto-zero count, the reference check's relative deviation, or the ratio r. -/
def State.housekeepingEnd (s : State) (k : Nat) (reading : Rat) : State :=
  let l := s.local' k
  match l.taskNow s.ns with
  | some (0, code) =>
    s.updLocal k fun l =>
      { l with task := none, zeros := Tab.upd (fun _ => []) l.zeros code fun zs => (reading :: zs).take 4
               zeroed := if l.zeroed.contains code then l.zeroed else code :: l.zeroed }
  | some (1, _) =>
    let bad := decide (1 / 2000 < reading) || decide (reading < -(1 / 2000))
    let nb := if bad then l.refBad + 1 else 0
    let ng := if bad then 0 else l.refGood + 1
    let fail := if 3 ≤ nb then true else if 3 ≤ ng then false else l.refFail
    let s := s.updLocal k fun l => { l with task := none, refBad := nb, refGood := ng, refFail := fail }
    if fail && !l.refFail then s.raise 0x1003 k else s
  | some _ => s.updLocal k fun l => { l with task := none, ratios := l.ratios ++ [reading] }
  | none => s.updLocal k fun l => { l with task := none }

/-- A_t − 1 from a mean ratio, in 10^−8, with whether it was clamped to ±2,000 ppm (R137). DESIGN CHOICE (log entry 118): A_t is rounded half to
even to the 10^−8 that `CORR` shows, before the 0.5 ppm test; the rule gives it no resolution. -/
def ageFrom (k : Nat) (mean : Rat) : Int × Bool :=
  let a := (witnessR0 k / mean - 1) * 100_000_000
  if 200_000 < a then (200_000, true) else if a < -200_000 then (-200_000, true) else (roundRat a, false)

/-- The event and flag of a clamp. -/
def State.ageLimited (s : State) (k : Nat) (limit : Bool) : State :=
  let s := s.updLocal k fun l => { l with ageLimit := limit }
  if limit then s.raise 0x1004 k else s

def State.witnessUpdate (s : State) (k : Nat) : State :=
  let l := s.local' k
  if l.ratios.length < 64 then s
  else
    let m := (l.ratios.take 64).sum / 64
    let (a, lim) := ageFrom k m
    let s := s.updLocal k fun l =>
      { l with ratios := l.ratios.drop 64, drift := m / witnessR0 k - 1
               ageTarget := if (a - l.age).natAbs < 50 then l.ageTarget else a }
    s.ageLimited k lim

/-- A spot that waits for the start-up comparisons starts as they are done (R122, R139), with a window of the length of then (R108). -/
def State.startWaitingSpot (s : State) (k : Nat) : State :=
  match (s.local' k).spot with
  | none => s
  | some sp =>
    let start := max sp.ready (quantised s.ns)
    let w := s.newWindow k true 0 start (2 ^ byteAt sp.pkt.payload 0) false
    s.updLocal k fun l => { l with window := some w, spot := some { sp with startAt := start, len := w.len } }

/-- The start-up comparisons of channels are done (R139): A is set directly, once after a reset, before their first conversion. -/
def State.witnessStartup (s : State) (means : List (Nat × Rat)) : State :=
  if !s.field.feApplied then s
  else
    let s := means.foldl (fun s km =>
      if s.localsUsed.contains km.1 && !(s.local' km.1).witnessed then
        let (a, lim) := ageFrom km.1 km.2
        ((s.updLocal km.1 fun l =>
          { l with age := a, ageTarget := a, drift := km.2 / witnessR0 km.1 - 1, witnessed := true }).ageLimited km.1 lim).startWaitingSpot km.1
      else s) s
    { s with field := { s.field with witnessValid := s.field.witnessValid || s.localsUsed.all fun k => (s.local' k).witnessed } }

/-- T_mains may have changed, from `old` on: the change is noted, and windows still to start have the length of the new one (R108). -/
def State.noteMains (s : State) (old : Nat) : State :=
  let new := s.field.mainsUnits
  if new = old then s
  else
    let log := (s.ns, new) :: (if s.field.mainsLog.isEmpty then [(0, old)] else s.field.mainsLog)
    let s := { s with field := { s.field with mainsLog := log } }
    s.localsUsed.foldl (fun s k =>
      match (s.local' k).window with
      | some w =>
        if s.ns < w.start then
          let sp := (s.local' k).spot
          let w' := s.newWindow k w.spot w.slot w.start (match sp with | some sp => 2 ^ byteAt sp.pkt.payload 0 | none => (s.local' k).fe.nplc) w.late
          s.updLocal k fun l =>
            { l with window := some { w with len := w'.len, clamped := w'.clamped }, spot := sp.map fun sp => { sp with len := w'.len } }
        else s
      | none => s) s

/-- The measurement becomes valid or not; its loss is an event (R109). -/
def State.setMains (s : State) (valid present : Bool) (periods : List Nat) : State :=
  let was := s.field.mainsValid
  let old := s.field.mainsUnits
  let s := { s with field := { s.field with mainsValid := valid, mainsPresent := present, periods := periods } }
  let s := s.noteMains old
  if was && !valid then s.raise 0x1002 0 else s

/-- Whether measured periods make a valid measurement (R109): 8 whole cycles whose mean frequency is within ±10 % of nominal. -/
def mainsInBand (nom60 : Bool) (ps : List Nat) : Bool :=
  let nom := if nom60 then 60 else 50
  -- the frequency is n · 10^8 / sum
  ps.length == 8 && 9 * nom * ps.sum ≤ ps.length * 1_000_000_000 && ps.length * 1_000_000_000 ≤ 11 * nom * ps.sum

/-- A positive-going zero crossing, `period` (10 ns) after the one before; `peak` is the input's peak in mV. DESIGN CHOICE (log entry 119):
`MAINS_PRESENT` shows a reference once its peak passes the 100 mV of R109; the spec gives that bit no threshold of its own. -/
def State.mainsCycle (s : State) (period peak : Nat) : State :=
  let ps := (period :: s.field.periods).take 8
  s.setMains (100 < peak && mainsInBand s.field.nom60 ps) (100 < peak) ps
def State.mainsLost (s : State) : State := s.setMains false false []

/-- The field die has read and checked field OTP, and reports whether `OTP_CRC` matches (R135). No die reports what its words do not bear
out: such a report changes nothing (log entry 3). -/
def State.otpChecked (s : State) (good : Bool) : State :=
  if good != otpGood then s
  else
    let s := { s with field := { s.field with otpChecked := true, otpOk := good } }
    if good then s else s.raise 0x1005 0

/-! ## Stopping and restarting (R112, R115, R638 to R645) -/

/-- What a restart of a channel clears: its first word settles, its pair and counts begin anew, and its
detectors disarm (R73, R79, R115, R117, R234, R333). -/
def Local.restarted (l : Local) : Local :=
  { l with settleNext := true, half := none, downs := [], zeroed := []
           det0 := l.det0.disarm, det1 := l.det1.disarm }

/-- The first slot of a channel that is not answered for yet: the one under way, the one a spot aborted, or the next. -/
def Local.firstOpen (l : Local) : Nat :=
  match l.spot, l.window with
  | some sp, _ => (sp.aborted).getD l.next
  | none, some w => w.slot
  | none, none => l.next

/-- A slot of a channel is under way: its window runs, or a spot keeps it from running (R123). -/
def State.slotUnderWay (s : State) (k : Nat) : Bool :=
  let l := s.local' k
  match l.spot with
  | some sp => (s.spotSlot k sp s.ns).isSome
  | none => l.window.isSome

/-- Windows, pulses and spots under way are cut, with no word. -/
def State.cutWindows (s : State) (k : Nat) : State :=
  let s := ((s.pulseDone k).abortSpot k).setDrive k false
  (s.updLocal k fun l => { l.idle with task := none }).fixCode k

/-- Every channel with a grid stops with an open span (R611, R638): surge (3) or coast (5). -/
def State.spanLocals (s : State) (cause : Nat) (est : Bool) : State :=
  let ks := s.localsUsed.filter fun k => (s.local' k).origin.isSome && (s.local' k).gap.isNone
  let firsts := ks.map fun k => (768 + k, (s.local' k).firstOpen)
  let s := ks.foldl (fun s k => s.cutWindows k) s
  let start := fun ch => (firsts.lookup ch).getD 0
  let place := fun ch => s.slotPlace ch (start ch)
  let s := ks.foldl (fun s k =>
    let g := s.spanAt (768 + k) (place (768 + k)) cause 0xFF est
    s.updLocal k fun l => { l.restarted with next := start (768 + k), gap := some g }) s
  if s.isStandby && cause = 3 then s else s.openSpans (ks.map (768 + ·)) place cause 0xFF est

/-- The streams' spans of a surge end at the latest resumption of their channels, `nxt` by channel (R640): words of the slots before
it are `ABSENT`. -/
def State.closeLocalSpans (s : State) (ks : List Nat) (nxt : Nat → Nat) : State :=
  s.openRoutes.foldl (fun s r =>
    let mine := r.chans.filter fun c => 768 ≤ c && ks.contains (c - 768)
    if mine.isEmpty then s
    else
      let stop := mine.foldl (fun a c => max a (s.slotPlace c (nxt (c - 768)))) 0
      let s := mine.foldl (fun s c =>
        let n := s.slotAt (c - 768) stop
        s.updLocal (c - 768) fun l => { l with absentTo := max l.absentTo n }) s
      let gs := ((r.chans.zip (s.stream r.id).cols).filter fun cc => mine.contains cc.1).filterMap fun cc =>
        cc.2.gap.map fun g => (g.key, cc.1)
      let s := ((gs.map (·.1)).dedup).foldl (fun s g =>
        if (s.stream r.id).st = 1 then s.emitSpan r g stop ((gs.filter fun x => x.1 == g).map (·.2)) else s) s
      if (s.stream r.id).st = 1 then s.updStream r.id fun st => { st with next := st.next.map (max · stop) } else s) s

/-- Slots that pass without a word, from the channel's next: its detectors and a running calibration step count them (R129, R333). -/
def State.passSlots (s : State) (k upTo : Nat) : State :=
  (s.skipDetect k (upTo - (s.local' k).next)).updLocal k fun l =>
    { l with cal := l.cal.map fun st => { st with slots := st.slots + (upTo - max l.next st.fromSlot) } }

/-- Channels resume on their own grids at the first slot that starts at or after a time, plus T_PRE for those excited. -/
def State.resumeLocals (s : State) (ns : Nat) (pre : Bool) : State :=
  let ks := s.localsUsed.filter fun k => (s.local' k).gap.isSome
  let mine := if s.isStandby then ks.filter fun k => (s.local' k).gap.any fun g => g.cause != 3 else ks
  let s := ks.foldl (fun s k =>
    let l := s.local' k
    let n := max l.next (s.slotAt k (ns + (if pre && l.fe.mode != 0 then l.fe.preNs else 0)))
    (s.passSlots k n).updLocal k fun l => { l.restarted with next := n, gap := none }) s
  s.closeLocalSpans mine fun k => (s.local' k).next

/-- Every local grid stops for good (R645, R647); drives off and switches open. -/
def State.stopLocals (s : State) : State :=
  let s := s.localsUsed.foldl (fun s k =>
    ((s.cutWindows k).calDrop k).updLocal k fun l => { l.restarted with origin := none, gap := none, isolated := true, absentTo := 0 }) s
  s

/-- Spots and calibration steps end (R122, R129). -/
def State.abortSpotsAndCals (s : State) : State :=
  s.localsUsed.foldl (fun s k =>
    let sp := (s.local' k).spot
    let disp := sp.bind fun sp => s.spotSlot k sp s.ns
    let s := ((s.abortSpot k).calDrop k).fixCode k
    match disp with
    | some j => s.runDisplaced k j (quantised s.ns)
    | none => s.spotDriveEnd k (sp.any (·.drove))) s

/-- The slot at which a span open on a channel's grid ends as that grid ends now. -/
def State.spanEnd (s : State) (k : Nat) : Nat := max (s.local' k).next (s.slotAt k s.ns)

/-- The grids of channels end now, on the settings in force (R112, R115): what they were converting is cut, the slot under way accounted with
`RECONFIG` where `answer` holds, and open spans close. One span of a stream makes one record (R34). -/
def State.endGrids (s : State) (ks : List Nat) (answer : Nat → Bool) : State :=
  let ks := ks.filter fun k => (s.local' k).origin.isSome
  let cut := (ks.filter fun k => answer k && (s.local' k).gap.isNone && s.slotUnderWay k).map fun k => (768 + k, (s.local' k).firstOpen)
  let held := ks.filter fun k => (s.local' k).gap.isSome
  let chs := cut.map (·.1)
  let place (c : Nat) : Nat := s.slotPlace c ((cut.lookup c).getD 0)
  let stop (c : Nat) : Nat := s.slotPlace c (s.spanEnd (c - 768))
  let s := held.foldl (fun s k => s.passSlots k (s.spanEnd k)) s
  let s := ks.foldl (fun s k => s.cutWindows k) s
  let s := if cut.isEmpty then s else (s.openSpans chs place 6 0xFF).closeSpans chs fun c => place c + s.slotStep c
  let s := cut.foldl (fun s cs => (s.skipDetect (cs.1 - 768) 1).calTake (cs.1 - 768) cs.2 0 none 0) s
  if held.isEmpty then s else s.closeSpans (held.map (768 + ·)) stop

/-- A grid begins at an origin with its slot `first`, its counter at `base` (R112, R115); `anew` is whether another went before. A
calibration step goes on in it. -/
def State.beginGrid (s : State) (k origin first base : Nat) (anew : Bool) : State :=
  let s := if anew then (s.combRegrid (768 + k)).ringAnew (768 + k) origin s.sub else s
  s.updLocal k fun l =>
    { l.restarted with origin := some origin, next := first, restart := anew, absentTo := 0, seqBase := base
                       cal := l.cal.map fun st => { st with fromSlot := 0 } }

/-- Spans that were open on grids go on in the new ones, each with one record to come (R34, R35). -/
def State.moveSpans (s : State) (ks : List Nat) : State :=
  let held := ks.filter fun k => (s.local' k).gap.isSome
  let first (c : Nat) : Nat := s.slotPlace c (s.local' (c - 768)).next
  let s := held.foldl (fun s k => s.updLocal k fun l =>
    { l with gap := l.gap.map fun g => s.spanAt (768 + k) (first (768 + k)) g.cause g.subject g.est }) s
  let mine := if s.isStandby then held.filter fun k => (s.local' k).gap.any fun g => g.cause != 3 else held
  ((mine.filterMap fun k => (s.local' k).gap.map fun g => (g.cause, g.subject, g.est)).dedup).foldl (fun s c =>
    s.resumeSpans ((mine.filter fun k => (s.local' k).gap.any fun g => (g.cause, g.subject, g.est) == c).map (768 + ·)) first
      c.1 c.2.1 c.2.2) s

/-- A `LOCAL_GRID` action with its named time O, run now (R112). -/
def State.startGrids (s : State) (ks : List Nat) (origin : Nat) : State :=
  let ks := ks.filter fun k => (s.local' k).fe.inUse
  let s := s.endGrids ks fun _ => true
  let s := ks.foldl (fun s k =>
    let p := (s.local' k).fe.slotNs s.field.nom60
    s.beginGrid k origin (if s.ns ≤ origin || p = 0 then 0 else ceilDiv (s.ns - origin) p) 0 (s.local' k).origin.isSome) s
  s.moveSpans ks

/-! ## Applying FRONT_END (R93, R101, R115, R526, R527) -/

/-- A channel's record in a body. -/
def feRecord (body : List Byte) (k : Nat) : Option (List Byte) :=
  let b := body.drop 16
  (chunks 48 b.length b).find? fun r => byteAt r 0 == k

/-- A channel's settings after a record's groups (R527); bits that are reserved are not held (R7). -/
def feMerge (isFull : Bool) (body : List Byte) (k : Nat) (old : FrontEnd) : FrontEnd :=
  let base : FrontEnd := if isFull then {} else old
  match feRecord body k with
  | none => base
  | some r =>
    let m := byteAt r 1
    let w := fun o => BitVec.ofNat 32 (leAt r o 4)
    let f : FrontEnd :=
      if bit m 0 then
        { base with inUse := bit m 2, exc := normalExc (w 4), lead := w 8 &&& 3, range := w 12 &&& 0xF, curve := w 16 &&& 0xFFF
                    param0 := w 20, param1 := w 24, param2 := w 28, conv := w 32 &&& 0x7FF }
      else base
    if bit m 1 then { f with ofs := w 36, gain := w 40 } else f

/-- The global fields after a body. -/
def feGlobal (isFull : Bool) (body : List Byte) (nom60 : Bool) (slew : Nat) : Bool × Nat :=
  if bit (byteAt body 0) 0 then (byteAt body 1 == 1, orDefault (leAt body 2 2) 20)
  else if isFull then (false, 20) else (nom60, slew)

/-- Whether a change restarts the channel (R115). -/
def feRestarts (a b : FrontEnd) : Bool := a.exc != b.exc || a.lead != b.lead || a.conv != b.conv

/-- The first whole second at or after a time in ns. -/
def nextSecond (ns : Nat) : Nat := ceilDiv ns 1_000_000_000 * 1_000_000_000

/-- I_budget of settings in units of 10 nA scaled by 10^9, unrounded as numerator over a common denominator: each channel's
I_k · (T_PRE + T_w) / T_slot, at most I_k (R62). -/
def feBudget (f : FrontEnd) (nom60 : Bool) : Rat :=
  if f.mode = 0 || !f.inUse then 0
  else
    let tnom : Rat := if nom60 then 1_000_000_000 / 60 else 20_000_000
    let slot := (f.slotNs nom60 : Rat)
    let tw := min (11 / 10 * f.nplc * tnom) (slot - 2_000_000)
    let d := min 1 (((f.preNs : Rat) + tw) / slot)
    (f.budgetCurrent : Rat) * d / 100

/-- What a channel taken out of use, or given a curve without a cold junction or leads without a sense pair, no longer shows: its
fallback, its low sense and its lead test (R91, R105, R642). A window under way keeps its own settings, and with them the fallback (R115). -/
def Local.shownFor (l : Local) (f : FrontEnd) : Local :=
  let l : Local := { l with fe := f, senseLow := l.senseLow && f.inUse && f.leads == 3, leadResult := if f.inUse then l.leadResult else 3 }
  if l.window.isSome then l else l.idle

/-- The grid origin a channel has after a change at `b` (R112, R115): kept, begun anew at the change, or that of a channel newly in use. -/
def gridAfter (gridOn : Bool) (b : Nat) (l : Local) (new : FrontEnd) (nomChange : Bool) : Option Nat :=
  if !new.inUse then none
  else match l.origin with
    | none => some (nextSecond (b + 1))
    | some o => if l.fe.inUse && (feRestarts l.fe new || nomChange) then some (if gridOn then b else nextSecond b) else some o

/-- A channel's grid ends by a change: it leaves use, or restarts (R115). -/
def gridEnds (l : Local) (new : FrontEnd) (nomChange : Bool) : Bool :=
  l.fe.inUse && (!new.inUse || (l.origin.isSome && (feRestarts l.fe new || nomChange)))

/-- A channel whose grid has ended, or that had none, takes its place under its new settings: out of use, or with its new grid. -/
def State.joinGrid (s : State) (k : Nat) (origin : Option Nat) : State :=
  match origin with
  | some o => s.beginGrid k o 0 0 (s.local' k).origin.isSome
  | none => s.updLocal k fun l => { l.restarted with origin := none, gap := none, isolated := true, heldOut := false }

/-- The mode lets the switches close (R92, R93, R626); and no surge episode holds them open. -/
def State.switchMode (s : State) : Bool :=
  match s.sys.mode with
  | .hold | .load | .safe | .test => false
  | .quiesce => s.sys.quiesceStamp.isNone
  | _ => true
def State.switchesMayClose (s : State) : Bool := s.field.surgeAt.isNone && s.switchMode

/-- Switches of channels a `FRONT_END` configures close, and channels held out rejoin, where mode and surge let them (R92, R93, R643). -/
def State.closeSwitches (s : State) (touched : Nat → Bool) : State :=
  if !s.switchesMayClose then s
  else s.localsUsed.foldl (fun s k => if touched k then s.updLocal k fun l => { l with isolated := false, heldOut := false } else s) s

/-- `FRONT_END` takes effect at the change point `b`, in ns (R115). `fes` are the settings that result. Switches of the channels it
configures close, and those held out rejoin, where the mode lets them (R92, R93). DEDUCED (log entry 120): a grid that begins at the change
point has no room for T_PRE before slot 0; its pulse begins there. -/
def State.applyFrontEnd (s : State) (b : Nat) (fes : List FrontEnd) (nom60 : Bool) (slew : Nat) (touched : Nat → Bool) : State :=
  let nomChange := s.field.nom60 != nom60
  let all := List.range s.localChs
  let new (k : Nat) : FrontEnd := fes.getD k {}
  let ending := all.filter fun k => gridEnds (s.local' k) (new k) nomChange
  let joining := all.filter fun k => (new k).inUse && (s.local' k).origin.isNone
  let origins := all.map fun k => gridAfter s.cfg.gridOn b (s.local' k) (new k) nomChange
  -- what the old settings were converting is accounted on them
  let s := ending.foldl (fun s k => s.calDrop k) s
  let s := s.endGrids ending fun k => (new k).inUse
  let s := all.foldl (fun s k => s.updLocal k fun l => l.shownFor (new k)) s
  let total := (fes.map fun f => feBudget f nom60).sum
  let units := s.field.mainsUnits
  let s := { s with field := { s.field with
    feApplied := true, nom60 := nom60, slewStep := slew, budget := (-(-total.num / (total.den : Int))).toNat } }
  -- the measurement is judged against the nominal frequency in force (R109)
  let s := if nomChange then
      (s.noteMains units).setMains (s.field.mainsPresent && mainsInBand nom60 s.field.periods) s.field.mainsPresent s.field.periods
    else s
  let s := (ending ++ joining).foldl (fun s k => s.joinGrid k (origins.getD k none)) s
  let s := (s.moveSpans ending).closeSwitches touched
  all.foldl (fun s k =>
    let s := s.fixCode k
    let l := s.local' k
    if l.origin = some b && l.next = 0 && s.driveAllowed k && s.localsRun then s.setDrive k true else s) s

end Sys2Proof.Machine
end

