-- ==== Sys2Proof/Machine/Nectar.lean ====
section
/-! DEFINITION. Nectar (chapter 12): blocks of records and their closing, pre-transforms, pools of buffers and their descriptors,
stalls, and the decompressor. -/

namespace Sys2Proof.Machine

def State.nxStream (s : State) (id : Nat) : NxStream := Tab.get (fun _ => {}) s.nx.streams id
def State.updNx (s : State) (id : Nat) (f : NxStream → NxStream) : State :=
  { s with nx := { s.nx with streams := Tab.upd (fun _ => {}) s.nx.streams id f } }
def State.nxPool (s : State) (p : Nat) : NxPool := Tab.get (fun _ => {}) s.nx.pools p
def State.updPool (s : State) (p : Nat) (f : NxPool → NxPool) : State :=
  { s with nx := { s.nx with pools := Tab.upd (fun _ => {}) s.nx.pools p f } }

/-! ## Pools (R461 to R464) -/

/-- N_S and N_B of a pool (R461). -/
def State.poolStreams (s : State) (p : Nat) : Nat := (s.routes.filter fun r => r.nxMode != 0 && r.nxPool == p).length
def buffersOf (size ns : Nat) : Nat := min 256 ((size - 4096 - 98304 * ns) / 16384)
def State.poolBufs (s : State) (p : Nat) : Nat := buffersOf (s.regionSize 4 p) (s.poolStreams p)
def State.poolBase (s : State) (p : Nat) : Nat := ((s.region 4 p).map (·.base)).getD 0

/-- The Hive address of a pool's buffer i (R461). -/
def State.poolBuf (s : State) (p i : Nat) : Nat := s.poolBase p + 4096 + 98304 * s.poolStreams p + 16384 * i

/-- Writes descriptor i (R462). -/
def State.putDescriptor (s : State) (p i len st : Nat) : State :=
  let n := s.poolBufs p
  s.hiveWrite 4 (s.poolBase p + 16 * i)
    (toLE 4 (s.poolBuf p i) ++ toLE 4 len ++ toLE 2 (if i + 1 < n then i + 1 else 0) ++ toLE 1 st ++ List.replicate 5 0)

/-- A pool takes up its region: every buffer is free but the one being filled. -/
def State.initPool (s : State) (p : Nat) : State :=
  let s := s.updPool p fun x => { stallMax := x.stallMax }
  (List.range (s.poolBufs p)).foldl (fun s i => s.putDescriptor p i 0 (if i = 0 then 1 else 0)) s

/-- Whether a record of `n` bytes can be written: no buffer it moves on to may be full (R464). -/
def State.poolTakes (s : State) (p n : Nat) : Bool :=
  let x := s.nxPool p
  x.full.length + (x.len + n) / 16384 + 1 ≤ s.poolBufs p

/-- A record's bytes go into the pool, from where the buffer being filled ends on; buffers they fill are marked full. Answers where they lie
(R463). -/
def State.poolPut (s : State) (p key tw : Nat) : Nat → List Byte → State × List (Nat × Nat)
  | 0, _ => (s, [])
  | f + 1, bs =>
    let x := s.nxPool p
    let n := min bs.length (16384 - x.len)
    let at' := s.poolBuf p x.fill + x.len
    let s := s.hiveWrite 4 at' (bs.take n)
    if x.len + bs.length < 16384 then
      ((s.updPool p fun x => { x with len := x.len + n, lastIn := (key, tw) }).putDescriptor p x.fill (x.len + n) 1, [(at', n)])
    else
      let nxt := (x.fill + 1) % max 1 (s.poolBufs p)
      let s := s.updPool p fun x => { x with full := x.full ++ [(x.fill, 16384, key, tw)], fill := nxt, len := 0, lastIn := (key, tw) }
      let s := (s.putDescriptor p x.fill 16384 2).putDescriptor p nxt 0 1
      let (s, rest) := s.poolPut p key tw f (bs.drop n)
      (s, (at', n) :: rest)

/-- A `NECTAR` record still lies unreleased in the outbound path. -/
def State.nxHeld (s : State) (id tw : Nat) : Bool :=
  let inQ := fun (f : Fifo) => f.q.any fun p => !p.released && p.kind == .data id tw
  let inW := fun (f : Fifo) => f.waiting.any fun r => r.typ == 0x0B && r.stream == id && r.typeWord == tw
  inQ s.host || inQ s.drip || inW s.host || inW s.drip

/-- The buffers at the head of the ring whose last records have been released become free, and a stall ends (R463, R464). -/
def State.poolRelease (s : State) (p : Nat) : State :=
  let x := s.nxPool p
  let free := x.full.takeWhile fun b => !s.nxHeld b.2.2.1 b.2.2.2
  if free.isEmpty then s
  else
    let s := free.foldl (fun s b => s.putDescriptor p b.1 0 0) s
    let s := s.updPool p fun x => { x with full := x.full.drop free.length }
    match x.stalledAt with
    | some c =>
      let us := min 0xFFFF_FFFF ((s.time.cyc - c) / cycPerUs)
      s.updPool p fun x => { x with stalledAt := none, starved := false, stallMax := max x.stallMax us }
    | none => s

def State.poolsRelease (s : State) : State :=
  (List.range 16).foldl (fun s p => if (s.nxPool p).full.isEmpty then s else s.poolRelease p) s

/-- A stall begins: it is counted and raised, unless a release of the same cycle has prevented it (R464). -/
def State.poolStarve (s : State) (p : Nat) : State :=
  let x := s.nxPool p
  if x.starved || x.stalledAt.isNone || (x.stalledAt == some s.time.cyc && !s.sameCycle.isEmpty) then s
  else ((s.updPool p fun x => { x with starved := true }).bump 0x000A_0024).raise 0x0A01 p
def State.poolsStarve (s : State) : State := (List.range 16).foldl State.poolStarve s

/-- The pool is empty: nothing is held (R648). -/
def State.poolEmpty (s : State) (p : Nat) : Bool :=
  let x := s.nxPool p
  x.full.isEmpty && (x.len = 0 || !s.nxHeld x.lastIn.1 x.lastIn.2)

/-! ## Pre-transforms (R459, R460) -/

/-- The 48-bit words of an item. -/
def words48 (b : List Byte) : List Nat := (chunks 6 b.length b).map fromLE

/-- Differences from the previous item's words. -/
def diffWords : List Nat → List (List Nat) → List (List Nat)
  | _, [] => []
  | prev, it :: rest =>
    (it.zip (List.range it.length)).map (fun wi => (wi.1 + 2 ^ 48 - prev.getD wi.2 0) % 2 ^ 48) :: diffWords it rest

/-- The byte planes of units. -/
def bytePlanes (u : Nat) (units : List (List Byte)) : List Byte :=
  (List.range u).flatMap fun b => units.map fun x => x.getD b 0

/-- Pre-transform 1 of an item area. -/
def diffPlanes (u perItem : Nat) (area : List Byte) : List Byte :=
  let items := (chunks perItem area.length area).map words48
  let bytes := (diffWords [] items).flatMap fun ws => ws.flatMap (toLE 6)
  bytePlanes u (chunks u bytes.length bytes)

/-- Where a record's items begin in its payload, and its channels (R459). -/
def itemArea (r : Record) : Option (Nat × Nat) :=
  if r.typ = 1 then some (0, r.typeWord % 1024)
  else if r.typ = 3 || r.typ = 4 then
    let n := leAt r.payload 20 2
    some (80 + padTo8 (2 * n), n)
  else none

def preDiff (r : Record) : List Byte :=
  match itemArea r with
  | some (o, c) =>
    let bs := r.bytes
    let u := if r.fmt = 0 then 6 else 12
    bs.take (32 + o) ++ diffPlanes u (u * c) (bs.drop (32 + o))
  | none => r.bytes

/-- The reference value of a point in the kept maps of the previous epoch number (R460). -/
def mapRef (maps : List Record) (prog num g point : Nat) : Option Nat :=
  maps.findSome? fun r =>
    let fi := leAt r.payload 36 4
    if byteAt r.payload 0 = prog && (r.typeWord + 1) % 2 ^ 32 = num && leAt r.payload 32 4 = g && fi ≤ point && point < fi + r.items
    then some (leAt r.payload (64 + 4 * (point - fi)) 4) else none

/-- Pre-transform 2 of a record, with whether a map was referred to. -/
def preXref (maps : List Record) (r : Record) : List Byte × Bool :=
  if r.typ != 5 then (r.bytes, false)
  else
    let g := leAt r.payload 32 4
    let fi := leAt r.payload 36 4
    let refs := (List.range r.items).map fun i => mapRef maps (byteAt r.payload 0) r.typeWord g (fi + i)
    if r.items != 0 && refs.all (·.isSome) then
      let items := (refs.zip (List.range r.items)).flatMap fun x => toLE 4 ((leAt r.payload (64 + 4 * x.2) 4) ^^^ x.1.getD 0)
      (r.bytes.take 96 ++ items, true)
    else (r.bytes, false)

/-- T of a block, and `XREF`. -/
def transformed (pre : Nat) (maps recs : List Record) : List Byte × Bool :=
  if pre = 1 then (recs.flatMap preDiff, false)
  else if pre = 2 then
    let xs := recs.map (preXref maps)
    (xs.flatMap (·.1), xs.any (·.2))
  else (recs.flatMap Record.bytes, false)

/-! ## Blocks (R449 to R458) -/

/-- The 16-byte header of a block (R454). -/
def blockHeader (bflags pre olen clen bseq : Nat) : List Byte :=
  let h := toLE 2 0x4E43 ++ toLE 1 bflags ++ toLE 1 pre ++ toLE 4 olen ++ toLE 4 clen ++ toLE 2 bseq
  h ++ toLE 2 (crc16 h).toNat

/-- Epoch index and flush window of a record (R449). -/
def State.recEpoch (s : State) (r : Record) : Nat :=
  let ns := (s.extend r.stamp.toNat / 65536).toNat
  match s.cfg.gridStart with
  | some g => (ns - g * 1_000_000_000) / (s.cfg.epochDs * 100_000_000)
  | none => 0
def State.recWindow (s : State) (rt : Route) (r : Record) : Nat :=
  (s.extend r.stamp.toNat / 65536).toNat / (rt.flushMs * 1_000_000)

/-- A match: `n` bytes at distance `d`, one at a time; histories are latest first. -/
def copyMatch : Nat → Nat → List Byte → List Byte
  | 0, _, h => h
  | n + 1, d, h => copyMatch n d (h.getD (d - 1) 0 :: h)

/-- Tokens of a body (R456): `h` is the reachable history with the output so far, latest first; `done` counts the output. Answers
the history, or the error code and the token's offset. -/
def decodeTokens (olen clen : Nat) : Nat → List Byte → Nat → Nat → List Byte → Except (Nat × Nat) (List Byte)
  | 0, _, pos, _, _ => .error (4, pos)
  | f + 1, body, pos, done, h =>
    match body with
    | [] => if done = olen && pos = clen then .ok h else .error (4, pos)
    | c :: rest =>
      let c := c.toNat
      if c < 128 then
        let n := c + 1
        if rest.length < n then .error (4, pos)
        else if olen < done + n then .error (3, pos)
        else decodeTokens olen clen f (rest.drop n) (pos + 1 + n) (done + n) ((rest.take n).reverse ++ h)
      else
        let long := c == 255
        let w := if long then 3 else 2
        if rest.length < w then .error (4, pos)
        else
          let e := (rest.getD 0 0).toNat
          let d := leAt rest (if long then 1 else 0) 2
          let n := if long then 131 + e else c - 128 + 4
          if (long && 127 < e) || 32768 ≤ d then .error (1, pos)
          else if h.length < d + 1 then .error (2, pos)
          else if olen < done + n then .error (3, pos)
          else decodeTokens olen clen f (rest.drop w) (pos + 1 + w) (done + n) (copyMatch n (d + 1) h)

/-- Whether a body of tokens rebuilds T behind a history (R456 to R458). -/
def rebuilds (hist t body : List Byte) : Bool :=
  match decodeTokens t.length body.length (body.length + 1) body 0 0 (hist.reverse.take 32768) with
  | .ok h => h.take t.length == t.reverse
  | .error _ => false

/-- The bytes of a block of records (R454 to R458) and T. The tokens are the free `Config.compress` (R452); a body that does not rebuild T
is none, and the block is stored raw. -/
def blockOf (rt : Route) (x : NxStream) : List Byte × List Byte × Bool :=
  let (t, xref) := transformed rt.nxPre x.maps x.recs
  let orig := x.recs.flatMap Record.bytes
  let chained := rt.nxMode = 1 && x.bseq != 0
  let comp := Config.compress (if chained then x.hist else []) t
  let raw := decide (t.length ≤ comp.length) || !rebuilds (if chained then x.hist else []) t comp
  let body := if raw then t else comp
  let flags := (if raw then 1 else 2) + 4 * bnat chained + 8 * bnat xref
  (blockHeader flags rt.nxPre orig.length body.length x.bseq ++ body ++ toLE 4 (crc32c orig).toNat, t, raw)

/-- A KiB counter takes bytes, keeping the rest. -/
def State.countKib (s : State) (a rem n : Nat) : State × Nat := (s.bumpBy a ((rem + n) / 1024), (rem + n) % 1024)

/-- The open block of a stream closes (R450, R453); false when its pool has no room and stalls (R464). -/
def State.closeBlock (s : State) (rt : Route) : State × Bool :=
  let x := s.nxStream rt.id
  match x.recs, x.recs.getLast? with
  | r0 :: _, some rl =>
    let (block, t, raw) := blockOf rt x
    let n := 32 + block.length
    if !s.poolTakes rt.nxPool n then
      (if (s.nxPool rt.nxPool).stalledAt.isSome then s else s.updPool rt.nxPool fun p => { p with stalledAt := some s.time.cyc }, false)
    else
      let olen := (x.recs.map Record.size).sum
      let hf := [0, 1, 2].map fun i => if x.recs.any fun r => bit r.hflags i then 2 ^ i else 0
      let out : Record :=
        { typ := 0x0B, stream := rt.id, rseq := r0.rseq, stamp := r0.stamp, rate := r0.rate, hflags := hf.sum
          items := x.recs.length, fmt := 0, typeWord := rl.rseq, hub := s.hubPos, payload := block }
      let (s, runs) := s.poolPut rt.nxPool rt.id rl.rseq (n / 16384 + 2) out.bytes
      let out := { out with runs := runs }
      let s := s.bump 0x000A_0014
      let s := if raw then s.bump 0x000A_0018 else s
      let (s, i) := s.countKib 0x000A_001C s.nx.inRem olen
      let (s, o) := s.countKib 0x000A_0020 s.nx.outRem block.length
      let s := { s with nx := { s.nx with inRem := i, outRem := o } }
      let hist := x.hist ++ t
      let nums := x.recs.filter fun r => r.typ = 5
      let s := s.updNx rt.id fun x =>
        { x with recs := [], bseq := if rt.nxMode = 1 then (x.bseq + 1) % 65536 else 0
                 hist := if rt.nxMode = 1 then hist.drop (hist.length - 32768) else []
                 maps := if rt.nxPre = 2 then
                   x.maps.filter (fun m => !nums.any fun r =>
                     byteAt r.payload 0 == byteAt m.payload 0 && r.typeWord != m.typeWord && (m.typeWord + 1) % 2 ^ 32 != r.typeWord)
                     ++ nums
                 else [] }
      let s := if rt.port = 1 then { s with drip := { s.drip with waiting := s.drip.waiting ++ [out] } }
        else { s with host := { s.host with waiting := s.host.waiting ++ [out] } }
      (s, true)
  | _, _ => (s, true)

/-- A record must open a new block (R450). -/
def State.blockEnds (s : State) (rt : Route) (x : NxStream) (r : Record) : Bool :=
  match x.recs with
  | [] => false
  | r0 :: _ =>
    decide (65536 < (x.recs.map Record.size).sum + r.size) || s.recEpoch r != s.recEpoch r0
      || s.recWindow rt r != s.recWindow rt r0 || (rt.nxPre = 2 && (r.typ = 5 || x.recs.any fun y => y.typ = 5))

/-- The compressor takes the next record of a stream (R450, R451). -/
def State.nectarRecordIn (s : State) (id : Nat) : State :=
  match s.nx.inq.find? fun r => r.stream == id, s.route id with
  | some r, some rt =>
    if rt.nxMode = 0 then s
    else
      let (s, ok) := if s.blockEnds rt (s.nxStream id) r then s.closeBlock rt else (s, true)
      if !ok || (s.nxPool rt.nxPool).stalledAt.isSome then s
      else
        let (r, s) := s.recordRead 3 r
        let e := s.recEpoch r
        let x := s.nxStream id
        let later := rt.nxMode = 1 && x.lastEpoch.any (· < e)
        let s := s.updNx id fun x =>
          { x with recs := x.recs ++ [r], lastEpoch := some e, bseq := if later then 0 else x.bseq
                   hist := if later then [] else x.hist }
        let i := s.nx.inq.findIdx fun y => y.stream == id
        { s with nx := { s.nx with inq := s.nx.inq.eraseIdx i } }
  | _, _ => s

/-- Hub time reaches the end of an open block's window plus `FLUSH_LAG` (R450). -/
def State.flushExpired (s : State) (id : Nat) : State :=
  match s.route id, (s.nxStream id).recs.head? with
  | some rt, some r0 =>
    let stop := (s.recWindow rt r0 + 1) * rt.flushMs * 1_000_000 + rt.flushLag * 1_000_000
    if stop ≤ s.ns then (s.closeBlock rt).1 else s
  | _, _ => s

/-- Every record waiting for the compressor is taken; `fuel` bounds them. -/
def State.nectarDrain : Nat → State → State
  | 0, s => s
  | f + 1, s =>
    match s.nx.inq.head? with
    | some r =>
      let s' := s.nectarRecordIn r.stream
      if s'.nx.inq.length < s.nx.inq.length then State.nectarDrain f s' else s
    | none => s

/-- Every open block closes (R647). -/
def State.closeBlocks (s : State) : State :=
  let s := s.nectarDrain s.nx.inq.length
  s.routes.foldl (fun s r => if r.nxMode != 0 then (s.closeBlock r).1 else s) s

/-- A stream's history is emptied: as it opens (R451), and the map it refers to is forgotten (R460). -/
def State.nectarOpen (s : State) (id : Nat) : State := s.updNx id fun x => { x with bseq := 0, hist := [], lastEpoch := none, maps := [] }

/-- At a time step: what was stamped in old time is closed, and histories empty (R451). -/
def State.nectarStep (s : State) : State :=
  let s := s.closeBlocks
  s.routes.foldl (fun s r => if r.nxMode = 1 then s.updNx r.id fun x => { x with bseq := 0, hist := [], lastEpoch := none } else s) s

/-! ## Decompressor (R466 to R469) -/

/-- A decoding error: its code, the block's index and the body byte offset. -/
structure NxErr where
  code : Nat
  block : Nat
  pos : Nat
deriving DecidableEq, Repr, Inhabited

/-- Whether a header's fields are a legal combination for an inbound block (R455, R466). -/
def blockHeaderOk (h : List Byte) (prev : Option Nat) : Bool :=
  let fl := byteAt h 2
  let olen := leAt h 4 4
  let clen := leAt h 8 4
  let bseq := leAt h 12 2
  leAt h 0 2 == 0x4E43 && leAt h 14 2 == (crc16 (h.take 14)).toNat && fl < 8 && (bit fl 0 != bit fl 1) && byteAt h 3 == 0
    && 1 ≤ olen && olen ≤ 65536 && (if bit fl 0 then clen == olen else decide (clen < olen))
    && (!bit fl 2 || (bseq != 0 && prev == some ((bseq + 65535) % 65536)))

/-- An inbound object (R466, R467): stored bytes, the length still to come, the block index, the last `BSEQ`, the history latest
first and the output so far latest first. -/
def decodeBlocks : Nat → List Byte → Nat → Nat → Option Nat → List Byte → List Byte → Except NxErr (List Byte)
  | 0, _, _, b, _, _, _ => .error { code := 4, block := b, pos := 0 }
  | f + 1, bs, left, b, prev, hist, out =>
    if left = 0 then (if bs.isEmpty then .ok out.reverse else .error { code := 3, block := b, pos := 0 })
    else if bs.length < 16 then .error { code := 4, block := b, pos := 0 }
    else
      let h := bs.take 16
      if !blockHeaderOk h prev then .error { code := 5, block := b, pos := 0 }
      else
        let fl := byteAt h 2
        let olen := leAt h 4 4
        let clen := leAt h 8 4
        let bseq := leAt h 12 2
        let body := (bs.drop 16).take clen
        if left < olen then .error { code := 3, block := b, pos := 0 }
        else
          let reach := if bit fl 2 then hist else []
          let res := if bit fl 0 then (if body.length < clen then .error (4, body.length) else .ok (body.reverse ++ reach))
            else decodeTokens olen clen (body.length + 1) body 0 0 (reach.take 32768)
          match res with
          | .error e => .error { code := e.1, block := b, pos := e.2 }
          | .ok h' =>
            let new := h'.take olen
            let rest := bs.drop (16 + clen)
            if rest.length < 4 then .error { code := 4, block := b, pos := clen }
            else if leAt rest 0 4 != (crc32c new.reverse).toNat then .error { code := 6, block := b, pos := clen }
            else
              let hist' := (new ++ (if bseq = 0 then [] else hist)).take 32768
              decodeBlocks f (rest.drop 4) (left - olen) (b + 1) (some bseq) hist' (new ++ out)

/-- The decompression of stored bytes to a length. -/
def decodeObject (stored : List Byte) (olen : Nat) : Except NxErr (List Byte) :=
  decodeBlocks (stored.length + 2) stored olen 0 none [] []

/-- An error is recorded (R469). -/
def State.nxError (s : State) (e : NxErr) : State :=
  let s := s.setReg 0x000A_000C (BitVec.ofNat 32 (e.code + (e.block % 65536) * 8))
  let s := { s with nx := { s.nx with derr := true, errPos := e.pos } }
  (s.bump 0x000A_0028).raise 0x0A02 e.code [BitVec.ofNat 32 e.block, BitVec.ofNat 32 e.pos]

end Sys2Proof.Machine
end

