-- ==== Sys2Proof/Machine/TimeBase.lean ====
section
/-! DEFINITION. Hub time (R399 to R423): its sources, their qualification, selection, slews, refused and accepted steps, holdover,
and the `TIME` command's operations. -/

namespace Sys2Proof.Machine

def tmReg (o : Nat) : Nat := 0x0002_0000 + o
/-- A register of trunk port i (R443). -/
def tpReg (i o : Nat) : Nat := 0x0002_0100 + 0x20 * i + o

def State.updTime (s : State) (f : Time → Time) : State := { s with time := f s.time }
def State.tport (s : State) (i : Nat) : TrunkPort := Tab.get (fun _ => {}) s.time.ports i
def State.updTport (s : State) (i : Nat) (f : TrunkPort → TrunkPort) : State :=
  s.updTime fun t => { t with ports := Tab.upd (fun _ => {}) t.ports i f }

/-- ps in a second. -/
def psPerS : Nat := 1_000_000_000_000
/-- Cycles in a second. -/
def cycPerS : Nat := 800_000_000

/-! ## Steering (R399, R406, R410) -/

/-- ±200 ppm in units of 2^−48. -/
def yLimit : Int := 56_294_995_342

/-- y of the last stretch in `LOCKED` is noted; stretches older than 64 s are forgotten. -/
def trimLog : Nat → List (Nat × Int) → List (Nat × Int)
  | _, [] => []
  | 0, _ => []
  | n, (d, y) :: rest => if n ≤ d then [(n, y)] else (d, y) :: trimLog (n - d) rest
def Time.noteY (t : Time) : Time :=
  if t.state = 1 then { t with yLog := trimLog (64 * cycPerS) ((t.cyc - t.yFrom, t.y) :: t.yLog), yFrom := t.cyc } else t
/-- The mean of y over the stretches noted; y itself before any. -/
def Time.meanY (t : Time) : Int :=
  let d := (t.yLog.map (·.1)).sum
  if d = 0 then t.yLocked else roundHalfEven ((t.yLog.map fun x => (x.1 : Int) * x.2).sum) d

/-- The servo of the selected source acts (R406): what it asks for is held at the limit (R399). -/
def State.servo (s : State) : State :=
  let (y, s) := s.fresh Config.servoY
  let y' := satTo yLimit y
  s.updTime fun t => { t.noteY with y := y', yLocked := y', steerLimit := y' != y }

/-! ## Offsets (R405, R408, R413) -/

/-- The mean of the offsets kept. -/
def meanKept (ts : List (Option Int)) : Int :=
  let k := ts.filterMap id
  if k.isEmpty then 0 else roundHalfEven k.sum k.length

/-- Source time less hub time, ps, as last measured. -/
def State.offsetOf (s : State) (src : Nat) : Int :=
  if src = 0 then s.time.ppsOfs
  else if src = 1 then -meanKept (s.tport (s.timePort.getD 0)).thetas
  else s.time.hostT + ((s.time.cyc - s.time.hostAt) * 1250 : Nat) - s.ps

def State.qualified (s : State) (src : Nat) : Bool :=
  if src = 0 then s.time.ppsQ else if src = 1 then s.time.trunkQ else src == 2 && s.time.hostQ

/-! ## Holdover, slews, refusals (R411 to R413, R418) -/

/-- The error of an unbounded time, ps. -/
def errUnbounded : Nat := 2 ^ 80

/-- `HOLDOVER` begins with the error reached and y at its mean (R410, R418, R422). -/
def State.enterHoldover (s : State) : State :=
  let e := s.errPs.getD errUnbounded
  s.updTime fun t =>
    let t := t.noteY
    { t with state := 3, source := 3, err0 := e, errAt := t.now, y := t.meanY, yLocked := t.meanY, slew := none
             steerLimit := false }

/-- An offset beyond `STEP_LIMIT` is refused (R413). -/
def State.refuseStep (s : State) (src : Nat) (d : Int) : State :=
  let s := s.enterHoldover
  let ns := roundHalfEven d 1000
  let w := ofSigned 64 ns
  let s := (s.updTime fun t => { t with stepPend := some (src, ns), stepAt := none }).bump (tmReg 0x48)
  s.raise 0x0201 src [BitVec.ofNat 32 w, BitVec.ofNat 32 (w / 2 ^ 32)]

/-- A switch offset is removed linearly (R411): T_slew in ps, and the steering in units of 2^−48. -/
def State.startSlew (s : State) (src : Nat) (d : Int) : State :=
  let tps := max (2 * psPerS) (d.natAbs * 5000)
  let part := roundHalfEven (d * 2 ^ 48) tps
  s.updTime fun t =>
    let t := t.noteY
    { t with state := 2, source := src, slew := some (d, t.cyc + ceilDiv tps 1250), y := satTo yLimit (t.yLocked + part)
             steerLimit := false }

/-- An offset found at a switch, or while tracking. -/
def State.takeOffset (s : State) (src : Nat) : State :=
  let d := s.offsetOf src
  if s.stepLimit * 1000 < d.natAbs then s.refuseStep src d else s.startSlew src d

/-- The first tick at least 1 ms ahead. -/
def State.stepTick (s : State) : Nat := s.tickAfter 1_000_000

/-- The hub switches to a source (R411 to R413, R421): from `FREE` before the first RUN it is a step, scheduled at once. -/
def State.switchTo (s : State) (src : Nat) : State :=
  let s := s.bump (tmReg 0x4C)
  if s.time.state = 0 && !s.sys.enteredRun then
    s.updTime fun t => { t with stepAt := some (s.stepTick, src, none) }
  else s.takeOffset src

/-! ## Selection (R403, R421, R422) -/

/-- The best source qualified that is not awaiting its step. -/
def State.bestSource (s : State) : Option Nat :=
  [0, 1, 2].find? fun k => s.qualified k && s.time.stepPend.map (·.1) != some k

/-- Sources that may be taken after `REQUAL_TIME`: better than the selected one, or any in `HOLDOVER`. -/
def State.mayTake (s : State) (k : Nat) : Bool :=
  s.qualified k && s.time.stepPend.map (·.1) != some k && s.time.stepAt.isNone
    && (s.time.state == 3 || ((s.time.state == 1 || s.time.state == 2) && k < s.time.source))
/-- `CANDIDATE` of `TIME_SRC`. -/
def State.candidate (s : State) : Option Nat := [0, 1, 2].find? s.mayTake
/-- The cycle at which a source has stayed qualified for `REQUAL_TIME`. -/
def State.requalAt (s : State) (k : Nat) : Nat := Tab.get (fun _ => 0) s.time.qualAt k + s.requalTime * cycPerS
/-- `TIME_REQUAL_LEFT`, ms. -/
def State.requalLeft (s : State) : Nat :=
  match s.candidate with
  | none => 0
  | some k =>
    let a := max (s.requalAt k) ((s.time.slew.map (·.2)).getD 0)
    ceilDiv (a - s.time.cyc) cycPerMs

/-- A source whose time has come is taken; a slew under way completes first (R422). -/
def State.requalTake (s : State) : State :=
  if s.time.state = 2 then s
  else match [0, 1, 2].find? fun k => s.mayTake k && s.requalAt k ≤ s.time.cyc with
    | some k => s.switchTo k
    | none => s

def State.setQ (s : State) (src : Nat) (q : Bool) : State :=
  s.updTime fun t =>
    let t := if src = 0 then { t with ppsQ := q } else if src = 1 then { t with trunkQ := q } else { t with hostQ := q }
    { t with qualAt := Tab.set (fun _ => 0) t.qualAt src (if q then t.cyc else 0) }

/-- The best source to fall back on: one that qualified in this very cycle comes after the loss (R422). -/
def State.fallBack (s : State) : Option Nat :=
  [0, 1, 2].find? fun k =>
    s.qualified k && s.time.stepPend.map (·.1) != some k && Tab.get (fun _ => 0) s.time.qualAt k < s.time.cyc

/-- A source loses qualification (R414, R421, R422). -/
def State.loseSource (s : State) (src : Nat) : State :=
  if !s.qualified src then s
  else
    let s := s.setQ src false
    let s :=
      if s.time.stepPend.map (·.1) = some src then
        (s.updTime fun t => { t with stepPend := none, stepAt := none }).raise 0x0202 src
      else if s.time.stepAt.map (·.2.1) = some src then s.updTime fun t => { t with stepAt := none }
      else s
    if s.time.state = 2 && s.time.source = src then s.enterHoldover
    else if s.time.state = 1 && s.time.source = src then
      match s.fallBack with
      | some k => s.switchTo k
      | none => s.enterHoldover
    else if s.time.state = 0 && s.time.stepAt.isNone then
      match s.bestSource with
      | some k => s.switchTo k
      | none => s
    else s

/-- A source qualifies; from `FREE` it is taken at once (R421). -/
def State.gainSource (s : State) (src : Nat) : State :=
  if s.qualified src then s
  else
    let s := s.setQ src true
    if s.time.state = 0 && s.time.stepAt.isNone && s.time.running then s.switchTo src else s

/-- The selected source shows its offset (R406, R413): steered, or refused as a jump. -/
def State.track (s : State) (src : Nat) : State :=
  let d := s.offsetOf src
  if s.time.state = 1 && s.time.source = src then
    if s.stepLimit * 1000 < d.natAbs then s.refuseStep src d else s.servo
  else s

/-- A slew is complete (R411); a better source that waits is taken. -/
def State.slewEnd (s : State) : State :=
  match s.time.slew with
  | some (_, stop) =>
    if s.time.state = 2 && stop ≤ s.time.cyc then
      (s.updTime fun t => { t with state := 1, slew := none, y := t.yLocked, yFrom := t.cyc }).requalTake
    else s
  | none => s

/-- Δ of a pending step is measured anew each second while its source is qualified (R413). -/
def State.refreshStep (s : State) : State :=
  match s.time.stepPend with
  | some (src, _) => s.updTime fun t => { t with stepPend := some (src, roundHalfEven (s.offsetOf src) 1000) }
  | none => s

/-- `TIME_ACCEPT` (R414, R417): `fixed` is the Δ a forwarded write carries, which applies at the write's own apply tick. A step from
`FREE` that R412 has scheduled is no pending step. -/
def State.acceptStep (s : State) (fixed : Option Int) : Reply × State :=
  let at' (tick src : Nat) : Reply × State := (Reply.ok, s.updTime fun t => { t with stepAt := some (tick, src, fixed) })
  match s.time.stepPend, fixed with
  | none, none => (Reply.of stRefused 0x02, s)
  | none, some _ => at' s.tick s.time.source
  | some (src, _), d =>
    if s.time.stepAt.isSome then (Reply.of stBusy, s) else at' (if d.isSome then s.tick else s.stepTick) src

/-! ## PPS (R403, R405) -/

/-- An edge on `PPS_IN`, captured `resid` ps from the command. -/
def State.ppsEdge (s : State) (resid : Int) : State :=
  let h := s.ps + resid
  let spaced := match s.time.lastEdge with
    | some e => decide ((h - e - psPerS).natAbs ≤ 1_000_000)
    | none => false
  let good := s.time.tods.filter fun x =>
    decide ((x.2 + 100_000_000 : Int) * 1000 ≤ h) && decide (h ≤ (x.2 + 900_000_000 : Int) * 1000)
  let s := s.bumpBy (tmReg 0x50) (s.time.tods.length - good.length)
  let s := s.updTime fun t => { t with lastEdge := some h, tods := [], missed := 0 }
  if !s.tflag 0 then s
  else
    match good.head? with
    | none => (s.updTime fun t => { t with ppsRun := 0 }).loseSource 0
    | some (sec, _) =>
      let d : Int := (sec * psPerS : Nat) + s.ppsDelay - h
      let run := if spaced then s.time.ppsRun + 1 else 1
      let s := s.updTime fun t => { t with ppsOfs := d, ppsShown := d, ppsRun := min 15 run }
      let s := s.track 0
      if 4 ≤ run then s.gainSource 0 else s

/-- No edge for 2 s (R403). -/
def State.ppsMissing (s : State) : State :=
  let gone := match s.time.lastEdge with
    | some e => decide (e + 2 * (psPerS : Int) + 1_000_000 ≤ s.ps)
    | none => true
  if gone then (s.updTime fun t => { t with ppsRun := 0, missed := 2 }).loseSource 0 else s

/-! ## The `TIME` command (R423, R487) -/

/-- `TIME_READ`: full time, state, source, e. -/
def State.timeReadBody (s : State) : List Byte :=
  toLE 12 (fullTime s.time.now) ++ toLE 1 s.time.state ++ toLE 1 s.time.source ++ [0, 0] ++ toLE 4 s.errEst

/-- `TIME_SET`: `HOST` qualifies with T, in 96-bit full time, and U. -/
def State.timeSet (s : State) (full u : Nat) : Reply × State :=
  let nsec := full / 2 ^ 16 % 2 ^ 32
  if 1_000_000_000 ≤ nsec || u = 0 || 1_000_000_000 < u then (Reply.of stRefused 0x02, s)
  else
    let t : Int := ((ofFullTime full * 1000 / unitsPerNs : Nat) : Int)
    let s := s.updTime fun x => { x with hostT := t, hostU := u, hostAt := x.cyc }
    if s.time.hostQ then
      if s.time.state = 1 && s.time.source = 2 then (Reply.ok, s.takeOffset 2) else (Reply.ok, s)
    else (Reply.ok, s.gainSource 2)

/-- `TIME_TOD`: judged at the next edge. -/
def State.timeTod (s : State) (sec : Nat) : State := s.updTime fun t => { t with tods := (sec, s.ns) :: t.tods }

/-- 10 s after the set, unless `HOST` is selected (R403). -/
def State.hostExpiry (s : State) : State :=
  if s.time.hostQ && s.time.source != 2 && s.time.hostAt + 10 * cycPerS ≤ s.time.cyc then s.loseSource 2 else s

/-! ## Seconds (R20, R168) -/

/-- A whole second of hub time (R20, R491): the beacon carries and is stamped with that second. -/
def State.secondBeacon (s : State) : State :=
  let sec := s.ns / 1_000_000_000
  if sec ≤ s.time.beacon && !(sec = 0 && s.time.beacon = 0 && s.time.now = 0) then s
  else
    let now := s.time.now
    let full := fullTimeNs (sec * 1_000_000_000)
    let s := (s.updTime fun t => { t with beacon := sec, now := sec * 1_000_000_000 * unitsPerNs }).raise 0x0B01 0 (fullWords full)
    let s := s.updTime fun t => { t with now := now }
    let s := (List.range 24).foldl (fun s p => if (s.pod p).errSec = 0 then s else s.updPod p fun l => { l with errSec := 0 }) s
    let s := { s with pair := { s.pair with crcErrs := 0 } }
    s.refreshStep

/-! ## A step (R412, R415) -/

/-- Streams go on in new numbering: no words wait, and spans are those of the producers. -/
def State.renumberStreams (s : State) (first : Nat → Nat) : State :=
  s.openRoutes.foldl (fun s r =>
    let cols := r.chans.map fun ch => ({ gap := s.producerGap ch } : Column)
    let n := (r.chans.map first).foldl min ((r.chans.head?.map first).getD 0)
    s.updStream r.id fun st =>
      if st.next.isNone then { st with cols := cols } else { st with next := some n, first := n, answered := n, cols := cols }) s

/-- Chains are drained at t_s, the stamp of the first missing input (R415 step 2, R39); those drained before end their span. -/
def State.stepDrain (s : State) : State :=
  let ts := s.sub
  (List.range 24).foldl (fun s p =>
    let l := s.pod p
    if l.running then s.drainLane p (((ts + l.gdelay) / subNs 1250).toNat + (if (ts + l.gdelay) % subNs 1250 = 0 then 0 else 1)) 6
    else
      let chs := ((List.range 32).map (32 * p + ·)).filter fun ch => !(s.chain ch).insts.isEmpty && (s.chain ch).drained
      let ends := chs.map fun ch => (ch, max (s.chain ch).next (s.slotFrom ch ts))
      let s := s.closeSpans chs fun ch => s.slotPlace ch ((ends.lookup ch).getD 0)
      ends.foldl (fun s cs => s.updChain cs.1 fun c => { c with ctr := c.ctr + (cs.2 - c.next), next := cs.2 }) s) s

/-- Chains' numbering in new time: the spans that begin there have cause `RECONFIG` (R415 step 6). -/
def State.stepChains (s : State) : State :=
  let t := s.sub
  (List.range s.chainCount).foldl (fun s ch =>
    if (s.chain ch).insts.isEmpty then s
    else
      let n := s.slotFrom ch t
      s.updChain ch fun c =>
        { c with next := n, drained := true
                 gap := some { start := n * c.decim, step := c.decim, seq := c.ctr, cause := 6, subject := ch / 32 } }) s

/-- Pod lanes take the new tick numbers (R415 step 5). -/
def State.stepPods (s : State) : State :=
  let n := s.tickAfter 0
  (List.range 24).foldl (fun s p =>
    let l := s.pod p
    let s := if l.started && s.laneActive p && !l.quarantined then s.send p (message 0x14 (toLE 4 ((s.tick + 1) % 2 ^ 32))) else s
    if l == {} then s
    else s.updPod p fun l =>
      { l with startTick := if l.started then l.startTick.map (fun _ => n) else l.startTick
               nextTick := n, outMark := n, held := [], outstanding := [], badTicks := []
               ranges := (l.ranges.head?.map fun r => (0, r.2)).toList }) s

/-- Local grids restart on the first whole second after the new time; their counters go on (R415 steps 2, 5, 6). -/
def State.stepLocals (s : State) (newNs : Nat) : State :=
  let ks := (List.range s.localChs).filter fun k => (s.local' k).origin.isSome
  let marks := ks.map fun k =>
    let l := s.local' k
    let next := if l.gap.isSome then s.spanEnd k else if s.slotUnderWay k then max l.next (l.firstOpen + 1) else l.next
    (k, l.restart, (l.seqBase + next) % 16)
  let s := s.endGrids ks fun _ => true
  let s := marks.foldl (fun s m =>
    (s.beginGrid m.1 (nextSecond (newNs + 1)) 0 m.2.2 true).updLocal m.1 fun l => { l with restart := m.2.1 }) s
  s.moveSpans ks

/-- An engine after a jump of hub time by `d`, to `now`: its ring, of slots of the old numbering, empties, and its own times move. An arm at
a named time stands (log entry 129). -/
def Engine.jump (g : Engine) (d now : Int) : Engine :=
  { g with ring := [], newest := none, coll := none, segWait := [], segFires := g.segFires.map (· + d), fill := now
           armAt := min (g.armAt + d) now
           arms := g.arms.foldl (fun as a => insertArm (if a.source = .rearm then { a with time := a.time + d } else a) as) []
           lastEnd := g.lastEnd.map (· + d), segEnd := g.segEnd + d, copies := g.copies.map fun c => (c.1, 2 ^ 64, c.2.2) }

/-- A unit's events keep their distance from hub time (log entry 129). -/
def TrigEvent.jump (d : Int) (e : TrigEvent) : TrigEvent := { e with t := e.t + d }
def TrigUnit.jump (d : Int) (u : TrigUnit) : TrigUnit :=
  { u with queue := u.queue.map (TrigEvent.jump d), taken := u.taken.map (TrigEvent.jump d), absorb := u.absorb.map (· + d) }

/-- Units and engines after a jump of hub time. -/
def State.stepTrig (s : State) (d : Int) : State :=
  let s := { s with trig := { s.trig with
    transit := s.trig.transit.map (TrigEvent.jump d), units := s.trig.units.map fun u => (u.1, u.2.jump d) } }
  (List.range 8).foldl (fun s e =>
    if engOn (s.engineRec e) then s.updEngine e fun g => g.jump d s.sub else s) s

/-- Entries whose time a forward step skips run at the first tick after it (R427). -/
def State.stepActions (s : State) (old new : Nat) : State :=
  let tick := s.tick + 1
  s.updTime fun t => { t with acts := t.acts.map fun ea =>
    if ea.2.pending && old < ea.2.time && ea.2.time < new then (ea.1, { ea.2 with lateAt := some tick }) else ea }

/-- A hub time moved by Δ units, not below 0. -/
def moveTime (d : Int) (x : Nat) : Nat := ((x : Int) + d).toNat

/-- A step's first part: acquisition still in old time is accounted and ended, and the step is announced (R415, R426). -/
def State.stepBefore (s : State) (newNow : Nat) : State :=
  let s := s.endEpochWork s.ns true false
  let s := { s with cfg := { s.cfg with epoch := none } }
  let old := fullWords (fullTime s.time.now)
  let s := s.stepDrain
  let s := (List.range 8).foldl State.cutRecord (s.stepLocals (newNow / unitsPerNs))
  let s := s.routes.foldl (fun (s : State) r => if (s.stream r.id).st = 1 then s.closeRecord r else s) s
  let s := (s.nectarStep).closeEvents
  s.raise 0x0203 0 (old ++ fullWords (fullTime newNow))

/-- The clock jumps by Δ ps, from `oldNs`, with every time kept as an offset from it (R415). -/
def Time.jump (t : Time) (d : Int) (newNow : Nat) (sur : Bool) : Time :=
  let newNs := newNow / unitsPerNs
  { t with
    now := newNow
    beacon := ceilDiv newNow (1_000_000_000 * unitsPerNs) - 1
    suspectMarks := (newNs, t.suspect) :: t.suspectMarks.filter fun m => m.1 < newNs
    surgeMarks := if t.surgeMarks.isEmpty then [] else (newNs, sur) :: t.surgeMarks.filter fun m => m.1 < newNs
    lastEdge := t.lastEdge.map (· + d)
    tods := t.tods.map fun x => (x.1, moveTime (d / 1000) x.2)
    ppsOfs := t.ppsOfs - d
    ports := t.ports.map fun ip => (ip.1, { ip.2 with thetas := ip.2.thetas.map fun x => x.map (· + d) })
    errAt := moveTime (d * unitsPerNs / 1000) t.errAt
    stepPend := none, stepAt := none
    stepSeq := (t.stepSeq + 1) % 65536, lastStep := roundHalfEven d 1000 }

/-- The second of hub time whose `PPS_OUT` edge came last (R428). -/
def State.ppsSecond (s : State) (ns : Nat) : Nat := ((ns + s.ppsOutAdj) / 1_000_000_000).toNat

/-- The times that stand outside the time base follow the jump (R415). -/
def State.stepTimes (s : State) (d : Int) (newNs : Nat) : State :=
  let staged := s.cfg.staged.map fun g => { g with acceptedAt := moveTime (d / 1000) g.acceptedAt }
  let rebuild := s.comb.rebuild.map fun b => { b with startAt := moveTime (d / 1000) b.startAt }
  let surge := s.field.surgeAt.map (moveTime (d * unitsPerNs / 1000))
  let s := s.updTime fun t => { t with ppsMark := s.ppsSecond newNs }
  { s with cfg := { s.cfg with staged := staged, epochFrom := newNs }, comb := { s.comb with rebuild := rebuild },
           field := { s.field with surgeAt := surge, mainsLog := [] } }

/-- A step's last part: pods, chains, rings, streams, Comb and timed actions take up the new time (R415, R427). -/
def State.stepAfter (s : State) (gone : List Nat) (oldNs newNs : Nat) : State :=
  let s := (s.stepPods.stepChains).stepTrig (subNs newNs - subNs oldNs)
  let s := s.renumberStreams fun ch =>
    s.slotPlace ch (if ch < 768 then (s.chain ch).next else (s.local' (ch - 768)).next)
  let s := s.openRoutes.foldl (fun (s : State) r =>
    match r.chans.find? fun c => c < 768 && gone.contains (c / 32) with
    | some c => s.raise 0x0B02 r.id [BitVec.ofNat 32 (6 + c / 32 * 256)]
    | none => s) s
  (s.stepComb oldNs newNs).stepActions oldNs newNs

/-- A step of Δ ps applies now (R415). -/
def State.applyStep (s : State) (src : Nat) (d : Int) : State :=
  let oldNs := s.ns
  let sur := markAt s.time.surgeMarks oldNs
  let gone := (List.range 24).filter fun p => (s.pod p).drained
  let newNow := moveTime (d * unitsPerNs / 1000) s.time.now
  let newNs := newNow / unitsPerNs
  let s := s.stepBefore newNow
  let s := s.updTime fun t => t.jump d newNow sur
  let s := (s.stepTimes d newNs).stepAfter gone oldNs newNs
  if s.time.state = 4 then s
  else
    let s := s.updTime fun t =>
      { t.noteY with source := src, state := 1, slew := none, y := t.yLocked, yFrom := t.cyc }
    s.requalTake

/-- t_s of a scheduled step has come. -/
def State.timeStep (s : State) : State :=
  match s.time.stepAt with
  | some (tick, src, fixed) =>
    if tickTime tick ≤ s.time.now then s.applyStep src (fixed.getD (s.offsetOf src)) else s
  | none => s

/-- A `TIME` section has applied: sources it turns off lose qualification (R403). -/
def State.timeApplied (s : State) : State :=
  let s := if s.tflag 0 then s else (s.updTime fun t => { t with ppsRun := 0 }).loseSource 0
  if s.tflag 1 then s else s.loseSource 1

end Sys2Proof.Machine
end

