-- ==== Sys2Proof/Machine/Trunk.lean ====
section
/-! DEFINITION. The trunk (R407, R408, R429 to R441): exchanges, announcements and the active neighbours, capabilities, the
export map and foreign samples, and the relay's fragments. -/

namespace Sys2Proof.Machine

/-- The port of a lane that exchanges time: U0, U1, D0, D1, and in a pair P0 and P1 as 4 and 5 (R407, R565). -/
def State.exchPort (s : State) (lane : Nat) : Option Nat :=
  if 24 ≤ lane && lane < 28 then some (lane - 24)
  else if (lane = 30 || lane = 31) && s.pair.role != 0 then some (lane - 26)
  else none

/-- This end of a port takes the downstream's place: U lanes, and a standby's pair lanes (R565). -/
def State.exchUp (s : State) (i : Nat) : Bool := i < 2 || (4 ≤ i && s.isStandby)

/-- A message whose CRC is bad is counted on its trunk port (R433, R579). -/
def State.trunkCrcBad (s : State) (lane : Nat) : State :=
  ({ s with pair := { s.pair with crcErrs := s.pair.crcErrs + 1 } } : State).bump (tpReg (lane - 24) 0x10)

/-- A lane whose messages are looked at: in `CAPS` or `ACTIVE`. -/
def State.laneHears (s : State) (lane : Nat) : Bool := (s.lane lane).st == 5 || s.laneActive lane

/-- A message of the trunk or the pair link's time is acted on when its lane is in `ACTIVE`; a bad CRC is counted (R433). `f` takes a good
one. -/
def State.trunkMessage (s : State) (lane : Nat) (m : List Byte) (f : State → State) : State :=
  if (s.exchPort lane).isNone || !s.laneHears lane then s
  else if crcGood m then (if s.laneActive lane then f s else s)
  else if 30 ≤ lane then s
  else s.trunkCrcBad lane

/-- A message that trunk lanes alone carry. -/
def State.trunkOnly (s : State) (lane : Nat) (m : List Byte) (f : State → State) : State :=
  if 28 ≤ lane then s else s.trunkMessage lane m f

/-- 0 single, 1 active, 2 standby (R434). -/
def State.announcedRole (s : State) : Nat := if s.isActive then 1 else if s.isStandby then 2 else 0

/-- `TQUAL` (R434). -/
def State.tqual (s : State) : Nat :=
  if s.time.state = 1 || s.time.state = 2 then s.time.source
  else if s.time.state = 3 || s.time.state = 4 then 3
  else if s.tflag 2 then 4 else 5

/-! ## Exchanges (R407, R408) -/

/-- Time is no longer locked over the pair link. -/
def State.pairUnlock (s : State) : State :=
  if s.pairPort.isSome then s else { s with pair := { s.pair with lockedAt := none } }

/-- The exchange of a port fails (R403, R407). -/
def State.exchFail (s : State) (i : Nat) : State :=
  let was := if 4 ≤ i then s.isStandby && s.pairPort.isNone else s.timePort == some i
  let s := s.updTport i fun x => { x with exch := none, exchOk := false, okRun := 0, failRun := x.failRun + 1 }
  let s := s.pairUnlock
  if s.exchUp i && was && 8 ≤ (s.tport i).failRun then s.loseSource 1 else s

/-- When the sync word of the block with this command's message departs, 1/65,536 ns. -/
def State.departs (s : State) : Int × State :=
  let (d, s) := s.fresh Config.departure
  (s.sub + d, s)
/-- Full time's 12 bytes of a time in 1/65,536 ns, and back. -/
def fullOfSub (t : Int) : List Byte :=
  let u := t.toNat
  toLE 12 ((u / 65536 / 1_000_000_000) * 2 ^ 48 + (u / 65536 % 1_000_000_000) * 2 ^ 16 + u % 65536)
def subOfFull (f : Nat) : Int := (((f / 2 ^ 48 * 1_000_000_000 + f / 2 ^ 16 % 2 ^ 32) * 65536 + f % 65536 : Nat) : Int)
/-- ps to 1/65,536 ns and back. -/
def subOfPs (p : Int) : Int := roundHalfEven (p * 65536) 1000
def psOfSub (t : Int) : Int := roundHalfEven (t * 1000) 65536

/-- The millisecond of hub time. -/
def State.msNow (s : State) : Nat := s.ns / 1_000_000

/-- `TSYNC` on a D lane in `ACTIVE`, once per millisecond of hub time (R407). In COAST exchanges stop (R419). -/
def State.tsyncSend (s : State) (lane : Nat) : State :=
  let i := (s.exchPort lane).getD 0
  if (s.exchPort lane).isNone || s.exchUp i || !s.laneActive lane || s.time.state = 4 || (s.tport i).syncMs = some s.msNow then s
  else
    let (t1, s) := s.departs
    let n := (s.tport i).seq
    let s := s.updTport i fun x =>
      { x with seq := (n + 1) % 65536, syncMs := some s.msNow, exch := some { seq := n, t1 := t1, t2 := 0, t3 := 0, startAt := s.time.cyc }
               exchOk := if x.exch.isSome then false else x.exchOk }
    s.egress lane 0 (message 0x20 (toLE 2 n ++ fullOfSub t1))

/-- `TSYNC` arrives on a U lane; its sync word was captured `arrival` ps from the command. -/
def State.tsync (s : State) (lane : Nat) (m : List Byte) (arrival : Int) : State :=
  s.trunkMessage lane m fun s =>
    let i := (s.exchPort lane).getD 0
    if !s.exchUp i || s.time.state = 4 then s
    else
      let s := if (s.tport i).exch.isSome then s.exchFail i else s
      let (t3, s) := s.departs
      let n := leAt m 1 2
      let s := s.updTport i fun x =>
        { x with exch := some { seq := n, t1 := subOfFull (leAt m 3 12), t2 := s.sub + subOfPs arrival, t3 := t3
                                startAt := s.time.cyc } }
      s.egress lane 0 (message 0x21 (toLE 2 n ++ fullOfSub t3))

/-- Its `TDRESP` has not arrived 500 µs after the `TSYNC` (R407). -/
def Exchange.late (e : Exchange) (cyc : Nat) : Bool := e.startAt + 500 * cycPerUs < cyc

/-- `TDREQ` arrives on a D lane. -/
def State.tdreq (s : State) (lane : Nat) (m : List Byte) (arrival : Int) : State :=
  s.trunkMessage lane m fun s =>
    let i := (s.exchPort lane).getD 0
    if s.exchUp i then s
    else
      match (s.tport i).exch with
      | some e =>
        if e.seq = leAt m 1 2 && !e.late s.time.cyc then
          let s := s.updTport i fun x => { x with exch := none, exchOk := true }
          s.egress lane 0 (message 0x22 (toLE 2 e.seq ++ fullOfSub (s.sub + subOfPs arrival)))
        else s.exchFail i
      | none => s

/-- The median of round trips: the middle one, or the mean of the two in the middle. -/
def median (xs : List Int) : Int :=
  let ys := xs.mergeSort (fun a b => a ≤ b)
  let n := ys.length
  if n % 2 = 1 then ys.getD (n / 2) 0 else (ys.getD (n / 2 - 1) 0 + ys.getD (n / 2) 0) / 2

/-- `TDRESP` completes an exchange (R408). -/
def State.tdresp (s : State) (lane : Nat) (m : List Byte) : State :=
  s.trunkMessage lane m fun s =>
    let i := (s.exchPort lane).getD 0
    if !s.exchUp i then s
    else
      match (s.tport i).exch with
      | none => s
      | some e =>
        if e.seq != leAt m 1 2 || e.late s.time.cyc then s.exchFail i
        else
          let rtt := psOfSub ((e.t2 - e.t1) + (subOfFull (leAt m 3 12) - e.t3))
          let (a, b) := s.asym i
          let d := roundHalfEven (rtt * (2 ^ 24 + a)) (2 ^ 25) + b
          let th := psOfSub (e.t2 - e.t1) - d
          let med := if (s.tport i).rtts.isEmpty then rtt else median (s.tport i).rtts
          let out := 1000 < (rtt - med).natAbs
          let s := s.updTport i fun x =>
            { x with exch := none, exchOk := true, okRun := x.okRun + 1, failRun := 0, delay := d
                     rtts := (rtt :: x.rtts).take 16, thetas := ((if out then none else some th) :: x.thetas).take 16 }
          let s := if out then s.bump (tpReg i 0x18) else s
          let s := if 16 ≤ (s.tport i).okRun && 4 ≤ i && s.pair.lockedAt.isNone then
            { s with pair := { s.pair with lockedAt := some s.time.cyc } } else s
          if s.timePort != some i then s
          else
            let s := s.track 1
            if 4 ≤ i || (s.tflag 1 && 16 ≤ (s.tport i).okRun && (s.tport i).farTqual != 5) then s.gainSource 1 else s

/-- No `TDRESP` within 500 µs of the `TSYNC`. -/
def State.exchTimeout (s : State) (lane : Nat) : State :=
  match s.exchPort lane with
  | none => s
  | some i =>
    match (s.tport i).exch with
    | some e => if e.startAt + 500 * cycPerUs ≤ s.time.cyc then s.exchFail i else s
    | none => s

/-! ## Announcements and neighbours (R416, R431, R432) -/

/-- The far end of a port announced `ROLE` 0 or 1 within the last 3 ms. -/
def State.farActive (s : State) (i : Nat) : Bool :=
  match (s.tport i).activeAt with
  | some c => decide (s.time.cyc ≤ c + 3 * cycPerMs)
  | none => false

/-- The active neighbour of a direction: the one followed while it qualifies, else the other, else none. -/
def State.pickNeighbour (s : State) (down : Bool) : Option Nat :=
  let cur := if down then s.time.downActive else s.time.upActive
  let o := if down then 2 else 0
  match cur with
  | some i => if s.farActive (o + i) then some i else [0, 1].find? fun j => s.farActive (o + j)
  | none => [0, 1].find? fun j => s.farActive (o + j)

/-- Neighbours are chosen anew. `TRUNK` needs a known upstream with 16 good exchanges (R403). -/
def State.followNeighbours (s : State) : State :=
  let u := s.pickNeighbour false
  let d := s.pickNeighbour true
  let was := s.time.upActive
  let s := s.updTime fun t => { t with upActive := u, downActive := d }
  if s.pairPort.isSome then s
  else match u with
  | none => s.loseSource 1
  | some i =>
    if was = u then s
    else if !s.tflag 1 || (s.tport i).okRun < 16 || (s.tport i).farTqual = 5 then s.loseSource 1
    else s.gainSource 1

/-- An upstream's newly announced step within `STEP_LIMIT` of the refused offset is followed (R416); in a pair the active alone
decides. -/
def State.followDue (s : State) : Option Nat :=
  match s.timePort, s.time.stepPend with
  | some i, some (1, d) =>
    match (s.tport i).farNew with
    | some st => if s.tflag 3 && s.time.stepAt.isNone && (st - d).natAbs ≤ s.stepLimit && !s.isStandby then some i else none
    | none => none
  | _, _ => none
def State.followStep (s : State) : State :=
  match s.followDue with
  | some i => if s.isActive then s else (s.acceptStep none).2.updTport i fun x => { x with farNew := none }
  | none => s

/-- `ANNOUNCE` arrives. -/
def State.announceIn (s : State) (lane : Nat) (m : List Byte) : State :=
  s.trunkOnly lane m fun s =>
    let i := lane - 24
    let role := byteAt m 3
    let q := byteAt m 4
    let seq := leAt m 9 2
    let step := sleAt m 11 8
    let s := s.updTport i fun x =>
      { x with farHub := byteAt m 1 % 64, farPair := byteAt m 2 % 2, farTqual := q % 8, farTerr := leAt m 5 4
               activeAt := if role ≤ 1 then some s.time.cyc else x.activeAt
               farNew := match x.farStepSeq with
                 | some o => if seq = (o + 1) % 65536 then some step else x.farNew
                 | none => none
               farStepSeq := some seq, farStep := step }
    let s := s.followNeighbours
    let s := if i < 2 && s.timePort = some i && q = 5 then s.loseSource 1 else s
    s.followStep

/-- `ANNOUNCE` on each trunk lane in `ACTIVE`, once per millisecond (R431). -/
def State.announceSend (s : State) : State :=
  if s.time.announceMs = some s.msNow then s else
  let s := s.updTime fun t => { t with announceMs := some s.msNow }
  let body := toLE 1 s.hubId ++ toLE 1 (bnat s.sys.pairId) ++ toLE 1 s.announcedRole ++ toLE 1 s.tqual ++ toLE 4 s.errEst
    ++ toLE 2 s.time.stepSeq ++ toLE 8 (ofSigned 64 s.time.lastStep)
  s.sendTrunk true true 0 (message 0x23 body)

/-- What trunk and pair lanes that have left `ACTIVE` end: an exchange on them, and `TRUNK` if it was followed there (R403). -/
def State.followLanes (s : State) : State :=
  (List.range 6).foldl (fun s i =>
    if s.laneActive (if i < 4 then 24 + i else 26 + i) then s
    else
      let was := s.timePort == some i
      let s := if (s.tport i).exch.isSome then s.updTport i fun x => { x with exch := none, exchOk := false } else s
      let s := if (s.tport i).okRun = 0 then s else s.updTport i fun x => { x with okRun := 0 }
      let s := if i < 4 then s else s.pairUnlock
      if was then s.loseSource 1 else s) s

/-! ## Capabilities (R429, R430) -/

/-- The result of a `TCAPS`, the first that applies. -/
def State.tcapsResult (s : State) (lane : Nat) (m : List Byte) : Nat :=
  let i := lane - 24
  let up := i < 2
  let k := i % 2
  let own := bnat s.sys.pairId
  if byteAt m 1 != 1 || ((m.drop 7).take 10).any (· != 0) then 1
  else if leAt m 5 2 != s.chainId then 2
  else if (if up then byteAt m 2 + 1 != s.hubId else byteAt m 2 != s.hubId + 1) then 3
  else if byteAt m 3 != k || byteAt m 4 != (if up then 2 else 0) + own then 4
  else 0

/-- `CAPS` of a trunk lane ends when this end has accepted and been accepted. -/
def State.tcapsDone (s : State) (lane : Nat) : State :=
  let p := s.tport (lane - 24)
  if p.ackSent && p.ackGot then s.capsDone lane true else s

/-- `FMAP` messages of a direction's list, on the lanes given (R436). -/
def State.fmapMessages (s : State) (down : Bool) : List (List Byte) :=
  let ex := s.exports down
  let gs := chunks 16 ex.length ex
  (gs.zip (List.range gs.length)).map fun gi =>
    message 0x41 (toLE 1 (16 * gi.2) ++ toLE 1 gi.1.length
      ++ (gi.1 ++ List.replicate (16 - gi.1.length) 0xFFFF).flatMap fun c => toLE 2 c)
def State.fmapSend (s : State) (down : Bool) : State :=
  (s.fmapMessages down).foldl (fun s m => s.sendTrunk (!down) down 3 m) s

/-- The map goes out every 100 ms (R436). -/
def State.fmapTick (s : State) (down : Bool) : State :=
  let n := s.ns / 100_000_000
  if (if down then s.time.fmapDownAt else s.time.fmapUpAt) = some n then s
  else (s.updTime fun t => if down then { t with fmapDownAt := some n } else { t with fmapUpAt := some n }).fmapSend down

/-- A trunk lane's `CAPS` exchange goes on; a lane that enters `ACTIVE` brings the map again. -/
def State.tcapsIn (s : State) (lane : Nat) (m : List Byte) : State :=
  if lane < 24 || 28 ≤ lane || !s.laneHears lane then s
  else if !crcGood m then s.trunkCrcBad lane
  else if s.laneActive lane then s
  else
    let r := s.tcapsResult lane m
    let s := s.egress lane 0 (message 0x25 (toLE 1 r))
    if r = 0 then
      let s := (s.updTport (lane - 24) fun x => { x with ackSent := true }).tcapsDone lane
      if s.laneActive lane then s.fmapSend (26 ≤ lane) else s
    else s.capsDone lane false

def State.tcapsAckIn (s : State) (lane : Nat) (m : List Byte) : State :=
  if lane < 24 || 28 ≤ lane || !s.laneHears lane then s
  else if !crcGood m then s.trunkCrcBad lane
  else if s.laneActive lane then s
  else
    let r := byteAt m 1
    let s := s.updTport (lane - 24) fun x => { x with capsResult := r % 8 }
    if r = 0 then
      let s := (s.updTport (lane - 24) fun x => { x with ackGot := true }).tcapsDone lane
      if s.laneActive lane then s.fmapSend (26 ≤ lane) else s
    else s.capsDone lane false

/-! ## Foreign channels (R276, R432, R437) -/

/-- Whether a lane is the active neighbour's of its direction. -/
def State.fromNeighbour (s : State) (lane : Nat) : Bool :=
  if lane < 26 then s.time.upActive == some (lane - 24) else s.time.downActive == some (lane - 26)

/-- `FMAP` arrives: the entries of its group are the latest. -/
def State.fmapIn (s : State) (lane : Nat) (m : List Byte) : State :=
  s.trunkOnly lane m fun s =>
    if !s.fromNeighbour lane then s
    else
      let put (t : Tab Nat) : Tab Nat :=
        (List.range 16).foldl (fun t j => Tab.set (fun _ => 0xFFFF) t (byteAt m 1 + j)
          (if j < byteAt m 2 then leAt m (3 + 2 * j) 2 else 0xFFFF)) t
      s.updTime fun t => if lane < 26 then { t with fmapUp := put t.fmapUp } else { t with fmapDown := put t.fmapDown }

/-- The foreign channel bound to a neighbour's chain in a direction (R525): `CHANNEL_MAP` `DIR` 0 is upstream. -/
def State.foreignChannels (s : State) (down : Bool) (chain : Nat) : List Nat :=
  ((mapRecords (s.body 0x03)).filter fun r => byteAt r 2 == bnat down && leAt r 4 2 == chain).map fun r => leAt r 0 2

/-- Bits of a mask below position j. -/
def onesBelow (mask j : Nat) : Nat := ((List.range j).filter (bit mask)).length

/-- `FOREIGN` arrives: the samples of the `PRESENT` bits, in ascending order. -/
def State.foreignIn (s : State) (lane : Nat) (m : List Byte) : State :=
  s.trunkOnly lane m fun s =>
    if !s.fromNeighbour lane then s
    else
      let down := 26 ≤ lane
      let map := if down then s.time.fmapDown else s.time.fmapUp
      let idx := byteAt m 1
      let stamp := s.extend (leAt m 2 6)
      let present := leAt m 8 2
      let setl := leAt m 10 2
      (bitList 16 present).foldl (fun s j =>
        let c := Tab.get (fun _ => 0xFFFF) map (idx + j)
        let v := sleAt m (12 + 3 * onesBelow present j) 3
        (if c = 0xFFFF then [] else s.foreignChannels down c).foldl (fun s ch => s.combForeign ch stamp v (bit setl j)) s) s

/-! ## Relay (R438, R439) -/

/-- Whether some lane of a direction is in `ACTIVE`. -/
def State.dirUp (s : State) (down : Bool) : Bool := if down then s.laneActive 26 || s.laneActive 27 else s.laneActive 24 || s.laneActive 25

/-- Bytes of fragments that wait in a lane's `TRUNK_BUF` (R439, R441). -/
def State.relayFill (s : State) (lane : Nat) : Nat :=
  (((s.egressArb lane).wants.filter fun x => x.req == 4 || x.req == 5).map fun x => x.msg.length).sum

/-- A fragment put on the lanes of a direction. A lane whose `TRUNK_BUF` has no room for it drops it, as does a direction with
no lane in `ACTIVE`. -/
def State.sendFragment (s : State) (down : Bool) (slot : Nat) (m : List Byte) : State :=
  let ls := if down then [26, 27] else [24, 25]
  if !s.dirUp down then s.bump (tpReg (ls.headD 24 - 24) 0x1C)
  else ls.foldl (fun s l =>
    if !s.laneActive l then s
    else
    let s := s.runEgress s.time.cyc l
    if s.regionSize 0x07 (l - 24) < s.relayFill l + m.length then s.bump (tpReg (l - 24) 0x1C)
    else s.egress l slot m) s

/-- A `RELAY` message. -/
def relayMessage (dst src flags pseq : Nat) (data : List Byte) : List Byte :=
  message 0x50 (toLE 1 dst ++ toLE 1 src ++ toLE 1 flags ++ toLE 1 data.length ++ toLE 2 pseq ++ data)

/-- A packet's bytes sent as fragments to a hub; `PSEQ` counts this hub's packets (R438). -/
def State.relayBytes (s : State) (down : Bool) (dst : Nat) (bs : List Byte) : State :=
  let n := s.time.pseq
  let s := s.updTime fun t => { t with pseq := (n + 1) % 65536 }
  let frs := chunks 115 bs.length bs
  (frs.zip (List.range frs.length)).foldl (fun s fi =>
    let fl := bnat (fi.2 == 0) + 2 * bnat (fi.2 + 1 == frs.length)
    s.sendFragment down 4 (relayMessage dst s.hubId fl n fi.1)) s

/-- The direction towards a hub. -/
def State.towards (s : State) (dst : Nat) : Bool := s.hubId ≤ dst

/-- `NAK` to a source: the first packet lost. -/
def State.relayNak (s : State) (src pseq : Nat) : State :=
  s.sendFragment (s.towards src) 4 (relayMessage src s.hubId 4 pseq (toLE 2 pseq))

/-- One fragment for this hub: the reassembly after it, a packet completed, and the `PSEQ` of a packet found lost. -/
def Reasm.step (r : Reasm) (flags pseq : Nat) (data : List Byte) : Reasm × Option (List Byte) × Option Nat :=
  let nxt := some ((pseq + 1) % 65536)
  let finish (r : Reasm) : Reasm × Option (List Byte) × Option Nat :=
    if bit flags 1 then
      if r.data.length = 20 + leAt r.data 6 2 then ({ r with isOpen := false, data := [], next := nxt }, some r.data, none)
      else ({ r with isOpen := false, data := [], next := nxt }, none, some pseq)
    else (r, none, none)
  if bit flags 0 then
    if r.isOpen then
      -- the packet before lacks its end
      ({ r with pseq := pseq, isOpen := false, data := [], next := nxt }, none, some r.pseq)
    else
      match r.next with
      | some n =>
        if n = pseq then finish { r with pseq := pseq, isOpen := true, data := data }
        else ({ r with pseq := pseq, next := nxt }, none, some n)
      | none => finish { r with pseq := pseq, isOpen := true, data := data }
  else if r.isOpen && r.pseq = pseq then finish { r with data := r.data ++ data }
  else if !r.isOpen && r.pseq = pseq then (r, none, none)
  else ({ r with pseq := pseq, isOpen := false, data := [], next := nxt }, none, some (if r.isOpen then r.pseq else (r.next.getD pseq)))

end Sys2Proof.Machine
end

