-- ==== Sys2Proof/Machine/Arm.lean ====
section
/-! DEFINITION. Arming and firing (R334, R343, R351, R352, R355 to R358): host and swarm arms, the armed mask, swarm fires, host
fires, edges on the trigger inputs. -/

namespace Sys2Proof.Machine

/-! ## Events to the units -/

/-- An event on its way reaches the units (R337). -/
def State.trigEventArrival (s : State) (src stamp : Nat) : State :=
  match s.trig.transit.find? fun e => e.src == src && (stampOfSub e.t).toNat == stamp % 2 ^ 48 with
  | some e => ({ s with trig := { s.trig with transit := s.trig.transit.erase e } } : State).trigArrive e
  | none => s

/-- A rising edge on `TRIG_IN0` or `TRIG_IN1`, sampled each `CORE` cycle of 1.25 ns (R334): taken when the ball was low for 20 ns before it
and stays high for 20 ns, and not within 100 ns of the last one taken. -/
def State.trigInEdge (s : State) (edge : TrigEdge) : State :=
  let last := if edge.ball = 0 then s.trig.lastIn0 else s.trig.lastIn1
  let soon := match last with | some c => decide (s.time.cyc ≤ c + 80) | none => false
  if 1 < edge.ball || edge.low < 16 || edge.high < 16 || soon then s
  else
    let trig := if edge.ball = 0 then { s.trig with lastIn0 := some s.time.cyc } else { s.trig with lastIn1 := some s.time.cyc }
    ({ s with trig := trig } : State).trigSend (0x1010 + edge.ball) s.sub

/-! ## Arming (R343) -/

/-- An arm's time has come. An engine armed or collecting counts as armed; one stopped by a mask takes a host arm only. -/
def Engine.takeArm (g : Engine) (a : EngineArm) : Engine :=
  if g.armed || (g.coll.isSome && !g.seg) || (g.maskStopped && a.source != .host) then g
  else { g with armed := true, armAt := a.time, maskStopped := false }

/-- The arms of an engine whose times have come. -/
def State.armDue (s : State) (e : Nat) : State :=
  s.updEngine e fun g =>
    (g.arms.filter fun a => a.time ≤ s.sub).foldl Engine.takeArm { g with arms := g.arms.filter fun a => s.sub < a.time }

/-- An engine's arm is set for a time, and taken at once where that has come. -/
def State.armEngine (s : State) (e : Nat) (t : Int) (source : ArmSource) : State :=
  if !engOn (s.engineRec e) then s
  else (s.updEngine e fun g => { g with arms := insertArm { time := t, source } g.arms }).armDue e

/-- Every engine of a set (R343). -/
def State.armSet (s : State) (set : Nat) (t : Int) (source : ArmSource) : State :=
  (bitList 8 set).foldl (fun s e => s.armEngine e t source) s

/-- In segmented mode the engine stands ready again 1 µs after a segment's end (R351). Fires are judged by their stamps. -/
def State.segmentRearm (s : State) (e : Nat) : State :=
  let g := s.engine e
  if g.seg && g.coll.isNone && g.segEnd + subUs 1 ≤ s.sub then s.updEngine e fun g => { g with segReady := true } else s

/-- The engine returns to the main path after `SEG_QUIET` without a fire, decided H_e later (R352). -/
def State.segQuietDecision (s : State) (e : Nat) : State :=
  let g := s.engine e
  let quiet := g.segEnd + subUs (engSegQuiet (s.engineRec e) * 1000)
  if g.seg && g.coll.isNone && quiet + s.engHorizon (fun u => (s.tunit u).horizon) e ≤ s.sub
      && !g.segFires.any fun t => g.segEnd ≤ t && t < quiet then
    s.updEngine e fun g => { g with seg := false, segReady := false, segNum := 0, segFires := [] }
  else s

/-- Engines stop (R645, R647) or one is reset (R488): disarmed, out of segmented mode, a mask stop cleared. -/
def State.disarm (s : State) (e : Nat) : State :=
  s.updEngine e fun g =>
    { g with armed := false, arms := [], maskStopped := false, seg := false, segReady := false, segNum := 0, segWait := [], segFires := []
             coll := none }

/-! ## The swarm (R355 to R358) -/

def trigDup : Nat := 0x0007_001C

/-- A swarm message from one direction goes on in the other (R435). -/
def State.relaySwarm (s : State) (lane : Nat) (m : List Byte) : State :=
  if lane < 26 then s.sendTrunk false true 1 m else s.sendTrunk true false 1 m

/-- The engines of a set that take part. -/
def State.swarmEngines (s : State) (set : Nat) : List Nat :=
  (bitList 8 set).filter fun e => engOn (s.engineRec e) && engFlag (s.engineRec e) 3

/-- The answer to a swarm arm: 0 `OK`, 1 `LATE`, 2 `STOPPED`, 3 `NONE` (R356). -/
def State.armAnswer (s : State) (t : Int) (set : Nat) : Nat :=
  if t < s.sub then 1
  else if (bitList 8 set).any fun e => engOn (s.engineRec e) && (s.engine e).maskStopped then 2
  else if (s.swarmEngines set).isEmpty then 3 else 0

/-- An answer is collected while the mask is open (R357); the first of a position counts (R435). -/
def State.collectAnswer (s : State) (seq hub result : Nat) : State :=
  let late := match s.trig.swarmArm with | some (t, _) => decide (t + subUs 1000 < s.sub) | none => true
  if seq != s.trig.swarmSeq || s.trig.maskFixed || late || s.trig.answered.contains hub then s
  else
    let mask := if result = 0 then s.trig.armedMask ||| 2 ^ (hub % 64) else s.trig.armedMask
    { s with trig := { s.trig with answered := hub :: s.trig.answered, armedMask := mask } }

/-- This hub takes part in a swarm arm: its engines are set, and it answers both ways. -/
def State.joinArm (s : State) (seq : Nat) (t : Int) (set : Nat) : State :=
  let s := { s with trig := { s.trig with swarmArm := some (t, set), swarmSeq := seq, answered := [], armedMask := 0, maskFixed := false } }
  let a := s.armAnswer t set
  let s := if a = 1 then s else (s.swarmEngines set).foldl (fun s e => s.armEngine e t .other) s
  let s := s.noteSeen 1 seq s.hubId
  let m := message 0x31 (toLE 2 seq ++ toLE 1 s.hubId ++ toLE 1 (bnat s.sys.pairId) ++ toLE 1 a)
  (s.collectAnswer seq s.hubId a).sendTrunk true true 1 m

/-- The master sends a swarm arm (R356). -/
def State.swarmArmOut (s : State) (t : Int) (set : Nat) : State :=
  let seq := (s.trig.swarmSeq + 1) % 65536
  let s := s.noteSeen 0 s.hubId seq
  let s := s.sendTrunk true true 1 (message 0x30 (toLE 1 s.hubId ++ toLE 2 seq ++ fullOfSub t ++ toLE 1 set))
  if s.swarmEn then s.joinArm seq t set else { s with trig := { s.trig with swarmSeq := seq } }

/-- A swarm `ARM` arrives. -/
def State.swarmArmIn (s : State) (lane : Nat) (m : List Byte) : State :=
  s.trunkOnly lane m fun s =>
    let origin := byteAt m 1
    let seq := leAt m 2 2
    if s.wasSeen 0 origin seq then s.bump trigDup
    else
      let s := (s.noteSeen 0 origin seq).relaySwarm lane m
      if s.swarmEn then s.joinArm seq (subOfFull (leAt m 4 12)) (byteAt m 16) else s

/-- An `ARM_RESULT` arrives. -/
def State.armResultIn (s : State) (lane : Nat) (m : List Byte) : State :=
  s.trunkOnly lane m fun s =>
    let seq := leAt m 1 2
    let hub := byteAt m 3
    if s.wasSeen 1 seq hub then s.bump trigDup
    else
      let s := (s.noteSeen 1 seq hub).relaySwarm lane m
      if s.swarmEn then s.collectAnswer seq hub (byteAt m 5) else s

/-- The armed mask is fixed 1 ms after the arm time (R357). -/
def State.fixMask (s : State) : State :=
  match s.trig.swarmArm with
  | some (t, _) =>
    if s.trig.maskFixed || s.sub < t + subUs 1000 then s
    else
      let s := { s with trig := { s.trig with maskFixed := true } }
      if s.swarmMaster then
        s.raise 0x0703 s.trig.swarmSeq [BitVec.ofNat 32 s.trig.armedMask, BitVec.ofNat 32 (s.trig.armedMask / 2 ^ 32)]
      else s
  | none => s

/-- A swarm fire takes effect on this hub (R358). A standby takes its latency from the active's mark (R573). -/
def State.deliverSwarm (s : State) (origin : Nat) (t : Int) (set : Nat) (latency : Option Int) : State :=
  let f : Fire := { stamp := t, kind := 2, num := origin, latency := latency.getD (s.sub - t) }
  let s := (s.swarmEngines set).foldl (fun s e => s.fireAt e f) s
  s.trigSend 0x1020 t

/-! ## Host `FIRE` (R358, R483) -/

/-- The fire is offered to the units named; with `SWARM` it goes out to the swarm too. Its engines on this hub take it directly. -/
def State.hostFire (s : State) (units engines : Nat) (swarm : Bool) : State :=
  let t := s.sub
  let s := (bitList 16 units).foldl (fun s u =>
    if unitOn (s.unitRec u) && unitHas (s.unitRec u) 0x1021 then
      s.updUnit u fun x => { x with queue := insertEvent { t := t, src := 0x1021 } x.queue }
    else s) s
  if swarm then
    let s := s.swarmFireOut t engines
    if s.swarmEn then (s.swarmEngines engines).foldl (fun s e => s.fireEngine e t 1 0) s else s
  else (bitList 8 engines).foldl (fun s e => s.fireEngine e t 1 0) s

end Sys2Proof.Machine
end

