-- ==== Sys2Proof/Machine/Modes.lean ====
section
/-! DEFINITION. Modes (R625 to R652): changes of mode, requests, the ends of TRAIN, SURGE, SAFE, QUIESCE and TEST, and resets. -/

namespace Sys2Proof.Machine

/-! ## Changing mode (R625 to R628) -/

/-- Codes of `SYS_MODE.MODE` (R555). -/
def modeCode : Mode → Nat
  | .hold => 0 | .load => 1 | .train => 2 | .run => 3 | .shadow => 4 | .takeover => 5 | .holdover => 6 | .coast => 7
  | .surge => 8 | .safe => 9 | .test => 10 | .quiesce => 11
def modeOf (n : Nat) : Option Mode :=
  [Mode.hold, .load, .train, .run, .shadow, .takeover, .holdover, .coast, .surge, .safe, .test, .quiesce][n]?

/-- The modes where acquisition runs: not before an image, in SAFE or TEST, nor once Q of a QUIESCE has passed. -/
def State.acquiring (s : State) : Bool :=
  match s.sys.mode with
  | .hold | .load | .safe | .test => false
  | .quiesce => s.sys.quiesceStamp.isNone
  | _ => true

/-- Whole seconds: the first after a time in ns. -/
def secondAfter (ns : Nat) : Nat := ns / 1_000_000_000 + 1

/-- A mode is entered (R626): shown, raised, and counted as entry to RUN where it is one (R45, R412, R628). -/
def State.setMode (s : State) (m : Mode) : State :=
  if s.sys.mode = m then s
  else
    let old := s.sys.mode
    let s := { s with sys := { s.sys with mode := m, prev := old } }
    let s := s.raise 0x0001 (modeCode m) [BitVec.ofNat 32 (modeCode old)]
    let running := m = .run || m = .holdover || m = .shadow
    let s :=
      if running then
        let s := if s.cfg.gridStart.isNone then { s with cfg := { s.cfg with gridStart := some (secondAfter s.ns) } } else s
        { s with sys := { s.sys with enteredRun := true } }
      else s
    if (m = .run || m = .holdover) && s.pair.role = 0 then { s with sys := { s.sys with aloneActive := true } } else s

/-- The mode of the time state (R627). -/
def State.timeMode (s : State) : Mode :=
  if s.time.state = 1 || s.time.state = 2 then .run
  else if s.time.state = 0 && s.tflag 2 then .run else .holdover
/-- The mode by role (R625). -/
def State.roleMode (s : State) : Mode := if s.isStandby then .shadow else s.timeMode

/-- RUN and HOLDOVER follow the time state (R627). -/
def State.followTime (s : State) : State :=
  if s.sys.mode = .run || s.sys.mode = .holdover then s.setMode s.timeMode else s

/-- `TIME_SUSPECT` follows its condition (R420); a pair's active marks the change at a tick both hubs can keep (R573), and a
standby takes the active's marks. -/
def State.followSuspect (s : State) (pairLat : Nat) : State :=
  if !s.time.running || s.suspectNow = s.time.suspect || s.isStandby then s
  else if s.isActive then
    let tick := s.tickAfter 0 + pairLat
    (s.plSend (.mark (.suspect tick s.suspectNow))).markSuspect (tick * 1250) s.suspectNow
  else s.markSuspect s.ns s.suspectNow

/-! ## TRAIN (R635) -/

/-- Every lane the image enables, but for listening ones, has reached `ACTIVE` since TRAIN began. -/
def State.lanesReached (s : State) : Bool :=
  (s.records 0x0D 16).all fun r =>
    !(bit (byteAt r 1) 0) || bit (byteAt r 1) 2 || !s.lanePresent (byteAt r 0) || (s.lane (byteAt r 0)).reached

/-- TRAIN ends; pods of lanes still in bring-up start by the untimed rule. -/
def State.trainEnd (s : State) : State :=
  if s.sys.mode = .train && (s.lanesReached || s.sys.trainAt + 5 * cycPerS ≤ s.time.cyc) then
    let late := (List.range s.podLanes).filter fun p => s.laneFlag p 0 && !s.laneFlag p 2 && !(s.lane p).reached
    (late.foldl (fun s p => s.updPod p fun l => { l with untimed := true }) s).setMode s.roleMode
  else s

/-! ## Surges (R637 to R643) -/

def surgeCode : SurgeCause → Nat
  | .clamp => 1 | .vfd => 2 | .vexc => 3

def State.updField (s : State) (f : Field → Field) : State := { s with field := f s.field }

/-- Isolation switches of every channel open. -/
def State.isolateAll (s : State) : State :=
  s.localsUsed.foldl (fun s k => s.updLocal k fun l => { l with isolated := true }) s
/-- Calibration steps end (R129). -/
def State.dropCals (s : State) : State := s.localsUsed.foldl (fun s k => s.calDrop k) s

/-- The modes a surge interrupts. -/
def surgeable (m : Mode) : Bool := m = .train || m = .run || m = .holdover || m = .takeover

/-- The marks of an episode: this hub's own, unless it stands by (R573, R638). -/
def State.surgeMark (s : State) (on : Bool) : State :=
  if s.isStandby then s
  else
    let s := s.markSurge s.ns on
    if s.isActive then s.plSend (.mark (.surge s.ns on)) else s

/-- A surge is detected (R638), or recurs within its episode. -/
def State.surgeDetect (s : State) (cause : SurgeCause) (ch : Nat) : State :=
  if s.sys.mode = .hold then s
  else if s.field.surgeAt.isSome then s.updField fun f => { f with quietAt := some s.time.cyc, leadTest := false }
  else
    let s := s.updField fun f =>
      { f with surgeAt := some s.time.now, quietAt := some s.time.cyc, surgeCause := surgeCode cause, leadTest := false }
    let s := s.surgeMark true
    let quiet := s.sys.mode = .quiesce || s.sys.mode = .safe || s.sys.mode = .test
    let s := (s.drivesOff).dropCals
    let s := s.raise 0x1006 (surgeCode cause) [BitVec.ofNat 32 (if cause = .clamp then ch else 0xFF)]
    let s :=
      if surgeable s.sys.mode then ({ s with sys := { s.sys with surgeFrom := s.sys.mode } } : State).setMode .surge else s
    (if quiet then s else s.spanLocals 3 false).isolateAll

/-- No condition has held for 50 ms: the lead-integrity test starts. -/
def State.surgeQuiet (s : State) : State :=
  match s.field.surgeAt, s.field.quietAt with
  | some _, some q =>
    if s.field.leadTest || s.time.cyc < q + 50 * cycPerMs then s
    else s.updField fun f => { f with leadTest := true, quietAt := some s.time.cyc }
  | _, _ => s

/-- A loop's code: 0 pass, 1 open, 2 shorted, 3 not tested (R99, R642). -/
def loopCode (excited tested : Bool) (dv : Nat) (loss : Bool) : Nat :=
  if !tested then 3 else if loss || 2_000_000 ≤ dv then 1 else if excited && dv < 100 then 2 else 0

/-- One channel's test ends (R642, R643); the Boolean says it failed. -/
def State.leadResult (s : State) (m : LeadMeasure) : State × Bool :=
  let l := s.local' m.ch
  if !l.fe.inUse then (s, false)
  else
    let exc := l.fe.mode != 0
    let c1 := loopCode exc true m.dv1 m.loss1
    let c2 := loopCode exc exc m.dv2 m.loss2
    let code := if c1 = 1 || c2 = 1 then 1 else if c1 = 2 || c2 = 2 then 2 else 0
    let bad := code != 0
    let close := s.switchMode
    let s := s.updLocal m.ch fun l => { l with leadResult := code, heldOut := bad, isolated := bad || !close }
    (if bad then s.raise 0x1008 m.ch [BitVec.ofNat 32 (c1 + 4 * c2)] else s, bad)

/-- The mode a surge returns to (R625, R641). -/
def State.surgeReturn (s : State) : State :=
  if s.sys.mode != .surge then s
  else if s.sys.surgeFrom = .takeover then s.setMode s.timeMode
  else if s.sys.surgeFrom = .train then s.setMode .train
  else s.setMode s.roleMode

/-- The test ends at t_r, and with it the episode (R638 to R640). -/
def State.leadTestEnd (s : State) (loops : List LeadMeasure) : State :=
  match s.field.surgeAt, s.field.quietAt with
  | some t0, some q =>
    if !s.field.leadTest || s.time.cyc < q + 4 * cycPerMs then s
    else
      let (s, n) := loops.foldl (fun (sn : State × Nat) m => let (s, b) := sn.1.leadResult m; (s, sn.2 + bnat b)) (s, 0)
      let ms := (s.time.now - t0) / unitsPerNs / 1_000_000
      let s := s.updField fun f => { f with surgeAt := none, quietAt := none, leadTest := false }
      let s := s.surgeMark false
      let s := s.raise 0x1007 ms [BitVec.ofNat 32 n]
      let s := if s.isStandby || s.sys.mode != .surge then s else { s with sys := { s.sys with surgeChains := some (s.tickAfter 0) } }
      let s := s.surgeReturn
      if s.sys.mode = .coast then s else s.resumeLocals s.ns true
  | _, _ => s

/-- Chains with `SURGE_RESTART` restart at the first tick after SURGE (R238). -/
def State.surgeChainRestart (s : State) : State :=
  match s.sys.surgeChains with
  | some n =>
    if tickTime n ≤ s.time.now then ({ s with sys := { s.sys with surgeChains := none } } : State).surgeRestart n else s
  | none => s

/-! ## Stopping acquisition (R645, R647) -/

/-- Records whose copies are under way go to their streams at once. -/
def State.flushCopies (s : State) (e : Nat) : State :=
  match s.engineRoute e with
  | none => s.updEngine e fun g => { g with copies := [] }
  | some r =>
    let s := ((s.engine e).copies.flatMap (·.1)).foldl (fun s x => s.emit r x) s
    s.updEngine e fun g => { g with copies := [], ringStopped := false }

/-- Records being collected close with what the ring holds, and every engine stops (R41, R645, R647). -/
def State.stopEngines (s : State) : State :=
  (List.range 8).foldl (fun s e =>
    let s := ((s.cutRecord e).flushCopies e).disarm e
    if engOn (s.engineRec e) then s.updEngine e fun g => { g with ring := [], newest := none } else s) s

/-- Units forget what they hold. -/
def State.stopUnits (s : State) : State :=
  let units := s.trig.units.map fun u => (u.1, ({ u.2 with queue := [], taken := [], absorb := none } : TrigUnit))
  { s with trig := { s.trig with transit := [], units := units.filter fun u => u.2 != {} } }

/-- Comb programs stop: their work is dropped (R645), or ends at Q (R647). -/
def State.stopComb (s : State) : State :=
  { s with comb := { s.comb with insts := [], state := [], held := [] } }

/-- The epoch grid ends. -/
def State.stopGrid (s : State) : State :=
  { s with cfg := { s.cfg with gridOn := false, epoch := none, gridStart := none } }

/-- What SAFE and Q have in common: everything that acquires stops and every stream closes (R645, R647). -/
def State.stopAcquisition (s : State) : State :=
  let s := ((s.stopEngines).stopUnits).stopStreams
  let s := (s.stopChains).stopLocals
  let s := (s.drivesOff).isolateAll
  (s.closeBlocks).stopGrid

/-! ## SAFE (R581, R644 to R646) -/

/-- What leaving TEST ends (R202, R649): patterns, PHY overrides and an armed injection. -/
def State.leaveTest (s : State) : State :=
  let s := (s.lanesLeaveTest).setReg 0x0008_0064 (s.reg 0x0008_0064 &&& 0x0FFF_FFF8)
  { s with hive := { s.hive with inject := none } }

/-- SAFE is entered with a cause: 1 mismatch, 2 field link, 3 temperature, 4 request. -/
def State.enterSafe (s : State) (cause : Nat) : State :=
  if s.sys.mode = .hold || s.sys.mode = .safe then s
  else
    let s := (if s.sys.mode = .test then s.leaveTest else s).setMode .safe
    let s := s.raise 0x0004 cause
    let s := { s with sys := { s.sys with excEn := false, quiesceAt := none, quiesceStamp := none } }
    let s := (s.dropCals).stopAcquisition
    s.stopComb

/-- Timed actions that fell due in SAFE are late as it ends (R425, R645). -/
def State.leaveSafe (s : State) : State :=
  let tick := s.tickAfter 0
  s.updTime fun t => { t with acts := t.acts.map fun ea =>
    if ea.2.pending && ea.2.time ≤ s.ns then
      (ea.1, if ea.2.runLate then { ea.2 with lateAt := some tick } else { ea.2 with pending := false })
    else ea }

/-- The field link has been down for 10 ms with a `FRONT_END` in force. -/
def State.fieldLinkTimeout (s : State) : State :=
  match s.sys.fdDownAt with
  | some c => if c + 10 * cycPerMs ≤ s.time.cyc && s.field.feApplied then s.enterSafe 2 else s
  | none => s
def State.overtemp (s : State) (temp : Int) : State :=
  let s := { s with sys := { s.sys with temp := temp } }
  if 125_000 < temp then s.enterSafe 3 else s

def State.fieldLinkLoss (s : State) : State :=
  if s.sys.fdLink then { s with sys := { s.sys with fdLink := false, fdDownAt := some s.time.cyc } } else s
def State.fieldLinkReturn (s : State) : State := { s with sys := { s.sys with fdLink := true, fdDownAt := none } }

/-! ## QUIESCE (R647, R648) -/

/-- The number of the epoch a time lies in and where it begins, ns. -/
def State.epochNs (s : State) : Nat := s.cfg.epochDs * 100_000_000
def State.epochIndex (s : State) (start : Nat) : Nat := (s.ns - start * 1_000_000_000) / max 1 s.epochNs

/-- Q: the next epoch boundary, or the next tick when no grid runs; ns. -/
def State.quiesceTime (s : State) : Nat :=
  match s.cfg.gridOn, s.cfg.gridStart with
  | true, some st => st * 1_000_000_000 + (s.epochIndex st + 1) * s.epochNs
  | _, _ => (s.tick + 1) * 1250

/-- A `CMD` with `STOP` to the lanes in service. -/
def State.podStops (s : State) (tick : Nat) : State :=
  (List.range s.podLanes).foldl (fun s p =>
    if s.laneActive p && !(s.pod p).quarantined then s.send p (message 0x12 (toLE 1 0 ++ toLE 1 1 ++ toLE 4 (tick % 2 ^ 32))) else s) s

/-- Q is reached. -/
def State.quiescePoint (s : State) : State :=
  match s.sys.quiesceAt with
  | some q =>
    if s.sys.mode != .quiesce || s.ns < q then s
    else
      let s := s.endEpochWork q false true
      let s := s.podStops (q / 1250)
      let s := s.stopAcquisition
      let s := s.stopComb
      let s := s.updTime fun t => { t with acts := t.acts.map fun ea => (ea.1, { ea.2 with pending := false, lateAt := none }) }
      { s with sys := { s.sys with quiesceAt := none, quiesceStamp := some (stampOfNs q), quiesced := false } }
  | none => s

/-- Whether a FIFO holds an unreleased record of a stream other than 0. -/
def Fifo.holdsData (f : Fifo) : Bool :=
  f.waiting.any (fun r => r.stream != 0) || f.q.any fun p => match p.kind with
    | .data st _ => st != 0 && !p.released
    | _ => false

/-- Every record is released and every pool empty (R648). -/
def State.quiescedNow (s : State) : State :=
  match s.sys.quiesceStamp with
  | some w =>
    if s.sys.mode = .quiesce && !s.sys.quiesced && !s.host.holdsData && !s.drip.holdsData && s.nx.inq.isEmpty
        && (List.range 16).all s.poolEmpty then
      ({ s with sys := { s.sys with quiesced := true } } : State).raise 0x0003 0 (stampWords w)
    else s
  | none => s

/-! ## Requests (R629, R649) -/

/-- What a request does, or none when it is refused. -/
def State.modeRequest (s : State) (code : Nat) : Option State :=
  match modeOf code with
  | none => none
  | some m =>
    if m = s.sys.mode then some s
    else if m = .safe then (if s.sys.mode = .hold then none else some (s.enterSafe 4))
    else if s.sys.mode = .test && m = s.sys.prev then some ((s.leaveTest).setMode m)
    else if m = .quiesce then
      if s.sys.mode = .train || s.sys.mode = .run || s.sys.mode = .holdover || s.sys.mode = .shadow then
        let q := s.quiesceTime
        let s := s.setMode .quiesce
        let s := { s with sys := { s.sys with quiesceAt := some q, quiesceStamp := none, quiesced := false } }
        some s.abortSpotsAndCals
      else none
    else if m = .test then
      if s.sys.mode = .load || s.sys.mode = .safe || (s.sys.mode = .quiesce && s.sys.quiesced) then
        let s := if s.sys.mode = .safe then s.leaveSafe else s
        some (s.setMode .test)
      else none
    else none

/-- A request by register, or by timed action `entry`. -/
def State.requestMode (s : State) (code : Nat) (entry : Option Nat) : Reply × State :=
  match s.modeRequest code with
  | some s => (Reply.ok, s)
  | none =>
    let arg := modeCode s.sys.mode + (match entry with | some e => 256 + 1024 * e | none => 0)
    (Reply.of stRefused 0x00, s.raise 0x0002 code [BitVec.ofNat 32 arg])

/-! ## Resets (R630 to R632) -/

/-- Everything at its reset value, but for the variant, the user OTP and the commands that wait outside the hub. -/
def State.reborn (s : State) : State :=
  { (State.reset) with
    sys := { (State.reset).sys with variant := s.sys.variant }
    field := { (State.reset).field with userOtp := s.field.userOtp }
    pair := { (State.reset).pair with aonA := s.pair.aonA, aonB := s.pair.aonB }
    pending := s.pending, free := s.free }

/-- A core reset starts: straps are kept and HOLD lasts 10 µs. -/
def State.coreResetStart (s : State) : State :=
  match s.sys.resetAt with
  | some c =>
    if s.time.cyc < c then s
    else
      let r := s.reborn
      { r with sys := { r.sys with rstHigh := true, pairId := s.sys.pairId, addrStrap := s.sys.addrStrap
                                   bootStrap := s.sys.bootStrap, holdUntil := 10 * cycPerUs } }
  | none => s

/-- `RST_N` rises: straps are sampled (R631), which lanes the host port has (R514). -/
def State.resetRelease (s : State) (pairId : Bool) (addr : BitVec 3) (boot : BitVec 2) : State :=
  if s.sys.rstHigh || s.sys.mode != .hold then s
  else { s with sys := { s.sys with rstHigh := true, pairId := pairId, addrStrap := addr, bootStrap := boot } }

/-- A field-die reset starts (R632): switches open, drives off; what its slots leave open is accounted with `RECONFIG`. -/
def State.fieldDieReset (s : State) : Reply × State :=
  if s.sys.mode = .surge || s.field.surgeAt.isSome then (Reply.of stBusy, s)
  else
    let s := (s.drivesOff.spanLocals 6 false).isolateAll
    (Reply.ok, s.updField fun f =>
      let ch := f.ch.map fun kl => (kl.1, { kl.2 with witnessed := false })
      { f with resetting := true, otpChecked := false, otpOk := false, witnessValid := false, ch := ch })

/-- The field die is ready again: the `FRONT_END` in force applies anew (R632), so that channels a lead test held out rejoin (R643), and its
grids and counters go on. -/
def State.fieldDieReady (s : State) : State :=
  if !s.field.resetting then s
  else
    let s := s.updField fun f => { f with resetting := false }
    let s := s.localsUsed.foldl (fun s k => s.updLocal k fun l => { l with heldOut := false, isolated := !s.switchesMayClose }) s
    s.resumeLocals s.ns false

end Sys2Proof.Machine
end

