-- ==== Sys2Proof/Machine/TimedActions.lean ====
section
/-! DEFINITION. The timed-action table (R424 to R427), its registers (R443), and `PPS_OUT` (R428). -/

namespace Sys2Proof.Machine

def State.act (s : State) (e : Nat) : TaEntry := Tab.get (fun _ => {}) s.time.acts e
def State.updAct (s : State) (e : Nat) (f : TaEntry → TaEntry) : State :=
  s.updTime fun t => { t with acts := Tab.upd (fun _ => {}) t.acts e f }

/-- The checks of R424 on an entry of given seconds and ns: the status that refuses it. -/
def State.actCheck (s : State) (action arg sec nsec : Nat) : Option Nat :=
  if 6 < action || 999_999_999 < nsec then some stRefused
  else if action = 5 && (arg % 4 = 3 || arg / 65536 = 0) then some stRefused
  else if action = 2 && nsec != 0 then some stRefused
  else if action = 2 && s.cfg.gridOn then some stBusy
  else if action = 3 && (sec * 1_000_000_000 + nsec) % 80_000 != 0 then some stRefused
  else none

/-- The absent local channel or pod lane that an action names (R4, R5): its unit and its number. -/
def State.actAbsent (s : State) (action arg : Nat) : Option (Nat × Nat) :=
  if action = 1 then ((bitList 32 arg).find? (s.localChs ≤ ·)).map fun k => (0x10, 768 + k)
  else if action = 3 then ((bitList 24 arg).find? (s.podLanes ≤ ·)).map fun p => (0x05, p)
  else none

/-- Whether a time in ns is late now (R425). -/
def State.isLate (s : State) (ns : Nat) : Bool := ns * unitsPerNs < s.time.now

/-- Lanes in `ACTIVE` that wait for a timed start take one named now (R158), the untimed rule's where it comes too late (R424). -/
def State.startWaiting (s : State) : State :=
  (List.range s.podLanes).foldl (fun s p =>
    if s.laneActive p && !(s.pod p).started && !s.silent p && ((s.timedStart p).isSome || s.startGone p) then s.podStart p
    else s) s

/-- An entry is stored: pending when enabled, and run late when its time has passed. -/
def State.storeAct (s : State) (e : Nat) (a : TaEntry) : State :=
  let late := a.en && s.isLate a.time
  let s := s.updAct e fun _ => { a with pending := a.en, lateAt := if late then some (s.tick + 1) else none }
  if a.action = 3 && a.en then s.startWaiting else s

/-- A write of `TA_CMD` (R425, R443, R553). -/
def State.writeTaCmd (s : State) (v : Nat) : Reply × State :=
  let e := s.regN (tmReg 0x200) % 64
  let cmd := v % 4
  if cmd = 1 then
    let sec := s.regN (tmReg 0x204) + s.regN (tmReg 0x208) % 65536 * 2 ^ 32
    let nsec := s.regN (tmReg 0x20C)
    let c := s.regN (tmReg 0x210)
    let a : TaEntry :=
      { time := sec * 1_000_000_000 + nsec, action := c % 16, arg := s.regN (tmReg 0x214), en := bit c 4, runLate := bit c 5
        period := c / 65536 }
    match s.actCheck a.action a.arg sec nsec with
    | some st => (Reply.of st 0x02, s)
    | none =>
      if a.en && a.action = 5 && a.arg % 4 = 2 && s.tflag 5 then (Reply.of stConflict 0x02 0x0105 e, s)
      else if a.en && s.isLate a.time && !a.runLate then (Reply.of stLate 0x02, s) else (Reply.ok, s.storeAct e a)
  else if cmd = 2 then
    let a := s.act e
    let w := fun (o v : Nat) (s : State) => s.setReg (tmReg o) (BitVec.ofNat 32 v)
    let s := w 0x204 (a.time / 1_000_000_000) s
    let s := w 0x208 (a.time / 1_000_000_000 / 2 ^ 32) s
    let s := w 0x20C (a.time % 1_000_000_000) s
    let s := w 0x210 (a.action + 16 * bnat a.en + 32 * bnat a.runLate + 65536 * a.period) s
    let s := w 0x214 a.arg s
    (Reply.ok, s.updTime fun t => { t with taLoaded := some e })
  else if cmd = 3 then (Reply.ok, s.updAct e fun _ => {})
  else (Reply.ok, s)

/-- The epoch grid starts at a named second (R45): in the future, or late with its numbers kept. -/
def State.startEpochGrid (s : State) (sec : Nat) : State :=
  if s.cfg.gridOn then s
  else if s.ns ≤ sec * 1_000_000_000 then { s with cfg := { s.cfg with gridStart := some sec } }
  else { s with cfg := { s.cfg with gridStart := some sec, gridOn := true, epoch := none, epochFrom := s.ns } }

/-- What an action does at its run. `at'` is the entry's time in ns; a late arm arms now. -/
def State.runAction (s : State) (e action arg at' : Nat) (late : Bool) : State :=
  if action = 1 then s.startGrids (bitList s.localChs arg) at'
  else if action = 2 then s.startEpochGrid (at' / 1_000_000_000)
  else if action = 4 then s.armSet (arg % 256) (if late then s.sub else subNs at') .other
  else if action = 5 then
    let us := arg / 65536
    if arg % 4 = 0 then
      let stop := s.time.cyc + us * cycPerUs
      s.updTime fun t => { t with ppsOut := some (max stop (t.ppsOut.getD 0)) }
    else s.pulse (arg % 4 - 1) us
  else if action = 6 then (s.requestMode (arg % 256) (some e)).2
  else s

/-- An entry's time has come. -/
def State.actDue (s : State) (e : Nat) : Bool :=
  let a := s.act e
  let due := match a.lateAt with
    | some n => decide (tickTime n ≤ s.time.now)
    | none => decide (a.time * unitsPerNs ≤ s.time.now)
  a.pending && due && s.sys.mode != .safe && s.sys.mode != .hold

/-- An entry that is due runs (R426, R427): it is noted, acts, is offered as a trigger source, and moves on by its period. -/
def State.runAct (s : State) (e : Nat) : State :=
  let a := s.act e
  if !s.actDue e then s
  else
    let late := a.lateAt.isSome
    let next := a.time + a.period * 1_000_000_000
    let passed := a.period != 0 && next * unitsPerNs < s.time.now
    -- runs already passed collapse into one
    let per := a.period * 1_000_000_000
    let skip := if passed then (s.ns - next) / per else 0
    let s := s.updAct e fun a =>
      { a with pending := a.period != 0, ran := true, ranLate := late, runTime := s.ns
               time := if a.period = 0 then a.time else next + skip * per
               lateAt := if passed then some (s.tick + 1) else none }
    let s := if late then (s.raise 0x0204 e (fullWords (fullTime s.time.now))).bump (tmReg 0x54) else s
    let s := s.bumpBy (tmReg 0x54) skip
    let s := s.runAction e a.action a.arg a.time late
    s.trigSend (0x1040 + e) (if late then s.sub else subNs a.time)

/-- An entry runs, after those of lower number that are due with it (R426). -/
def State.runTimed (s : State) (e : Nat) : State :=
  if !s.actDue e then s else (List.range (e + 1)).foldl State.runAct s

/-- The image's entries replace the table (R442). -/
def State.loadActs (s : State) (body : List Byte) : State :=
  let s := s.updTime fun t => { t with acts := [] }
  (taRecords body).foldl (fun s r =>
    let sec := leAt r 8 6
    s.storeAct (byteAt r 0)
      { time := sec * 1_000_000_000 + leAt r 16 4, action := byteAt r 2, arg := leAt r 4 4, en := bit (byteAt r 1) 0
        runLate := bit (byteAt r 1) 1, period := leAt r 20 2 }) s

/-! ## PPS_OUT (R428) -/

/-- A whole second of hub time, advanced by `PPS_OUT_ADJ`, has come: its edge is driven, once, unless squelched, on `PPS_OUT` with `PPS_OUT_EN`
and on `TRIG_OUT1` with `PPS2_EN`. -/
def State.ppsOutEdge (s : State) : State :=
  let k := s.ppsSecond s.ns
  if !(s.tflag 4 || s.tflag 5) || k ≤ s.time.ppsMark then s
  else
    let s := s.updTime fun t => { t with ppsMark := k }
    if s.tflag 6 && s.suspectAt s.ns then s else
    let ms := s.ppsW
    let stop := s.time.cyc + ms * cycPerMs
    let s := if s.tflag 4 then s.updTime fun t => { t with ppsOut := some (max stop (t.ppsOut.getD 0)) } else s
    if s.tflag 5 then s.pulse 1 (ms * 1000) else s

def State.ppsOutEnd (s : State) : State :=
  match s.time.ppsOut with
  | some c => if c ≤ s.time.cyc then s.updTime fun t => { t with ppsOut := none } else s
  | none => s

def State.trigOutEnd (s : State) (ball : Nat) : State :=
  let over' := fun (o : Option Nat) => match o with | some c => if c ≤ s.time.cyc then none else some c | none => none
  if ball = 0 then { s with trig := { s.trig with out0 := over' s.trig.out0 } }
  else if ball = 1 then { s with trig := { s.trig with out1 := over' s.trig.out1 } }
  else s

end Sys2Proof.Machine
end

