-- ==== Sys2Proof/Machine/Clocks.lean ====
section
/-! DEFINITION. Clocks (R596 to R624): reference candidates, selection and grace, coast, the margin planner and the AVSBus. -/

namespace Sys2Proof.Machine

def ckReg (o : Nat) : Nat := 0x0003_0000 + o
def State.updClk (s : State) (f : Clock → Clock) : State := { s with clk := f s.clk }

def State.refPri (s : State) : Nat := s.regN (ckReg 0x04) % 2
/-- A candidate's enable (R596). -/
def State.refEn (s : State) (c : Nat) : Bool :=
  bit (s.regN (ckReg 0x04)) (c + 1) && (c != 2 || s.time.source == 1)
def State.refGrace (s : State) : Nat := bits (s.regN (ckReg 0x04)) 8 8
def State.refQualWin (s : State) : Nat := bits (s.regN (ckReg 0x04)) 16 7

def Clock.qual (k : Clock) (c : Nat) : Bool := if c = 0 then k.qualA else if c = 1 then k.qualB else k.qualT
def Clock.setQual (k : Clock) (c : Nat) (q : Bool) : Clock :=
  if c = 0 then { k with qualA := q } else if c = 1 then { k with qualB := q } else { k with qualT := q }

/-- A sensor has shown a value (R614). -/
def State.sense (s : State) (n v : Nat) : State :=
  s.updClk fun k => { k with sensors := Tab.upd (fun _ => 1023) k.sensors n fun x => min x (min v 1023) }

/-- A sensor as the chip has it now, where no command brought its value. -/
def State.senseAt (s : State) (n : Nat) : State :=
  s.sense n ((Config.measured (ckReg 0x100 + 4 * n) s.time.cyc).toNat % 1024)

/-- All sensors so. -/
def State.senseNow (s : State) : State := (List.range 64).foldl State.senseAt s

/-! ## Selection (R602 to R605, R613) -/

/-- The best qualified candidate. -/
def State.bestRef (s : State) : Option Nat := [2, s.refPri, 1 - s.refPri].find? fun c => s.clk.qual c
/-- The best qualified local reference. -/
def State.bestLocal (s : State) : Option Nat := [s.refPri, 1 - s.refPri].find? fun c => s.clk.qual c

/-- The PLL follows a candidate in place of another (R603). -/
def State.failover (s : State) (new old : Nat) : State :=
  let s := s.updClk fun k => { k with selected := new, grace := none }
  (s.bump (ckReg 0x20)).raise 0x0302 new [BitVec.ofNat 32 old]

/-- The PLL takes the best candidate, holds for the grace, or begins the ramp that ends a coast. DESIGN CHOICE (log entry 159): a ramp whose
local reference is lost breaks off, and the coast goes on. -/
def State.followRefs (s : State) : State :=
  if s.clk.coast then
    if s.clk.ramping = s.bestLocal.isSome then s else s.updClk fun k => { k with ramping := !k.ramping }
  else
    match s.bestRef with
    | none =>
      if s.clk.selected = 3 then s
      else if s.clk.lock then
        s.updClk fun k => { k with grace := some (s.time.cyc, k.selected), selected := 3 }
      else s.updClk fun k => { k with selected := 3, unlockAt := none }
    | some c =>
      if c = s.clk.selected then s
      else if !s.clk.lock then s.updClk fun k => { k with selected := c, unlockAt := some s.time.cyc }
      else
        match s.clk.grace with
        | some (_, old) => s.failover c old
        | none => s.failover c s.clk.selected

/-- A candidate loses qualification with a cause (R600, R624). -/
def State.loseRef (s : State) (c cause : Nat) : State :=
  let s := s.updClk fun k => { (k.setQual c false) with passes := Tab.set (fun _ => 0) k.passes c 0 }
  (s.bump (ckReg 0x28)).raise 0x0301 c [BitVec.ofNat 32 cause]

/-! ## Windows (R599 to R601) -/

/-- Within ±8 % of 25 MHz, in units of 0.25 Hz. -/
def nearNominal (f : Nat) : Bool := 92_000_000 ≤ f && f ≤ 108_000_000
/-- Within ±ppm of the other. -/
def within (ppm a b : Nat) : Bool := decide (((a : Int) - b).natAbs * 1_000_000 ≤ ppm * b)

/-- A candidate's window: the cause of its failure, or none when it passes. -/
def State.windowFails (s : State) (w : RefWindow) (c : Nat) : Option Nat :=
  let okA := s.refEn 0 && nearNominal w.refa
  let okB := s.refEn 1 && nearNominal w.refb
  let clash := okA && okB && !within 50 w.refa w.refb
  let loser := if s.clk.selected = 1 then 0 else 1
  if !s.refEn c then some 1
  else if c = 0 then (if !okA then some 1 else if clash && loser = 0 then some 3 else none)
  else if c = 1 then (if !okB then some 1 else if clash && loser = 1 then some 3 else none)
  else
    let lane := match s.time.upActive with | some i => s.laneActive (24 + i) | none => false
    let ok := nearNominal w.trunk && lane && (!okA || within 100 w.trunk w.refa) && (!okB || within 100 w.trunk w.refb)
    if ok then none else some 1

/-- A 10 ms window ends: losses first, then qualifications, then the choice. -/
def State.refWindowEnd (s : State) (w : RefWindow) : State :=
  let okA := s.refEn 0 && nearNominal w.refa
  let okB := s.refEn 1 && nearNominal w.refb
  let disagree := if okA && okB then !within 50 w.refa w.refb else s.clk.disagree
  let a := s.refEn 0 && w.refa != 0
  let b := s.refEn 1 && w.refb != 0
  let fails := (List.range 3).map fun c => (c, s.windowFails w c)
  let s := s.updClk fun k =>
    { k with disagree := disagree, single := a != b, losA := w.refa == 0, losB := w.refb == 0, bosc := w.bosc }
  let s := fails.foldl (fun s cf =>
    match cf.2 with
    | some cause =>
      if s.clk.qual cf.1 then s.loseRef cf.1 cause
      else s.updClk fun k => { k with passes := Tab.set (fun _ => 0) k.passes cf.1 0 }
    | none => s) s
  let s := s.followRefs
  let s := fails.foldl (fun s cf =>
    match cf.2 with
    | some _ => s
    | none =>
      let n := min 100 (Tab.get (fun _ => 0) s.clk.passes cf.1 + 1)
      s.updClk fun k =>
        { (if s.refQualWin ≤ n then k.setQual cf.1 true else k) with passes := Tab.set (fun _ => 0) k.passes cf.1 n }) s
  let s := s.followRefs
  let f := if s.clk.selected = 0 then w.refa else if s.clk.selected = 1 then w.refb else if s.clk.selected = 2 then w.trunk else 0
  s.updClk fun k =>
    { k with ppmA := if f = 0 || w.refa = 0 then k.ppmA else (w.refa : Int) - f
             ppmB := if f = 0 || w.refb = 0 then k.ppmB else (w.refb : Int) - f }

/-- No transition for 200 ns (R600). -/
def State.refLos (s : State) (c : Nat) : State :=
  let s := s.updClk fun k => { k with losA := k.losA || c == 0, losB := k.losB || c == 1
                                      passes := Tab.set (fun _ => 0) k.passes c 0 }
  if s.clk.qual c then (s.loseRef c 2).followRefs else s

def candCode : Cand → Nat
  | .refa => 0 | .refb => 1 | .trunk => 2

/-- A write of `CLK_REF_CFG` (R600, R622). -/
def State.writeRefCfg (s : State) (v : Nat) : Reply × State :=
  let q := bits v 16 7
  if bits v 8 8 = 0 || q = 0 || 100 < q then (Reply.of stRefused 0x03, s)
  else
    let s := s.setReg (ckReg 0x04) (BitVec.ofNat 32 (v &&& 0x007F_FF0F))
    let s := (List.range 3).foldl (fun s c => if s.clk.qual c && !bit v (c + 1) then s.loseRef c 5 else s) s
    (Reply.ok, s.followRefs)

/-! ## The PLL (R605, R607) -/

def State.pllLock (s : State) : State :=
  if s.clk.lock || s.clk.selected = 3 || s.clk.coast then s
  else s.updClk fun k => { k with lock := true, periphBosc := false, unlockAt := none }

def State.pllNoLock (s : State) : State :=
  match s.clk.unlockAt with
  | some c =>
    if s.clk.lock || s.clk.selected = 3 || s.time.cyc < c + cycPerMs then s
    else (s.loseRef s.clk.selected 4).followRefs
  | none => s

/-! ## Coast (R419, R610 to R613) -/

/-- The modes a coast interrupts (R625). -/
def coastable (m : Mode) : Bool :=
  m = .train || m = .run || m = .holdover || m = .shadow || m = .surge || m = .takeover

/-- Chains are drained with now as the stamp of their first missing input (R611). -/
def State.drainAll (s : State) (cause : Nat) (est : Bool) : State :=
  let t := s.sub
  (List.range 24).foldl (fun s p =>
    let u := t + (s.pod p).gdelay
    s.drainLane p ((u / subNs 1250).toNat + (if u % subNs 1250 = 0 then 0 else 1)) cause est) s

/-- The grace ends with no candidate: the loop opens. -/
def State.graceExpiry (s : State) : State :=
  match s.clk.grace with
  | some (c, _) =>
    if s.clk.coast || s.time.cyc < c + s.refGrace * cycPerMs then s
    else
      let s := s.updClk fun k => { k with grace := none, lock := false, coast := true, coastAt := s.time.now, periphBosc := true }
      let s := (s.bump (ckReg 0x24)).raise 0x0303 0 (stampWords s.stamp)
      let s := s.drainAll 5 true
      let s := s.spanLocals 5 true
      let e := s.errPs.getD errUnbounded
      let s := s.updTime fun t =>
        { t.noteY with state := 4, source := 3, err0 := e, errAt := t.now, slew := none, steerLimit := false }
      if coastable s.sys.mode then
        let s := { s with sys := { s.sys with coastFrom := s.sys.mode } }
        s.setMode .coast
      else s
  | none => s

/-- The ramp is complete (R613): clocks, lanes, local channels and time go on. -/
def State.coastEnd (s : State) : State :=
  if !s.clk.coast || !s.clk.ramping then s
  else
    let ms := (s.time.now - s.clk.coastAt) / unitsPerNs / 1_000_000
    let sel := (s.bestLocal).getD 3
    let s := s.updClk fun k =>
      { k with lock := true, coast := false, ramping := false, periphBosc := false, selected := sel
               coastTime := min 0xFFFF_FFFF ms, sensors := [] }
    let s := s.raise 0x0304 0 [BitVec.ofNat 32 (min 0xFFFF_FFFF ms)]
    let e := s.errPs.getD errUnbounded + 10_000
    let s := s.updTime fun t => { t with state := 3, source := 3, err0 := e, errAt := t.now, y := t.meanY, yLocked := t.meanY }
    let s := (List.range 32).foldl (fun s l =>
      let x := s.lane l
      if !x.enable || x.st = 8 then s
      else
        let s := s.enterDetect l
        if x.st = 6 then s.laneLeft l x.lastCode else s) s
    let surge := s.field.surgeAt.isSome && !s.isStandby
    let s :=
      if s.sys.mode != .coast then s
      else if s.sys.coastFrom = .train then s.setMode .train
      else if surge then
        let s := if s.sys.coastFrom = .surge then s else { s with sys := { s.sys with surgeFrom := s.sys.coastFrom } }
        s.setMode .surge
      else s.setMode s.roleMode
    if s.field.surgeAt.isSome then s else s.resumeLocals s.ns false

/-! ## The AVSBus (R618, R619) -/

def State.vmax (s : State) : Nat := s.regN (ckReg 0x48) % 1024
def State.vmin (s : State) : Nat := bits (s.regN (ckReg 0x48)) 16 10

/-- One try of the request under way. -/
def State.avsTry (s : State) (a : AvsAnswer) : State :=
  let r := s.clk.request
  let ok := a.good && decide (((a.readback : Int) - r).natAbs ≤ 15)
  let s := s.updClk fun k => { k with readback := a.readback }
  if ok then s.updClk fun k => { k with volts := r, avsFails := 0, avsAt := none }
  else
    let n := s.clk.avsFails + 1
    if n < 3 then s.updClk fun k => { k with avsFails := n, avsAt := some (s.time.cyc + cycPerMs) }
    else
      let s := s.updClk fun k => { k with avsFails := n, avsAt := none, avsFault := true }
      (s.bump (ckReg 0x68)).raise 0x0309 r [BitVec.ofNat 32 (if a.good then a.readback else 0)]

/-- A new request. -/
def State.avsRequest (s : State) (mv : Nat) (a : AvsAnswer) : State :=
  (s.updClk fun k => { k with request := mv, avsFails := 0, avsAt := none }).avsTry a

def State.avsRetryTimer (s : State) (a : AvsAnswer) : State :=
  match s.clk.avsAt with
  | some c => if c ≤ s.time.cyc then s.avsTry a else s
  | none => s

/-- A write of 1 to `AVS_RETRY`. -/
def State.avsRetry (s : State) (a : AvsAnswer) : State :=
  if s.clk.request = 0 then s.updClk fun k => { k with avsFault := false }
  else (s.updClk fun k => { k with avsFault := false }).avsRequest s.clk.request a

/-- A write of `CLK_VLIMIT`. -/
def State.writeVlimit (s : State) (v : Nat) (a : AvsAnswer) : Reply × State :=
  let hi := v % 1024
  let lo := bits v 16 10
  if hi < 650 || 850 < hi || lo < 650 || hi < lo then (Reply.of stRefused 0x03, s)
  else
    let s := s.setReg (ckReg 0x48) (BitVec.ofNat 32 (lo * 65536 + hi))
    (Reply.ok, if hi < s.clk.volts then (s.bump (ckReg 0x64)).avsRequest hi a else s)

/-- A write of `CLK_PLAN_TGT` (R622). -/
def State.writePlanTgt (s : State) (v : Nat) : Reply × State :=
  if v % 256 < 10 || bits v 8 8 = 0 || bits v 16 8 = 0 || bits v 24 8 = 0 || 25 < bits v 24 8 then (Reply.of stRefused 0x03, s)
  else (Reply.ok, s.setReg (ckReg 0x44) (BitVec.ofNat 32 v))

/-! ## The margin planner (R614 to R617, R620) -/

/-- The least of the sensors from `o` on, 32 of them, with its number. -/
def State.leastSensor (s : State) (o : Nat) : Nat × Nat :=
  (List.range 32).foldl (fun b i =>
    let v := Tab.get (fun _ => 1023) s.clk.sensors (o + i)
    if v < b.1 then (v, o + i) else b) (1023, o)

/-- The planner's derate value, handed to the Comb as its pending one (R620). -/
def State.setPlan (s : State) (p mComb : Nat) : State :=
  let s := s.updClk fun k => { k with pPlan := p }
  let s := { s with comb := { s.comb with pending := p } }
  s.raise 0x0305 p [BitVec.ofNat 32 mComb]

/-- One evaluation takes the first row that applies (R615). -/
def State.evaluate (s : State) (a : AvsAnswer) : State :=
  let tgt := s.regN (ckReg 0x44) % 256
  let hyst := bits (s.regN (ckReg 0x44)) 8 8
  let step := bits (s.regN (ckReg 0x44)) 24 8
  let (mCore, nCore) := s.leastSensor 0
  let (mComb, nComb) := s.leastSensor 32
  let v := s.clk.volts
  let p := s.clk.pPlan
  let top := s.vmax ≤ v || s.clk.avsFault
  let coreShort := mCore < tgt
  let combShort := mComb < tgt
  let easy := tgt + hyst ≤ mCore && tgt + hyst ≤ mComb
  let derates := s.hasComb
  let row6 := easy && p = 100 && s.vmin < v
  let s := s.updClk fun k =>
    { k with mCore := mCore, mComb := mComb, planLast := s.ns / 1_000_000_000 % 2 ^ 32, sensors := []
             floor := k.floor && combShort && p == 25, coreShort := k.coreShort && coreShort && top
             streak := if row6 then k.streak + 1 else 0 }
  if (coreShort || combShort) && !top then (s.bump (ckReg 0x60)).avsRequest (min (v + 5) s.vmax) a
  else if derates && combShort && top && 25 < p then s.setPlan (max 25 (p - step)) mComb
  else if derates && combShort && p = 25 then
    (s.updClk fun k => { k with floor := true }).raise 0x0306 nComb [BitVec.ofNat 32 mComb]
  else if coreShort && top then
    (s.updClk fun k => { k with coreShort := true }).raise 0x0307 nCore [BitVec.ofNat 32 mCore]
  else if derates && easy && p < 100 then s.setPlan (min 100 (p + step)) mComb
  else if row6 && 24 ≤ s.clk.streak then
    ((s.updClk fun k => { k with streak := 0 }).bump (ckReg 0x64)).avsRequest (max s.vmin (v - 5)) a
  else s

/-- The planner may evaluate. -/
def State.mayPlan (s : State) : Bool :=
  bit (s.regN (ckReg 0x40)) 0 && !s.clk.coast && s.sys.mode != .surge && s.sys.mode != .test && s.sys.mode != .hold

/-- A whole hour of hub time. An evaluation that an alarm started in this cycle is the whole hour's too (R616). -/
def State.marginEvaluation (s : State) (minima : List Nat) (a : AvsAnswer) : State :=
  let h := s.ns / 3_600_000_000_000
  if !s.mayPlan || s.clk.hour = some h then s
  else
    let s := (minima.zip (List.range 64)).foldl (fun s vn => s.sense vn.2 vn.1) s
    let s := s.updClk fun k => { k with hour := some h, hourAt := some s.time.cyc }
    if s.clk.alarmAt = some s.time.cyc then s else s.evaluate a

/-- A sensor has read below `MARGIN_ALARM` for 10 ms (R616): reported each time, and evaluated at once at most once in 60 s. DEDUCED (log entry
93): reported also in the modes where the planner does not evaluate. -/
def State.marginAlarm (s : State) (sensor slack : Nat) (a : AvsAnswer) : State :=
  let s := s.sense sensor slack
  if !bit (s.regN (ckReg 0x40)) 0 || bits (s.regN (ckReg 0x44)) 16 8 ≤ slack then s
  else
    let s := (s.raise 0x0308 sensor [BitVec.ofNat 32 slack]).bump (ckReg 0x6C)
    let soon := match s.clk.alarmAt with | some c => decide (s.time.cyc < c + 60 * cycPerS) | none => false
    if soon || !s.mayPlan then s
    else
      let s := s.updClk fun k => { k with alarmAt := some s.time.cyc }
      if s.clk.hourAt = some s.time.cyc then s else s.senseNow.evaluate a

/-- `CLK_PLAN_CMD` (R615, R618). -/
def State.writePlanCmd (s : State) (v : Nat) (a : AvsAnswer) : Reply × State :=
  let s := if bit v 1 then s.avsRetry a else s
  (Reply.ok, if bit v 0 && s.mayPlan then (s.senseNow).evaluate a else s)

/-- The hourly eye scans (R617). -/
def State.hourlyScans (s : State) : State :=
  if !bit (s.regN (ckReg 0x40)) 1 then s
  else (s.updClk fun k => { k with scanQueue := (List.range 32).filter fun l => s.laneActive l }).nextPlanned

end Sys2Proof.Machine
end

