-- ==== Sys2Proof/Machine/Views.lean ====
section
/-! DEFINITION. What the read-only registers of the `SYS`, `CFG`, `TIME`, `CLK`, `LANE`, `POD` and `CHAIN` blocks show (R174,
R175, R211, R212, R241, R242, R443, R444, R554 to R557, R621, R622). Each view answers `none` where the register file holds the
register: counters, and registers that only hold what is written. -/

namespace Sys2Proof.Machine

/-- The word that shows the indices below `n` for which `f` holds. -/
def maskOf (n : Nat) (f : Nat → Bool) : Nat := ((List.range n).map fun i => if f i then 2 ^ i else 0).sum

/-- A signed value as a 32-bit register shows it. -/
def signed32 (i : Int) : Nat := ofSigned 32 i

/-! ## Rates of streams (R448, R504) -/

/-- Bytes of one full record of a sample route (R22, R29). -/
def recordBytes (r : Route) : Nat := 32 + r.items * r.chans.length * (if r.chans.headD 0 < 768 then 6 else 12)

/-- A sample route's steady rate, records per second. -/
def State.recordRate (s : State) (r : Route) : Rat :=
  let p := s.slotPeriod (r.chans.headD 0) * r.items
  if p = 0 then 0 else mkRat 1_000_000_000 p

/-- What a program's product records take in one epoch, bytes (R324 to R329). -/
def productBytes (r : List Byte) : Nat :=
  let recs (size n : Nat) : Nat := if n = 0 then 0 else size * n + 96 * ceilDiv n (max 1 (32768 / size))
  let c := (recFeeds r).length
  if recType r = 0 then
    (if bit (srpOutputs r) 0 then recs 4 (srpG r) else 0) + (if bit (srpOutputs r) 1 then recs 8 (min 16 (srpG r)) else 0)
  else if recType r = 1 then
    (if bit (xsOutputs r) 0 then recs 8 (xsBins r * (c * (c + 1) / 2)) else 0)
      + (if bit (xsOutputs r) 1 then recs (4 + 8 * c) (xsBins r * xsK r) else 0)
  else if recType r = 3 then recs (8 + 4 * bandCount r) c
  else 0

/-- The map that a `MAP` program's `PRODUCT` region keeps for the pre-transform (R460): one of its items for each point. -/
def refMapBytes (r : List Byte) : Nat := if recType r = 0 && bit (srpOutputs r) 0 then 4 * srpG r else 0

/-- The long-run rate of a stream's records, bytes per second; capture and `MATCH` records have none. -/
def State.streamRate (s : State) (r : Route) : Rat :=
  if r.kind = 1 then s.recordRate r * (recordBytes r : Rat)
  else if r.kind = 3 then
    mkRat (10 * (((progsOf (s.body 0x07)).filter fun p => bit r.source (recProg p)).map productBytes).sum : Nat) (max 1 s.cfg.epochDs)
  else 0

/-- The long-run compressed input of the image in force, bytes per second (R448, R470). -/
def State.nectarLoad (s : State) : Rat := ((s.routes.filter fun r => r.nxMode != 0).map s.streamRate).sum

/-! ## `SYS` and `CFG` -/

def State.readSys (s : State) (o : Nat) : Option Nat :=
  let y := s.sys
  if o = 0x00 then some 0x0001_7680
  else if o = 0x04 then some s.capUnits
  else if o = 0x08 then some (bnat y.fdLink + 2 * bnat y.otpRun.isSome + 4 * bnat y.excEn + 8 * bnat y.fullLoaded)
  else if o = 0x0C then some (modeCode y.mode + 16 * modeCode y.prev)
  else if o = 0x18 then some (bnat y.excEn)
  else if o = 0x34 then some (min 0xFFFFF s.excTotal)
  else if o = 0x38 then some (bnat y.pairId + 2 * y.addrStrap.toNat + 16 * y.bootStrap.toNat)
  else if o = 0x3C then some (signed32 y.temp)
  else none

/-- The partial image that awaits its apply point, its checks done (R536, R557). -/
def State.pendingPartial (s : State) : Option Staged :=
  if s.comb.rebuild.any fun b => !b.finished then none else s.cfg.staged.filter fun g => !g.isFull

def State.readCfg (s : State) (o : Nat) : Option Nat :=
  let c := s.cfg
  if o = 0x00 then
    let checking := s.comb.rebuild.any fun b => !b.finished
    some (bnat checking + 2 * bnat s.pendingPartial.isSome + 4 * bnat c.mismatch + 8 * bnat c.refUser)
  else if o = 0x10 then some (c.refNext.getD c.crcRef).toNat
  else if o = 0x18 then some c.crc.toNat
  else if o = 0x20 then some (c.result + 256 * c.runit + 65536 * c.reason)
  else if o = 0x24 then some c.detail
  else if o = 0x28 then some c.imageId.toNat
  else if o = 0x2C then some c.partialId.toNat
  else if o = 0x30 then some c.stagedLen
  else if o = 0x34 then some (s.pendingPartial.elim 0 fun g => g.epochNo)
  else none

/-! ## `TIME` -/

def State.timeStatus (s : State) : Nat :=
  let t := s.time
  t.state + 8 * t.source + 32 * bnat (s.suspectAt s.ns) + 64 * bnat t.stepPend.isSome + 128 * bnat t.stepAt.isSome
    + 256 * bnat t.steerLimit + 512 * t.upActive.getD 0 + 1024 * bnat t.upActive.isSome + 2048 * t.downActive.getD 0
    + 4096 * bnat t.downActive.isSome

/-- A trunk port's registers (R443, R444): `TP_DELAY` and `TP_OFFSET` of U ports only. -/
def State.readPort (s : State) (i o : Nat) : Option Nat :=
  let p := s.tport i
  if o = 0x00 then
    some (bnat p.exchOk + 2 * bnat (s.farActive i) + 4 * p.farHub + 256 * p.farPair + 512 * p.farTqual + 4096 * p.capsResult)
  else if o = 0x04 then some (if i < 2 then signed32 p.delay else 0)
  else if o = 0x08 then some (if i < 2 then signed32 (meanKept p.thetas) else 0)
  else if o = 0x0C then some (if p.rtts.isEmpty then 0 else signed32 (median p.rtts))
  else none

def State.readTime (s : State) (o : Nat) : Option Nat :=
  let t := s.time
  let last := t.taLoaded.map s.act
  if o = 0x00 then some s.timeStatus
  else if o = 0x04 then some (fullTime t.now / 2 ^ 48 % 2 ^ 32)
  else if o = 0x08 then some (t.latch / 2 ^ 80 % 2 ^ 16)
  else if o = 0x0C then some (t.latch / 2 ^ 16 % 2 ^ 32)
  else if o = 0x10 then some (t.latch % 2 ^ 16)
  else if o = 0x14 then some s.errEst
  else if o = 0x18 then some (t.stepPend.elim 0 fun x => ofSigned 64 x.2 % 2 ^ 32)
  else if o = 0x1C then some (t.stepPend.elim 0 fun x => ofSigned 64 x.2 / 2 ^ 32)
  else if o = 0x28 then
    some (bnat t.ppsQ + 2 * bnat t.trunkQ + 4 * bnat t.hostQ + 8 * min 15 t.ppsRun + 128 * s.candidate.getD 3)
  else if o = 0x2C then some s.requalLeft
  else if o = 0x30 then some s.stepLimit
  else if o = 0x34 then some s.holdLimit
  else if o = 0x38 then some (s.requalTime + 65536 * s.ppsTau)
  else if o = 0x3C then some s.holdDrift
  else if o = 0x40 then some (signed32 (roundHalfEven (t.y * 10 ^ 12) (2 ^ 48)))
  else if o = 0x44 then some (signed32 t.ppsShown)
  else if 0x100 ≤ o && o < 0x180 then s.readPort ((o - 0x100) / 0x20) ((o - 0x100) % 0x20)
  else if o = 0x21C then some (last.elim 0 fun a => bnat a.pending + 2 * bnat a.ran + 4 * bnat a.ranLate)
  else if o = 0x220 then some (last.elim 0 fun a => a.runTime / 1_000_000_000 % 2 ^ 32)
  else if o = 0x224 then some (last.elim 0 fun a => a.runTime / 1_000_000_000 / 2 ^ 32 % 2 ^ 16)
  else if o = 0x228 then some (last.elim 0 fun a => a.runTime % 1_000_000_000)
  else if o = 0x22C then some (maskOf 32 fun e => (s.act e).pending)
  else if o = 0x230 then some (maskOf 32 fun e => (s.act (32 + e)).pending)
  else none

/-! ## `CLK` -/

def State.readClk (s : State) (o : Nat) : Option Nat :=
  let k := s.clk
  if o = 0x00 then
    some (bnat k.coast + 2 * bnat k.single + 4 * bnat k.disagree + 8 * bnat k.grace.isSome + 16 * bnat k.periphBosc)
  else if o = 0x08 then
    some (bnat k.qualA + 2 * bnat k.qualB + 4 * bnat k.qualT + 8 * k.selected + 32 * bnat k.losA + 64 * bnat k.losB)
  else if o = 0x0C then some (signed32 k.ppmA)
  else if o = 0x10 then some (signed32 k.ppmB)
  else if o = 0x14 then some (signed32 k.bosc)
  else if o = 0x18 then some (bnat k.lock + 2 * bnat k.ramping)
  else if o = 0x1C then some (min 0xFFFF_FFFF k.coastTime)
  else if o = 0x54 then some (k.request % 1024 + 65536 * (k.readback % 1024))
  else if o = 0x58 then
    some (k.mCore % 1024 + 1024 * (k.mComb % 1024) + 2 ^ 20 * k.pPlan + 2 ^ 27 * bnat k.floor + 2 ^ 28 * bnat k.coreShort
      + 2 ^ 29 * bnat k.avsFault)
  else if o = 0x5C then some (k.planLast % 2 ^ 32)
  else if 0x100 ≤ o && o < 0x200 then some (Tab.get (fun _ => 1023) k.sensors ((o - 0x100) / 4))
  else none

/-! ## `LANE` and the PHYs -/

/-- A lane has bit lock: from `SYMLOCK` to `ACTIVE` (R196). -/
def Lane.bitLock (x : Lane) : Bool := 4 ≤ x.st && x.st ≤ 6

def State.readLane (s : State) (o : Nat) : Option Nat :=
  if o = 0x00 then some (maskOf 32 s.laneActive)
  else if o = 0x04 then some (maskOf 32 fun l => (s.lane l).locked)
  else if o = 0x08 then some (maskOf 32 fun l => (s.lane l).st == 7)
  else if o = 0x10 then some (maskOf 32 fun l => (s.lane l).eyeLow)
  else if 0x1000 ≤ o && o < 0x3000 then
    let l := (o - 0x1000) / 0x100
    let q := (o - 0x1000) % 0x100
    let x := s.lane l
    let txOvr := s.regN (0x0200_0000 + 0x1000 * l)
    let rxOvr := s.regN (0x0200_0000 + 0x1000 * l + 4)
    let preset := if bit txOvr 0 then bits txOvr 1 4 else x.txPreset
    let ctle := if bit rxOvr 0 then bits rxOvr 1 4 else x.ctle
    if q = 0x00 then
      some (laneClass l + 4 * bnat x.enable + 8 * bnat (s.laneFlag l 1) + 16 * bnat (s.laneFlag l 2) + 32 * s.lanePreset l
        + 512 * bnat (s.laneSearch l) + 1024 * s.laneFar l + 16384 * (s.eyeHMin l % 64) + 2 ^ 20 * (s.eyeVMin l % 64))
    else if q = 0x04 then
      some (x.st + 16 * x.lastCode + 512 * min 7 (Tab.get (fun _ => 0) x.tries x.st) + 4096 * preset + 65536 * x.rxPreset
        + 2 ^ 20 * (ctle % 16) + 2 ^ 24 * bnat x.eyeLow + 2 ^ 25 * bnat x.chkSync)
    else if q = 0x08 then some (x.dfe.toNat % 2 ^ 30)
    else if q = 0x0C then some (if x.bitLock then (Config.measured (laneReg l 0x0C) s.time.cyc).toNat else 0)
    else if q = 0x28 then some (bnat x.scan.isSome + s.regN (laneReg l 0x28) / 2 * 2)
    else if q = 0x2C then
      some (x.eyeL + 64 * x.eyeR + 4096 * x.eyeU + 2 ^ 18 * x.eyeD + 2 ^ 24 * bnat x.eyeValid + 2 ^ 25 * bnat x.eyePlanner)
    else none
  else none

/-- The PHY registers that show the lane (R213): the loop's bandwidth goes with the line rate (R176, R185). -/
def State.readPhy (s : State) (l q : Nat) : Option Nat :=
  let x := s.lane l
  if q = 0x008 then some (bnat x.termSeen + 2 * bnat x.energy)
  else if q = 0x00C then some (bnat (laneClass l != 0) + 2 * bnat x.bitLock)
  else none

/-! ## `POD` -/

/-- `POD_STATE.STATE` (R175). -/
def State.podState (s : State) (p : Nat) : Nat :=
  let l := s.pod p
  if l.quarantined then 5 else if l.drained then 4 else if l.running then 3
  else if l.inCaps then 1 else if s.laneActive p then 2 else 0

/-- The cause of a lane's open span, 0 when none of its chains has one (R175). -/
def State.gapCause (s : State) (p : Nat) : Nat :=
  (((List.range 32).map (32 * p + ·)).findSome? fun ch => (s.chain ch).gap).elim 0 (·.cause)

/-- The capability block a lane accepted shows in its registers (R156). -/
def State.readPodLane (s : State) (p q : Nat) : Option Nat :=
  let l := s.pod p
  let c := l.caps
  if q = 0x00 then
    some (s.ingestLag p + 512 * s.gapDrain p + 2 ^ 17 * bnat (s.exp32 p)
      + 2 ^ 18 * bnat (if (s.laneRec p).isSome then s.laneFlag p 5 else true))
  else if q = 0x04 then some (signed32 (s.podSkew p))
  else if q = 0x08 then some (s.podState p + 8 * l.capsResult + 2048 * l.lastStatus + 2 ^ 19 * s.gapCause p)
  else if q = 0x0C then some (byteAt c 0 + 256 * byteAt c 1 + 65536 * (byteAt c 24 % 2))
  else if q = 0x10 then some (leAt c 4 4)
  else if q = 0x14 then some (leAt c 2 2)
  else if q = 0x18 then some (leAt c 8 2)
  else if q = 0x1C then some (leAt c 14 2)
  else if q = 0x20 then some (leAt c 16 4)
  else if q = 0x24 then some (leAt c 20 4)
  else if q = 0x28 then some (signed32 l.delay)
  else if q = 0x34 then some (l.respTag + 256 * l.respResult + 65536 * bnat l.cmd.isSome)
  else if q = 0x38 then some l.respData.toNat
  else if q = 0x3C then some (min 0xFFFF_FFFF l.errSec)
  else if q = 0x6C then some (l.lastFed % 2 ^ 32)
  else none

def State.readPod (s : State) (o : Nat) : Option Nat :=
  if o = 0x00 then some (maskOf 24 fun p => s.podState p == 3)
  else if o = 0x04 then some (maskOf 24 fun p => (s.pod p).drained)
  else if o = 0x08 then some (maskOf 24 fun p => (s.pod p).quarantined)
  else if 0x100 ≤ o && o < 0xD00 then s.readPodLane ((o - 0x100) / 0x80) ((o - 0x100) % 0x80)
  else none

/-! ## `CHAIN` -/

/-- `SETTLING` words an instance has yet to bring at tap A (R231): those it holds back are still to come, and one that stops brings no more
than it owns. -/
def ChainInst.settleLeft (i : ChainInst) : Nat :=
  let st := stagesOf i.cfg
  let k := settleAt st st.length
  let p := max 1 (prodFactor st st.length)
  (match i.stopAt with | some b => min k (ceilDiv b p - ceilDiv i.first p) | none => k) - (i.outA - i.held.length)

/-- Words still to carry `SETTLING` at tap A; and whether the next one does, of the instance that delivers (R236). -/
def Chain.settleLeft (c : Chain) : Nat := if c.drained then 0 else (c.insts.map ChainInst.settleLeft).sum
def Chain.settling (c : Chain) : Bool := !c.drained && (c.insts.head?.any fun i => i.settleLeft != 0)

def State.chainState (s : State) (c : Nat) : Nat :=
  let x := s.chain c
  if x.insts.isEmpty then 0 else if x.drained then 2 else if 2 ≤ x.insts.length then 3 else 1

/-- A detector's `LEVEL`, `HYST` and `CTRL` as R242 shows them. -/
def detRegs (thr : List Byte) (d q : Nat) : Nat :=
  let (level, hyst, holdoff, dir, en) := detSettings thr d
  if q = 0 then signed32 level else if q = 4 then hyst else holdoff + 65536 * dir + 2 ^ 18 * bnat en

def State.readChainRegs (s : State) (c q : Nat) : Option Nat :=
  let x := s.chain c
  let cfg := ((s.chainRec c).getD []).drop 4
  let thr := cfg.drop 16
  let st := stagesOf cfg
  let stage (i : Nat) : Nat := match st[i]? with | some a => a.1 + 32 * a.2 | none => 0
  if q = 0x00 then some (st.length + 8 * tapbOf cfg + 64 * bnat (surgeRestartOf cfg))
  else if q = 0x04 then some (stage 0 + 512 * stage 1 + 2 ^ 18 * stage 2)
  else if q = 0x08 then some (stage 3 + 512 * stage 4 + 2 ^ 18 * stage 5)
  else if q = 0x0C then
    some (if st.isEmpty then 0 else rateCode (prodFactor st st.length)
      + (if tapbOf cfg = 0 then 0 else 256 * rateCode (prodFactor st (tapbOf cfg))) + 65536 * (settleAt st st.length % 65536))
  else if q = 0x10 then some (groupDelayAt st st.length)
  else if q = 0x14 then some (if tapbOf cfg = 0 then 0 else groupDelayAt st (tapbOf cfg))
  else if q = 0x18 then some (costOf st)
  else if 0x1C ≤ q && q < 0x28 then some (detRegs thr 0 (q - 0x1C))
  else if 0x28 ≤ q && q < 0x34 then some (detRegs thr 1 (q - 0x28))
  else if q = 0x34 then
    some (s.chainState c + 8 * bnat x.settling + 16 * (x.settleLeft % 65536) + 2 ^ 20 * bnat x.det0.armed
      + 2 ^ 21 * bnat x.det1.armed + 2 ^ 22 * bnat (x.det0.hold != 0) + 2 ^ 23 * bnat (x.det1.hold != 0))
  else none

def State.readChain (s : State) (o : Nat) : Option Nat :=
  if o = 0x0000 then some (2 * s.podLanes)
  else if 0x100 ≤ o && o < 0x160 then
    some (maskOf 32 fun b => let c := s.chainState (8 * (o - 0x100) + b); c == 1 || c == 3)
  else if 0x300 ≤ o && o < 0x360 then some (maskOf 32 fun b => (s.chain (8 * (o - 0x300) + b)).settling)
  else if 0x1000 ≤ o && o < 0xD000 then s.readChainRegs ((o - 0x1000) / 0x40) ((o - 0x1000) % 0x40)
  else none

end Sys2Proof.Machine
end

