-- ==== Sys2Proof/Machine/UnitViews.lean ====
section
/-! DEFINITION. What the read-only registers of the `TRIG`, `HIVE`, `NECTAR`, `HOSTP` and `PAIR` blocks show, and those of the field
die (R97 to R105, R110, R127, R133, R140, R364, R365, R396, R397, R470, R471, R517, R518, R593, R594). -/

namespace Sys2Proof.Machine

/-! ## `TRIG` -/

def sat32 (i : Int) : Nat := min 0xFFFF_FFFF i.toNat

/-- `CE_STATE` (R365). -/
def State.engineState (s : State) (e : Nat) : Nat :=
  let g := s.engine e
  let st :=
    if !engOn (s.engineRec e) then 0
    else if g.maskStopped then 6
    else if g.ringStopped then 7
    else if g.seg then 5
    else if g.coll.isSome then 3
    else if g.armed then (if s.readyTime e ≤ s.sub then 2 else 1)
    else if g.arms.any (·.source == .rearm) || !g.copies.isEmpty then 4
    else 0
  st + 8 * bnat (!g.copies.isEmpty) + 16 * min 0xFFF g.segNum

def State.readEngine (s : State) (e q : Nat) : Option Nat :=
  let r := s.engineRec e
  let g := s.engine e
  if q = 0x00 then some (byteAt r 0 % 32 + 256 * (engNch r % 512) + 2 ^ 17 * (engFirst r % 1024))
  else if q = 0x04 then some (engPre r)
  else if q = 0x08 then some (engPost r)
  else if q = 0x0C then some (engRing r)
  else if q = 0x10 then some (engSegLen r + 65536 * engSegPre r)
  else if q = 0x14 then some (engMergeWin r + 65536 * (if engOn r then engSegQuiet r else leAt r 26 2))
  else if q = 0x18 then some (if engOn r then sat32 (s.allowance e / 65536) else 0)
  else if q = 0x1C then some (s.engineState e)
  else if q = 0x20 then some (min 0xFFFF_FFFF g.dead)
  else if q = 0x24 then some (g.lastFire.toNat % 2 ^ 32)
  else if q = 0x28 then some (g.lastFire.toNat / 2 ^ 32)
  else none

def State.readUnit (s : State) (u q : Nat) : Option Nat :=
  let r := s.unitRec u
  if q = 0x00 then some (bnat (unitOn r) + 2 * byteAt r 1 + 512 * (leAt r 2 2 % 2 ^ 14))
  else if q = 0x04 then some (leAt r 4 2 + 65536 * byteAt r 6)
  else if q = 0x08 then some (if unitOn r then sat32 ((s.tunit u).horizon / 65536) else 0)
  else if q = 0x0C then some ((s.tunit u).last.toNat % 2 ^ 32)
  else if q = 0x10 then some ((s.tunit u).last.toNat / 2 ^ 32)
  else none

/-- The level of `TRIG_IN0` or `TRIG_IN1` (R334, R365): low before its first edge, high for 20 ns from an edge taken, then as the
ball stands, which no command reports. -/
def State.trigInLevel (s : State) (ball : Nat) : Bool :=
  match if ball = 0 then s.trig.lastIn0 else s.trig.lastIn1 with
  | none => false
  | some c => s.time.cyc ≤ c + 16 || bit (Config.measured 0x0008_0024 s.time.cyc).toNat ball

def State.readTrig (s : State) (o : Nat) : Option Nat :=
  let t := s.trig
  if o = 0x00 then some 0x0008_0010
  else if o = 0x04 then
    some (bnat s.swarmMaster + 2 * bnat s.swarmEn + 4 * bnat (t.maskFixed && t.swarmArm.isSome) + 65536 * (t.swarmSeq % 65536))
  else if o = 0x08 then some (t.armedMask % 2 ^ 32)
  else if o = 0x0C then some (t.armedMask / 2 ^ 32 % 2 ^ 32)
  else if o = 0x10 then some s.swarmLat
  else if o = 0x24 then some (bnat (s.trigInLevel 0) + 2 * bnat (s.trigInLevel 1))
  else if 0x100 ≤ o && o < 0x500 then s.readUnit ((o - 0x100) / 0x40) ((o - 0x100) % 0x40)
  else if 0x800 ≤ o && o < 0xC00 then s.readEngine ((o - 0x800) / 0x80) ((o - 0x800) % 0x80)
  else none

/-! ## `HIVE` -/

def State.readHive (s : State) (o : Nat) : Option Nat :=
  let h := s.hive
  if o = 0x00 then some 0x0008_0020
  else if o = 0x04 then
    some (bnat h.initDone + 2 * bnat h.ue + 4 * bnat (h.banks.any fun x => x.2.pend) + 8 * bnat (h.egress.any fun x => x.2.pend)
      + 16 * bnat h.ceRepeat)
  else if o = 0x08 then some s.regions.length
  else if o = 0x50 then some h.ueAddr
  else if o = 0x54 then some h.ueInfo
  else if o = 0x58 then some h.ceAddr
  else if o = 0x5C then some ((Tab.get (fun _ => ({} : Scrub)) h.scrubs 0).beat + 2 ^ 17 * bnat (h.scrubs.any fun x => x.2.late))
  else if 0x1000 ≤ o && o < 0x2000 then
    let q := (o - 0x1000) % 0x10
    match s.regions.find? fun r => r.num == (o - 0x1000) / 0x10 with
    | none => some 0
    | some r =>
      if q = 0 then some r.base else if q = 4 then some r.size
      else if q = 8 then some (r.typ + 256 * r.rflags + 65536 * r.owner) else some 0
  else none

/-! ## `NECTAR` -/

def State.readNectar (s : State) (o : Nat) : Option Nat :=
  let n := s.nx
  let stalled (p : Nat) : Bool := (s.nxPool p).starved
  if o = 0x00 then
    some (bnat (n.streams.any fun x => !x.2.recs.isEmpty) + 2 * bnat (s.comb.rebuild.any fun b => b.compressed && !b.finished)
      + 4 * bnat ((List.range 16).any stalled) + 8 * bnat n.derr)
  else if o = 0x04 then some (maskOf 16 stalled)
  else if o = 0x08 then some (mac6 s.nectarLoad)
  else if o = 0x10 then some (n.errPos % 2 ^ 32)
  else if 0x100 ≤ o && o < 0x200 then
    let p := (o - 0x100) / 0x10
    let q := (o - 0x100) % 0x10
    let x := s.nxPool p
    if (s.region 4 p).isNone then (if q = 8 then some x.stallMax else some 0)
    else if q = 0 then some (s.poolBufs p + 512 * s.poolStreams p)
    else if q = 4 then some (x.fill + 256 * x.full.length + 2 ^ 17 * bnat x.starved)
    else if q = 8 then some (min 0xFFFF_FFFF x.stallMax)
    else some 0
  else none

/-! ## `HOSTP` -/

/-- Reduced service is in force (R513, R633). -/
def State.reduced (s : State) : Bool :=
  s.sys.mode == .hold || s.sys.mode == .load || s.sys.mode == .train || s.sys.mode == .coast

def State.readHostp (s : State) (o : Nat) : Option Nat :=
  let p := s.ports
  let sel := s.regN 0x000B_0024 % 65536
  let st := s.stream sel
  let r := s.route sel
  if o = 0x00 then
    some (bnat (s.sys.mode != .hold && (s.laneActive 28 || s.laneActive 29)) + 2 * bnat (s.laneActive 28)
      + 4 * bnat (s.laneActive 29) + 8 * bnat p.cmdStop + 16 * bnat p.hostStop + 32 * bnat p.outDrdy + 64 * bnat (s.host.resend != 0)
      + 128 * bnat (s.host.reserveFull hostWords))
  else if o = 0x04 then some p.lanes
  else if o = 0x14 then some (8 * s.host.held)
  else if o = 0x18 then some (8 * s.host.unsent)
  else if o = 0x1C then some s.host.packets
  else if o = 0x20 then some (p.expect % 65536 + 65536 * (s.host.seq % 65536))
  else if o = 0x28 then
    some (if sel = 0 then (if s.sys.mode = .hold then 0 else 1 + 4 * (if s.gwDir != 0 then 2 else 0))
      else match r with
        | none => 3
        | some r => st.st + 4 * (if r.port = 1 then 1 else if s.gwDir != 0 then 2 else 0) + 16 * bnat (r.nxMode != 0))
  else if o = 0x2C then some (if sel = 0 then s.ev.rseq else st.rseq)
  else if o = 0x30 then
    -- DEDUCED (log entry 32): 0, its value at reset, until the opening has an acknowledgement
    let a := if sel = 0 then s.ev.acked else st.acked
    some (if a = 0xFFFF_FFFF then 0 else a)
  else if o = 0x34 then some s.inboundFill
  else if o = 0x88 then
    some (bnat (bit (s.regN 0x000B_0080) 0) + 2 * bnat p.ctsLow
      + 4 * bnat (dripWords - reserveWords ≤ (s.drip.q.map fun k => pktWords k.payload.length).sum))
  else if o = 0x8C then some (8 * s.drip.held)
  else if o = 0xC0 then some (s.sys.addrStrap.toNat + 8 * bnat (!p.cmdFree) + 16 * bnat s.reduced)
  else if o = 0x100 then
    some (s.sys.bootStrap.toNat + 4 * p.bootCopy + 16 * bnat p.bootDone + 32 * bnat p.bootFailed)
  else none

/-! ## The I²C port (R511, R512) -/

/-- `RSP_VALID` or `EVT_PENDING`: `INT_N` is asserted, at its low level, exactly while this holds (R512). -/
def State.intAsserted (s : State) : Bool := s.ports.rspValid || !s.ports.i2cQueue.isEmpty
/-- The level of `RTS_N` while the balls serve the drip port (R507): high while the inbound FIFO is at or above `HP_CMD_WM.HIGH`. -/
def State.rtsN (s : State) : Bool :=
  bit (s.regN 0x000B_0080) 1 && decide (s.regN 0x000B_0008 % 65536 * 1024 ≤ s.inboundFill)

/-- The level of the `ACTIVE_OUT` ball: a pair member's while it holds the active role (R562, R586), a single hub's from its first entry to RUN or
HOLDOVER on, but for HOLD, SAFE and QUIESCE (R651). -/
def State.activeOutLevel (s : State) : Bool :=
  if s.pair.role != 0 then s.pair.activeOut
  else s.sys.aloneActive && s.sys.mode != .hold && s.sys.mode != .safe && s.sys.mode != .quiesce

/-- The level of the `INT_N` ball. -/
def State.intN (s : State) : Bool := !s.intAsserted

/-- The byte at a pointer of the I²C map (R511); what the map leaves out reads 0. In HOLD only `REDUCED` reads 1 (R633). -/
def State.i2cByte (s : State) (o : Nat) : Nat :=
  let p := s.ports
  if s.sys.mode = .hold then (if o = 0x0000 then 8 else 0)
  else if o = 0x0000 then bnat p.cmdFree + 2 * bnat p.rspValid + 4 * bnat (!p.i2cQueue.isEmpty) + 8 * bnat s.reduced
  else if o = 0x0002 || o = 0x0003 then p.response.length / 256 ^ (o - 2) % 256
  else if o = 0x0004 then p.i2cQueue.length
  else if 0x0100 ≤ o && o < 0x0130 then byteAt ((p.i2cQueue.head?.map Event.bytes).getD []) (o - 0x0100)
  else if 0x3000 ≤ o && o < 0x4014 then byteAt p.response (o - 0x3000)
  else 0

/-! ## The field die -/

def State.leadMask (s : State) (base : Nat) : Nat :=
  ((List.range 16).map fun i => (s.local' (base + i)).leadResult % 4 * 4 ^ i).sum

/-- The field die's own registers (R97, R98, R110, R140). DESIGN CHOICE (log entry 146): `DRIFT` is rounded half to even to its 0.1 ppm. DESIGN CHOICE (log entry 127): `FD_MAINS` reads its reset value, 0, until a
`FRONT_END` has applied or a measurement is valid, though R109 would then have `USING_NOMINAL` set. -/
def State.readFieldGlobal (s : State) (o : Nat) : Option Nat :=
  let d := s.field
  let used := s.localsUsed
  if o = 0x00 then some (0x7F1D * 65536 + (Config.measured 0x0100_0000 0).toNat % 65536)
  else if o = 0x04 then
    some (bnat d.otpOk + 2 * bnat d.feApplied + 4 * bnat s.sys.excEn + 8 * bnat ((List.range 32).all fun k => (s.local' k).isolated)
      + 16 * bnat d.mainsPresent + 32 * bnat d.surgeAt.isSome)
  else if o = 0x08 then some (min 0xFFFFF s.excTotal)
  else if o = 0x0C then some (min 0xFFFFF d.budget)
  else if 0x10 ≤ o && o < 0x20 then some (if s.sys.fdLink then signed32 (s.cjSensor ((o - 0x10) / 4)) else 0)
  else if o = 0x24 then some (s.leadMask 0)
  else if o = 0x28 then some (s.leadMask 16)
  else if o = 0x40 then
    some (if d.feApplied || d.mainsValid then
        d.mainsUnits % 2 ^ 24 + 2 ^ 24 * bnat d.nom60 + 2 ^ 25 * bnat (!d.mainsValid)
          + 2 ^ 26 * bnat (used.any fun k => ((s.local' k).window.elim false (·.clamped)))
      else 0)
  else if o = 0x44 then
    let drifts := used.map fun k => (s.local' k).drift
    let mean := if drifts.isEmpty then 0 else roundRat (drifts.sum / drifts.length * 10_000_000)
    some (ofSigned 20 mean + 2 ^ 20 * d.slewStep * bnat d.feApplied + 2 ^ 30 * bnat (used.any fun k => (s.local' k).ageLimit)
      + 2 ^ 31 * bnat d.witnessValid)
  else none

/-- The orientation of the current pulse, a spot's included, or of the next (R102). -/
def Local.pulseSwap (l : Local) : Bool := if l.excOn then l.window.elim l.swap (·.swap) else l.swap

/-- A channel's registers (R100 to R105): settings in force, and its live state. -/
def State.readFieldCh (s : State) (k q : Nat) : Option Nat :=
  let l := s.local' k
  let f := l.fe
  if q = 0x00 then some f.exc.toNat
  else if q = 0x04 then some (f.leads + 4 * bnat (f.leads == 1 && l.pulseSwap))
  else if q = 0x08 then some (f.range.toNat % 16 + 16 * l.code + 256 * min 2 l.downs.length)
  else if q = 0x0C then some (f.curve.toNat % 4096)
  else if q = 0x10 then some f.param0.toNat
  else if q = 0x14 then some f.param1.toNat
  else if q = 0x18 then some f.param2.toNat
  else if q = 0x1C then some (min 0xFFFF (s.dutyOf k) + 65536 * min 0xFFFF (s.averageCurrent k))
  else if q = 0x20 then
    some (bnat l.excOn + 2 * bnat l.limiting + 4 * bnat l.compliance + 8 * bnat l.senseLow + 16 * bnat l.cjcFallback
      + 32 * bnat l.isolated)
  else if q = 0x28 then some (f.conv.toNat % 2048)
  else if q = 0x2C then some f.ofs.toNat
  else if q = 0x30 then some f.gain.toNat
  else if q = 0x34 then some (l.calState + 8 * l.calReason + 128 * l.calCount)
  else if q = 0x38 then
    some (ofSigned 20 l.age + 2 ^ 20 * bnat (l.age != l.ageTarget) + 2 ^ 21 * bnat l.ageLimit + 2 ^ 22 * bnat l.refFail)
  else none

/-! ## `PAIR` -/

/-- Milliseconds left of a lease, rounded up; 0 for none, all ones for one without an end (R585). -/
def leaseLeft (now : Nat) (l : Option Lease) : Nat :=
  match l with
  | none => 0
  | some l => match l.ends with
    | none => 0xFFFF_FFFF
    | some c => ceilDiv (c - now) cycPerMs

end Sys2Proof.Machine
end

