-- ==== Sys2Proof/Machine/Regs.lean ====
section
/-! DEFINITION. Register space (R4, R7, R8, R541 to R543): reads, read-clears and plain writes of every block, the indirect window
(R547, R548) and locks (R550 to R552, R559). -/

namespace Sys2Proof.Machine

/-! ## Locks -/

def State.lockOf (s : State) (n : Nat) : Lock := Tab.get (fun _ => {}) s.ports.locks n
def State.updLock (s : State) (n : Nat) (f : Lock → Lock) : State :=
  { s with ports := { s.ports with locks := Tab.upd (fun _ => {}) s.ports.locks n f } }

/-- The port holds the lock; the hub's own port needs none (R515). -/
def State.holdsLock (s : State) (p : Port) (n : Nat) : Bool := p == .own || (s.lockOf n).owner == portCode p

/-- `LOCK_LEASE`, in cycles. -/
def State.leaseCycles (s : State) : Nat := s.regN 0x000E_0000 * cycPerMs

/-- A lock is taken, or its lease renewed (R550). -/
def State.lockTake (s : State) (p : Port) (n : Nat) : Reply × State :=
  let l := s.lockOf n
  if l.owner != 0 && l.owner != portCode p then (Reply.of stLocked, s)
  else (Reply.ok, s.updLock n fun _ => { owner := portCode p, ends := s.time.cyc + s.leaseCycles })

def State.lockRelease (s : State) (p : Port) (n : Nat) : Reply × State :=
  if (s.lockOf n).owner != portCode p then (Reply.of stLocked, s) else (Reply.ok, s.updLock n fun _ => {})

/-- A rebuild holds its port's leases: the commit is still in progress (R551). -/
def State.commitHolds (s : State) (owner : Nat) : Bool := s.comb.rebuild.any fun b => !b.finished && portCode b.pkt.port == owner

/-- A lease has run out (R551). -/
def State.lockExpiry (s : State) (n : Nat) : State :=
  let l := s.lockOf n
  if 16 ≤ n || l.owner = 0 || s.time.cyc < l.ends || s.commitHolds l.owner then s
  else
    let s := s.updLock n fun _ => {}
    let s := s.setReg 0x000E_0010 (s.reg 0x000E_0010 ||| BitVec.ofNat 32 (2 ^ n))
    (s.bump 0x000E_0014).raise 0x0E01 n [BitVec.ofNat 32 l.owner]

/-- Every lock a port holds is released, without `LOCK_LOST` (R552). -/
def State.releaseLocks (s : State) (p : Port) : State :=
  (List.range 16).foldl (fun s n => if (s.lockOf n).owner = portCode p then s.updLock n fun _ => {} else s) s

def State.lockState (s : State) (n : Nat) : Nat :=
  let l := s.lockOf n
  if l.owner = 0 then 0 else l.owner + 8 + 65536 * (ceilDiv (l.ends - s.time.cyc) cycPerMs % 2 ^ 14)

/-! ## Blocks without a file of their own -/

/-- `IX` and `LOCK`, whose banked registers depend on the port (R558, R559). -/
def State.readIx (s : State) (p : Port) (o : Nat) : Option Nat :=
  let st := s.port p
  if o = 0x0 then some st.ixAddr.toNat
  else if o = 0x8 then some (2 * bnat st.ixTimeout + 4 * bnat st.ixBad + 8 * bnat st.ixAbsent)
  else none

def State.readLock (s : State) (p : Port) (o : Nat) : Option Nat :=
  if o = 0x8 then some (s.port p).lockResult
  else if o = 0xC then some (maskOf 16 fun n => (s.lockOf n).owner != 0)
  else if 0x100 ≤ o && o < 0x200 && o % 16 = 0 then some (s.lockState ((o - 0x100) / 16))
  else none


/-- The `PAIR` section in force (R592). -/
def State.pairBody (s : State) : List Byte := s.body 0x0E
/-- The conditions of the self-check word that are states and hold now (R579); those of the others are moments. -/
def State.checkHolds (s : State) (b : Nat) : Bool :=
  (b == 1 && s.cfg.mismatch) || (b == 3 && decide (orDefault (leAt s.pairBody 12 4) 10_000 < s.pair.crcErrs))
    || (b == 4 && s.pair.aonA != s.pair.aonB)
/-- Self-check word (R579): a bit is set while its condition has held at any moment in the last 2 s. -/
def State.selfCheck (s : State) : Nat :=
  maskOf 5 fun b => let c := Tab.get (fun _ => 0) s.pair.checks b; s.checkHolds b || (c != 0 && s.time.cyc < c + 2 * cycPerS)
def State.pairLat (s : State) : Nat := orDefault (leAt s.pairBody 2 2) 64
def State.hbTimeout (s : State) : Nat := orDefault (leAt s.pairBody 4 2) 300
def State.cmpWait (s : State) : Nat := orDefault (leAt s.pairBody 6 2) 100
def State.hostless (s : State) : Bool := bit (byteAt s.pairBody 0) 2

/-- A lease is valid while its duration runs (R582). -/
def State.leaseValid (s : State) (l : Option Lease) : Bool :=
  l.any fun x => match x.ends with | some c => s.time.cyc < c | none => true

/-- The succession lease is usable (R584, R589). -/
def State.succUsable (s : State) : Bool :=
  let p := s.pair
  p.role == 2 && s.leaseValid p.succession && p.inStep && !p.stale && !p.blind

def State.hbOk (s : State) : Bool := s.pair.hbAt.any fun c => s.time.cyc < c + s.hbTimeout * cycPerUs

def State.readPair (s : State) (o : Nat) : Option Nat :=
  let p := s.pair
  if o = 0x00 then
    some (p.role + 4 * bnat s.linkUp + 8 * bnat p.blind + 16 * bnat p.stale + 32 * bnat p.inStep + 64 * bnat p.partnerActive
      + 128 * bnat s.hbOk + 256 * bnat s.succUsable + 512 * bnat p.aonA + 1024 * bnat p.aonB)
  else if o = 0x04 then
    some (byteAt s.pairBody 0 % 8 + 8 * (byteAt s.pairBody 1 % 32) + 256 * s.pairLat)
  else if o = 0x08 then some (s.selfCheck + 256 * (p.partner.selfCheck % 32))
  else if o = 0x0C then some (p.primary.elim 0 (·.id))
  else if o = 0x10 then some (leaseLeft s.time.cyc p.primary)
  else if o = 0x14 then some (p.succession.elim 0 (·.id))
  else if o = 0x18 then some (leaseLeft s.time.cyc p.succession)
  else if o = 0x24 then some (p.fseq % 2 ^ 32)
  else if o = 0x28 then some (p.fchain.toNat % 2 ^ 32)
  else if o = 0x2C then some (p.fchain.toNat / 2 ^ 32)
  else if o = 0x30 then some (p.divStream % 65536 + 65536 * (p.divFrag % 256) + 2 ^ 24 * (p.divCause % 256))
  else if o = 0x34 then some (p.divRseq % 2 ^ 32)
  else if o = 0x50 then some (s.hbTimeout + 65536 * s.cmpWait)
  else none

/-! ## Reads -/

/-- What a register shows without effect (a peek, R8); `none` where the register file holds it. -/
def State.view (s : State) (p : Port) (a : Nat) : Option Nat :=
  let o := a % 65536
  match a / 65536 with
  | 0x0 => s.readSys o
  | 0x1 => s.readCfg o
  | 0x2 => s.readTime o
  | 0x3 => s.readClk o
  | 0x4 => s.readLane o
  | 0x5 => s.readPod o
  | 0x6 => s.readChain o
  | 0x7 => s.readTrig o
  | 0x8 => s.readHive o
  | 0x9 => s.readComb o
  | 0xA => s.readNectar o
  | 0xB => s.readHostp o
  | 0xC => s.readPair o
  | 0xD => s.readIx p o
  | _ => s.readLock p o

def State.peek (s : State) (p : Port) (a : Nat) : Word :=
  match s.view p a with
  | some v => BitVec.ofNat 32 v
  | none => s.reg a

/-- An offset within one of `n` groups of `step` bytes from `base`, as its place in the group. -/
def inGroup (o base step n : Nat) : Option Nat := if base ≤ o && o < base + step * n then some ((o - base) % step) else none

/-- The read-clear registers (R8), by block and offset. -/
def isRc (a : Nat) : Bool :=
  let o := a % 65536
  let grp (base step n lo hi : Nat) : Bool := (inGroup o base step n).any fun q => lo ≤ q && q ≤ hi
  match a / 65536 with
  | 0x0 => o == 0x40
  | 0x1 => 0x38 ≤ o && o ≤ 0x40
  | 0x2 => (0x48 ≤ o && o ≤ 0x54) || grp 0x100 0x20 4 0x10 0x1C
  | 0x3 => (0x20 ≤ o && o ≤ 0x28) || (0x60 ≤ o && o ≤ 0x6C)
  | 0x4 => grp 0x1000 0x100 32 0x30 0x48
  | 0x5 => grp 0x100 0x80 24 0x40 0x68
  | 0x6 => o == 4 || (0x200 ≤ o && o < 0x260) || grp 0x1000 0x40 768 0x38 0x3C
  | 0x7 => (0x14 ≤ o && o ≤ 0x20) || grp 0x100 0x40 16 0x14 0x1C || grp 0x800 0x80 8 0x2C 0x48
  | 0x8 => o == 0x48 || o == 0x4C || o == 0x60 || grp 0x100 0x10 8 0 8
  | 0x9 => (0x20 ≤ o && o ≤ 0x30) || grp 0x100 0x40 8 0x18 0x18 || grp 0x1000 0x80 64 0x14 0x14
  | 0xA => o == 0x0C || (0x14 ≤ o && o ≤ 0x28) || grp 0x100 0x10 16 8 8
  | 0xB => (0x38 ≤ o && o ≤ 0x5C) || (0x90 ≤ o && o ≤ 0x98) || o == 0xC4
  | 0xC => 0x38 ≤ o && o ≤ 0x4C
  | 0xD => o == 0xC
  | 0xE => o == 0x10 || o == 0x14
  | _ => false

/-- What a read-clear read clears: the register, and what its rule ties to it (R249, R370, R374, R470, R471). -/
def State.clearReg (s : State) (a : Nat) : State :=
  let s := s.setReg a 0
  if a = 0x0008_0048 then { s with hive := { s.hive with ceRepeat := false } }
  else if a = 0x0008_004C then { s with hive := { s.hive with ue := false } }
  else if a = 0x0009_0024 then { s with comb := { s.comb with parity := false } }
  else if a = 0x000A_000C then { s with nx := { s.nx with derr := false } }
  else if a / 65536 = 0xA && 0x100 ≤ a % 65536 then s.updPool ((a % 65536 - 0x100) / 0x10) fun x => { x with stallMax := 0 }
  else s

/-- An address of a unit the variant lacks (R4): a Comb register, or a lane's, pod lane's or chain's. -/
def State.absentAt (s : State) (a : Nat) : Bool :=
  let o := a % 65536
  match a / 65536 with
  | 0x4 => 0x1000 ≤ o && o < 0x3000 && !s.lanePresent ((o - 0x1000) / 0x100)
  | 0x5 => 0x100 ≤ o && o < 0xD00 && s.podLanes ≤ (o - 0x100) / 0x80
  | 0x6 => 0x1000 ≤ o && o < 0xD000 && s.chainCount ≤ (o - 0x1000) / 0x40
  | 0x9 => !s.hasComb
  | _ => false

/-- Whether an address can be accessed: the reply of one that cannot (R4, R483, R541). -/
def State.badAddr (s : State) (a : Nat) : Option Reply :=
  if a % 4 != 0 || 0x000F_0000 ≤ a then some (Reply.of stBadAddr)
  else if s.absentAt a then some (Reply.of stUnitAbsent (a / 65536))
  else none

/-! ## The indirect window (R547, R548) -/

/-- The read-clear registers of the field die (R97, R100). -/
def isFieldRc (o : Nat) : Bool := o == 0x20 || o == 0x2C || (0x1000 ≤ o && o < 0x1800 && (o - 0x1000) % 0x40 == 0x24)

def State.readField (s : State) (o : Nat) : Word :=
  let v := if o < 0x1000 then s.readFieldGlobal o else s.readFieldCh ((o - 0x1000) / 0x40) ((o - 0x1000) % 0x40)
  match v with
  | some v => BitVec.ofNat 32 v
  | none => s.reg (0x0100_0000 + o)

/-- A write of a PHY register (R213): an override, taken in TEST only (R201). -/
def State.writePhy (s : State) (l q : Nat) (v : Word) : Reply × State :=
  if q != 0 && q != 4 then (Reply.ok, s)
  else if !s.inTest || (q = 0 && 10 < bits v.toNat 1 4) then (Reply.of stRefused 0x04, s)
  else (Reply.ok, s.setReg (0x0200_0000 + 0x1000 * l + q) (v &&& (if q = 0 then 0xFF else 0x3F)))

/-- One access at an indirect address: its status, the word read, and its effect. A read from the debug port is a peek unless
`clear` is set. The field die answers only over its link. -/
def State.ixAt (s : State) (a : Nat) (w : Option Word) (clear : Bool) : Reply × Word × State :=
  if 0x0100_0000 ≤ a && a < 0x0100_1800 then
    let o := a - 0x0100_0000
    if 0x1000 ≤ o && s.localChs ≤ (o - 0x1000) / 0x40 then (Reply.of stUnitAbsent 0x10, 0, s)
    else if !s.sys.fdLink then (Reply.of stTimeout, 0, s)
    else if w.isSome then (Reply.ok, 0, s)
    else (Reply.ok, s.readField o, if clear && isFieldRc o then s.setReg a 0 else s)
  else if 0x0200_0000 ≤ a && a < 0x0202_0000 then
    let l := (a - 0x0200_0000) / 0x1000
    let q := (a - 0x0200_0000) % 0x1000
    if !s.lanePresent l then (Reply.of stUnitAbsent 0x04, 0, s)
    else match w with
      | some v => let x := s.writePhy l q v; (x.1, 0, x.2)
      | none => (Reply.ok, (match s.readPhy l q with | some v => BitVec.ofNat 32 v | none => s.reg a), s)
  else if 0x0300_0000 ≤ a && a < 0x0300_1000 then
    if !s.sys.fdLink then (Reply.of stTimeout, 0, s) else (Reply.ok, if w.isSome then 0 else otpRead (a - 0x0300_0000), s)
  else if 0x0300_1000 ≤ a && a < 0x0300_1100 then
    (Reply.ok, if w.isSome then 0 else Tab.get (fun _ => 0) s.field.userOtp ((a - 0x0300_1000) / 4), s)
  else (Reply.of stBadAddr, 0, s)

/-- An access of `IX_DATA` from a port: `IX_ADDR` advances on success, and failures show in `IX_CTRL`. -/
def State.ixAccess (s : State) (p : Port) (w : Option Word) (clear : Bool) : Reply × Word × State :=
  let (r, v, s) := s.ixAt (s.port p).ixAddr.toNat w clear
  let st := r.status
  if st = stOk then (r, v, s.updPort p fun x => { x with ixAddr := x.ixAddr + 4 })
  else
    let s := if st = stTimeout then s.bump 0x000D_000C else s
    (r, 0, s.updPort p fun x =>
      { x with ixTimeout := x.ixTimeout || st == stTimeout, ixBad := x.ixBad || st == stBadAddr
               ixAbsent := x.ixAbsent || st == stUnitAbsent })

/-- `IX_ADDR` is written: bits [1:0] ignored, error bits cleared (R547, R558). -/
def State.setIxAddr (s : State) (p : Port) (a : Nat) : State :=
  s.updPort p fun x => { x with ixAddr := BitVec.ofNat 32 (a / 4 * 4), ixTimeout := false, ixBad := false, ixAbsent := false }

/-- `IXRD` and `IXWR`: words in sequence up to the first failure (R548). -/
def State.ixReads (s : State) (p : Port) : Nat → List Word → Reply × List Word × State
  | 0, acc => (Reply.ok, acc.reverse, s)
  | n + 1, acc =>
    match s.ixAccess p none true with
    | (.done 0 _, v, s') => s'.ixReads p n (v :: acc)
    | (r, _, s') => (r, [], s')
def State.ixWrites (s : State) (p : Port) : List Word → Reply × State
  | [] => (Reply.ok, s)
  | w :: ws =>
    match s.ixAccess p (some w) true with
    | (.done 0 _, _, s') => s'.ixWrites p ws
    | (r, _, s') => (r, s')

/-! ## One read -/

/-- What a read of a register first brings up to date: a margin sensor's least slack (R614), the bits a lane's checker has compared (R204), and
a Hive bank's grants (R383). -/
def State.refresh (s : State) (a : Nat) : State :=
  if a / 65536 = 4 && (inGroup (a % 65536) 0x1000 0x100 32).any fun o => o == 0x40 || o == 0x44 then s.checkerCount ((a % 65536 - 0x1000) / 0x100)
  else if a / 65536 = 3 && (inGroup (a % 65536) 0x100 4 64).isSome then s.senseAt ((a % 65536 - 0x100) / 4)
  else if a / 65536 = 8 then s.runBanks.runLanes s.time.cyc
  else s

/-- A read of one register (R486, R542): the snapshot, then what the read clears or latches. `clear` is false for a peek. -/
def State.readReg (s : State) (p : Port) (a : Nat) (clear : Bool) : Reply × Word × State :=
  match s.badAddr a with
  | some r => (r, 0, s)
  | none =>
    if a = 0x000D_0004 then s.ixAccess p none clear
    else
      let s := s.refresh a
      let v := s.peek p a
      let s := if a = 0x0002_0004 then s.updTime fun t => { t with latch := fullTime t.now } else s
      (Reply.ok, v, if clear && isRc a then s.clearReg a else s)

/-- `RD` (R486): words from an address upward, up to the first failure; what the words before it cleared stays cleared (log entry 126). -/
def State.readRegs (s : State) (p : Port) (a : Nat) : Nat → List Word → Reply × List Word × State
  | 0, acc => (Reply.ok, acc.reverse, s)
  | n + 1, acc =>
    match s.readReg p a true with
    | (.done 0 _, v, s') => s'.readRegs p (a + 4) n (v :: acc)
    | (r, _, s') => (r, [], s')

/-! ## Plain writes -/

/-- A register that only holds what is written, by its implemented bits (R7); none for other registers. -/
def heldMask (a : Nat) : Option Nat :=
  let o := a % 65536
  match a / 65536 with
  | 0x0 => if o = 0x30 then some 0xFFFF_FFFF else none
  | 0x1 => if o = 0x04 then some 0xFFFF_FFFF else if o = 0x1C then some 1 else none
  | 0x2 =>
    if o = 0x200 then some 0x3F else if o = 0x208 then some 0xFFFF else if o = 0x210 then some 0xFFFF_003F
    else if o = 0x204 || o = 0x20C || o = 0x214 then some 0xFFFF_FFFF else none
  | 0x3 => if o = 0x40 then some 3 else if o = 0x4C then some 0xF else none
  | 0x4 =>
    match inGroup o 0x1000 0x100 32 with
    | some q => if q = 0x14 || q = 0x18 || q = 0x20 then some 0xFFFF_FFFF else if q = 0x1C then some 0x3FFFF else none
    | none => none
  | 0x5 => if inGroup o 0x100 0x80 24 = some 0x2C then some 0xFFFF_FFFF else none
  | 0x8 =>
    if o = 0x10 then some 0xFFFF else if o = 0x2C then some 0xFFF
    else if o = 0x14 || o = 0x18 || o = 0x30 || o = 0x34 then some 0xFFFF_FFFF
    else if (0x1C ≤ o && o ≤ 0x28) || (0x38 ≤ o && o ≤ 0x44) then some 0x03FF_03FF
    else none
  | 0xB => if o = 0x10 then some 0xFFFF_FFFF else if o = 0x24 then some 0xFFFF else none
  | _ => none

/-- Watermarks (R518): `LOW` below `HIGH`, and `HIGH` in its range. -/
def State.writeWm (s : State) (a v hi : Nat) : Reply × State :=
  let h := v % 65536
  if v / 65536 < h && 1 ≤ h && h ≤ hi then (Reply.ok, s.setReg a (BitVec.ofNat 32 v)) else (Reply.of stRefused 0x0B, s)

/-- `DR_CFG` (R509, R553): the balls serve the flash while a boot runs. -/
def State.writeDrCfg (s : State) (v : Nat) : Reply × State :=
  if bit v 0 && s.ports.bootRunning then (Reply.of stConflict 0x0B 0x0105, s)
  else (Reply.ok, s.setReg 0x000B_0080 (BitVec.ofNat 32 v &&& 0xFF03))

/-- `CMD_STOP` follows the fill of the inbound FIFO; it stays asserted on a standby (R562) and until Hive clearing ends (R503). -/
def State.followStop (s : State) : State := s.updCmdStop (s.hive.initDone && !s.isStandby)

/-- Writes of the `HOSTP` block with a rule of their own. -/
def State.writeHostp (s : State) (o v : Nat) : Reply × State :=
  if o = 0x08 then
    let x := s.writeWm 0x000B_0008 v 64
    (x.1, x.2.followStop)
  else if o = 0x0C then
    let x := s.writeWm 0x000B_000C v 2048
    (x.1, x.2.updDrdy s.isStandby)
  else if o = 0x80 then s.writeDrCfg v
  else if o = 0x84 then
    let i := v % 2 ^ 22
    if 168 ≤ i && i ≤ 2_013_266 then (Reply.ok, s.setReg 0x000B_0084 (BitVec.ofNat 32 i)) else (Reply.of stRefused 0x0B, s)
  else (Reply.ok, s)

/-- Writes of the `LANE` and `POD` blocks with a rule of their own. -/
def State.writeLane (s : State) (o v : Nat) : Reply × State :=
  if o = 0x0C then (Reply.ok, s.retrain v)
  else match inGroup o 0x1000 0x100 32 with
    | some q =>
      let l := (o - 0x1000) / 0x100
      if q = 0x10 then s.writeTestCtrl l v
      else if q = 0x24 then s.writeInjGo l v
      else if q = 0x28 then s.writeEyeCtrl l v
      else (Reply.ok, s)
    | none => (Reply.ok, s)

def State.writePod (s : State) (o v : Nat) : Reply × State :=
  if o = 0x0C then (Reply.ok, (bitList s.podLanes v).foldl (fun s p => s.releaseQuar p) s)
  else if inGroup o 0x100 0x80 24 = some 0x30 then s.writePodCmd ((o - 0x100) / 0x80) (BitVec.ofNat 32 v)
  else (Reply.ok, s)

/-- `HIVE_ARB_COMMIT` and `HIVE_ECC_INJ`. -/
def State.writeHive (s : State) (o v : Nat) : Reply × State :=
  if o = 0x0C then
    let x := if bit v 0 then s.arbCommit else (Reply.ok, s)
    if x.1.status != stOk || !bit v 1 then x else x.2.egrCommit
  else if o = 0x64 then s.writeEccInj (BitVec.ofNat 32 v)
  else (Reply.ok, s)

/-- Writes of the `CLK` block with a rule of their own; `avs` is what the regulator answers to a request they bring about. -/
def State.writeClk (s : State) (o v : Nat) (avs : AvsAnswer) : Reply × State :=
  if o = 0x04 then s.writeRefCfg v
  else if o = 0x44 then s.writePlanTgt v
  else if o = 0x48 then s.writeVlimit v avs
  else if o = 0x50 then s.writePlanCmd v avs
  else (Reply.ok, s)

def State.lockReq (s : State) (p : Port) (v : Nat) : Reply × State :=
  let x := if bit v 8 then s.lockTake p (v % 16) else s.lockRelease p (v % 16)
  (x.1, x.2.updPort p fun st => { st with lockResult := x.1.status })

def State.writeLock (s : State) (p : Port) (o v : Nat) : Reply × State :=
  if o = 0x0 then
    let l := v % 2 ^ 14
    if 1 ≤ l && l ≤ 10_000 then (Reply.ok, s.setReg 0x000E_0000 (BitVec.ofNat 32 l)) else (Reply.of stRefused 0x0E, s)
  else if o = 0x4 then s.lockReq p v
  else (Reply.ok, s)

def State.writeIx (s : State) (p : Port) (o : Nat) (v : Word) : Reply × State :=
  if o = 0x0 then (Reply.ok, s.setIxAddr p v.toNat)
  else if o = 0x4 then let x := s.ixAccess p (some v) true; (x.1, x.2.2)
  else (Reply.ok, s)

/-- A write that is not guarded (R7, R8): held where the register only holds it, acted on where it has a rule, else ignored. -/
def State.writePlain (s : State) (p : Port) (a : Nat) (v : Word) (avs : AvsAnswer) : Reply × State :=
  let o := a % 65536
  match heldMask a with
  | some m => (Reply.ok, s.setReg a (v &&& BitVec.ofNat 32 m))
  | none =>
    match a / 65536 with
    | 0x2 => if o = 0x218 then s.writeTaCmd v.toNat else (Reply.ok, s)
    | 0x3 => s.writeClk o v.toNat avs
    | 0x4 => s.writeLane o v.toNat
    | 0x5 => s.writePod o v.toNat
    | 0x8 => s.writeHive o v.toNat
    | 0xB => s.writeHostp o v.toNat
    | 0xD => s.writeIx p o v
    | 0xE => s.writeLock p o v.toNat
    | _ => (Reply.ok, s)

/-- Registers of access `RW` in the direct space outside `IX` and `LOCK`, which `REG_INIT` may write (R530). -/
def isRw (a : Nat) : Bool :=
  let o := a % 65536
  a % 4 == 0 && a < 0x000F_0000 &&
  match a / 65536 with
  | 0x3 => o == 0x04 || o == 0x40 || o == 0x44 || o == 0x48 || o == 0x4C
  | 0x4 => (inGroup o 0x1000 0x100 32).any fun q => (0x10 ≤ q && q ≤ 0x20) || q == 0x28
  | 0x8 => o == 0x64
  | 0xB => o == 0x08 || o == 0x0C || o == 0x10 || o == 0x24 || o == 0x80 || o == 0x84
  | 0xD => false
  | 0xE => false
  | _ => (heldMask a).isSome

end Sys2Proof.Machine
end

