-- ==== Sys2Proof/Machine/ImageCheck.lean ====
section
/-! DEFINITION. The refusals at load (steps 6 to 8 of R533). Each check is judged on the state that would result: the hub with the
bodies, epoch length and front-end settings of the image in force. `none` means that nothing is refused. -/

namespace Sys2Proof.Machine

def zeroAt (b : List Byte) (o n : Nat) : Bool := allZero (slice b o n)
def inRange (v lo hi : Nat) : Bool := lo ≤ v && v ≤ hi
/-- A field whose stored 0 means a default, else in a range. -/
def zeroOr (v lo hi : Nat) : Bool := v == 0 || inRange v lo hi
/-- `REFUSED` with a unit, a reason and a detail, and the two other statuses a load can end with. -/
def refused (runit reason detail : Nat) : Refuse := { status := stRefused, runit := runit, reason := reason, detail := detail }
def layoutBad (runit detail : Nat) : Refuse := refused runit 0x000A detail
def conflict (runit detail : Nat) : Refuse := { status := stConflict, runit := runit, detail := detail }
def absent (runit detail : Nat) : Refuse := { status := stUnitAbsent, runit := runit, detail := detail }
/-- The first failure over the records of a list, each judged with those before it. -/
def overRecords (recs : List α) (f : List α → α → Option Refuse) : Option Refuse :=
  ((List.range recs.length).zip recs).findSome? fun ir => f (recs.take ir.1) ir.2

/-! ## Channels (R1, R10, R215, R684) -/

/-- The tests on a channel that a route or an engine names: foreign, absent, of an idle chain, or not in use. -/
def State.channelRefusal (s : State) (runit detail ch : Nat) : Option Refuse :=
  if 928 ≤ ch then some (layoutBad runit detail)
  else if 800 ≤ ch then some (refused runit 0 detail)
  else if 768 ≤ ch then
    if s.localChs ≤ ch - 768 then some (absent 0x10 ch)
    else if (s.local' (ch - 768)).fe.inUse then none else some (refused 0x10 0x010B ch)
  else if s.chainCount ≤ ch then some (absent 0x05 ch)
  else if (s.chainRec ch).isSome then none else some (refused runit 0 detail)

/-! ## `CAPS_REQ` (R524, step 6) -/

def State.capsCheck (s : State) (b : List Byte) : Option Refuse :=
  let units := leAt b 0 4
  let pods := leAt b 4 4
  let locals := leAt b 8 4
  let hasUnit (u : Nat) : Bool := u != 9 || s.hasComb
  firstFail
    [failIf (b.length != 16 || bit units 15 || units / 2 ^ 17 != 0 || pods / 2 ^ 24 != 0 || !zeroAt b 12 4) (layoutBad 0x01 0x02),
     ((List.range 17).find? fun u => bit units u && !hasUnit u).map fun u => absent (if u = 16 then 0x10 else u) 0,
     ((List.range 24).find? fun p => bit pods p && s.podLanes ≤ p).map fun p => absent 0x05 p,
     ((List.range 32).find? fun k => bit locals k && s.localChs ≤ k).map fun k => absent 0x10 k]

/-! ## `CHANNEL_MAP` (R437, R525) -/

def State.mapCheck (s : State) : Option Refuse :=
  let b := s.body 0x03
  firstFail
    [failIf (b.length % 16 != 0) (layoutBad 0x01 0x03),
     overRecords (mapRecords b) fun before r =>
       let ch := leAt r 0 2
       let next := if byteAt r 2 = 0 then byteAt r 3 + 1 == s.hubId else byteAt r 3 == s.hubId + 1
       firstFail
         [failIf (!inRange ch 800 927 || 1 < byteAt r 2 || 767 < leAt r 4 2 || !inRange (leAt r 8 4) 1 2_000_000) (layoutBad 0x01 ch),
          failIf (before.any fun x => leAt x 0 2 == ch) (conflict 0x01 ch),
          failIf (!next) (refused 0x02 0x0014 ch)]]

/-! ## `FRONT_END` (R54, R70, R84, R86, R89, R101 to R104, R111, R127, R135, R526) -/

/-- Fields of a channel record out of range (bytes 4 to 35); a field the mode does not use and reserved bits are ignored (R7, R101).
DESIGN CHOICE (log entry 125): `CJC_SRC` or `CJC_CH` set on a curve that has no cold junction (R104) is a field out of its layout. -/
def feFieldsBad (r : List Byte) : Bool :=
  let exc := leAt r 4 4
  let mode := bits exc 0 2
  let curve := leAt r 16 4
  let c := bits curve 0 4
  let conv := leAt r 32 4
  mode == 3
    || (mode == 1 && 900 < bits exc 2 10)
    || (mode != 0 && !inRange (bits exc 12 8) 5 200) || (mode == 1 && !inRange (bits exc 20 5) 1 30)
    || 5 < bits (leAt r 12 4) 0 3
    || 12 < c || (if c = 9 || c = 11 then 2 < bits curve 4 2 else bits curve 4 2 != 0)
    || (!inRange c 1 8 && bits curve 6 6 != 0)
    || 4 < bits conv 0 3 || !inRange (bits conv 3 8) 20 200
    || (c == 11 && !inRange (leAt r 20 4) 0x0800_0000 0x8000_0000)

/-- The layout of a `FRONT_END` body. -/
def State.feLayout (s : State) (b : List Byte) : Option Refuse :=
  if b.isEmpty then none
  else firstFail
    [failIf (b.length < 16 || (b.length - 16) % 48 != 0 || 1 < byteAt b 0 || 1 < byteAt b 1 || 500 < leAt b 2 2)
       (layoutBad 0x10 0),
     overRecords (chunks 48 b.length (b.drop 16)) fun before r =>
       let k := byteAt r 0
       firstFail
         [failIf (31 < k || (before.any fun x => k ≤ byteAt x 0) || 7 < byteAt r 1)
            (layoutBad 0x10 k),
          failIf (s.localChs ≤ k) (absent 0x10 k),
          failIf (bit (byteAt r 1) 0 && feFieldsBad r) (layoutBad 0x10 k)]]

/-- DESIGN CHOICE (log entry 149): a channel record whose `CONFIG` is set and `USE` clear is judged by its layout only, as R70 and R84 do not say.
The combinations of a channel in use: lead and excitation modes (R70), curve (R84), cold junction (R89), slot (R111). -/
def State.feUse (s : State) (k : Nat) : Option Refuse :=
  let f := (s.local' k).fe
  if !f.inUse then none
  else
    let c := f.curveNo
    let leadsOk := match f.leads with
      | 0 => f.mode != 1
      | 1 => f.mode == 2
      | 2 => f.mode != 0
      | _ => f.mode == 1
    let curveOk :=
      if inRange c 1 8 then f.mode == 0 && f.leads == 0
      else if c = 9 || c = 10 then f.mode == 2
      else if c = 11 then f.mode == 1 && f.leads == 3
      else true
    let j := f.cjcCh
    let g := (s.local' j).fe
    let cjc :=
      if inRange c 1 8 && f.cjcDesignated then
        firstFail
          [failIf (s.localChs ≤ j) (absent 0x10 (768 + j)),
           failIf (j == k) (refused 0x10 0 k),
           failIf (!g.inUse) (refused 0x10 0x010B (768 + j)),
           failIf (g.curveNo != 9 && g.curveNo != 10) (refused 0x10 0 k)]
      else none
    firstFail
      [failIf (!leadsOk || !curveOk) (refused 0x10 0 k), cjc,
       failIf (f.slotNs s.field.nom60 < 22_000_000) (refused 0x10 0 k)]

/-- The excitation budget in µA (R62). -/
def State.feTotal (s : State) : Rat := ((List.range s.localChs).map fun k => feBudget (s.local' k).fe s.field.nom60).sum

def State.feCheck (s : State) (b : List Byte) : Option Refuse :=
  firstFail
    [s.feLayout b,
     failIf (!s.field.otpOk && (chunks 48 b.length (b.drop 16)).any fun r => bit (byteAt r 1) 0 && bit (byteAt r 1) 2)
       (refused 0x10 0x0002 0),
     (List.range s.localChs).findSome? s.feUse,
     failIf (400_000 < s.feTotal) (refused 0x10 0x0001 0)]

/-! ## `CHAINS` (R215, R222, R223, R225, R233, R240) -/

/-- A chain record with a field out of its layout. -/
def chainLayoutBad (r : List Byte) : Bool :=
  let n := byteAt r 4
  let thr (o : Nat) : Bool :=
    0x8000_0000 ≤ leAt r (o + 4) 4 || bits (byteAt r (o + 10)) 2 5 != 0 || byteAt r (o + 10) % 4 == 3 || !zeroAt r (o + 11) 1
  leAt r 2 2 == 0 || 768 < leAt r 0 2 + leAt r 2 2 || !inRange n 1 6 || 1 < leAt r 6 2
    || (List.range 6).any (fun i => let w := leAt r (8 + 2 * i) 2; 512 ≤ w || (n ≤ i && w != 0))
    || thr 20 || thr 32 || !zeroAt r 44 4

def State.chainsCheck (s : State) : Option Refuse :=
  let b := s.body 0x05
  firstFail
    [failIf (b.length % 48 != 0) (layoutBad 0x06 0),
     overRecords (chunks 48 b.length b) fun before r =>
       let first := leAt r 0 2
       let n := leAt r 2 2
       let cfg := r.drop 4
       let st := stagesOf cfg
       let d := decimOf cfg
       let j := tapbOf cfg
       let names (c : Nat) : Bool := c % 32 ≥ 16 && (s.laneRec (c / 32)).isSome && !s.exp32 (c / 32)
       let low (o : Nat) : Bool := byteAt r (o + 10) % 4 == 2 && decide (sleAt r o 4 ≤ 0)
       firstFail
         [failIf (chainLayoutBad r) (layoutBad 0x06 first),
          failIf (before.any fun x => first < leAt x 0 2 + leAt x 2 2 && leAt x 0 2 < first + n) (conflict 0x06 first),
          failIf (s.chainCount < first + n) (absent 0x06 first),
          failIf ((List.range n).any fun i => names (first + i)) (refused 0x06 0 first),
          failIf (d < 2 || !decimOk d) (refused 0x06 0 first),
          failIf (200_000_000 < costOf st) (refused 0x06 0x0003 first),
          failIf (j != 0 && (st.length < j || prodFactor st j < 2)) (refused 0x06 0x0004 first),
          failIf (low 20 || low 32) (refused 0x06 0x0005 first)]]

/-! ## `TRIGGER_NET` (R335, R336, R339 to R342, R351, R353, R362, R363) -/

def idUsed (i : Nat) : Bool := sourceUsed i

/-- A unit's source that cannot be: of an absent or idle chain, or of a local channel absent or not in use; what is absent is named (R5). -/
def State.sourceRefusal (s : State) (u i : Nat) : Option Refuse :=
  if i < 0x600 then
    (if s.chainCount ≤ i / 2 then some (absent 0x05 (i / 2)) else if (s.chainRec (i / 2)).isNone then some (refused 0x07 0 u) else none)
  else if i < 0x640 then
    let k := (i - 0x600) / 2
    if s.localChs ≤ k then some (absent 0x10 (768 + k))
    else if (s.local' k).fe.inUse then none else some (refused 0x10 0x010B (768 + k))
  else if 0x800 ≤ i && i < 0x1000 && !s.hasComb then some (absent 0x09 u)
  else none

def State.unitCheck (s : State) (u : Nat) : Option Refuse :=
  let r := s.unitRec u
  let nr := byteAt r 7
  let out := leAt r 4 2
  let rs := unitRanges r
  let n := (rs.map fun x => x.2 + 1 - x.1).sum
  let overlap := (List.range rs.length).any fun i => (List.range i).any fun j =>
    let a := rs.getD i (0, 0)
    let b := rs.getD j (0, 0)
    decide (a.1 ≤ b.2 ∧ b.1 ≤ a.2)
  if byteAt r 0 = 0 then failIf (!zeroAt r 40 8) (layoutBad 0x07 u)
  else firstFail
    [failIf (byteAt r 0 != 1 || !zeroAt r 40 8 || !inRange nr 1 8 || !zeroAt r (8 + 4 * nr) (32 - 4 * nr) || 4096 ≤ out
        || !inRange (leAt r 2 2) 1 10_000 || rs.any (fun x => x.2 < x.1)) (layoutBad 0x07 u),
     failIf (overlap || rs.any (fun x => (List.range (x.2 + 1 - x.1)).any fun i => !idUsed (x.1 + i)) || !inRange (byteAt r 1) 1 n)
       (layoutBad 0x07 u),
     rs.findSome? fun x => (List.range (x.2 + 1 - x.1)).findSome? fun i => s.sourceRefusal u (x.1 + i),
     failIf (subUs 100_000 < s.horizonOf s.matchLam r) (refused 0x07 0x0010 u)]

def engChans (r : List Byte) : List Nat := (List.range (engNch r)).map (engFirst r + ·)

/-- The slots a ring must hold, the bytes it takes, for an engine record (R341). -/
def State.ringNeeds (s : State) (e : Nat) : Nat × Nat :=
  let r := s.engineRec e
  let t := subNs (s.slotPeriod (engFirst r))
  let work := s.engHorizon (fun u => s.horizonOf s.matchLam (s.unitRec u)) e + subNs (copyNs (engPre r + engPost r) (engNch r) (engWord r))
  (engPre r + engPost r + 16 + (if t = 0 then 0 else ((work + t - 1) / t).toNat), engRing r * engNch r * engWord r)

def State.engineCheck (s : State) (e : Nat) : Option Refuse :=
  let r := s.engineRec e
  let seg := engSegLen r
  if 32 ≤ byteAt r 0 || !zeroAt r 1 1 || !zeroAt r 30 34 then some (layoutBad 0x07 e)
  else if !engOn r then none
  else firstFail
    [failIf (!inRange (engNch r) 1 256 || 799 < engFirst r || 1_048_575 < engPre r || !inRange (engPost r) 1 1_048_576
        || 1_048_576 < engPre r + engPost r || !inRange (engMergeWin r) 1 10_000 || 1000 < leAt r 26 2
        || (engFlag r 2 && (!inRange seg 16 4096 || seg / 4 < engSegPre r))
        || (engFlag r 4 && (!inRange (engMaskLen r) 1 4096 || engPost r < engMaskLen r
            || !(leAt r 6 2 < engNch r || leAt r 6 2 = 0xFFFF)))) (layoutBad 0x07 e),
     (engChans r).findSome? fun ch => s.channelRefusal 0x07 e ch,
     failIf (s.gridsDiffer (engChans r)) (conflict 0x07 e),
     failIf (engRing r < (s.ringNeeds e).1 || 2 ^ 25 < (s.ringNeeds e).2) (refused 0x08 0 e)]

/-- One local detector record (R333, R363). -/
def State.localDetCheck (s : State) (k : Nat) : Option Refuse :=
  let r := (s.netBody.drop (maskOffset s.netBody 8 + 32 * k)).take 32
  let bad (o : Nat) : Bool :=
    let m := byteAt r (o + 10)
    0x8000_0000 ≤ leAt r (o + 4) 4 || bits m 2 5 != 0 || m % 4 == 3 || !zeroAt r (o + 11) 5 || (m % 4 == 2 && decide (sleAt r o 4 ≤ 0))
  firstFail
    [failIf (bad 0 || bad 16) (layoutBad 0x07 (768 + k)),
     failIf (s.localChs ≤ k && (bit (byteAt r 10) 7 || bit (byteAt r 26) 7)) (absent 0x10 k)]

def State.netCheck (s : State) : Option Refuse :=
  let b := s.netBody
  let masks := ((List.range 8).map fun e => if engFlag (s.engineRec e) 4 then 8 * engMaskLen (s.engineRec e) else 0).sum
  if b.isEmpty then none
  else firstFail
    [failIf (b.length < 1312 || b.length != 1312 + masks + 1024 || 3 < byteAt b 0 || !zeroAt b 1 3 || !zeroOr (leAt b 4 4) 10 50_000
        || !zeroAt b 12 20 || leAt b 8 2 == 0 || leAt b 10 2 == 0) (layoutBad 0x07 0),
     (List.range 16).findSome? s.unitCheck, (List.range 8).findSome? s.engineCheck, (List.range 32).findSome? s.localDetCheck,
     ((List.range 16).find? fun u => unitOn (s.unitRec u) && bit (leAt (s.unitRec u) 4 2) 9 && s.tflag 5).map fun u =>
       { status := stConflict, runit := 0x07, reason := 0x0105, detail := u }]

/-! ## `HIVE_MAP` (R173, R341, R377 to R380, R439, R461) -/

/-- Owners and least size of a region type, without what its user's settings add. -/
def ownerBound (typ : Nat) : Nat := [0, 23, 7, 0xFFFF, 15, 7, 15, 3].getD typ 0
def State.leastSize (s : State) (typ owner : Nat) : Nat :=
  match typ with
  | 1 => if (s.laneRec owner).isSome then 104 * (ceilDiv (s.lagNs owner) 1250 + 64) else 0
  | 2 => if engOn (s.engineRec owner) then (s.ringNeeds owner).2 else 0
  | 3 => 131_072
  | 4 => 151_552 + 98_304 * s.poolStreams owner
  | 5 => ((s.progRec owner).map fun r => productBytes r + refMapBytes r).getD 0
  | 6 => 1024
  | _ => 262_144

/-- The types and owners in use. -/
def State.regionUsers (s : State) : List (Nat × Nat) :=
  let lanes := (List.range s.podLanes).filter fun l => s.laneFlag l 0
  let engines := (List.range 8).filter fun e => engOn (s.engineRec e)
  let progs := (progsOf (s.body 0x07)).map recProg
  let trunk := (List.range 4).filter fun i => s.laneFlag (24 + i) 0
  lanes.map (fun l => (1, l)) ++ engines.map (fun e => (2, e)) ++ (s.routes.map fun r => (3, r.id)) ++ progs.map (fun p => (5, p))
    ++ trunk.map (fun i => (7, i))

def State.regionCheck (s : State) (before : List Region) (raw : List Byte) (r : Region) : Option Refuse :=
  let stop := r.base + r.size
  firstFail
    [failIf (before.any (fun x => x.num == r.num || (x.typ == r.typ && x.owner == r.owner) || (r.base < x.base + x.size && x.base < stop))
        || (r.base < 0x0400_0000 && stagingBase < stop)) (conflict 0x08 r.num),
     failIf (254 < r.num || !inRange r.typ 1 7 || ownerBound r.typ < r.owner || (r.typ == 3 && r.owner == 0) || r.base % 1024 != 0
        || r.size % 1024 != 0 || r.size == 0 || stagingBase < stop || 4 ≤ r.rflags || !zeroAt raw 5 3
        || (bit r.rflags 1 && r.typ != 6)) (layoutBad 0x08 r.num),
     failIf ((r.typ == 1 && s.podLanes ≤ r.owner) || (r.typ == 5 && !s.hasComb)) (absent 0x08 r.num),
     failIf (r.size < s.leastSize r.typ r.owner || (r.typ == 2 && 2 ^ 25 < r.size)) (layoutBad 0x08 r.num)]

/-- `old` is the hub as it stands: a region moved under its user is refused (R380). -/
def State.hiveCheck (s old : State) (part : Bool) : Option Refuse :=
  let b := s.body 0x09
  let recs := (chunks 16 b.length b).zip s.regions
  let same (x : Region) : Bool := match s.region x.typ x.owner with
    | some y => y.base == x.base && y.size == x.size
    | none => false
  let inUse (s : State) (x : Region) : Bool := s.regionUsers.contains (x.typ, x.owner) || (x.typ == 4 && s.poolStreams x.owner != 0)
  firstFail
    [failIf (b.length % 16 != 0) (layoutBad 0x08 0),
     overRecords recs fun before r => s.regionCheck (before.map (·.2)) r.1 r.2,
     (s.regionUsers.find? fun u => (s.region u.1 u.2).isNone).map fun u => refused 0x08 0 u.2,
     (old.regions.find? fun x => part && inUse old x && inUse s x && !same x).map fun x => refused 0x08 0x0011 x.num]

/-! ## `ARB_INIT` (R387, R390, R395) -/

def arbCheck (b : List Byte) : Option Refuse :=
  if b.isEmpty then none
  else firstFail
    [failIf (b.length != 56 || !inRange (leAt b 2 2) 1 3600
        || (List.range 8).any fun i => !inRange (leAt b (16 + 2 * i) 2) 1 1023 || !inRange (leAt b (40 + 2 * i) 2) 1 1023)
       (layoutBad 0x08 0),
     failIf (leAt b 0 2 == 0 || scrubStarves (leAt b 30 2) (leAt b 2 2)) (refused 0x08 0 0)]

/-! ## `ROUTES` (R10, R28, R440, R447, R448, R504, R508, R529, R684) -/

def padTo4 (n : Nat) : Nat := (n + 3) / 4 * 4
/-- Packet bytes of a record: 20 for each packet's header and trailer, and the payload padded to 4 bytes (R478, R495). -/
def recordPacketBytes (n : Nat) : Nat := padTo4 n + 20 * ceilDiv n 4096

/-- The largest record a route sends. -/
def State.largestRecord (s : State) (r : Route) : Nat :=
  if r.kind = 1 then recordBytes r
  else if r.kind = 2 then
    let e := s.engineRec r.source
    let item := engNch e * engWord e
    112 + padTo8 (2 * engNch e) + min (engPre e + engPost e) (max 1 (32768 / max 1 item)) * item
  else 32768 + 96

/-- A steady packet rate, bytes per second, of the sample routes on a port. -/
def State.sampleRate (s : State) (port : Nat) : Rat :=
  ((s.routes.filter fun r => r.kind == 1 && r.port == port && r.nxMode == 0).map fun r =>
    s.recordRate r * (recordPacketBytes (recordBytes r) : Rat)).sum

/-- Relay bytes per second of the same routes: fragments of 115 bytes with 9 more each (R438, R440). -/
def State.relayRate (s : State) : Rat :=
  ((s.routes.filter fun r => r.kind == 1 && r.port == 0 && r.nxMode == 0).map fun r =>
    s.recordRate r * (recordPacketBytes (recordBytes r) : Rat)).sum

def nxLayoutBad (r : Route) : Bool :=
  let fm := leAt r.raw 12 2
  2 < r.nxMode || 2 < r.nxPre || 15 < r.nxPool || 60_000 < r.flushLag || (fm != 0 && 1000 % fm != 0)

def State.routeCheck (s old : State) (before : List Route) (r : Route) : Option Refuse :=
  let kindBad := !inRange r.kind 1 3 || (r.kind == 1 && (!inRange r.source 1 800 || r.items == 0)) || (r.kind != 1 && r.items != 0)
    || (r.kind == 2 && 7 < r.source) || (r.kind == 3 && 255 < r.source)
  let share (x : Route) : Bool :=
    x.id == r.id || (x.kind == 2 && r.kind == 2 && x.source == r.source) || (x.kind == 3 && r.kind == 3 && x.source &&& r.source != 0)
  let uncompressedDrip := r.port == 1 && r.nxMode == 0
  firstFail
    [failIf (r.id == 0 || kindBad || 1 < r.port
        || (r.kind == 1 && (r.raw.length < 32 + (2 * r.source + 7) / 8 * 8 || !allZero (r.raw.drop (32 + 2 * r.source)))))
       (layoutBad 0x01 r.id),
     failIf (nxLayoutBad r) (layoutBad 0x0A r.id),
     failIf (before.any share) (conflict 0x01 r.id),
     failIf uncompressedDrip (layoutBad 0x0B r.id),
     failIf (r.kind == 3 && !s.hasComb) (absent 0x09 r.id),
     r.chans.findSome? fun ch => s.channelRefusal (if ch < 768 then 0x06 else 0x01) ch ch,
     failIf (s.gridsDiffer r.chans) (conflict 0x01 r.id),
     failIf (r.kind == 2 && !engOn (s.engineRec r.source)) (refused 0x01 0 r.id),
     failIf (r.kind == 3 && (bitList 8 r.source).any fun p => (s.progRec p).isNone) (refused 0x01 0 r.id),
     failIf (s.regionSize 3 r.id < s.largestRecord r) (refused 0x01 0x0017 r.id),
     failIf (r.nxMode != 0 && 65_536 < s.largestRecord r) (refused 0x0A 0x0015 r.id),
     failIf (r.nxMode != 0 && (s.region 4 r.nxPool).isNone) (refused 0x0A 0x0016 r.id),
     failIf ((old.stream r.id).st == 1 && (old.route r.id).any (fun x => x.raw != r.raw)) (refused 0x01 0x010A r.id)]

/-- How many host lanes a `LANES` body leaves: a host lane without a record keeps its strap state (R528). -/
def State.hostLanesAfter (s : State) : Nat × Bool × Bool :=
  let h (l : Nat) : Bool := match s.laneRec l with
    | some r => bit (byteAt r 1) 0
    | none => s.strapLane l
  (if h 28 && h 29 then 2 else if h 28 then 1 else 0, h 28, h 29)

def State.routesCheck (s old : State) (part : Bool) : Option Refuse :=
  let b := s.body 0x0B
  let rs := s.routes
  let gone := (old.routes.filter fun r => (s.route r.id).isNone && (old.stream r.id).st == 1)
  firstFail
    [failIf ((rs.map fun r => r.raw.length).sum != b.length) (layoutBad 0x01 0x0B),
     overRecords rs fun before r => s.routeCheck old before r,
     failIf (part && !gone.isEmpty) (refused 0x01 0x010A ((gone.head?.map (·.id)).getD 0)),
     failIf (3_200_000_000 < s.nectarLoad) (refused 0x0A 0x000C 0),
     failIf (s.gwDir = 0 && (686_250_000 * (s.hostLanesAfter.1 : Rat)) < s.sampleRate 0) (refused 0x0B 0x000C 0),
     failIf (s.gwDir != 0 && 463_750_000 < s.relayRate) (refused 0x0B 0 0)]

/-! ## `TIME` (R424, R425, R436, R442) -/

/-- `new` tells that the image holds the section: its actions are then judged too. -/
def State.timeCheck (s : State) (new : Bool) : Option Refuse :=
  let b := s.timeBody
  let up := byteAt b 36
  let down := byteAt b 37
  let lists := padTo8 (2 * (up + down))
  let acts := taRecords b
  let exported := s.exports false ++ s.exports true
  if b.isEmpty then none
  else firstFail
    [failIf (b.length < 128 || 128 ≤ leAt b 0 2 || 2 < byteAt b 2 || 63 < byteAt b 3 || 64 < leAt b 6 2
        || !zeroOr (leAt b 8 4) 10 10_000_000 || !zeroOr (leAt b 12 4) 10 1_000_000_000 || !zeroOr (leAt b 16 2) 1 3600
        || !zeroOr (leAt b 18 2) 16 1024 || !zeroOr (leAt b 20 4) 1 100_000 || !zeroOr (leAt b 24 4) 1 1_000_000
        || !zeroOr (leAt b 32 2) 1 500 || 128 < up || 128 < down || !zeroAt b 38 26
        || (List.range 4).any (fun i => !zeroAt b (72 + 16 * i) 8)
        || b.length != 128 + lists + 24 * leAt b 6 2 || !zeroAt b (128 + 2 * (up + down)) (lists - 2 * (up + down)))
       (layoutBad 0x02 0),
     (exported.find? (s.chainCount ≤ ·)).map fun c => absent 0x05 c,
     (exported.find? fun c => match s.chainRec c with
        | some r => prodFactor (stagesOf (r.drop 4)) (tapbOf (r.drop 4)) != 2 || tapbOf (r.drop 4) == 0
        | none => true).map fun c => refused 0x02 0x0013 c,
     overRecords (if new then acts else []) fun before r =>
       let e := byteAt r 0
       let sec := leAt r 8 6
       let nsec := leAt r 16 4
       firstFail
         [failIf (63 < e || 4 ≤ byteAt r 1 || !zeroAt r 3 1 || !zeroAt r 14 2 || !zeroAt r 22 2) (layoutBad 0x02 e),
          failIf (before.any fun x => byteAt x 0 == e) (conflict 0x02 e),
          (s.actCheck (byteAt r 2) (leAt r 4 4) sec nsec).map fun _ => layoutBad 0x02 e,
          (s.actAbsent (byteAt r 2) (leAt r 4 4)).map fun x => absent x.1 x.2,
          failIf (bit (byteAt r 1) 0 && !bit (byteAt r 1) 1 && s.isLate (sec * 1_000_000_000 + nsec))
            { status := stLate, runit := 0x02, detail := e }]]

/-! ## `LANES` (R172, R528) -/

def State.lanesCheck (s : State) : Option Refuse :=
  let b := s.body 0x0D
  let h := s.hostLanesAfter
  firstFail
    [failIf (b.length % 16 != 0) (layoutBad 0x04 0),
     overRecords (chunks 16 b.length b) fun before r =>
       let l := byteAt r 0
       let fl := byteAt r 1
       firstFail
         [failIf (31 < l || (before.any fun x => l ≤ byteAt x 0) || 64 ≤ fl || 10 < byteAt r 2 % 16 || 10 < byteAt r 2 / 16
             || 32 < byteAt r 3 || 32 < byteAt r 4 || 500 < leAt r 6 2
             || 100_000 < (sleAt r 12 4).natAbs || (24 ≤ l && (16 ≤ fl || !zeroAt r 6 3 || !zeroAt r 10 6))) (layoutBad 0x04 l),
          failIf (!s.lanePresent l) (absent 0x04 l),
          failIf (s.paired && l < 24 && s.lagNs l < s.pairLat * 1250 + 100_000) (refused 0x04 0 l)],
     failIf (h.2.2 && !h.2.1) (layoutBad 0x04 29)]

/-! ## `PAIR` (R592), `REG_INIT` (R530) and pins (R553) -/

def pairCheck (b : List Byte) : Option Refuse :=
  if b.isEmpty then none
  else failIf (b.length != 128 || 8 ≤ byteAt b 0 || 32 ≤ byteAt b 1 || !zeroOr (leAt b 2 2) 32 1024 || !zeroOr (leAt b 4 2) 100 10_000
      || !zeroOr (leAt b 6 2) 10 10_000 || !zeroOr (leAt b 8 4) 10 60_000 || !zeroOr (leAt b 12 4) 1 1_000_000 
      || (List.range 24).any fun i => 100_000 < (sleAt b (32 + 4 * i) 4).natAbs) (layoutBad 0x0C 0)

/-- Records of `REG_INIT`: address and value. -/
def regInits (b : List Byte) : List (Nat × Word) := (chunks 8 b.length b).map fun r => (leAt r 0 4, BitVec.ofNat 32 (leAt r 4 4))

def State.regInitCheck (s : State) (b : List Byte) : Option Refuse :=
  firstFail
    [failIf (b.length % 8 != 0) (layoutBad 0x01 0x0F),
     ((regInits b).zip (List.range b.length)).findSome? fun x =>
        let a := x.1.1
        firstFail [failIf (!isRw a || a / 65536 == 0x0D || a / 65536 == 0x0E) (refused 0x01 0x0106 x.2),
          failIf (s.absentAt a) (absent (a / 65536) a)]]

/-- `TRIG_OUT1` given a pulse and the second `PPS_OUT` at once. -/
def State.pinCheck (s : State) : Option Refuse :=
  let unit := (List.range 16).any fun u => unitOn (s.unitRec u) && bit (leAt (s.unitRec u) 4 2) 9
  let act := (taRecords s.timeBody).any fun r => bit (byteAt r 1) 0 && byteAt r 2 == 5 && byteAt r 4 % 4 == 2
  failIf (s.tflag 5 && (unit || act)) { status := stConflict, runit := 0x01, reason := 0x0105 }

/-! ## All of them, in ascending type (steps 6 to 8) -/

/-- The checks on the state `s` that would result from `old`; `secs` are the sections the image holds. -/
def State.loadChecks (s old : State) (isFull : Bool) (secs : Tab (List Byte)) : Option Refuse :=
  let sec (t : Nat) : List Byte := Tab.get (fun _ => []) secs t
  let has (t : Nat) : Bool := secs.any fun x => x.1 == t
  let anchors := sec 0x08
  firstFail
    [if has 0x02 then s.capsCheck (sec 0x02) else none,
     s.mapCheck, s.feCheck (sec 0x04), s.chainsCheck, s.netCheck,
     failIf (!s.hasComb && (has 0x07 || has 0x08)) (absent 0x09 0),
     s.combProgCheck, if has 0x08 then s.anchorsCheck anchors else none,
     s.anchorsMissing (old.body 0x07) anchors, s.standingCheck anchors,
     s.hiveCheck old (!isFull), arbCheck (s.body 0x0A),
     s.routesCheck old (!isFull), s.timeCheck (has 0x0C), s.lanesCheck, pairCheck (s.body 0x0E),
     s.regInitCheck (sec 0x0F),
     s.pinCheck]

end Sys2Proof.Machine
end

