-- ==== Sys2Proof/Machine/Image.lean ====
section
/-! DEFINITION. Images: staging (R531), commits (R532, R533), their application (R534 to R537, R271 to R274), epoch boundaries (R45
to R48), and the configuration CRC (R539, R540). -/

namespace Sys2Proof.Machine

/-! ## A pending guarded write cancelled (R544, R545) -/

/-- A guard fails: both writes are discarded, counted and reported. -/
def State.guardFail (s : State) (p : Port) : State :=
  match (s.port p).guard with
  | some (a, _, _) => ((s.updPort p fun x => { x with guard := none }).raise 0x0103 a [BitVec.ofNat 32 (portCode p)]).bump 0x0000_0040
  | none => s

/-! ## The staging area (R531) -/

/-- `IMG`; a forwarded one needs no lock on a standby. -/
def State.opImg (s : State) (p : Packet) (forwarded : Bool) : Reply × State :=
  let a := p.addr.toNat
  let needsLock := !(forwarded && s.isStandby)
  if stagingSize < a + p.payload.length then (Reply.of stBadAddr, s)
  else if needsLock && !s.holdsLock p.port 0 then (Reply.of stLocked, s)
  else if s.comb.rebuild.any fun b => !b.finished then (Reply.of stBusy, s)
  else
    let s := s.hiveWrite 5 (stagingBase + a) p.payload
    (Reply.ok, { s with cfg := { s.cfg with stagedLen := 0 } })

/-! ## Reading an image (R520 to R523, steps 2 to 5 of R533) -/

/-- A stored section: its type, whether it is compressed, its length after decompression, its stored body and where that lies. -/
structure Section where
  typ : Nat
  nx : Bool
  olen : Nat
  stored : List Byte
  pos : Nat

/-- What an image says: `anchorsAt` is where the body of `ANCHORS` lies in the staging area, `anchorsNx` says it came compressed. -/
structure Image where
  isFull : Bool
  imageId : Word
  epochDs : Nat
  compressed : Bool
  secs : Tab (List Byte)
  anchorsAt : Nat := 0
  anchorsNx : Bool := false

def imgRef (reason detail : Nat) : Refuse := refused 0x01 reason detail

/-- Step 3: the `HEADER`, whose section lies at offset 0. -/
def State.headerCheck (s : State) (img : List Byte) (forwarded : Bool) : Option Refuse :=
  let h := slice img 16 32
  let part := byteAt h 5 == 1
  let ds := leAt h 16 2
  let m := s.sys.mode
  let mode :=
    if part then m == .train || m == .run || m == .holdover || m == .surge || (m == .shadow && forwarded)
    else m == .load || m == .safe || m == .quiesce
  firstFail
    [failIf (byteAt img 0 != 1) (imgRef 0x0102 (byteAt img 0)),
     failIf (leAt img 4 4 != 32 || byteAt img 2 != 0) (imgRef 0x000A 0x01),
     failIf (leAt h 0 4 != 0x4259_494D || byteAt h 4 != 1) (imgRef 0x0104 0),
     failIf (byteAt h 6 != 0 && byteAt h 6 != s.sys.variant) (imgRef 0x0108 0),
     failIf (if part then ds != 0 && ds != s.cfg.epochDs else ds != 0 && 36_000 < ds) (imgRef 0x0109 0),
     failIf (!inRange (byteAt h 7) 1 15 || 1 < byteAt h 5 || leAt h 8 4 != img.length) (imgRef 0x000A 0),
     failIf (!mode) (imgRef 0x0107 0)]

/-- Step 4: the sections from offset `pos` on, `n` of them; `last` is the type before. -/
def walkSections (img : List Byte) : Nat → Nat → Nat → Except Refuse (List Section)
  | 0, _, _ => .ok []
  | n + 1, pos, last =>
    let typ := byteAt img pos
    let len := leAt img (pos + 4) 4
    let stop := pos + 16 + len
    let lim := img.length - 4
    let next := if n = 0 then lim else padTo8 stop
    let fl := byteAt img (pos + 2)
    let olen := leAt img (pos + 8) 4
    let bad := firstFail
      [failIf (lim < pos + 16) (imgRef 0x000A 0),
       failIf (byteAt img (pos + 1) != 1) (imgRef 0x0104 typ),
       failIf (typ ≤ last || 15 < typ) (imgRef 0x0102 typ),
       failIf (lim < stop || 1 < fl || (fl == 0 && olen != len)) (imgRef 0x000A typ),
       failIf ((crc32c (slice img pos 12 ++ slice img (pos + 16) len)).toNat != leAt img (pos + 12) 4) (imgRef 0x0101 typ),
       failIf (!zeroAt img stop (next - stop)) (imgRef 0x000A typ)]
    match bad with
    | some r => .error r
    | none =>
      match walkSections img n next typ with
      | .error r => .error r
      | .ok rest => .ok ({ typ := typ, nx := fl == 1, olen := olen, stored := slice img (pos + 16) len, pos := pos + 16 } :: rest)

/-- Where the body of a type lies in the staging area, with what is decompressed put from `place` on (R533). -/
def bodyPlace (typ : Nat) : List Section → Nat → Nat
  | [], place => place
  | c :: cs, place =>
    if c.typ = typ then (if c.nx then place else c.pos)
    else bodyPlace typ cs (if c.nx then place + (c.olen + 1023) / 1024 * 1024 else place)

/-- Step 5: bodies, with what is decompressed put after the image, each at a 1 KiB boundary (R533). -/
def State.expand (s : State) : List Section → Nat → Except Refuse (Tab (List Byte)) × State
  | [], _ => (.ok [], s)
  | c :: cs, place =>
    if c.nx then
      let next := place + (c.olen + 1023) / 1024 * 1024
      if stagingSize < next then (.error (imgRef 0x0103 c.typ), s)
      else match decodeObject c.stored c.olen with
        | .error e => (.error (refused 0x0A (0x0040 + e.code) c.typ), s.nxError e)
        | .ok body =>
          let s := s.hiveWrite 4 (stagingBase + place) body
          match s.expand cs next with
          | (.ok rest, s) => (.ok (Tab.put rest c.typ body), s)
          | (.error r, s) => (.error r, s)
    else
      match s.expand cs place with
      | (.ok rest, s) => (.ok (Tab.put rest c.typ c.stored), s)
      | (.error r, s) => (.error r, s)

/-- Steps 2 to 5: the image of a length in the staging area, read as `NECTAR_RD`. -/
def State.readImage (s : State) (len cflags : Nat) (forwarded : Bool) : Except Refuse Image × State :=
  if 2 ≤ cflags || !inRange len 56 8_388_608 || len % 4 != 0 then (.error (imgRef 0x000A 0), s)
  else
    let (img, poisoned, s) := s.hiveRead 3 stagingBase len
    if poisoned then (.error (refused 0x08 0x0012 0), s)
    else if (crc32c (img.take (len - 4))).toNat != leAt img (len - 4) 4 then (.error (imgRef 0x0100 0), s)
    else match s.headerCheck img forwarded with
      | some r => (.error r, s)
      | none =>
        match walkSections img (byteAt img 23) 0 0 with
        | .error r => (.error r, s)
        | .ok secs =>
          let place := (len + 1023) / 1024 * 1024
          match s.expand secs place with
          | (.error r, s) => (.error r, s)
          | (.ok bodies, s) =>
            let isFull := byteAt img 21 == 0
            let ds := leAt img 32 2
            (.ok { isFull := isFull, imageId := BitVec.ofNat 32 (leAt img 28 4)
                   epochDs := if isFull then orDefault ds 10 else s.cfg.epochDs
                   compressed := secs.any (·.nx), secs := bodies
                   anchorsAt := bodyPlace 0x08 secs place, anchorsNx := secs.any fun c => c.typ == 0x08 && c.nx }, s)

/-! ## What would result (R522, R527) -/

/-- Sections whose body is kept as it was applied: `HEADER`, `ANCHORS` and `REG_INIT` are not, `FRONT_END` is merged. -/
def keptSection (t : Nat) : Bool := t == 2 || t == 3 || (5 ≤ t && t ≤ 14 && t != 8)

/-- Reserved bytes of a body are not held: what an image gives for them is ignored (R7). -/
def clearAt (b : List Byte) (o n : Nat) : List Byte := if b.length < o + n then b else b.take o ++ List.replicate n 0 ++ b.drop (o + n)
def normalBody (t : Nat) (b : List Byte) : List Byte :=
  if t = 0x03 then ((chunks 16 b.length b).map fun r => clearAt (clearAt r 6 2) 12 4).flatten
  else if t = 0x0A then clearAt b 4 4
  else if t = 0x0B then
    let rs := (routesOf b).map (·.raw)
    (rs.map fun r => clearAt (clearAt r 11 1) 16 16).flatten ++ b.drop rs.flatten.length
  else if t = 0x0D then ((chunks 16 b.length b).map fun r => clearAt (clearAt r 5 1) 9 1).flatten
  else if t = 0x0E then clearAt b 20 12
  else b

/-- A partial image that awaits its apply point changes a route's record, or removes it (R529). -/
def State.routeChanges (s : State) (r : Route) : Bool :=
  s.pendingPartial.any fun g => (g.sections.find? fun x => x.1 == 0x0B).any fun b =>
    !((routesOf (normalBody 0x0B b.2)).find? fun x => x.id == r.id).any fun x => x.raw == r.raw

/-- The bodies in force after an image. -/
def mergeBodies (isFull : Bool) (old secs : Tab (List Byte)) : Tab (List Byte) :=
  (secs.filter fun x => keptSection x.1).foldl (fun m x => Tab.set (fun _ => []) m x.1 (normalBody x.1 x.2)) (if isFull then [] else old)

/-- Front-end settings after an image, and its global fields. -/
def State.mergedFe (s : State) (isFull : Bool) (body : List Byte) : List FrontEnd :=
  (List.range s.localChs).map fun k => feMerge isFull body k (s.local' k).fe
def State.mergedGlobal (s : State) (isFull : Bool) (body : List Byte) : Bool × Nat :=
  feGlobal isFull body s.field.nom60 s.field.slewStep

/-- T_C in ns (R536): with `ANCHORS`, T_RB (R272). -/
def Image.tc (i : Image) : Nat :=
  let rebuilds := i.secs.any fun x => x.1 == 0x08
  if (if rebuilds then i.anchorsNx else i.compressed) then 6_000_000 else 3_000_000

/-- Where a partial image accepted at a time applies, ns (R536): an epoch boundary, or a tick while no grid runs. A full image applies at the
tick after its checks (R535). -/
def State.applyPoint (s : State) (isFull : Bool) (at' tc : Nat) : Nat :=
  if isFull then (at' / 1250 + 1) * 1250
  else match s.cfg.gridOn, s.cfg.gridStart with
    | true, some st =>
      let e := max 1 (s.cfg.epochDs * 100_000_000)
      st * 1_000_000_000 + ceilDiv (at' + tc - st * 1_000_000_000) e * e
    | _, _ => ceilDiv (at' + tc) 1250 * 1250

/-- The state the checks of R533 judge: the image's bodies and settings in force, chains as their records give them, and local grids
as they will stand (R28). -/
def State.imageCandidate (s : State) (i : Image) : State :=
  let fe := Tab.get (fun _ => []) i.secs 0x04
  let fes := s.mergedFe i.isFull fe
  let b := s.applyPoint i.isFull s.ns i.tc
  let nom := (s.mergedGlobal i.isFull fe).1 != s.field.nom60
  let ch := Tab.updAll (fun _ => {}) s.field.ch (List.range s.localChs) fun k (l : Local) =>
    let f := fes.getD k {}
    { l with fe := f, origin := gridAfter s.cfg.gridOn b l f nom }
  { s with
    cfg := { s.cfg with body := mergeBodies i.isFull s.cfg.body i.secs, epochDs := i.epochDs }
    chains := []
    field := { s.field with ch := ch, nom60 := (s.mergedGlobal i.isFull fe).1 } }

/-- Steps 6 to 8, with a field-link fault (R534). -/
def State.imageChecks (s : State) (i : Image) : Option Refuse :=
  if !s.sys.fdLink then some { status := stTimeout, runit := 0x10 } else (s.imageCandidate i).loadChecks s i.isFull i.secs

/-! ## The configuration CRC (R539, R540) -/

/-- A channel's record as serialised. -/
def State.feSerial (s : State) (k : Nat) : List Byte :=
  let f := (s.local' k).fe
  toLE 1 k ++ toLE 1 (3 + 4 * bnat f.inUse) ++ toLE 2 0
    ++ bytesOf [f.exc, f.lead, f.range, f.curve, f.param0, f.param1, f.param2, f.conv, f.ofs, f.gain, 0]

/-- The `FRONT_END` body read back. -/
def State.feBody (s : State) : List Byte :=
  if !s.field.feApplied then []
  else toLE 1 1 ++ toLE 1 (bnat s.field.nom60) ++ toLE 2 s.field.slewStep ++ toLE 12 0 ++ (List.range s.localChs).flatMap s.feSerial

/-- A `TIME` body without its timed actions. -/
def timeWithout (b : List Byte) : List Byte :=
  b.take 6 ++ toLE 2 0 ++ slice b 8 (120 + padTo8 (2 * (byteAt b 36 + byteAt b 37)))

/-- The configuration state's bytes. -/
def State.configBytes (s : State) : List Byte :=
  (List.range 15).flatMap fun t =>
    let b := if t = 4 then s.feBody else if t = 12 && !(s.body 12).isEmpty then timeWithout (s.body 12) else s.body t
    if b.isEmpty then [] else toLE 1 t ++ toLE 4 b.length ++ b

def State.configCrc (s : State) : Word := crc32c s.configBytes

/-- A pass ends; `upset` is what bits changed in the units change in the result. -/
def State.configCrcPass (s : State) (upset : Word) : State :=
  let next (c : Cfg) : Cfg :=
    { c with passVoid := false, crcRef := c.refNext.getD c.crcRef, refNext := none, passAt := some s.time.cyc }
  if s.cfg.passAt.any fun c => decide (s.time.cyc < c + cycPerMs) then s
  else if s.cfg.passVoid then { s with cfg := next s.cfg }
  else
    let crc := s.configCrc ^^^ upset
    let was := s.cfg.mismatch
    let ref := s.cfg.crcRef
    let s := { s with cfg := next { s.cfg with crc := crc, mismatch := crc != ref } }
    if crc = ref then s
    else
      let s := s.bump 0x0001_0040
      let s := if was then s else s.raise 0x0101 0 [crc, ref]
      if !was && bit (s.regN 0x0001_001C) 0 then s.enterSafe 1 else s

/-- A guarded write of `CFG_REF`. -/
def State.writeCfgRef (s : State) (v : Word) : Reply × State :=
  (Reply.ok, { s with cfg := { s.cfg with refNext := some v, refUser := true } })

/-! ## Application (R534 to R536) -/

/-- Trigger units and engines whose records change begin anew at the change point `b`, in ns, as all do with a full image (R341, R344). -/
def State.applyNet (s : State) (full : Bool) (b : Nat) (oldNet : List Byte) : State :=
  let net := s.netBody
  let envOf (n : List Byte) (e : Nat) : List Byte := slice n (maskOffset n e) (8 * engMaskLen (Machine.engineRec n e))
  let s := (List.range 16).foldl (fun s u =>
    if !full && Machine.unitRec oldNet u = Machine.unitRec net u then s else s.updUnit u fun _ => {}) s
  let s := (List.range 8).foldl (fun s e =>
    if !full && Machine.engineRec oldNet e = Machine.engineRec net e && envOf oldNet e = envOf net e then s
    else if !engOn (Machine.engineRec net e) && s.engine e == {} then s
    else ((s.flushCopies e).disarm e).updEngine e fun g =>
      { fill := subNs b, lastFire := g.lastFire, dead := g.dead }) s
  (List.range s.localChs).foldl (fun s k =>
    let thr (n : List Byte) : List Byte := slice n (maskOffset n 8 + 32 * k) 32
    if thr oldNet = thr net then s else s.updLocal k fun l => { l with det0 := l.det0.disarm, det1 := l.det1.disarm }) s

/-- H_u of every unit, computed as a load takes effect and held until the next (R336): of the chains as they are recorded. -/
def State.setHorizons (s : State) : State :=
  let c := { s with chains := [] }
  (List.range 16).foldl (fun s u =>
    if unitOn (s.unitRec u) then s.updUnit u fun x => { x with horizon := c.horizonOf c.matchLam (c.unitRec u) } else s) s

/-- Nectar pools whose region or streams change take up their regions; streams whose routes change begin anew (R457, R461). -/
def State.applyPools (s : State) (old : State) : State :=
  let s := (List.range 16).foldl (fun s p =>
    if s.region 4 p = old.region 4 p && s.poolStreams p = old.poolStreams p then s
    else if (s.region 4 p).isSome then s.initPool p else s.updPool p fun _ => {}) s
  s.routes.foldl (fun s r =>
    if (old.route r.id).any (fun x => x.raw == r.raw) then s else s.updNx r.id fun _ => {}) s

/-- `LANES` takes effect: lanes without a record are disabled, host lanes as their strap says (R188, R528). -/
def State.applyLanes (s : State) : State :=
  let s := (List.range 32).foldl (fun s l =>
    if !s.lanePresent l then s
    else match s.laneRec l with
      | some r => s.setEnable l (bit (byteAt r 1) 0)
      | none => s.setEnable l (s.strapLane l)) s
  { s with ports := { s.ports with lanes := if (s.lane 28).enable then (if (s.lane 29).enable then 2 else 1) else 0 } }

/-- `TIME` takes effect: its actions replace the table, and sources it leaves out lose qualification (R403, R442). -/
def State.applyTime (s old : State) : State :=
  let s := s.loadActs s.timeBody
  let s := s.updTime fun t => { t with ppsMark := s.ppsSecond s.ns }
  let s := [false, true].foldl (fun s d => if s.exports d = old.exports d then s else s.fmapSend d) s
  let s := if s.tflag 0 then s else (s.updTime fun t => { t with ppsRun := 0, lastEdge := none }).loseSource 0
  if s.tflag 1 then s else s.loseSource 1

/-- A pair member takes its first role; a hub whose image has no pair is single (R566, R585). -/
def State.applyPair (s : State) : State :=
  if !s.paired then { s with pair := { s.pair with role := 0, live := false, inStep := false, stale := false, blind := false } }
  else if s.pair.role != 0 then s
  else
    let first := bit (byteAt s.pairBody 0) 1 == s.sys.pairId
    let lease : Option Lease := some { id := Config.permanentLease, ends := none }
    { s with pair := { s.pair with
        role := if first then 1 else 3, activeOut := first, live := first
        primary := if s.hostless && first then lease else s.pair.primary
        succession := if s.hostless && !first then lease else s.pair.succession } }

/-- `REG_INIT`: writes of the committing port, which cancel a guarded write it has pending (R530, R544). -/
def State.applyRegInit (s : State) (p : Port) (b : List Byte) (avs : AvsAnswer) : State :=
  if b.isEmpty then s else (regInits b).foldl (fun s x => (s.writePlain p x.1 x.2 avs).2) (s.guardFail p)

/-- The units that an image's sections reconfigure, at once, at the change point `b`, in ns. -/
def State.switchUnits (s : State) (g : Staged) (b : Nat) : State :=
  let old := s
  let has (t : Nat) : Bool := g.isFull || g.sections.any fun x => x.1 == t
  let sec (t : Nat) : List Byte := Tab.get (fun _ => []) g.sections t
  let fes := s.mergedFe g.isFull (sec 4)
  let glob := s.mergedGlobal g.isFull (sec 4)
  let s := { s with cfg := { s.cfg with body := mergeBodies g.isFull s.cfg.body g.sections, epochDs := g.epochDs } }
  let s :=
    if has 4 then
      let touched (k : Nat) : Bool := match feRecord (sec 4) k with | some r => bit (byteAt r 1) 0 | none => g.isFull
      let s := s.applyFrontEnd b fes glob.1 glob.2 touched
      if g.isFull then s.updField fun f => { f with feApplied := !(sec 4).isEmpty } else s
    else s
  let s := if has 5 then s.configureChains (b / 1250) else s
  let s := s.applyNet g.isFull b (old.body 6)
  let s := (if has 7 then s.applyProgs b else s).setHorizons
  let s := if g.isFull then s.loadAnchors (sec 8) else s
  let s := s.applyPools old
  if has 10 && !(s.body 10).isEmpty then s.applyArbInit (s.body 10) else s

/-- The links and roles that an image's sections reconfigure. -/
def State.switchLinks (s : State) (g : Staged) (old : State) (avs : AvsAnswer) : State :=
  let has (t : Nat) : Bool := g.isFull || g.sections.any fun x => x.1 == t
  let s := if has 12 then s.applyTime old else s
  let s := if has 13 then s.applyLanes else s
  let s := if has 14 then s.applyPair else s
  s.applyRegInit g.port (Tab.get (fun _ => []) g.sections 15) avs

/-- An image applies at the change point `b`, in ns: every unit switches, `CFG_REF` takes the new state's CRC, and the application is counted and raised. -/
def State.applyStaged (s : State) (g : Staged) (b epoch : Nat) (avs : AvsAnswer) : State :=
  let s := { s with cfg := { s.cfg with staged := none } }
  let s := ((s.freezeLags.switchUnits g b).switchLinks g s avs).thawLags
  let crc := s.configCrc
  let s := { s with cfg := { s.cfg with
    crcRef := crc, refNext := none, refUser := false, passVoid := true
    imageId := if g.isFull then g.imageId else s.cfg.imageId
    partialId := if g.isFull then s.cfg.partialId else g.imageId } }
  (s.bump 0x0001_0038).raise 0x0102 g.imageId.toNat [BitVec.ofNat 32 (bnat (!g.isFull)), BitVec.ofNat 32 epoch]

/-- The tick after a full image's checks: it applies, and the hub enters TRAIN (R535, R635, R646, R648). -/
def State.imageApply (s : State) (avs : AvsAnswer) : State :=
  match s.cfg.staged with
  | some g =>
    if !g.isFull || s.ns < s.applyPoint true g.acceptedAt 0 then s
    else
      let s := if s.sys.mode = .safe then s.leaveSafe else s
      let s := s.applyStaged g (s.applyPoint true g.acceptedAt 0) 0 avs
      -- every channel in use is configured by the image: its switches close now that the mode lets them (R93)
      let s := (s.setMode .train).closeSwitches fun _ => true
      let pods := s.pods.map fun (x : Nat × PodLane) => (x.1, { x.2 with untimed := false })
      let lanes := s.lanes.map fun (x : Nat × Lane) => (x.1, { x.2 with reached := x.2.st == 6 })
      { s with
        pods := pods
        lanes := lanes
        sys := { s.sys with trainAt := s.time.cyc, fullLoaded := true, quiesceAt := none, quiesceStamp := none, quiesced := false } }
  | none => s

/-- Banks rebuilt swap, or a commit without a rebuild leaves them. -/
def State.applyPartial (s : State) (g : Staged) (b epoch : Nat) (avs : AvsAnswer) : State :=
  let s := s.applyStaged g b epoch avs
  if s.comb.rebuild.isSome then s.swapBanks else s

/-- No epoch grid runs: the first tick at least T_C after acceptance (R536). -/
def State.partialApplyTick (s : State) (avs : AvsAnswer) : State :=
  match s.cfg.staged with
  | some g =>
    let b := s.applyPoint false g.acceptedAt g.tc
    let built := match s.comb.rebuild with | some b => b.ripe s.ns | none => true
    if g.isFull || s.cfg.gridOn || s.ns < b || !built then s else s.applyPartial g b 0 avs
  | none => s

/-! ## Commits (R532, R533, R536) -/

/-- The outcome of a commit is shown. -/
def State.commitOutcome (s : State) (r : Refuse) : State :=
  let s := { s with cfg := { s.cfg with result := r.status, runit := r.runit, reason := r.reason, detail := r.detail } }
  if r.status = stOk then s else s.bump 0x0001_003C

def commitOk : Refuse := { status := stOk, runit := 0 }

/-- The epoch number at which a partial image accepted now applies; 0 with no grid. -/
def State.applyEpoch (s : State) (tc : Nat) : Nat :=
  match s.cfg.gridOn, s.cfg.gridStart with
  | true, some st => ceilDiv (s.ns + tc - st * 1_000_000_000) (max 1 s.epochNs) % 2 ^ 32
  | _, _ => 0

/-- An image that has passed is staged. -/
def State.stageImage (s : State) (i : Image) (port : Port) : State :=
  let g : Staged := { isFull := i.isFull, imageId := i.imageId, epochDs := i.epochDs, sections := i.secs, port := port
                      acceptedAt := s.ns, tc := i.tc, epochNo := if i.isFull then 0 else s.applyEpoch i.tc }
  { s with cfg := { s.cfg with staged := some g } }

/-- The flash boot ends when its commit's checks pass (R553). -/
def State.bootPassed (s : State) (port : Port) : State :=
  if port = .own then { s with ports := { s.ports with bootRunning := false, bootDone := true } } else s

/-- A partial image with `ANCHORS` starts the rebuild, which holds the commit until it is done, and reads the section from the staging
area as `COMB_OUT` (R272, R378). -/
def State.beginRebuild (s : State) (p : Packet) (i : Image) : State :=
  let body := Tab.get (fun _ => []) i.secs 8
  let (_, poisoned, s) := (s.stageImage i p.port).hiveRead 2 (stagingBase + i.anchorsAt) body.length
  let b : Rebuild := { pkt := p, startAt := s.ns, compressed := i.anchorsNx, frames := anchorsOf body, poisoned := poisoned }
  { s with comb := { s.comb with rebuild := some b } }

/-- A commit of `len` bytes. What a rebuild leaves to judge is judged when it is done (R272, R274); a hub without a Comb has nothing to rebuild,
and refuses at once (R5). -/
def State.startCommit (s : State) (p : Packet) (len cflags : Nat) (forwarded : Bool) : Reply × State :=
  let s := { s with cfg := { s.cfg with stagedLen := 0 } }
  let fail (r : Refuse) (s : State) : Reply × State := (r.reply, s.commitOutcome r)
  let needsLock := !(forwarded && s.isStandby)
  if needsLock && !s.holdsLock p.port 0 then fail { status := stLocked, runit := 0 } s
  else if s.cfg.staged.isSome || s.comb.rebuild.isSome then fail { status := stBusy, runit := 0 } s
  else match s.readImage len cflags forwarded with
    | (.error r, s) => fail r s
    | (.ok i, s) =>
      let rebuilds := cflags = 0 && !i.isFull && s.hasComb && i.secs.any fun x => x.1 == 8
      if rebuilds && s.sys.fdLink then (.later, s.beginRebuild p i)
      else match s.imageChecks i with
        | some r => fail r s
        | none =>
          let s := if cflags = 0 then (s.stageImage i p.port).bootPassed p.port else s
          (Reply.ok, s.commitOutcome commitOk)

/-- The `COMMIT` opcode (R532). -/
def State.opCommit (s : State) (p : Packet) (forwarded : Bool) : Reply × State :=
  let len := leAt p.payload 0 4
  if p.payload.length != 12 || p.addr != 0 then (Reply.of stBadAddr, s)
  else if leAt p.payload 4 4 != 0xFFFF_FFFF - len then (Reply.of stGuardFail, s)
  else s.startCommit p len (leAt p.payload 8 4) forwarded

/-- Leases of the committing port did not run while its commit did (R551). -/
def State.extendLeases (s : State) (p : Port) (cycles : Nat) : State :=
  (List.range 16).foldl (fun s n =>
    if (s.lockOf n).owner = portCode p then s.updLock n fun l => { l with ends := l.ends + cycles } else s) s

/-- The rebuild is done: its tables are valid and its commit completes, or all of it is refused (R270, R272). -/
def State.rebuildDone (s : State) : State :=
  match s.comb.rebuild, s.cfg.staged with
  | some b, some g =>
    if b.finished then s
    else
      let i : Image := { isFull := false, imageId := g.imageId, epochDs := g.epochDs, compressed := b.compressed, secs := g.sections
                         anchorsNx := b.compressed }
      let s := s.extendLeases b.pkt.port ((s.ns - b.startAt) * 4 / 5)
      match if b.poisoned then some (refused 0x08 0x0012 0) else s.imageChecks i with
      | some r =>
        let s := s.writeInactive b.frames false
        let s := { s with comb := { s.comb with rebuild := none }, cfg := { s.cfg with staged := none } }
        match r.reply with
        | .done st body => (s.commitOutcome r).complete b.pkt st body
        | .later => s
      | none =>
        let s := s.writeInactive b.frames true
        let s := { s with comb := { s.comb with rebuild := some { b with finished := true } } }
        (s.commitOutcome commitOk).complete b.pkt stOk
  | _, _ => s

/-! ## Epoch boundaries (R45, R46) -/

/-- Boundary number k at a time in ns. Step 1 is the products' own (R262, R300), but for the totals the frames show; step 2 is in the
compressor (R457). -/
def State.boundary (s : State) (k ns : Nat) (avs : AvsAnswer) : State :=
  let num := k % 2 ^ 32
  let atQ := s.sys.quiesceAt.any fun q => q ≤ ns
  let s := if atQ then s else s.closeEpoch ns
  let s := match s.cfg.staged, s.comb.rebuild with
    | some g, none => if !g.isFull && g.acceptedAt + g.tc ≤ ns then s.applyPartial g ns num avs else s
    | some g, some b => if b.ripe ns then s.applyPartial g ns num avs else s.rebuildMissed
    | none, _ => s
  if atQ then s
  else
    let s := { s with cfg := { s.cfg with gridOn := true, epoch := some k, shortEpoch := false } }
    s.startEpochWork num ns (ns + s.epochNs) s.cfg.epochDs

/-- The named second arrives and the grid starts; where a step has carried time past it, at the first boundary not earlier (R45, R48). -/
def State.epochGridStart (s : State) (avs : AvsAnswer) : State :=
  match s.cfg.gridStart with
  | some st =>
    let k := s.epochIndex st
    let ns := st * 1_000_000_000 + k * s.epochNs
    if s.cfg.gridOn || !s.acquiring || s.ns < st * 1_000_000_000 || ns < s.cfg.epochFrom then s else s.boundary k ns avs
  | none => s

/-- A boundary of the running grid arrives. -/
def State.epochBoundary (s : State) (avs : AvsAnswer) : State :=
  match s.cfg.gridOn, s.cfg.gridStart with
  | true, some st =>
    let k := s.epochIndex st
    let ns := st * 1_000_000_000 + k * s.epochNs
    let new := match s.cfg.epoch with
      | some j => decide (j < k)
      | none => decide (s.cfg.epochFrom ≤ ns)
    if s.acquiring && st * 1_000_000_000 ≤ s.ns && new then s.boundary k ns avs else s
  | _, _ => s

end Sys2Proof.Machine
end

