-- ==== Sys2Proof/Machine/Pair.lean ====
section
/-! DEFINITION. Pair operation (R561 to R595): messages of the pair link, joining, marks, digests and divergences, leases and
takeovers. Forwarding of commands stands with the ports, in HostPort. -/

namespace Sys2Proof.Machine

def State.updPair (s : State) (f : Pair → Pair) : State := { s with pair := f s.pair }

/-- T_PL (R564), cycles. -/
def plCycles : Nat := 20 * cycPerUs

/-! ## CRC-64 (R571, R577) -/

/-- CRC-64/ECMA-182 of bytes, from a value on. -/
def crc64 (c : Nat) (bs : List Byte) : Nat :=
  bs.foldl (fun c b => crcLeftN 64 0x42F0_E1EB_A9EA_3693 8 (c ^^^ (b.toNat * 2 ^ 56))) c

/-- A packet's bytes without `LSEQ` and `HCRC`: header bytes 0–3, 6–11, 14–15, and the payload. -/
def keyBytes (word0 addr hub status : Nat) (payload : List Byte) : List Byte :=
  toLE 4 word0 ++ toLE 2 payload.length ++ toLE 4 addr ++ toLE 1 hub ++ toLE 1 status ++ payload

/-- The digest of a packet this hub sends (R577). -/
def OutPkt.digest (p : OutPkt) : Nat :=
  crc64 0 (keyBytes (p.opcode * 2 ^ 24 + p.pflags * 2 ^ 20 + p.tag * 2 ^ 8 + p.unitNo) p.addr p.hub p.status p.payload)

end Sys2Proof.Machine

namespace Sys2Proof
open Machine

/-- The bytes of a command packet that `FCHAIN` covers. -/
def Packet.keyBytes (p : Packet) : List Byte :=
  Machine.keyBytes (p.opcode.toNat * 2 ^ 24 + p.pflags.toNat * 2 ^ 20 + p.tag.toNat * 2 ^ 8 + p.unitNo.toNat) p.addr.toNat
    p.hub.toNat 0 p.payload

end Sys2Proof

namespace Sys2Proof.Machine

/-- A forwarded or blind command counts in `FSEQ` and `FCHAIN` as it applies (R571, R590). -/
def State.countForward (s : State) (f : Forward) : State :=
  s.updPair fun p =>
    { p with fseq := f.fseq
             fchain := BitVec.ofNat 64 (crc64 p.fchain.toNat (toLE 4 f.fseq ++ toLE 4 (f.tick % 2 ^ 32) ++ f.pkt.keyBytes)) }

/-- `FSEQ` after a number. -/
def nextFseq (n : Nat) : Nat := (n + 1) % 2 ^ 32

/-! ## Staleness (R570, R571) -/

/-- A standby becomes STALE, once until it joins again. -/
def State.goStale (s : State) : State :=
  if s.pair.role != 2 || s.pair.stale then s
  else (s.updPair fun p => { p with stale := true }).raise 0x0C05 (nextFseq s.pair.fwdNext)

/-- A message of the pair link is taken when the link is up, in order; a copy already taken is ignored, and a gap in `PLSEQ`
makes a standby STALE. -/
def State.plTake (s : State) (n : Nat) (f : State → State) : State :=
  if s.pair.role = 0 || !s.linkUp then s
  else
    let take (s : State) : State := f (s.updPair fun p => { p with inSeq := some ((n + 1) % 65536) })
    match s.pair.inSeq with
    | none => take s
    | some e =>
      if n % 65536 = e then take s
      else if (n + 65536 - e) % 65536 < 32768 then take s.goStale
      else s

/-! ## Takeover and giving up (R584, R586 to R588) -/

/-- The listening pod lanes transmit: `TICK_LOAD`, with D from the partner's and `POD_DSKEW`. -/
def State.podsTakeOver (s : State) : State :=
  (List.range s.podLanes).foldl (fun s l =>
    let (d, s) := s.fresh Config.partnerDelay
    let skew := sleAt s.pairBody (32 + 4 * l) 4
    let s := s.updPod l fun x => { x with delay := d + (if s.sys.pairId then skew else -skew) }
    if s.laneActive l && !(s.pod l).quarantined then s.send l (message 0x14 (toLE 4 ((s.tick + 1) % 2 ^ 32))) else s) s

/-- The standby takes the active role, with a cause: 1 fault declared, 2 decision, 3 heartbeat, 4 host, 5 handover. The
`EVENTS` stream starts anew with `PAIR_TAKEOVER`; without a grant of the host the succession lease becomes the primary. -/
def State.takeOver (s : State) (cause : Nat) : State :=
  let s := s.plSend (.lease (.revoke s.pair.partner.primId))
  let s := s.updPair fun p =>
    { p with role := 1, activeOut := true, live := false, takeover := some (cause, s.time.cyc), stale := false, inStep := false
             mine := [], theirs := [], joinAt := none, cleanFrom := none, lockedAt := none, swarmWait := [], swarmMarks := []
             primary := if cause = 4 then p.primary else p.succession
             succession := if cause = 4 then p.succession else none }
  let s := { s with ev := { lost := 0 } }
  let s := s.raise 0x0C02 (bnat (!s.sys.pairId)) (BitVec.ofNat 32 cause :: fullWords (fullTime s.time.now))
  let s := s.bump 0x000C_003C
  let s := if s.sys.mode = .hold || s.sys.mode = .load || s.sys.mode = .safe then s else s.setMode .takeover
  let s :=
    if s.field.surgeAt.isSome && s.sys.mode = .takeover then
      ({ s with sys := { s.sys with surgeFrom := .takeover } } : State).setMode .surge
    else s
  s.podsTakeOver

/-- The new active's shared outputs and host port go live (R587). -/
def State.takeoverLive (s : State) : State :=
  if s.pair.takeover.isNone then s
  else
    let s := (s.updPair fun p => { p with live := true, takeover := none }).rewindHost
    if s.sys.mode = .takeover then s.setMode s.timeMode else s

/-- The active gives up its role and goes on as a STALE standby in SHADOW (R586, R588). -/
def State.giveUp (s : State) : State :=
  let s := s.updPair fun p =>
    { p with role := 2, activeOut := false, live := false, takeover := none, inStep := false, stale := false, joinAt := none
             cleanFrom := none, mine := [], theirs := [], queue := p.queue.map fun f => { f with answers := false } }
  let s := s.goStale
  let s := s.drivesOff
  if s.sys.mode = .run || s.sys.mode = .holdover || s.sys.mode = .takeover then s.setMode .shadow else s

/-- `PARTNER_ACTIVE` rises (R586). While the link is down only a host's grant can have raised it, and its ID is the higher. -/
def State.partnerActiveRise (s : State) : State :=
  let p := s.pair
  let s := s.updPair fun p => { p with partnerActive := true }
  if p.role != 1 then s
  else
    let own := p.primary.elim 0 (·.id)
    let other := max p.partner.primId p.partner.succId
    if !s.leaseValid p.primary || p.blind || own < other then s.giveUp
    else if other < own && other != 0 then s.raise 0x0C0A other
    else s

/-! ## Faults and heartbeats (R571, R579, R581, R584) -/

/-- The active declares a fault: 1 a self-check bit, 2 SAFE, 3 the host's request. -/
def State.declareFault (s : State) (code : Nat) : State :=
  if !s.isActive then s else (s.raise 0x0C07 s.selfCheck).plSend (.fault code s.selfCheck)

/-- Body of this hub's heartbeat. -/
def State.ownHb (s : State) : Heartbeat :=
  { role := s.pair.role, mode := modeCode s.sys.mode, selfCheck := s.selfCheck, derate := s.comb.pending
    primId := if s.leaseValid s.pair.primary then s.pair.primary.elim 0 (·.id) else 0
    succId := if s.leaseValid s.pair.succession then s.pair.succession.elim 0 (·.id) else 0
    fseq := s.pair.fseq, fchain := s.pair.fchain.toNat, cfgCrc := s.cfg.crc }

/-- A heartbeat is due every 50 µs (R565). -/
def State.hbDue (s : State) : Bool := s.pair.hbSent.all fun c => decide (c + 50 * cycPerUs ≤ s.time.cyc)
def State.plHbSend (s : State) : State :=
  if s.pair.role = 0 || !s.hbDue then s else (s.updPair fun p => { p with hbSent := some s.time.cyc }).plSend (.hb s.ownHb)

/-- A heartbeat arrives. A standby compares `FCHAIN` where both have applied the same commands; the first one after the link
returns shows a command missed by its `FSEQ` alone. -/
def State.plHb (s : State) (n : Nat) (hb : Heartbeat) : State :=
  s.plTake n fun s =>
    let back := s.pair.linkBack
    let s := s.updPair fun p =>
      { p with hbAt := some s.time.cyc, partner := hb, linkBack := false, partnerActive := p.partnerActive && hb.role == 1 }
    let s := { s with comb := { s.comb with pairPct := hb.derate } }
    let same := hb.fseq == s.pair.fseq
    if s.pair.role = 2 && ((same && hb.fchain != s.pair.fchain.toNat) || (back && !same)) then s.goStale else s

/-- No heartbeat for `HB_TIMEOUT` while a pair lane stays in `ACTIVE`. -/
def State.hbTimedOut (s : State) : State :=
  if s.succUsable && s.linkUp && s.pair.hbAt.isSome && !s.hbOk then s.takeOver 3 else s

def State.plFault (s : State) (n _fault selfCheck : Nat) : State :=
  s.plTake n fun s =>
    let s := s.updPair fun p => { p with partner := { p.partner with selfCheck := selfCheck } }
    if s.succUsable then s.takeOver 1 else s

/-- The link returns (R589). -/
def State.pairLinkUp (s : State) : State :=
  if !s.pair.blind || !s.linkUp then s
  else (s.updPair fun p => { p with blind := false, linkBack := true, hbAt := some s.time.cyc }).raise 0x0C04 0

/-! ## Comparison (R568, R577 to R580) -/

/-- A standby compares from the join boundary on, while the link is up. -/
def State.comparing (s : State) : Bool :=
  s.isStandby && !s.pair.blind && s.linkUp && (s.pair.inStep || s.pair.cleanFrom.isSome)

/-- A mismatch with a cause: before the hub is in step it only counts; else it is a divergence, and R580 decides. -/
def State.mismatch (s : State) (cause stream rseq frag : Nat) : State :=
  if !s.pair.inStep then
    (s.updPair fun p => { p with cleanFrom := s.cfg.epoch.map (· + 1) <|> p.cleanFrom }).bump 0x000C_0044
  else
    let own := s.selfCheck
    let other := s.pair.partner.selfCheck
    let s := s.updPair fun p => { p with divStream := stream, divFrag := frag, divCause := cause, divRseq := rseq }
    let s := s.raise 0x0C01 stream [BitVec.ofNat 32 (cause + 256 * own + 65536 * other), BitVec.ofNat 32 rseq]
    let s := s.bump 0x000C_0038
    if other != 0 && own = 0 && s.succUsable then s.takeOver 2 else s

/-- A packet and its digest have met. -/
def State.compared (s : State) (stream rseq frag : Nat) (same : Bool) : State :=
  let n := s.pair.compared + 1
  let s := s.updPair fun p =>
    { p with compared := n % 1024, seen := if p.seen.contains stream then p.seen else stream :: p.seen }
  let s := if n = 1024 then s.bump 0x000C_0040 else s
  if same then s else s.mismatch 1 stream rseq frag

def DigestEntry.sameKey (a b : DigestEntry) : Bool := a.stream == b.stream && a.rseq == b.rseq && a.frag == b.frag

/-- The standby's own packet has its digest. -/
def State.ownDigest (s : State) (e : DigestEntry) : State :=
  if !s.comparing then s
  else match s.pair.theirs.find? e.sameKey with
    | some x =>
      (s.updPair fun p => { p with theirs := p.theirs.erase x }).compared e.stream e.rseq e.frag (e.digest == x.digest)
    | none => s.updPair fun p => { p with mine := p.mine ++ [e] }

/-- `PL_DIGEST` arrives. -/
def State.plDigest (s : State) (n stream rseq frag digest : Nat) : State :=
  s.plTake n fun s =>
    let e : DigestEntry := { stream, rseq, frag, digest, at' := s.time.cyc }
    if !s.comparing then s
    else match s.pair.mine.find? e.sameKey with
      | some x => (s.updPair fun p => { p with mine := p.mine.erase x }).compared stream rseq frag (digest == x.digest)
      | none => s.updPair fun p => { p with theirs := p.theirs ++ [e] }

/-- `CMP_WAIT` has passed for a digest or a packet. -/
def State.cmpExpiry (s : State) : State :=
  let lim := s.cmpWait * cycPerMs
  let old (e : DigestEntry) : Bool := e.at' + lim ≤ s.time.cyc
  let ts := s.pair.theirs.filter old
  let ms := s.pair.mine.filter old
  let s := s.updPair fun p => { p with theirs := p.theirs.filter (!old ·), mine := p.mine.filter (!old ·) }
  let s := ts.foldl (fun (s : State) e => s.mismatch 2 e.stream e.rseq e.frag) s
  ms.foldl (fun (s : State) e => s.mismatch 3 e.stream e.rseq e.frag) s

/-- The new `DATA` packets of a FIFO with their keys: stream 0 is not compared (R576). -/
def Fifo.undigested (f : Fifo) : List (Nat × Nat × OutPkt) :=
  (f.q.filter fun p => !p.digested).filterMap fun p =>
    match p.kind with
    | .data st r => if st = 0 then none else some (st, r, p)
    | _ => none
def Fifo.digestAll (f : Fifo) : Fifo := if f.q.all (·.digested) then f else { f with q := f.q.map fun p => { p with digested := true } }

/-- Digests of the packets a command has put in the outbound FIFOs (R577). -/
def State.takeDigests (s : State) : State :=
  if s.pair.role = 0 then s
  else
    let ps := s.host.undigested ++ s.drip.undigested
    let s := { s with host := s.host.digestAll, drip := s.drip.digestAll }
    ps.foldl (fun (s : State) x =>
      let frag := x.2.2.addr / 65536
      if s.isActive then s.plSend (.digest x.1 x.2.1 frag x.2.2.digest)
      else s.ownDigest { stream := x.1, rseq := x.2.1, frag := frag, digest := x.2.2.digest, at' := s.time.cyc }) s

/-! ## Joining (R566 to R568) -/

/-- The epoch boundary at or after a time in ns, once the grid's second is named. -/
def State.boundaryFrom (s : State) (ns : Nat) : Option Nat :=
  s.cfg.gridStart.map fun st =>
    let o := st * 1_000_000_000
    o + ceilDiv (ns - o) (max 1 s.epochNs) * max 1 s.epochNs

/-- A stream's entry of `PL_JOIN`: `RSEQ` and first slot of its first record starting at or after B. -/
def State.joinEntry (s : State) (r : Route) (b : Nat) : JoinEntry :=
  let st := s.stream r.id
  let bseq := (s.nxStream r.id).bseq
  match r.chans.head?, st.next with
  | some ch, some nxt =>
    let first := (st.recItems.head?.bind List.head?).elim nxt (·.place)
    let goal := (s.firstPlaceAt ch (b / 1250)).getD first
    let per := max 1 r.items * max 1 (s.slotStep ch)
    let j := ceilDiv (goal - first) per
    { stream := r.id, rseq := (st.rseq + j) % 2 ^ 32, slot := (s.placeSlot ch (first + j * per)).toNat, bseq := bseq
      isOpen := st.st == 1 }
  | _, _ => { stream := r.id, rseq := st.rseq, slot := 0, bseq := bseq, isOpen := st.st == 1 }

/-- A joining hub asks, once all of R567 holds; the same request reaching an active makes it choose B and answer. -/
def State.joinRequest (s : State) : State :=
  let p := s.pair
  if !s.linkUp then s
  else if p.role = 3 then
    let locked := p.lockedAt.any fun c => decide (c + cycPerS ≤ s.time.cyc)
    if p.joinAsked || !locked || p.hbAt.isNone then s
    else if s.cfg.crc != p.partner.cfgCrc then
      if p.cfgDiff then s
      else (s.updPair fun p => { p with cfgDiff := true }).raise 0x0C09 0 [s.cfg.crc, p.partner.cfgCrc]
    else (s.updPair fun p => { p with joinAsked := true }).plSend .joinRequest
  else if p.role = 1 then
    match s.boundaryFrom (s.ns + 10_000_000) with
    | some b =>
      let es := (s.routes.filter fun r => (s.stream r.id).everOpened).map fun r => s.joinEntry r b
      (s.updPair fun p => { p with joinAt := some b, fwdNext := p.fseq }).plSend (.join b es)
    | none => s
  else s

def State.plJoin (s : State) (n boundary : Nat) (entries : List JoinEntry) : State :=
  s.plTake n fun s =>
    if s.pair.role != 3 then s else s.updPair fun p => { p with joinAt := some boundary, joinEntries := entries }

/-- A stream continues by the active's numbers. -/
def State.joinStream (s : State) (e : JoinEntry) : State :=
  match s.route e.stream with
  | none => s
  | some r =>
    let s := if e.isOpen && (s.stream r.id).st != 1 then s.openStream r else s
    let place := s.slotPlace (r.chans.headD 0) e.slot
    let s := s.updStream r.id fun st =>
      { st with st := if e.isOpen then 1 else 0, rseq := e.rseq, everOpened := true, recItems := []
                next := if r.chans.isEmpty then st.next else some place, answered := place
                cols := st.cols.map fun c => { c with words := c.words.filter fun w => place ≤ w.place } }
    s.updNx r.id fun x => { x with bseq := e.bseq, recs := [], hist := [] }

/-- At B the joining hub takes the active's numbers over, and comparison begins. -/
def State.joinAtBoundary (s : State) : State :=
  match s.pair.joinAt with
  | some b =>
    if s.pair.role != 3 || s.ns < b then s
    else
      let s := s.pair.joinEntries.foldl (fun (s : State) e => s.joinStream e) s
      let k := match s.cfg.gridStart with | some st => (b - st * 1_000_000_000) / max 1 s.epochNs | none => 0
      s.updPair fun p =>
        { p with joinAt := none, joinEntries := [], cleanFrom := some k, seen := [], mine := [], theirs := [], inStep := false
                 fseq := p.partner.fseq, fchain := BitVec.ofNat 64 p.partner.fchain, fwdNext := p.partner.fseq }
  | none => s

/-- A joining hub whose every open stream has been compared, and a whole epoch without a mismatch, is in step. -/
def State.checkInStep (s : State) : State :=
  match s.pair.cleanFrom, s.cfg.epoch with
  | some k, some e =>
    let all := s.routes.all fun r => (s.stream r.id).st != 1 || s.pair.seen.contains r.id
    if s.pair.role = 3 && k + 1 ≤ e && all then
      (s.updPair fun p => { p with role := 2, inStep := true, stale := false, joinAsked := false }).raise 0x0C06 0
    else s
  | _, _ => s

/-- A STALE standby joins again (R570). -/
def State.rejoin (s : State) : State :=
  s.updPair fun p =>
    { p with role := 3, stale := false, inStep := false, joinAsked := false, cfgDiff := false, joinAt := none, cleanFrom := none
             seen := [], mine := [], theirs := [] }

/-! ## Marks and words of the active (R573, R575) -/

/-- The place of the first slot of a local channel that its streams have no word for. -/
def State.owedSlot (s : State) (ch : Nat) : Nat :=
  s.openRoutes.foldl (fun a r =>
    let st := s.stream r.id
    match ((r.chans.zip st.cols).find? fun cc => cc.1 == ch), st.next with
    | some cc, some n => max a ((cc.2.words.getLast?).elim n fun w => w.place + w.step)
    | _, _ => a) 0

/-- The active's surge starts or ends as a standby's words and `GAP` records see it. -/
def State.surgeFollow (s : State) (ns : Nat) (on : Bool) : State :=
  let s := s.markSurge ns on
  let ks := s.localsUsed.filter fun k => (s.local' k).origin.isSome
  if on then s.openSpans (ks.map (768 + ·)) s.owedSlot 3 0xFF
  else s.closeLocalSpans ks fun k =>
    let f := (s.local' k).fe
    s.slotAt k (ns + (if f.mode != 0 then f.preNs else 0))

/-- A swarm fire takes effect on a pair member, with the active's latency and armed mask where a mark has brought them. -/
def State.swarmApply (s : State) (origin : Nat) (t : Int) (set : Nat) (mark : Option (Nat × Nat)) : State :=
  match mark with
  | some (lat, armed) =>
    ({ s with trig := { s.trig with armedMask := armed } } : State).deliverSwarm origin t set (some (subNs lat))
  | none => s.deliverSwarm origin t set none

def State.swarmMark (s : State) (origin fid latency armed : Nat) : State :=
  match s.pair.swarmWait.find? fun w => w.1 == origin && w.2.1 == fid with
  | some w =>
    (s.updPair fun p => { p with swarmWait := p.swarmWait.erase w }).swarmApply origin w.2.2.1 w.2.2.2.1 (some (latency, armed))
  | none => s.updPair fun p => { p with swarmMarks := p.swarmMarks ++ [(origin, fid, latency, armed)] }

/-- `PL_MARK` arrives at a standby. -/
def State.plMark (s : State) (n : Nat) (m : Mark) : State :=
  s.plTake n fun s =>
    if !s.isStandby then s
    else match m with
      | .suspect tick on => s.markSuspect (tick * 1250) on
      | .surge time on => s.surgeFollow time on
      | .swarm origin fid latency armed => s.swarmMark origin fid latency armed

/-- T_PL has passed without the mark of a swarm fire: the hub's own values count. -/
def State.markExpiry (s : State) : State :=
  let due := s.pair.swarmWait.filter fun w => w.2.2.2.2 + plCycles ≤ s.time.cyc
  let s := s.updPair fun p => { p with swarmWait := p.swarmWait.filter fun w => !(w.2.2.2.2 + plCycles ≤ s.time.cyc) }
  due.foldl (fun (s : State) w => s.swarmApply w.1 w.2.2.1 w.2.2.2.1 none) s

/-- The active's local word goes where the standby's own would (R575). -/
def State.plLocal (s : State) (n ch slot : Nat) (word stamp : Word48) : State :=
  s.plTake n fun s =>
    if !s.isStandby || s.localChs ≤ ch then s
    else
      let l := s.local' ch
      let thr := s.localThr ch
      let usable := !wAbsent word && !wSettling word
      let (d0, f0) := l.det0.step (detSettings thr 0) usable (wValue word)
      let (d1, f1) := l.det1.step (detSettings thr 1) usable (wValue word)
      let t := s.extend stamp.toNat
      let s := s.updLocal ch fun l => { l with det0 := d0, det1 := d1, restart := false, last := some (word, (t / 65536).toNat) }
      let s := (List.range (bnat f0 + bnat f1)).foldl (fun (s : State) _ => s.bump 0x0007_0020) s
      let s := if f0 then s.trigSend (0x600 + 2 * ch) t else s
      let s := if f1 then s.trigSend (0x600 + 2 * ch + 1) t else s
      s.deliverLocal ch slot word stamp l.restart

/-- `PL_TICKS`: the standby's outstanding ticks (R171). DESIGN CHOICE (log entry 154): they are asked for also where the lane is drained on
this hub, since R171 includes them and R166 speaks of a hub's own. -/
def State.plTicks (s : State) (n lane : Nat) (ticks : List Nat) : State :=
  s.plTake n fun s =>
    if !s.isActive || s.podLanes ≤ lane then s
    else (s.updPod lane fun x => { x with partner := ticks }).requestTicks lane ticks

/-- `PL_ACK`: acknowledgements as the active applied them. -/
def State.plAck (s : State) (n : Nat) (entries : List (Nat × Nat)) : State :=
  s.plTake n fun s =>
    if !s.isStandby then s
    else entries.foldl (fun (s : State) e => (s.ackOne (fun id => (s.route id).isSome) e.1 e.2).1) s

/-! ## Leases (R582 to R585) -/

/-- The completion body of `LEASE`. -/
def State.leaseBody (s : State) : List Byte :=
  let p := s.pair
  let flags := bnat (s.leaseValid p.primary) + 2 * bnat (s.leaseValid p.succession) + 4 * bnat s.succUsable
  toLE 1 p.role ++ toLE 1 flags ++ [0, 0] ++ toLE 4 (p.primary.elim 0 (·.id)) ++ toLE 4 (leaseLeft s.time.cyc p.primary)
    ++ toLE 4 (p.succession.elim 0 (·.id)) ++ toLE 4 (leaseLeft s.time.cyc p.succession)

def leaseRef (reason : Nat := 0) : Reply := Reply.of stRefused 0x0C reason

/-- A primary grant to this hub (R583). -/
def State.grantPrimary (s : State) (l : Lease) (preempt : Bool) : Reply × State :=
  let p := s.pair
  let inForce := if s.leaseValid p.primary then p.primary.elim 0 (·.id) else 0
  let given (s : State) : State := s.updPair fun p => { p with primary := some l }
  if l.id < inForce then (leaseRef, s)
  else if p.role = 1 then let s := given s; (.done stOk s.leaseBody, s)
  else if p.partner.primId != 0 && !preempt then (Reply.of stConflict 0x0C, s)
  else if !p.inStep || (p.stale && !p.blind) then (Reply.of stStale, s)
  else
    let s := (given s).takeOver 4
    (.done stOk s.leaseBody, s)

/-- A succession grant to this hub (R584): it goes to the standby. -/
def State.grantSuccession (s : State) (l : Lease) : Reply × State :=
  let p := s.pair
  let inForce := if s.leaseValid p.succession then p.succession.elim 0 (·.id) else 0
  if p.role = 1 || l.id < inForce then (leaseRef, s)
  else
    let s := s.updPair fun p => { p with succession := some l }
    (.done stOk s.leaseBody, s)

/-- A revocation: of the active's primary lease by the host it ends the role too (R583). -/
def State.revokeLease (s : State) (id : Nat) (host : Bool) : Bool × State :=
  let p := s.pair
  if p.primary.any (·.id == id) then
    let s := s.updPair fun p => { p with primary := none }
    (true, if host && s.isActive then s.giveUp else s)
  else if p.succession.any (·.id == id) then (true, s.updPair fun p => { p with succession := none })
  else (false, s)

/-- `LEASE` on the hub it names. -/
def State.ownLease (s : State) (p : Packet) : Reply × State :=
  let op := byteAt p.payload 0
  let id := leAt p.payload 4 4
  let ms := leAt p.payload 8 4
  let dur := if ms = 0 then orDefault (leAt s.pairBody 8 4) 500 else ms
  let l : Lease := { id := id, ends := some (s.time.cyc + dur * cycPerMs) }
  if op = 0 then (.done stOk s.leaseBody, s)
  else if s.pair.role = 0 || s.hostless then (leaseRef, s)
  else if 3 < op || id = 0 || 2 ≤ byteAt p.payload 1 || 60_000 < ms then (leaseRef 0x000A, s)
  else if op = 1 then s.grantPrimary l (bit (byteAt p.payload 1) 0)
  else if op = 2 then s.grantSuccession l
  else
    let x := s.revokeLease id true
    if x.1 then (.done stOk x.2.leaseBody, x.2) else (leaseRef, s)

/-- The `LEASE` opcode: another hub's is relayed over the link. -/
def State.opLease (s : State) (p : Packet) : Reply × State :=
  if p.payload.length != 12 || 1 < p.addr.toNat then (Reply.of stBadAddr, s)
  else if s.pair.role = 0 || p.addr.toNat = bnat s.sys.pairId then s.ownLease p
  else (.later, (s.updPair fun x => { x with relayed := x.relayed ++ [(p, s.time.cyc)] }).plSend (.lease (.command p)))

/-- `PL_LEASE` arrives. -/
def State.plLease (s : State) (n : Nat) (m : LeaseMsg) : State :=
  s.plTake n fun s =>
    match m with
    | .command p =>
      let x := s.ownLease p
      match x.1 with
      | .done st body => x.2.plSend (.lease (.completion p.tag st body))
      | .later => x.2
    | .completion tag st body =>
      match s.pair.relayed.find? fun r => r.1.tag == tag with
      | some r => (s.updPair fun p => { p with relayed := p.relayed.erase r }).complete r.1 st body
      | none => s
    | .revoke id => (s.revokeLease id false).2

/-- Relayed `LEASE`s without an answer for 1 ms complete with `TIMEOUT`. -/
def State.leaseRelayTimeout (s : State) : State :=
  let due := s.pair.relayed.filter fun r => r.2 + cycPerMs ≤ s.time.cyc
  let s := s.updPair fun p => { p with relayed := p.relayed.filter fun r => !(r.2 + cycPerMs ≤ s.time.cyc) }
  due.foldl (fun (s : State) r => s.complete r.1 stTimeout) s

/-- A lease's time has run out: it is reported once and stays invalid; an active keeps its role (R583). -/
def State.leaseExpired (s : State) (succession : Bool) : State :=
  let l := if succession then s.pair.succession else s.pair.primary
  match l with
  | some { id := id, ends := some c } =>
    if c = 0 || s.time.cyc < c then s
    else
      let gone : Option Lease := some { id := id, ends := some 0 }
      let s := s.updPair fun p => if succession then { p with succession := gone } else { p with primary := gone }
      s.raise 0x0C08 (bnat succession) [BitVec.ofNat 32 id]
  | _ => s

/-! ## `PAIR_FORCE` (R570, R581, R588, R593) -/

/-- The partner can take over by succession, as its last heartbeat shows. -/
def State.partnerUsable (s : State) : Bool := s.linkUp && s.hbOk && s.pair.partner.role == 2 && s.pair.partner.succId != 0

/-- A guarded write of `PAIR_FORCE`, which the active forwards: a `HANDOVER` takes place on the standby as it applies. -/
def State.pairForce (s : State) (v : Nat) (forwarded : Bool) : Reply × State :=
  let no : Reply × State := (Reply.of stRefused 0x0C, s)
  match v % 4, s.pair.role with
  | 1, 1 => if s.partnerUsable then (Reply.ok, s) else no
  | 1, 2 => if forwarded && s.succUsable then (Reply.ok, s.takeOver 5) else no
  | 2, 1 => if s.linkUp then (Reply.ok, s) else no
  | 2, 2 => if s.pair.stale then (Reply.ok, s.rejoin) else no
  | 3, 1 => (Reply.ok, s.declareFault 3)
  | _, _ => no

/-! ## What follows a command by itself -/

/-- Conditions of the self-check word that hold, or held up to this command, are noted (R579). -/
def State.noteChecks (s old : State) : State :=
  [1, 3, 4].foldl (fun (s : State) b => if s.checkHolds b || old.checkHolds b then s.noteCheck b else s) s

/-- The active declares a fault as a masked bit becomes set, or as it enters SAFE (R581). -/
def State.faultsFollow (s old : State) : State :=
  let mask := byteAt s.pairBody 1 % 32
  let fresh := s.selfCheck &&& mask &&& (31 - (old.selfCheck &&& 31))
  let s := if fresh != 0 then s.declareFault 1 else s
  if s.sys.mode = .safe && old.sys.mode != .safe then s.declareFault 2 else s

/-- Pair upkeep as a command ends. -/
def State.pairFollow (s old : State) : State :=
  (((s.noteChecks old).faultsFollow old).joinAtBoundary.takeDigests).checkInStep

end Sys2Proof.Machine
end

