-- ==== Sys2Proof/Machine/Guard.lean ====
section
/-! DEFINITION. Guarded writes (R544 to R546) and what each guarded register does, and the writes of a `WR`, `GWR` or debug
access (R483, R486, R516). -/

namespace Sys2Proof.Machine

/-- The guarded registers (R546). -/
def isGw (a : Nat) : Bool :=
  [0x0000_0010, 0x0000_0018, 0x0000_0020, 0x0000_0028, 0x0001_0008, 0x0001_0010, 0x0002_0020, 0x000C_001C].contains a

/-! ## What the guarded registers do -/

/-- `SYS_RESET` (R554, R630, R632). -/
def State.writeReset (s : State) (v : Nat) : Reply × State :=
  if v % 4 = 1 then (Reply.ok, { s with sys := { s.sys with resetAt := some (s.time.cyc + 10 * cycPerUs) } })
  else if v % 4 = 2 then s.fieldDieReset
  else (Reply.of stRefused 0x00, s)

/-- `OTP_PROGRAM` (R549). -/
def State.otpProgram (s : State) (v : Nat) : Reply × State :=
  let i := v % 64
  let data := s.reg 0x0000_0030
  if bit v 8 || data = 0 then (Reply.of stRefused 0x00, s)
  else if s.sys.otpRun.isSome then (Reply.of stBusy, s)
  else if Tab.get (fun _ => 0) s.field.userOtp i != 0 then (Reply.of stRefused 0x00, s)
  else (Reply.ok, { s with sys := { s.sys with otpRun := some (i, data) } })

/-- The program is done: the word holds its value. -/
def State.otpDone (s : State) : State :=
  match s.sys.otpRun with
  | some (i, v) =>
    { s with sys := { s.sys with otpRun := none }, field := { s.field with userOtp := Tab.set (fun _ => 0) s.field.userOtp i v } }
  | none => s

/-- The effect of a guarded write of v to A by a packet. -/
def State.guardedAct (s : State) (p : Packet) (a : Nat) (v : Word) : Reply × State :=
  let n := v.toNat
  match a with
  | 0x0000_0010 => s.requestMode (n % 16) none
  | 0x0000_0018 => s.setExcEnable (bit n 0)
  | 0x0000_0020 => s.writeReset n
  | 0x0000_0028 => s.otpProgram n
  | 0x0001_0008 => s.startCommit p n (s.regN 0x0001_0004) p.forwarded
  | 0x0001_0010 => s.writeCfgRef v
  | 0x0002_0020 => if bit n 0 then s.acceptStep p.delta else (Reply.ok, s)
  | 0x000C_001C => s.pairForce n p.forwarded
  | _ => (Reply.of stBadAddr, s)

/-- The bits of a guarded register that are fields (R7, R546). -/
def gwMask (a : Nat) : Word :=
  match a with
  | 0x0000_0010 => 0xF
  | 0x0000_0018 => 1
  | 0x0000_0020 => 3
  | 0x0000_0028 => 0x13F
  | 0x0002_0020 => 1
  | 0x000C_001C => 3
  | _ => 0xFFFF_FFFF

/-- A guarded write that passed its guard. DESIGN CHOICE (log entry 148): the register reads back the fields of the last value taken; the spec
gives its reset value only. -/
def State.guardedWrite (s : State) (p : Packet) (a : Nat) (v : Word) : Reply × State :=
  let x := s.guardedAct p a v
  (x.1, if x.1.status = stOk then x.2.setReg a (v &&& gwMask a) else x.2)

/-! ## Guards (R544, R545) -/

/-- A guard fails with nothing pending at A. -/
def State.guardMiss (s : State) (port : Port) (a : Nat) : State :=
  (s.raise 0x0103 a [BitVec.ofNat 32 (portCode port)]).bump 0x0000_0040

/-- The first write of a guarded pair is held for its port. -/
def State.guardFirst (s : State) (port : Port) (a : Nat) (v : Word) : Reply × State :=
  (Reply.ok, (s.guardFail port).updPort port fun x => { x with guard := some (a, v, s.time.cyc + 256) })

/-- The second write, of v to A + 4. -/
def State.guardSecond (s : State) (p : Packet) (a : Nat) (v : Word) : Reply × State :=
  match (s.port p.port).guard with
  | some (g, gv, stop) =>
    if g = a && gv = ~~~v && s.time.cyc ≤ stop then
      (s.updPort p.port fun x => { x with guard := none }).guardedWrite p a gv
    else if g = a then (Reply.of stGuardFail, s.guardFail p.port)
    else (Reply.of stGuardFail, (s.guardFail p.port).guardMiss p.port a)
  | none => (Reply.of stGuardFail, s.guardMiss p.port a)

/-- The 256 cycles of a port's guard have run out. -/
def State.guardTimeout (s : State) (port : Port) : State :=
  match (s.port port).guard with
  | some (_, _, stop) => if stop < s.time.cyc then s.guardFail port else s
  | none => s

/-- `GWR` (R483, R544): any other write pending on the port is cancelled. -/
def State.opGwr (s : State) (p : Packet) : Reply × State :=
  let a := p.addr.toNat
  if s.absentAt a then (Reply.of stUnitAbsent (a / 65536), s) else
  let s := s.guardFail p.port
  if !isGw a || p.payload.length != 4 then (Reply.of stBadAddr, s)
  else s.guardedWrite p a p.word

/-! ## Writes -/

/-- A write that names an absent lane, pod lane or local channel (R4): `LANE_RETRAIN`, `POD_QUAR_RELEASE`, and `TA_CMD` storing an
entry. -/
def State.namesAbsent (s : State) (a v : Nat) : Option Reply :=
  if a = 0x0004_000C then ((bitList 32 v).find? (!s.lanePresent ·)).map fun l => Reply.of stUnitAbsent 0x04 0 l
  else if a = 0x0005_000C then ((bitList 24 v).find? (s.podLanes ≤ ·)).map fun p => Reply.of stUnitAbsent 0x05 0 p
  else if a = 0x0002_0218 && v % 4 = 1 then
    (s.actAbsent (s.regN (tmReg 0x210) % 16) (s.regN (tmReg 0x214))).map fun x => Reply.of stUnitAbsent x.1 0 x.2
  else none

/-- One register write of a port. A command aimed at an absent unit has no effect (R4); any other write cancels a guarded one pending. -/
def State.writeReg (s : State) (p : Packet) (a : Nat) (v : Word) (avs : AvsAnswer) : Reply × State :=
  match s.badAddr a, s.namesAbsent a v.toNat with
  | some r, _ => (r, if s.absentAt a then s else s.guardFail p.port)
  | none, some r => (r, s)
  | none, none =>
    if isGw a then s.guardFirst p.port a v
    else if isGw (a - 4) then s.guardSecond p (a - 4) v
    else (s.guardFail p.port).writePlain p.port a v avs

/-- `WR`: words from an address upward, up to the first failure (R483). A write that completes later makes the command do so. DESIGN CHOICE
(log entry 126): the rules do not say what becomes of the words before a bad or absent address (R548 does for `IXRD` and `IXWR` alone); those
writes, and the read-clears of an `RD`, stand. -/
def State.writeRegs (s : State) (p : Packet) (avs : AvsAnswer) : Nat → List Word → Bool → Reply × State
  | _, [], later => (if later then .later else Reply.ok, s)
  | a, w :: ws, later =>
    match s.writeReg p a w avs with
    | (.later, s') => s'.writeRegs p avs (a + 4) ws true
    | (.done 0 _, s') => s'.writeRegs p avs (a + 4) ws later
    | (r, s') => (if later then .later else r, s')

end Sys2Proof.Machine
end

