-- ==== Sys2Proof/Machine/Commands.lean ====
section
/-! DEFINITION. The opcodes (R483 to R488, R494): what a command does on the hub it is for, once it may be served. -/

namespace Sys2Proof.Machine

/-! ## Register opcodes -/

end Sys2Proof.Machine

namespace Sys2Proof
open Machine

/-- `COUNT` of `RD` and `IXRD`: 1 to 1,024 words. -/
def Packet.count (p : Packet) : Option Nat :=
  let n := leAt p.payload 0 4 % 2048
  if p.payload.length = 4 && 1 ≤ n && n ≤ 1024 then some n else none

/-- The words of a `WR` or `IXWR`. -/
def Packet.words (p : Packet) : Option (List Word) :=
  if p.payload.length % 4 = 0 && p.payload.length != 0 then
    some ((chunks 4 p.payload.length p.payload).map fun b => BitVec.ofNat 32 (fromLE b))
  else none

end Sys2Proof

namespace Sys2Proof.Machine

def State.opRd (s : State) (p : Packet) : Reply × State :=
  match p.count with
  | none => (Reply.of stBadAddr, s)
  | some n =>
    match s.readRegs p.port p.addr.toNat n [] with
    | (.done 0 _, ws, s) => (.done stOk (bytesOf ws), s)
    | (r, _, s) => (r, s)

def State.opWr (s : State) (p : Packet) (avs : AvsAnswer) : Reply × State :=
  match p.words with
  | none => (Reply.of stBadAddr, s)
  | some ws => s.writeRegs p avs p.addr.toNat ws false

def State.opIxrd (s : State) (p : Packet) : Reply × State :=
  match p.count with
  | none => (Reply.of stBadAddr, s)
  | some n =>
    if p.addr.toNat % 4 != 0 then (Reply.of stBadAddr, s)
    else
      match (s.setIxAddr p.port p.addr.toNat).ixReads p.port n [] with
      | (.done 0 _, ws, s) => (.done stOk (bytesOf ws), s)
      | (r, _, s) => (r, s)

/-- `IXWR` is a write of its port: it cancels a guarded write pending there (R544). -/
def State.opIxwr (s : State) (p : Packet) : Reply × State :=
  let s := s.guardFail p.port
  match p.words with
  | none => (Reply.of stBadAddr, s)
  | some ws =>
    if p.addr.toNat % 4 != 0 then (Reply.of stBadAddr, s) else (s.setIxAddr p.port p.addr.toNat).ixWrites p.port ws

/-! ## Locks, time, triggers -/

def State.opLock (s : State) (p : Packet) : Reply × State :=
  if 15 < p.addr.toNat then (Reply.of stBadAddr, s) else s.lockTake p.port p.addr.toNat
def State.opUnlock (s : State) (p : Packet) : Reply × State :=
  if 15 < p.addr.toNat then (Reply.of stBadAddr, s) else s.lockRelease p.port p.addr.toNat

/-- `TIME` (R423, R487). -/
def State.opTime (s : State) (p : Packet) : Reply × State :=
  let op := byteAt p.payload 0
  let n := p.payload.length
  if 2 < op then (Reply.of stRefused 0x02 0x000A, s)
  else if n != (if op = 0 then 4 else 20) then (Reply.of stBadAddr, s)
  else if op = 0 then (.done stOk s.timeReadBody, s)
  else if op = 1 then s.timeSet (leAt p.payload 4 12) (leAt p.payload 16 4)
  else (Reply.ok, s.timeTod (leAt p.payload 4 6))

/-- A full time of a command in 1/65,536 ns. -/
def subOfBytes (bs : List Byte) : Int := subOfFull (fromLE bs)

/-- `ARM` (R343, R356): at once, or at its apply time. -/
def State.opArm (s : State) (p : Packet) : Reply × State :=
  let set := byteAt p.payload 0
  let timed := p.pflag 2
  let t := if timed then subOfBytes (slice p.payload 4 12) else s.sub
  if p.payload.length != (if timed then 16 else 4) then (Reply.of stBadAddr, s)
  else if timed && t < s.sub then (Reply.of stLate 0x07, s)
  else if !s.acquiring then (Reply.of stBusy, s)
  else if p.pflag 1 then
    if !s.swarmMaster then (Reply.of stRefused 0x07, s)
    else
      let s := s.swarmArmOut t set
      (.done stOk (toLE 2 s.trig.swarmSeq), s)
  else (Reply.ok, s.armSet set t .host)

/-- `FIRE` (R358, R483). -/
def State.opFire (s : State) (p : Packet) : Reply × State :=
  if p.payload.length != 4 then (Reply.of stBadAddr, s)
  else if !s.acquiring then (Reply.of stBusy, s)
  else
    let body := toLE 6 s.stamp.toNat
    (.done stOk body, s.hostFire (leAt p.payload 0 2) (byteAt p.payload 2) (p.pflag 1))

/-! ## Streams (R494) -/

/-- Some packet or record of a stream is not yet released. -/
def State.streamHeld (s : State) (id : Nat) : Bool :=
  let inQ (f : Fifo) : Bool := f.q.any fun p => match p.kind with | .data st _ => st == id && !p.released | _ => false
  inQ s.host || inQ s.drip || s.hasWaiting id || s.nx.inq.any fun r => r.stream == id

def State.opStreamOpen (s : State) (p : Packet) : Reply × State :=
  let id := p.addr.toNat
  match s.route id with
  | none => (Reply.of stRefused 0x0B, s)
  | some r =>
    let st := s.stream id
    if st.st = 1 || st.closing.isSome || !st.pendingGaps.isEmpty || s.streamHeld id || s.routeChanges r || !s.acquiring then
      (Reply.of stBusy, s)
    else (Reply.ok, (s.nectarOpen id).openStream r)

/-- The compressor takes what waits of one stream and closes its block. -/
def State.flushStream (s : State) (r : Route) : State :=
  if r.nxMode = 0 then s
  else
    let s := (s.nx.inq.filter fun x => x.stream == r.id).foldl (fun (s : State) _ => s.nectarRecordIn r.id) s
    (s.closeBlock r).1

/-- Nectar takes what a stream that has stopped under a `STREAM_CLOSE` left waiting (R494). -/
def State.flushClosing (s : State) : State :=
  s.routes.foldl (fun s r => if (s.stream r.id).closing.isSome && (s.stream r.id).st != 1 then s.flushStream r else s) s

/-- `STREAM_CLOSE`: an open stream stops once its open record has closed. -/
def State.opStreamClose (s : State) (p : Packet) : Reply × State :=
  let id := p.addr.toNat
  match s.route id with
  | none => (Reply.of stRefused 0x0B, s)
  | some r =>
    let st := s.stream id
    if st.st = 1 && st.closing.isSome then (Reply.of stBusy, s)
    else if st.st = 1 then
      let s := s.updStream id fun st => { st with closing := some p }
      (.later, if st.recItems.isEmpty then s.endOpening r else s)
    else if !st.pendingGaps.isEmpty then (Reply.of stBusy, s)
    else (.done stOk (toLE 4 st.lastRseq ++ toLE 6 st.closePoint.toNat ++ [0, 0]), s)

/-- The entries of an `ACK` that were applied reach the standby (R565, R569). -/
def State.relayAck (s : State) (entries : List (Nat × Nat)) : State :=
  if s.isActive && !entries.isEmpty then s.plSend (.ack entries) else s

/-- The outbound FIFO a port's packets leave by is rewound (R494, R499): the host's, also for relayed commands, or the drip's. -/
def State.portRewind (s : State) (p : Port) : State :=
  if p = .drip then s.rewindDrip else if p = .host || p = .relay then s.rewindHost else s

/-- `ACK`: entries in order, then a rewind of the port that received it where `REWIND` is set. -/
def State.opAck (s : State) (p : Packet) : Reply × State :=
  let n := p.payload.length
  if n = 0 || n % 8 != 0 then (Reply.of stBadAddr, s)
  else
    let es := chunks 8 n p.payload
    let x := s.ackAll (fun id => (s.route id).isSome) es
    let s := x.1.relayAck x.2
    let s := if p.pflag 1 then s.portRewind p.port else s
    (.done stOk (toLE 4 x.2.length), s)

/-! ## Unit resets (R488) -/

/-- A port is reset: its commands in flight are discarded, its locks released, its outbound FIFO rewound (R488, R552). -/
def State.portReset (s : State) (port : Port) : State :=
  let s := s.updPort port fun x => { x with inflight := [], guard := none }
  let mute (f : Forward) : Forward := if f.pkt.port == port then { f with answers := false } else f
  let inbound := s.ports.inbound.filter fun p => p.port != port
  let s := { s with ports := { s.ports with inbound := inbound } }
  let s := s.updPair fun p => { p with queue := p.queue.map mute }
  (s.releaseLocks port).portRewind port

def State.opUnitReset (s : State) (p : Packet) : Reply × State :=
  let a := p.addr.toNat
  match p.unitNo.toNat with
  | 0x04 =>
    if !s.lanePresent a then (Reply.of stUnitAbsent 0x04 0 a, s) else (Reply.ok, s.retrain (2 ^ a))
  | 0x05 =>
    if s.podLanes ≤ a then (Reply.of stUnitAbsent 0x05 0 a, s) else (Reply.ok, s.drainLane a (s.firstUnexpired a) 1)
  | 0x07 =>
    if 8 ≤ a then (Reply.of stUnitAbsent 0x07 0 a, s) else (Reply.ok, s.disarm a)
  | 0x0B =>
    let s := s.portReset p.port
    (Reply.ok, s.updPort p.port fun x => { x with inflight := [(p.hub.toNat, p.tag.toNat)] })
  | _ => (Reply.of stRefused 0x0B, s)

/-! ## All of them -/

/-- What a command does and answers. `avs` is what the regulator answers to a request a register write brings about. -/
def State.applyPacket (s : State) (p : Packet) (avs : AvsAnswer) : Reply × State :=
  match p.opcode.toNat with
  | 0x01 => s.opRd p
  | 0x02 => s.opWr p avs
  | 0x03 => s.opIxrd p
  | 0x04 => s.opIxwr p
  | 0x05 => s.opGwr p
  | 0x10 => s.opRdb p
  | 0x11 => s.opWrb p
  | 0x20 => s.opImg p p.forwarded
  | 0x21 => s.opCommit p p.forwarded
  | 0x28 => s.opLock p
  | 0x29 => s.opUnlock p
  | 0x30 => s.opSpot p
  | 0x31 => s.opCal p
  | 0x32 => s.opArm p
  | 0x33 => s.opFire p
  | 0x38 => s.opTime p
  | 0x40 => s.opLease p
  | 0x48 => s.opStreamOpen p
  | 0x49 => s.opStreamClose p
  | 0x4A => s.opAck p
  | 0x50 => s.opUnitReset p
  | _ => (Reply.of stBadOpcode, s)

end Sys2Proof.Machine
end

