-- ==== Sys2Proof/Machine/HostPort.lean ====
section
/-! DEFINITION. The ports (R473 to R516): commands received in order, routed, forwarded in a pair (R569 to R572, R590) and served;
packets sent; the relay to and from hubs without a host (R438, R439); the drip, I²C and debug ports; and the flash boot. -/

namespace Sys2Proof.Machine

/-! ## What is served when (R513, R562, R572) -/

/-- The opcodes a host may send (R483). Any other completes with `BAD_OPCODE` (R484) in every mode. -/
def hostOpcodes : List Nat :=
  [0x01, 0x02, 0x03, 0x04, 0x05, 0x10, 0x11, 0x20, 0x21, 0x28, 0x29, 0x30, 0x31, 0x32, 0x33, 0x38, 0x40, 0x48, 0x49, 0x4A, 0x50]

/-- The opcodes R513 serves in a mode of reduced service. DEDUCED (log entry 55): an unlisted opcode is answered as such, not with
`BUSY`. -/
def State.serves (s : State) (p : Packet) : Bool :=
  let op := p.opcode.toNat
  let timeOp := byteAt p.payload 0
  let load := [0x01, 0x02, 0x03, 0x04, 0x05, 0x20, 0x21, 0x28, 0x29, 0x4A].contains op || (op == 0x10 && inStaging p.addr.toNat 1)
    || (op == 0x38 && timeOp != 2) || (op == 0x50 && p.unitNo == 0x0B)
  let localStream := (s.route p.addr.toNat).any fun r => !r.chans.isEmpty && r.chans.all (768 ≤ ·)
  !hostOpcodes.contains op || match s.sys.mode with
  | .load => load
  | .train => load || op == 0x30 || op == 0x31 || ((op == 0x48 || op == 0x49) && localStream)
  | .coast => [0x01, 0x02, 0x03, 0x04, 0x05, 0x28, 0x29].contains op || (op == 0x38 && timeOp == 0)
  | _ => true

end Sys2Proof.Machine

namespace Sys2Proof
open Machine

/-- State-changing commands (R569). -/
def Packet.changesState (p : Packet) : Bool :=
  let op := p.opcode.toNat
  [0x02, 0x04, 0x05, 0x11, 0x20, 0x21, 0x30, 0x31, 0x32, 0x33, 0x48, 0x49].contains op
    || (op == 0x38 && byteAt p.payload 0 != 0) || (op == 0x50 && p.unitNo != 0x0B)

/-- A write wholly within the `PAIR` block (R572). -/
def Packet.writesPair (p : Packet) : Bool :=
  let a := p.addr.toNat
  (p.opcode == 0x02 && a / 65536 == 0xC && (a + p.payload.length - 4) / 65536 == 0xC) || (p.opcode == 0x05 && a / 65536 == 0xC)

end Sys2Proof

namespace Sys2Proof.Machine

/-! ## Serving -/

/-- A reply goes out, unless it comes later. -/
def State.answer (s : State) (p : Packet) : Reply → State
  | .done st body => s.complete p st body
  | .later => s

/-- A command applied, and answered. -/
def State.applyNow (s : State) (p : Packet) (avs : AvsAnswer) : State :=
  let x := s.applyPacket p avs
  x.2.answer p x.1

/-- The standby is joined: commands are forwarded to it from B on (R567). -/
def State.forwards (s : State) : Bool := s.isActive && s.linkUp && s.pair.joinAt.any fun b => b ≤ s.ns

/-- A command is forwarded with its apply tick (R569), a write to `TIME_ACCEPT` with the active's Δ (R417): a `GWR` of it, or a `WR` that
takes in its complement word. -/
def State.forward (s : State) (p : Packet) (tick : Nat) (answers : Bool) : State :=
  let f := nextFseq s.pair.fwdNext
  let a := p.addr.toNat
  let accept := (p.opcode == 0x05 && a == 0x0002_0020)
    || (p.opcode == 0x02 && a ≤ 0x0002_0024 && 0x0002_0024 < a + p.payload.length)
  let p := { p with delta := if accept then s.time.stepPend.map fun x => s.offsetOf x.1 else none }
  let e : Forward := { fseq := f, tick := tick, pkt := p, timed := false, answers := answers }
  (s.updPair fun x => { x with fwdNext := f, queue := x.queue ++ [e] }).plSend (.fwd f tick p)

end Sys2Proof.Machine

namespace Sys2Proof
open Machine

/-- The apply time of a command sent with `APPLY`: its last 12 payload bytes, in the counter's units. -/
def Packet.applyTime (p : Packet) : Nat := ofFullTime (leAt p.payload (p.payload.length - 12) 12)
/-- The command without it. -/
def Packet.stripped (p : Packet) : Packet :=
  { p with pflags := p.pflags &&& 0xB, payload := p.payload.take (p.payload.length - 12) }

end Sys2Proof

namespace Sys2Proof.Machine

/-- The first tick not earlier than a time. -/
def tickFrom (u : Nat) : Nat := ceilDiv u (1250 * unitsPerNs)

/-- A command with an apply time (R590): late when that is not far enough ahead, else kept for it. -/
def State.serveAt (s : State) (p : Packet) : State :=
  let lead := if s.pair.role = 0 then 0 else s.pairLat * 1250 * unitsPerNs
  if p.payload.length < 12 then s.complete p stBadAddr
  else if p.applyTime < s.time.now + lead then s.answer p (Reply.of stLate 0x0B)
  else if s.forwards then s.forward p.stripped (tickFrom p.applyTime) true
  else
    let e : Forward := { fseq := 0, tick := tickFrom p.applyTime, pkt := p.stripped, timed := true, answers := true }
    s.updPair fun x => { x with queue := x.queue ++ [e] }

/-- Whether a command's apply time is the pair's or the queue's concern: `ARM` carries its own arm time. -/
def State.takesApply (s : State) (p : Packet) : Bool := p.pflag 2 && p.changesState && !(p.opcode == 0x32 && !s.pair.blind)

/-- A command for this hub that is next on its port. -/
def State.serve (s : State) (p : Packet) (avs : AvsAnswer) : State :=
  if !s.serves p then s.complete p stBusy
  else if s.isStandby && p.changesState && !p.writesPair then
    if s.pair.blind && p.pflag 2 then s.serveAt p else s.complete p stNotActive
  else if s.takesApply p && !s.isStandby then s.serveAt p
  else if s.forwards && p.changesState then s.forward p (s.tickAfter (s.pairLat * 1250)) true
  else s.applyNow p avs

/-! ## Receiving (R476, R477, R480, R481, R500, R503) -/

end Sys2Proof.Machine

namespace Sys2Proof
open Machine

/-- A command's bytes as it travels on (R438). -/
def Packet.bytes (p : Packet) : List Byte :=
  ({ kind := .through, opcode := p.opcode.toNat, pflags := p.pflags.toNat, tag := p.tag.toNat, unitNo := p.unitNo.toNat,
     addr := p.addr.toNat, hub := p.hub.toNat, payload := p.payload } : OutPkt).bytes p.lseq.toNat

end Sys2Proof

namespace Sys2Proof.Machine

/-- The command is for another hub. -/
def State.elsewhere (s : State) (p : Packet) : Bool := p.hub != 0xFF && p.hub.toNat != s.hubId

/-- A command of the port awaits its apply tick, so that later ones of the port wait (R569). -/
def State.portWaits (s : State) (port : Port) : Bool := s.pair.queue.any fun f => f.pkt.port == port && f.answers && !f.timed

/-- The FIFO that completes a port's commands has a full reserve (R500). -/
def State.portFull (s : State) (port : Port) : Bool :=
  if port = .drip then s.drip.reserveFull dripWords else (port = .host || port = .relay) && s.host.reserveFull hostWords

/-- A command of the inbound FIFO may start: none of its port awaits its apply tick, and there is room for its completion. An `ACK` needs no
room (R500). -/
def State.mayStart (s : State) (p : Packet) : Bool := !s.portWaits p.port && (!s.portFull p.port || p.opcode == 0x4A)

/-- The command waits in the inbound FIFO: it may not start, or one before it on its port waits. DEDUCED (log entry 158): an `ACK` is applied
ahead of commands of its port that wait for room alone. -/
def State.mustWait (s : State) (p : Packet) : Bool :=
  !s.mayStart p || (!s.portFull p.port && s.ports.inbound.any fun q => q.port == p.port)

/-- A command starts: to the hub it names, or served here. -/
def State.start (s : State) (p : Packet) (avs : AvsAnswer) : State :=
  if s.elsewhere p then
    if s.gwDir = 0 then s.relayBytes (s.towards p.hub.toNat) p.hub.toNat p.bytes else s.answer p (Reply.of stRefused 0x0B)
  else s.serve p avs

/-- A command taken in its port's order (R480): a tag in flight is not used twice. -/
def State.accept (s : State) (p : Packet) (avs : AvsAnswer) : State :=
  if s.inFlight p then s.bump 0x000B_0044
  else
    let s := s.updPort p.port fun x => { x with inflight := x.inflight ++ [(p.hub.toNat, p.tag.toNat)] }
    if s.mustWait p then { s with ports := { s.ports with inbound := s.ports.inbound ++ [p] } } else s.start p avs

/-- Commands waiting in the inbound FIFO start as they can, in order; `n` bounds them. -/
def State.drainInbound (avs : AvsAnswer) : Nat → State → State
  | 0, s => s
  | n + 1, s =>
    match s.ports.inbound.find? s.mayStart with
    | some p =>
      let s := { s with ports := { s.ports with inbound := s.ports.inbound.erase p } }
      State.drainInbound avs n (s.start p avs)
    | none => s
def State.serveInbound (s : State) : State :=
  if s.ports.inbound.isEmpty then s
  else
    let (avs, s) := s.fresh Config.avsAnswer
    State.drainInbound avs s.ports.inbound.length s

/-- Packets held ahead of a gap are taken once their numbers come. -/
def State.takeHeld (avs : AvsAnswer) : Nat → State → State
  | 0, s => s
  | n + 1, s =>
    match s.ports.held.find? fun p => p.lseq.toNat == s.ports.expect with
    | some p =>
      let s := { s with ports := { s.ports with held := s.ports.held.erase p, expect := (s.ports.expect + 1) % 65536 } }
      State.takeHeld avs n (s.accept p avs)
    | none => { s with ports := { s.ports with gapFrom := s.time.cyc } }

/-- The host port's packets in the order of `LSEQ` (R476). -/
def State.inOrder (s : State) (p : Packet) (avs : AvsAnswer) : State :=
  let d := (p.lseq.toNat + 65536 - s.ports.expect) % 65536
  if d = 0 then
    let s := { s with ports := { s.ports with expect := (s.ports.expect + 1) % 65536 } }
    State.takeHeld avs s.ports.held.length (s.accept p avs)
  else if d ≤ 32767 then
    { s with ports := { s.ports with
        held := s.ports.held ++ [p], gapFrom := if s.ports.held.isEmpty then s.time.cyc else s.ports.gapFrom } }
  else s.bump 0x000B_0040

/-- A command packet reaches a port. A standby drops what comes over its host lanes and the drip (R562); the inbound FIFO holds
64 KiB (R503). -/
def State.receive (p : Packet) (s : State) (avs : AvsAnswer) : State :=
  if s.sys.mode = .hold then s
  else if s.isStandby && (p.port = .host || p.port = .drip) then s.bump 0x000C_004C
  else if p.port != .i2c && 65536 < s.inboundFill + 20 + p.payload.length then s.bump 0x000B_0048
  else if p.port = .host then s.inOrder p avs
  else if p.port = .own || p.port = .debug then s
  else s.accept p avs

/-- The same, with the regulator's answer left open. -/
def State.take (p : Packet) (s : State) : State :=
  let (avs, s) := s.fresh Config.avsAnswer
  s.receive p avs

/-- A header fails its `HCRC`, or its `LEN` is too long. -/
def State.headerBad (s : State) (port : Port) : State :=
  if s.sys.mode = .hold then s else if port = .drip then s.bump 0x000B_0094 else s.bump 0x000B_0038

/-- A trailer fails: a tagged command completes with `CRC_BAD` without effect. -/
def State.trailerBad (s : State) (p : Packet) : State :=
  if s.sys.mode = .hold then s
  else if p.port = .drip then s.bump 0x000B_0094
  else
    let s := s.bump 0x000B_003C
    if s.isStandby && p.port = .host then s
    else
      let s := if p.port = .host && p.lseq.toNat = s.ports.expect then
          { s with ports := { s.ports with expect := (s.ports.expect + 1) % 65536 } } else s
      if s.inFlight p then s
      else (s.updPort p.port fun x => { x with inflight := x.inflight ++ [(p.hub.toNat, p.tag.toNat)] }).complete p stCrcBad

/-- 50 µs have passed for a missing number: the receiver goes on from the next one it holds. -/
def State.linkSkip (s : State) (lane received : Nat) : State :=
  let dist (n : Nat) : Nat := (n + 65536 - s.ports.expect) % 65536
  match (s.ports.held.map fun p => dist p.lseq.toNat).min? with
  | none => s
  | some d =>
    if s.time.cyc < s.ports.gapFrom + 50 * cycPerUs then s else
    let missing := s.ports.expect
    let s := { s with ports := { s.ports with expect := (missing + d) % 65536 } }
    let s := (s.bump 0x000B_0040).raise 0x0B04 lane [BitVec.ofNat 32 (missing + received % 65536 * 65536)]
    let (avs, s) := s.fresh Config.avsAnswer
    State.takeHeld avs s.ports.held.length s

/-! ## Forwarded and timed commands (R569 to R571, R590) -/

/-- `PL_FWD` arrives at the standby. -/
def State.plFwd (s : State) (n fseq tick : Nat) (p : Packet) : State :=
  s.plTake n fun s =>
    if !s.isStandby then s
    else
      let bad := fseq != nextFseq s.pair.fwdNext || tickTime tick < s.time.now
      let s := if bad then s.goStale else s
      let e : Forward := { fseq := fseq, tick := tick, pkt := { p with lane := 30 }, timed := false, answers := false }
      s.updPair fun x => { x with fwdNext := fseq, queue := x.queue ++ [e] }

/-- A command taken from the queue applies. -/
def State.applyForward (s : State) (f : Forward) : State :=
  let s := if f.timed && s.pair.role = 0 then s else s.countForward f
  let (avs, s) := s.fresh Config.avsAnswer
  if f.answers then s.applyNow f.pkt avs else (s.applyPacket { f.pkt with lane := 30 } avs).2

/-- The first forwarded command whose apply tick has come. -/
def State.forwardApply (s : State) : State :=
  match s.pair.queue.find? fun f => !f.timed && tickTime f.tick ≤ s.time.now with
  | some f => (s.updPair fun x => { x with queue := x.queue.erase f }).applyForward f
  | none => s

/-- The first command whose apply time has come. -/
def State.timedApply (s : State) : State :=
  match s.pair.queue.find? fun f => f.timed && tickTime f.tick ≤ s.time.now with
  | some f =>
    let n := nextFseq s.pair.fseq
    let s := s.updPair fun x => { x with queue := x.queue.erase f, fwdNext := if x.role = 0 then x.fwdNext else n }
    s.applyForward { f with fseq := n }
  | none => s

/-- A step the upstream announced is forwarded as if `TIME_ACCEPT` had been written (R416, R417). -/
def State.followForward (s : State) : State :=
  if !s.isActive then s
  else match s.followDue with
    | some i =>
      let s := s.updTport i fun x => { x with farNew := none }
      if s.forwards then
        s.forward { opcode := 0x05, addr := 0x0002_0020, payload := toLE 4 1 } (s.tickAfter (s.pairLat * 1250)) false
      else (s.acceptStep none).2
    | none => s

/-! ## Sending (R474, R498 to R502, R507) -/

/-- The host port may send now: it is live, has a lane or a gateway, and the host has not set `STOP`. -/
def State.hostSends (s : State) : Bool :=
  let open' := s.pair.role == 0 || (s.isActive && s.pair.live)
  open' && (s.gwDir != 0 || (!s.ports.hostStop && (s.laneActive 28 || s.laneActive 29)))

/-- The payloads of the blocks that carry a packet on a host lane (R474, R475): it starts at the first multiple of 4 of the lane's byte
stream that lies in a new block, at the block's data byte `start`; zero bytes fill what lies around it. DESIGN CHOICE (log entry 130): each
packet begins a new block. -/
def hostBlocks (stop : Bool) (start : Nat) (bs : List Byte) : List (List Byte) :=
  let data := List.replicate start 0 ++ bs
  let cs := chunks 122 data.length data
  (cs.zip (List.range cs.length)).map fun c =>
    toLE 1 ((if c.2 = 0 then start else 0x7F) + 128 * bnat stop) ++ [0] ++ c.1 ++ List.replicate (122 - c.1.length) 0

/-- A packet leaves on a host lane, in blocks that show whether `CMD_STOP` is set (R474, R503). -/
def State.sendBlocks (s : State) (lane : Nat) (bs : List Byte) : State :=
  if s.returns lane then s.send lane bs else
  let blocks := hostBlocks s.ports.cmdStop (122 * (s.lane lane).blocks % 4) bs
  (blocks.foldl (fun (s : State) b => s.send lane b) s).updLane lane fun l => { l with blocks := l.blocks + blocks.length }

/-- Whether a packet's fragments can go: some lane of their direction is in `ACTIVE`, and each such lane's `TRUNK_BUF` has room for them. A
packet without room waits in the FIFO: nothing is dropped at the origin (R440). -/
def State.relayRoom (s : State) (down : Bool) (bs : List Byte) : Bool :=
  let n := bs.length + 9 * ceilDiv bs.length 115
  s.dirUp down && (if down then [26, 27] else [24, 25]).all fun l =>
    !s.laneActive l || s.relayFill l + n ≤ s.regionSize 0x07 (l - 24)

/-- The next packet of the host FIFO goes out, on a lane or as fragments to the gateway. Either lane may carry it (R476). DESIGN CHOICE
(log entry 130): `H0` does where it is in `ACTIVE`. -/
def State.sendHost (s : State) : State :=
  match s.host.q[s.host.nextIdx]? with
  | some p =>
    if !s.hostSends then s
    else
      let bs := p.bytes s.host.seq
      let s := if s.gwDir = 0 then s else s.runLanes s.time.cyc
      if s.gwDir = 0 then
        let s := s.sendBlocks (if s.laneActive 28 then 28 else 29) bs
        { s with host := s.host.sendOne }
      else if !s.relayRoom (s.gwDir == 2) bs then s
      else
        let s := s.relayBytes (s.gwDir == 2) Config.gatewayHub bs
        -- the time since which data has been held starts anew where none was held (R439)
        let s := match p.kind with
          | .data _ _ => s.updTime fun t => { t with relayHeld := (if s.host.unreleased then t.relayHeld else none) <|> some t.cyc }
          | _ => s
        { s with host := s.host.sendOne }
  | none => s

/-- The drip port may send: it is on, this hub drives it, and `CTS_N` is low where flow control is in use. -/
def State.dripSends (s : State) : Bool :=
  let cfg := s.regN 0x000B_0080
  bit cfg 0 && (s.pair.role == 0 || (s.isActive && s.pair.live)) && (!bit cfg 1 || s.ports.ctsLow)

/-- The bytes between two flags, escaped (R506). -/
def escape (bs : List Byte) : List Byte :=
  bs.flatMap fun b => if b = 0x7E || b = 0x7D then [0x7D, b ^^^ 0x20] else [b]

/-- The drip frame of a packet: its CRC-16 behind it, between flags (R506). -/
def dripBytes (bs : List Byte) : List Byte := 0x7E :: escape (bs ++ toLE 2 (crc16 bs).toNat) ++ [0x7E]

def State.sendDrip (s : State) : State :=
  match s.drip.q[s.drip.nextIdx]? with
  | some p =>
    if !s.dripSends then s
    else
      let s := { s with wire := s.wire ++ [({ lane := 32, bytes := dripBytes (p.bytes s.drip.seq) } : Sent)] }
      let held := match p.kind with | .data _ _ => (if s.drip.unreleased then s.ports.dripHeld else none) <|> some s.time.cyc | _ => s.ports.dripHeld
      { s with drip := s.drip.sendOne, ports := { s.ports with dripHeld := held } }
  | none => s

def State.packetSent (s : State) (port : Port) : State :=
  match port with
  | .host => s.sendHost
  | .relay => s.sendHost
  | .drip => s.sendDrip
  | _ => s

/-- The retry time of the drip passes with unreleased data and no release (R508). -/
def State.dripRetry (s : State) : State :=
  match s.ports.dripHeld with
  | some c =>
    if !s.drip.unreleased then { s with ports := { s.ports with dripHeld := none } }
    else if c + orDefault (bits (s.regN 0x000B_0080) 8 8) 30 * cycPerS ≤ s.time.cyc then
      ({ s with ports := { s.ports with dripHeld := some s.time.cyc } } : State).rewindDrip
    else s
  | none => s

/-- Relayed data has been held for 1 s without an advance (R439). -/
def State.relayRetry (s : State) : State :=
  match s.time.relayHeld with
  | some c =>
    if !s.host.unreleased then s.updTime fun t => { t with relayHeld := none }
    else if c + cycPerS ≤ s.time.cyc then (s.updTime fun t => { t with relayHeld := some t.cyc }).rewindHost
    else s
  | none => s

/-! ## The relay's arrivals (R438, R439) -/

/-- A packet from its bytes, where its header, length and trailer hold (R477, R478). -/
def packetOf (port : Port) (bs : List Byte) : Option Packet :=
  let n := leAt bs 6 2
  let h := bs.take 12 ++ slice bs 14 2
  if bs.length = 20 + n && n ≤ 4096 && (crc16 h).toNat = leAt bs 12 2
      && (crc32c (bs.take (16 + n))).toNat = leAt bs (16 + n) 4 then
    some { port := port, opcode := BitVec.ofNat 8 (byteAt bs 3), pflags := BitVec.ofNat 4 (byteAt bs 2 / 16)
           tag := BitVec.ofNat 12 (leAt bs 1 2 % 4096), unitNo := BitVec.ofNat 8 (byteAt bs 0)
           lseq := BitVec.ofNat 16 (leAt bs 4 2), addr := BitVec.ofNat 32 (leAt bs 8 4), hub := BitVec.ofNat 8 (byteAt bs 14)
           payload := slice bs 16 n }
  else none

/-- A packet of another hub that the gateway places on its host port unchanged. -/
def throughPkt (bs : List Byte) : OutPkt :=
  { kind := .through, opcode := byteAt bs 3, pflags := byteAt bs 2 / 16, tag := leAt bs 1 2 % 4096, unitNo := byteAt bs 0
    addr := leAt bs 8 4, status := byteAt bs 15, hub := byteAt bs 14, payload := slice bs 16 (leAt bs 6 2) }

/-- The port of a gateway that waits for a hub's completion of a tag (R480). -/
def State.waitingPort (s : State) (hub tag : Nat) : Option Port :=
  [Port.host, .drip, .i2c].find? fun p => (s.port p).inflight.contains (hub, tag)

/-- A packet relayed to the gateway: a completion goes back on the port its command came on, the rest on the host port. -/
def State.throughIn (s : State) (bs : List Byte) : State :=
  let c := throughPkt bs
  if c.pflags % 2 = 1 then
    match s.waitingPort c.hub c.tag with
    | none => s.putHost c
    | some port =>
      let s := s.updPort port fun x => { x with inflight := x.inflight.filter fun k => !(k == (c.hub, c.tag)) }
      match port with
      | .drip => { s with drip := { s.drip with owed := s.drip.owed ++ [c] } }
      | .i2c => { s with ports := { s.ports with response := c.bytes (s.port .i2c).outSeq, rspValid := true } }
      | _ => s.putHost c
  else s.putHost c

/-- A whole packet for this hub has been reassembled. -/
def State.relayPacket (s : State) (bs : List Byte) : State :=
  if s.gwDir = 0 then s.throughIn bs
  else match packetOf .relay bs with
    | some p => State.take p s
    | none => s.bump 0x000B_0038

/-- A fragment for this hub. -/
def State.relayMine (s : State) (src flags pseq : Nat) (data : List Byte) : State :=
  if bit flags 2 then s.rewindHost
  else
    let (r, done, lost) := (Tab.get (fun _ => ({} : Reasm)) s.time.reasm src).step flags pseq data
    let s := s.updTime fun t => { t with reasm := Tab.set (fun _ => {}) t.reasm src r }
    let s := match lost with | some q => s.relayNak src q | none => s
    match done with | some bs => s.relayPacket bs | none => s

/-- `RELAY` arrives (R438): for this hub, or to be passed on; a standby sends none (R562). -/
def State.relayIn (s : State) (lane : Nat) (m : List Byte) : State :=
  s.trunkOnly lane m fun s =>
    if !s.fromNeighbour lane || s.isStandby then s
    else
      let dst := byteAt m 1
      if dst = s.hubId then s.relayMine (byteAt m 2) (byteAt m 3) (leAt m 5 2) (slice m 7 (byteAt m 4))
      else s.sendFragment (lane < 26) 5 m

/-! ## Swarm fires (R358, R435, R573) -/

/-- `FIRE` of the swarm arrives. In a pair the active marks its latency and armed mask, and the standby waits for that. -/
def State.swarmFireIn (s : State) (lane : Nat) (m : List Byte) : State :=
  s.trunkOnly lane m fun s =>
    let origin := byteAt m 1
    let fid := leAt m 2 2
    let t := s.extend (leAt m 4 6)
    let set := byteAt m 10
    if s.wasSeen 2 origin fid then s.bump trigDup
    else
      let s := ((s.noteSeen 2 origin fid).relaySwarm lane m).bump 0x0007_0018
      if !s.swarmEn then s
      else if s.isStandby then
        match s.pair.swarmMarks.find? fun k => k.1 == origin && k.2.1 == fid with
        | some k =>
          (s.updPair fun p => { p with swarmMarks := p.swarmMarks.erase k }).swarmApply origin t set (some (k.2.2.1, k.2.2.2))
        | none => s.updPair fun p => { p with swarmWait := p.swarmWait ++ [(origin, fid, t, set, s.time.cyc)] }
      else
        let lat := ((s.sub - t) / 65536).toNat
        let s := if s.isActive then s.plSend (.mark (.swarm origin fid lat s.trig.armedMask)) else s
        s.deliverSwarm origin t set none

/-! ## Drip (R505 to R509) -/

/-- Bytes between two flags, without their escapes. -/
def unescape : List Byte → List Byte
  | [] => []
  | 0x7D :: b :: rest => (b ^^^ 0x20) :: unescape rest
  | b :: rest => b :: unescape rest

/-- A drip frame arrives. -/
def State.dripFrame (s : State) (stopOk : Bool) (bs : List Byte) : State :=
  if s.sys.mode = .hold || !bit (s.regN 0x000B_0080) 0 then s
  else if !stopOk then s.bump 0x000B_0090
  else
    let raw := unescape bs
    let n := raw.length - 2
    if raw.length < 2 || (crc16 (raw.take n)).toNat != leAt raw n 2 then s.bump 0x000B_0094
    else match packetOf .drip (raw.take n) with
      | some p => State.take p s
      | none => s.bump 0x000B_0094

/-! ## I²C (R510 to R512) -/

/-- The STOP that ends a write of the command area. Nothing written while `CMD_FREE` is 0 is acknowledged. -/
def State.i2cCommand (s : State) (bs : List Byte) : State :=
  if s.sys.mode = .hold || !s.ports.cmdFree then s
  else if bs.length != 20 + leAt bs 6 2 then s.bump 0x000B_0038
  else match packetOf .i2c bs with
    | some p => State.take p { s with ports := { s.ports with cmdFree := false } }
    | none =>
      let n := leAt bs 6 2
      if 4096 < n || (crc16 (bs.take 12 ++ slice bs 14 2)).toNat != leAt bs 12 2 then s.bump 0x000B_0038
      else
        -- a good header with a bad trailer (R477)
        let p : Packet := { port := .i2c, opcode := BitVec.ofNat 8 (byteAt bs 3), tag := BitVec.ofNat 12 (leAt bs 1 2 % 4096)
                            unitNo := BitVec.ofNat 8 (byteAt bs 0), addr := BitVec.ofNat 32 (leAt bs 8 4)
                            hub := BitVec.ofNat 8 (byteAt bs 14) }
        ({ s with ports := { s.ports with cmdFree := false } } : State).trailerBad p

def State.i2cResponseRead (s : State) : State :=
  if s.ports.rspValid then { s with ports := { s.ports with rspValid := false, cmdFree := true, response := [] } } else s
def State.i2cEventRead (s : State) : State := { s with ports := { s.ports with i2cQueue := s.ports.i2cQueue.tail } }

/-- `SCL` low for 25 ms: the port is reset. DEDUCED (log entry 131): a transaction that has begun ends there, before its STOP. -/
def State.i2cReset (s : State) : State :=
  let s := (s.portReset .i2c).bump 0x000B_00C4
  { s with ports := { s.ports with cmdFree := true, rspValid := false, response := [] } }

/-! ## Debug (R516) -/

/-- The debug port's accesses carry no packet. -/
def debugPkt : Packet := { port := .debug }

/-- A read through `DAP_REG`, with or without `RDCLR`. -/
def State.dapRead (s : State) (a : Word) (clear : Bool) : State :=
  if s.sys.mode = .hold then { s with ports := { s.ports with dapStatus := stBusy, dapData := 0 } } else
  let x := s.readReg .debug a.toNat clear
  { x.2.2 with ports := { x.2.2.ports with dapStatus := x.1.status, dapData := x.2.1 } }

/-- A write through `DAP_REG`. On a standby it is a state-changing command (R572); on the active it is forwarded. -/
def State.dapWrite (s : State) (a v : Word) : State :=
  let p : Packet := { debugPkt with opcode := 0x02, addr := a, payload := toLE 4 v.toNat }
  let (avs, s) := s.fresh Config.avsAnswer
  let s := { s with ports := { s.ports with dapStatus := stOk, dapData := 0 } }
  if s.sys.mode = .hold then
    { s with ports := { s.ports with dapStatus := stBusy } }
  else s.serve p avs

/-- `TRST_N`, or Test-Logic-Reset. -/
def State.tapReset (s : State) : State :=
  let s := s.portReset .debug
  { s with ports := { s.ports with ir := 0xFE } }

/-- The instruction register is updated. -/
def State.setIr (s : State) (ir : Byte) (boundary : List Bool) : State :=
  { s with ports := { s.ports with ir := ir, boundary := if ir = 0x00 || ir = 0x02 then boundary else s.ports.boundary } }

/-! ## Leaving HOLD, and the flash boot (R401, R375, R514, R515, R634) -/

/-- The boot header of the flash. -/
def bootHeaderOk (h : List Byte) : Bool :=
  h.length == 32 && leAt h 0 4 == 0x4259_464C && byteAt h 4 == 1 && byteAt h 5 < 2 && leAt h 6 2 == 0 && leAt h 24 4 == 0
    && (crc32c (h.take 28)).toNat == leAt h 28 4

/-- A copy has failed, with a refusal body: the other is tried, or the boot has failed. -/
def State.bootNext (s : State) (body : List Byte) (hasB : Bool) : State :=
  let copy := s.ports.bootCopy
  let s := s.raise 0x0B05 copy [BitVec.ofNat 32 (leAt body 0 4), BitVec.ofNat 32 (leAt body 4 4)]
  if copy = 1 && hasB then { s with ports := { s.ports with bootCopy := 2 } }
  else { s with ports := { s.ports with bootRunning := false, bootFailed := true, bootCopy := 0 } }

/-- A copy of the flash has been read into staging, with the header before it: the hub commits it as its own port. -/
def State.flashRead (s : State) (header image : List Byte) : State :=
  if !s.ports.bootRunning then s
  else if !bootHeaderOk header then s.bootNext (Refuse.body { status := stRefused, runit := 0x0B }) true
  else
    let hasB := leAt header 20 4 != 0
    let image := image.take (leAt header (if s.ports.bootCopy = 2 then 20 else 12) 4)
    let s := s.hiveWrite 5 stagingBase image
    let p : Packet := { port := .own }
    let x := s.startCommit p image.length 0 false
    match x.1 with
    | .done 0 _ => x.2
    | .done _ body => x.2.bootNext body hasB
    | .later => x.2

/-- The hub leaves HOLD (R634), by way of its reset's end and the lock of the PLL. -/
def State.holdExit (s : State) (avs : AvsAnswer) : State :=
  if s.sys.mode != .hold || !s.sys.rstHigh || !s.clk.lock || s.time.cyc < s.sys.holdUntil then s
  else
    let boot := s.sys.bootStrap.toNat
    let s := s.updTime fun t => { t with running := true, now := 0, y := 0, yLocked := 0, state := 0 }
    let s := s.setMode .load
    -- DEDUCED from R135 and R491 (log entry 95): the check ran in HOLD, and the stream its event belongs to opens here.
    let s := if s.field.otpChecked && !s.field.otpOk then s.raise 0x1005 0 else s
    let s := { s with hive := { s.hive with mem := [], errs := [], initDone := false, initAt := s.time.cyc } }
    let s := [28, 29].foldl (fun s l => if s.strapLane l then s.setEnable l true else s) s
    let s := { s with ports := { s.ports with
      lanes := if boot = 0 then 2 else if boot = 1 then 1 else 0
      bootRunning := boot == 3, bootCopy := if boot = 3 then 1 else 0 } }
    if bit (s.regN 0x0003_0040) 0 then s.avsRequest (bits (s.regN 0x0003_0048) 16 10) avs else s

/-- Hive clearing is complete (R375): 131,072 cycles after HOLD. Scrubbing begins. -/
def State.hiveInitDone (s : State) : State :=
  if s.sys.mode = .hold || s.hive.initDone || s.time.cyc < s.hive.initAt + 131_072 then s
  else ({ s with hive := { s.hive with initDone := true } } : State).scrubStart.followStop

end Sys2Proof.Machine
end

