-- ==== Sys2Proof/Machine/Arrivals.lean ====
section
/-! DEFINITION. Arrivals, timers and pins with little of their own: a pod's capability block and echoes (R149, R157), resend and
command timers (R160, R164), unknown messages (R142, R433), records that wait for space (R37, R491, R493), engines' arm times
and closings (R343, R348, R351), always-on feeds (R662); and what every command ends with. -/

namespace Sys2Proof
open Machine

/-! ## Commands of one register or one operation -/

/-- The packet as a write of one word to a register. -/
def Packet.writing (p : Packet) (a v : Nat) : Packet := { p.asWrite a with payload := toLE 4 v }

/-- The packet as a guarded write of a word to a register. -/
def Packet.guarding (p : Packet) (a v : Nat) : Packet := { p.asGuarded a with payload := toLE 4 v }

/-- The packet as a read of one register. -/
def Packet.reading (p : Packet) (a : Nat) : Packet :=
  { p.withOp 0x01 with addr := BitVec.ofNat 32 a, payload := toLE 4 1 }

/-- The packet of an opcode whose first payload byte names the operation. -/
def Packet.operating (p : Packet) (op n : Nat) : Packet :=
  { p.withOp op with payload := toLE 1 n ++ p.payload.drop 1 }

/-- The lane a packet's address names, for the rows that write one register of a lane. -/
def Packet.onLane (p : Packet) : Nat := p.addr.toNat % 32

/-- `POD_CMD` of a lane with a code; the tag is as given. -/
def Packet.podCmd (p : Packet) (code : Nat) : Packet :=
  p.writing (podReg (p.onLane % 24) 0x30) (leAt p.payload 1 1 * 256 + code)

/-- A reset of one unit (R488). -/
def Packet.resetting (p : Packet) (u : Nat) : Packet := { p.withOp 0x50 with unitNo := BitVec.ofNat 8 u }

/-- The opcodes a port takes (R483). -/
def opcodes : List Byte :=
  [0x01, 0x02, 0x03, 0x04, 0x05, 0x10, 0x11, 0x20, 0x21, 0x28, 0x29, 0x30, 0x31, 0x32, 0x33, 0x38, 0x40, 0x48, 0x49, 0x4A, 0x50]

/-- The packet with an opcode a port does not take: its own, when that is one. -/
def Packet.unlisted (p : Packet) : Packet := if opcodes.contains p.opcode then p.withOp 0x7F else p

end Sys2Proof

namespace Sys2Proof.Machine

/-! ## Pods -/

/-- Whether a pod is heard in `CAPS`. -/
def State.capsHears (s : State) (p : Nat) : Bool := (s.lane p).st == 5 && !(s.pod p).quarantined

/-- Range codes a pod declared before hold for earlier ticks only: from an accepted capability block on they are 0 until its `RANGE`
messages say otherwise (R155). -/
def PodLane.rangesAnew (l : PodLane) (tick : Nat) : PodLane :=
  { l with ranges := (tick, 0) :: l.ranges.filter fun r => r.1 < tick }

/-- `CAPS` arrives: the hub answers with the first result that applies and, after `OK`, starts the pod. A bad one is an error in `ACTIVE`
too (R142, R168). DESIGN CHOICE (log entry 152): a good one in `ACTIVE` is ignored and counted nowhere. -/
def State.podCaps (s : State) (p : Nat) (m : List Byte) : State :=
  if !s.capsHears p && !s.podHears p then s
  else if !crcGood m then s.podError p podCrcBad
  else if !s.capsHears p then s
  else if m.length != 35 then s.podError p podBadMsg
  else
    let b := slice m 1 32
    let r := s.podCapsResult p b
    let s := (s.send p (message 0x16 (toLE 1 r))).updPod p fun l => { l with capsResult := r }
    if r = 0 then
      let s := s.updPod p fun l => { (l.rangesAnew s.tick) with caps := b, inCaps := false }
      (s.podDelay p).capsDone p true
    else s.capsDone p false

/-- `ECHO_RESP` arrives, `rtt` ps after its `ECHO` left. -/
def State.echoResp (s : State) (p : Nat) (m : List Byte) (rtt : Nat) : State :=
  if !s.capsHears p && !s.podHears p then s
  else if !crcGood m then s.podError p podCrcBad
  else if m.length != 4 || 16 ≤ byteAt m 1 || 16 ≤ (s.pod p).echoes.length then s.podError p podUnsol
  else (s.updPod p fun l => { l with echoes := rtt :: l.echoes }).podDelay p

/-- A tick without a good frame 80 µs after it becomes outstanding, as do those before it. -/
def State.tickOutstanding (s : State) (p tick : Nat) : State :=
  if !(s.pod p).running || s.ns < tick * 1250 + 80_000 then s else s.markOutstanding p (tick + 1)

/-- Ticks outstanding for 250 µs since they were last asked for. -/
def State.repeatsDue (s : State) (p : Nat) : List Nat :=
  ((s.pod p).outstanding.filter fun o => o.2 + 250 * cycPerUs ≤ s.time.cyc).map (·.1)

/-- The request for a tick is repeated after 250 µs, with the others due at that moment: adjacent ticks go in one request (R164). -/
def State.resendRepeat (s : State) (p tick : Nat) : State :=
  if (s.repeatsDue p).contains tick then s.requestTicks p (s.repeatsDue p) else s

/-- No response for 10 ms. -/
def State.podCmdTimeout (s : State) (p : Nat) : State :=
  match (s.pod p).cmd with
  | some (tag, c) =>
    if s.time.cyc < c + 10 * cycPerMs then s
    else s.updPod p fun l => { l with cmd := none, respTag := tag, respResult := 0xFF }
  | none => s

/-- A message of unknown type: an error of the pod, or counted for the trunk lane. -/
def State.unknownMessage (s : State) (lane : Nat) : State :=
  if lane < 24 then (if s.podHears lane || s.capsHears lane then s.podError lane podBadMsg else s)
  else if lane < 28 && 5 ≤ (s.lane lane).st && (s.lane lane).st ≤ 6 then s.bump (tpReg (lane - 24) 0x14)
  else s

/-! ## Records that wait -/

/-- The rest of a closed stream's `GAP` records are written as space frees. -/
def State.overflowGaps (s : State) (id : Nat) : State :=
  match s.route id with
  | some r => s.writeGaps r (s.stream id).pendingGaps
  | none => s

/-- The `EVENTS` record is 1 ms old. -/
def State.eventsTimeout (s : State) : State :=
  if s.ev.items.isEmpty || s.time.cyc < s.ev.openAt + cycPerMs then s else s.closeEvents

/-- `EVENTS_LOST` is placed once there is space, ahead of any later event. -/
def State.eventsLost (s : State) : State :=
  if s.ev.lost = 0 || !s.evRoom 64 then s
  else
    let n := s.ev.lost
    let words := BitVec.ofNat 32 n :: (stampWords s.ev.lostFirst ++ stampWords s.ev.lostLast)
    ({ s with ev := { s.ev with lost := 0 } } : State).raise 0x0B06 0 words

/-! ## Engines -/

/-- The last post slot of a record, or the last slot of a segment, is written. -/
def State.recordCloses (s : State) (e : Nat) (seg : Bool) : State :=
  if (s.engine e).seg != seg || !s.collectDone e then s
  else if seg then s.closeSegment e else s.closeCapture e

/-! ## A lane's timeouts (R190) -/

/-- What a frame that comes does. -/
def frameEvent : Instr → Option (State → State)
  | .frame _ l m => some fun s => s.podFrame l 0 m
  | .tickFrame _ l m => some fun s => s.podFrame l 1 m
  | .resendFrame _ l m => some fun s => s.podFrame l 2 m
  | _ => none

/-- A lane's lag expiry: the frame of its next tick, arriving in the same cycle, is held and not missing (R165). -/
def State.lagDeadline (s : State) (p : Nat) : State :=
  let n := (s.pod p).nextTick
  let holds := fun (s : State) => (s.pod p).held.any fun h => h.1 == n
  let comes := (s.sameCycle.filterMap frameEvent).any fun f => holds (f s)
  if (s.pod p).running && s.lagExpiry p n ≤ s.time.now && s.time.now < s.lagExpiry p n + s.time.increment && !holds s && comes then
    s.updPod p fun l => { l with lagDue := true }
  else s.lagTick p

/-- What a lane event that comes does, when it takes a lane on from its state; none for any other command. -/
def laneEvent : Instr → Option (State → State)
  | .laneDetect _ l term energy => some fun s => s.laneDetected l term energy
  | .trainHandshakeDone _ l => some fun s => s.handshakeDone l
  | .farTrainingEnd _ l => some fun s => s.farTrainingEnd l
  | .bitLock _ l => some fun s => s.bitLocked l
  | .symlockAcquired _ l => some fun s => s.symlocked l
  | .podCaps _ l m => some fun s => s.podCaps l m
  | .tcaps _ l m => some fun s => s.tcapsIn l m
  | .tcapsAck _ l m => some fun s => s.tcapsAckIn l m
  | _ => none

/-- Whether one of the commands of this same cycle takes a lane on from its state. -/
def State.successComes (s : State) (l : Nat) : Bool :=
  (s.sameCycle.filterMap laneEvent).any fun f =>
    let st' := ((f s).lane l).st
    (s.lane l).st < st' && st' ≤ 6

/-- The timeout of a lane's state runs out; a success in the same cycle wins (R190). -/
def State.laneDeadline (s : State) (l : Nat) : State :=
  let x := s.lane l
  match laneTimeout x.st with
  | some (us, _) => if x.entered + us * cycPerUs = s.time.cyc && s.successComes l then s else s.laneTimedOut l
  | none => s

/-- No valid TCW came for 1 ms (R193); a success in the same cycle wins (R190). -/
def State.tcwDeadline (s : State) (l : Nat) : State :=
  if (s.lane l).tcwAt + 1000 * cycPerUs = s.time.cyc && s.successComes l then s else s.tcwTimedOut l

/-! ## Always-on feeds -/

/-- A feed falls below 1.5 V or returns. -/
def State.aonChange (s : State) (feedB present : Bool) : State :=
  s.updPair fun p => if feedB then { p with aonB := present } else { p with aonA := present }

/-- Both feeds have been missing for 10 µs. -/
def State.aonLost (s : State) : State := if s.pair.aonA || s.pair.aonB then s else s.reborn

/-! ## Self-check -/

/-- A bit whose condition last held 2 s ago clears. -/
def State.checkExpires (s : State) (b : Nat) : State :=
  let c := Tab.get (fun _ => 0) s.pair.checks b
  if c != 0 && c + 2 * cycPerS ≤ s.time.cyc then
    s.updPair fun p => { p with checks := Tab.set (fun _ => 0) p.checks b 0 }
  else s

/-! ## What every command ends with -/

/-- The PLL, following `TRUNK`, moves with the upstream lane (R603). -/
def State.clockFollow (s old : State) : State :=
  if s.clk.selected = 2 && s.clk.lock && old.time.upActive.isSome && s.time.upActive.isSome
      && s.time.upActive != old.time.upActive then s.failover 2 2
  else s

/-- A message that near-end loopback has returned reaches its lane's receiver (R207): on a pod lane none of the hub's types is a pod's; a host
lane takes its own packet as one that arrives. -/
def State.loopIn (s : State) (x : Sent) : State :=
  let l := x.lane
  let m := x.bytes
  if l < 24 then s.unknownMessage l
  else if l = 28 || l = 29 then match packetOf .host m with | some p => State.take { p with lane := l } s | none => s
  else
    match byteAt m 0 with
    | 0x20 => s.tsync l m 0
    | 0x21 => s.tdreq l m 0
    | 0x22 => s.tdresp l m
    | 0x23 => s.announceIn l m
    | 0x24 => s.tcapsIn l m
    | 0x25 => s.tcapsAckIn l m
    | 0x30 => s.swarmArmIn l m
    | 0x31 => s.armResultIn l m
    | 0x32 => s.swarmFireIn l m
    | 0x40 => s.foreignIn l m
    | 0x41 => s.fmapIn l m
    | 0x50 => s.relayIn l m
    | _ => s

/-- Those returned as a command ran, and what they bring about in turn; `n` bounds the turns. -/
def State.takeLooped : Nat → State → State
  | 0, s => s
  | n + 1, s => if s.returned.isEmpty then s else State.takeLooped n (s.returned.foldl State.loopIn { s with returned := [] })

/-- `FOREIGN` messages of exported outputs leave (R434, R436), one for each group of 16 indices and stamp: as late as 2 µs allow, while a command
that can bring an output of the same stamp comes before then. -/
def State.flushExports (s : State) : State :=
  let waits (x : Exported) : Bool := match s.pending with | c :: _ => decide (s.time.cyc + c.wait ≤ x.due) | [] => false
  let key (x : Exported) : Bool × Nat × Int := (x.down, x.index / 16, x.stamp)
  let keys := ((s.time.exported.filter fun x => !waits x).map key).eraseDups
  let s' := keys.foldl (fun (s : State) k =>
    let g := s.time.exported.filter fun x => key x == k
    let body := toLE 1 (k.2.1 * 16) ++ toLE 6 (stampOfSub k.2.2).toNat ++ toLE 2 (g.map fun x => 2 ^ (x.index % 16)).sum
      ++ toLE 2 (g.map fun x => if x.setl then 2 ^ (x.index % 16) else 0).sum
      ++ (g.mergeSort fun x y => x.index ≤ y.index).flatMap fun x => toLE 3 x.code
    s.sendTrunk (!k.1) k.1 2 (message 0x40 body)) s
  s'.updTime fun t => { t with exported := t.exported.filter fun x => !keys.contains (key x) }

/-- Conditions that hold by themselves, once a command has run on a hub out of HOLD: neighbours, time and mode, commands that can
now start, pools, FIFOs and flow signals, and the pair. -/
def State.finish (s old : State) : State :=
  if s.sys.mode = .hold then s
  else
    let s := ((State.takeLooped 8 s).followLanes.clockFollow old).followTime
    let s := ((s.followSuspect s.pairLat).followForward.serveInbound.flushClosing.poolsRelease).poolsStarve.flushExports.flushLanes.settle
    ((s.updDrdy s.isStandby).followStop).pairFollow old

/-- A command runs: the time before it passes, it has its effect, and what follows from the new state takes place. -/
def State.run (s : State) (t : Nat) (f : State → State) : Host.Outcome State Fault Refusal :=
  .next ((f (s.elapse t)).finish (s.elapse t))

/-- A command that can have its effect out of HOLD only (R633): in HOLD nothing but resets, straps, references and the field
die's own check does anything, and no port serves commands. -/
def State.runOn (s : State) (t : Nat) (f : State → State) : Host.Outcome State Fault Refusal :=
  s.run t fun s => if s.sys.mode = .hold then s else f s

end Sys2Proof.Machine
end

