-- ==== Sys2Proof/Machine/ExecAccess.lean ====
section
/-! DEFINITION. The commands of registers, images, locks and guards (R520 to R560): one
meaning per row of the table, over the operations of the units. `t` cycles pass first; `runOn` is for a hub out of HOLD. -/

namespace Sys2Proof.Machine

/-- `BAD_OPCODE` (R483). -/
def execBadOpcode (t : Nat) (p : Packet) (s : State) : Host.Outcome State Fault Refusal :=
  s.runOn t fun s => State.take p.unlisted s

/-- `RD` (R486). -/
def execRd (t : Nat) (p : Packet) (s : State) : Host.Outcome State Fault Refusal :=
  s.runOn t fun s => State.take (p.withOp 0x01) s

/-- `WR` (R483). -/
def execWr (t : Nat) (p : Packet) (s : State) : Host.Outcome State Fault Refusal :=
  s.runOn t fun s => State.take (p.withOp 0x02) s

/-- `IXRD` (R548). -/
def execIxrd (t : Nat) (p : Packet) (s : State) : Host.Outcome State Fault Refusal :=
  s.runOn t fun s => State.take (p.withOp 0x03) s

/-- `IXWR` (R548). -/
def execIxwr (t : Nat) (p : Packet) (s : State) : Host.Outcome State Fault Refusal :=
  s.runOn t fun s => State.take (p.withOp 0x04) s

/-- `GWR` (R544). -/
def execGwr (t : Nat) (p : Packet) (s : State) : Host.Outcome State Fault Refusal :=
  s.runOn t fun s => State.take (p.withOp 0x05) s

/-- `IMG` (R531). -/
def execImg (t : Nat) (p : Packet) (s : State) : Host.Outcome State Fault Refusal :=
  s.runOn t fun s => State.take (p.withOp 0x20) s

/-- `COMMIT` (R533). -/
def execCommit (t : Nat) (p : Packet) (s : State) : Host.Outcome State Fault Refusal :=
  s.runOn t fun s => State.take (p.withOp 0x21) s

/-- `CFG_COMMIT_WRITE` (R532). -/
def execCfgCommitWrite (t : Nat) (p : Packet) (s : State) : Host.Outcome State Fault Refusal :=
  s.runOn t fun s => State.take (p.asGuarded 0x0001_0008) s

/-- `IMAGE_APPLY` (R534). -/
def execImageApply (t : Nat) (s : State) : Host.Outcome State Fault Refusal :=
  s.runOn t fun s =>
    let (avs, s) := s.fresh Config.avsAnswer
    s.imageApply avs

/-- `PARTIAL_APPLY_TICK` (R536). -/
def execPartialApplyTick (t : Nat) (s : State) : Host.Outcome State Fault Refusal :=
  s.runOn t fun s =>
    let (avs, s) := s.fresh Config.avsAnswer
    s.partialApplyTick avs

/-- `CONFIG_CRC_PASS` (R540). -/
def execConfigCrcPass (t : Nat) (upset : Word) (s : State) : Host.Outcome State Fault Refusal :=
  s.runOn t fun s => s.configCrcPass upset

/-- `CFG_REF_WRITE` (R540). -/
def execCfgRefWrite (t : Nat) (p : Packet) (s : State) : Host.Outcome State Fault Refusal :=
  s.runOn t fun s => State.take (p.asGuarded 0x0001_0010) s

/-- `OTP_PROGRAM` (R549). -/
def execOtpProgram (t : Nat) (p : Packet) (s : State) : Host.Outcome State Fault Refusal :=
  s.runOn t fun s => State.take (p.asGuarded 0x0000_0028) s

/-- `OTP_PROGRAM_DONE` (R549). -/
def execOtpProgramDone (t : Nat) (s : State) : Host.Outcome State Fault Refusal :=
  s.runOn t fun s => s.otpDone

/-- `GUARD_FIRST_WRITE` (R544). -/
def execGuardFirstWrite (t : Nat) (p : Packet) (s : State) : Host.Outcome State Fault Refusal :=
  s.runOn t fun s => State.take (p.withOp 0x02) s

/-- `GUARD_TIMEOUT` (R545). -/
def execGuardTimeout (t : Nat) (port : Port) (s : State) : Host.Outcome State Fault Refusal :=
  s.runOn t fun s => s.guardTimeout port

/-- `LOCK` (R550). -/
def execLock (t : Nat) (p : Packet) (s : State) : Host.Outcome State Fault Refusal :=
  s.runOn t fun s => State.take (p.withOp 0x28) s

/-- `UNLOCK` (R550). -/
def execUnlock (t : Nat) (p : Packet) (s : State) : Host.Outcome State Fault Refusal :=
  s.runOn t fun s => State.take (p.withOp 0x29) s

/-- `LOCK_REQ_TAKE` (R550). -/
def execLockReqTake (t : Nat) (p : Packet) (s : State) : Host.Outcome State Fault Refusal :=
  s.runOn t fun s => State.take (p.writing 0x000E_0004 (leAt p.payload 0 4 % 16 + 256)) s

/-- `LOCK_REQ_RELEASE` (R550). -/
def execLockReqRelease (t : Nat) (p : Packet) (s : State) : Host.Outcome State Fault Refusal :=
  s.runOn t fun s => State.take (p.writing 0x000E_0004 (leAt p.payload 0 4 % 16)) s

/-- `LOCK_LEASE_EXPIRY` (R551). -/
def execLockLeaseExpiry (t : Nat) (n : Nat) (s : State) : Host.Outcome State Fault Refusal :=
  s.runOn t fun s => s.lockExpiry n

/-- `IX_ADDR_WRITE` (R547). -/
def execIxAddrWrite (t : Nat) (p : Packet) (s : State) : Host.Outcome State Fault Refusal :=
  s.runOn t fun s => State.take (p.asWrite 0x000D_0000) s

/-- `IX_DATA_READ` (R547). -/
def execIxDataRead (t : Nat) (p : Packet) (s : State) : Host.Outcome State Fault Refusal :=
  s.runOn t fun s => State.take (p.reading 0x000D_0004) s

/-- `IX_DATA_WRITE` (R547). -/
def execIxDataWrite (t : Nat) (p : Packet) (s : State) : Host.Outcome State Fault Refusal :=
  s.runOn t fun s => State.take (p.asWrite 0x000D_0004) s

/-- `READ_CLEAR` (R542). -/
def execReadClear (t : Nat) (p : Packet) (s : State) : Host.Outcome State Fault Refusal :=
  s.runOn t fun s => State.take (p.withOp 0x01) s

/-- `REGISTER_WRITE` (R8). -/
def execRegisterWrite (t : Nat) (p : Packet) (s : State) : Host.Outcome State Fault Refusal :=
  s.runOn t fun s => State.take (p.withOp 0x02) s

end Sys2Proof.Machine
end

