-- ==== Sys2Proof/Machine/ExecClock.lean ====
section
/-! DEFINITION. The commands of references, the PLL, coast, margins and the regulator (R596 to R622): one
meaning per row of the table, over the operations of the units. `t` cycles pass first; `runOn` is for a hub out of HOLD. -/

namespace Sys2Proof.Machine

/-- `REF_WINDOW_END` (R599). -/
def execRefWindowEnd (t : Nat) (w : RefWindow) (s : State) : Host.Outcome State Fault Refusal :=
  s.run t fun s => s.refWindowEnd w

/-- `REF_LOSS_OF_SIGNAL` (R600). -/
def execRefLossOfSignal (t : Nat) (c : Cand) (s : State) : Host.Outcome State Fault Refusal :=
  s.run t fun s => s.refLos (candCode c)

/-- `PLL_LOCK` (R605). -/
def execPllLock (t : Nat) (s : State) : Host.Outcome State Fault Refusal :=
  s.run t fun s => s.pllLock

/-- `PLL_NO_LOCK` (R605). -/
def execPllNoLock (t : Nat) (s : State) : Host.Outcome State Fault Refusal :=
  s.run t fun s => s.pllNoLock

/-- `REF_GRACE_EXPIRY` (R610). -/
def execRefGraceExpiry (t : Nat) (s : State) : Host.Outcome State Fault Refusal :=
  s.runOn t fun s => s.graceExpiry

/-- `CLK_COAST_END` (R613). -/
def execClkCoastEnd (t : Nat) (s : State) : Host.Outcome State Fault Refusal :=
  s.runOn t fun s => s.coastEnd

/-- `MARGIN_EVALUATION` (R615). -/
def execMarginEvaluation (t : Nat) (minima : List Nat) (avs : AvsAnswer) (s : State) : Host.Outcome State Fault Refusal :=
  s.runOn t fun s => s.marginEvaluation minima avs

/-- `CLK_PLAN_NOW` (R615). -/
def execClkPlanNow (t : Nat) (p : Packet) (avs : AvsAnswer) (s : State) : Host.Outcome State Fault Refusal :=
  s.runOn t fun s => s.receive (p.writing 0x0003_0050 1) avs

/-- `MARGIN_ALARM` (R616). -/
def execMarginAlarm (t : Nat) (sensor : Nat) (slack : Nat) (avs : AvsAnswer) (s : State) : Host.Outcome State Fault Refusal :=
  s.runOn t fun s => s.marginAlarm sensor slack avs

/-- `HOURLY_EYE_SCANS` (R617). -/
def execHourlyEyeScans (t : Nat) (s : State) : Host.Outcome State Fault Refusal :=
  s.runOn t fun s => s.hourlyScans

/-- `AVS_RETRY_TIMER` (R618). -/
def execAvsRetryTimer (t : Nat) (avs : AvsAnswer) (s : State) : Host.Outcome State Fault Refusal :=
  s.runOn t fun s => s.avsRetryTimer avs

/-- `AVS_RETRY` (R618). -/
def execAvsRetry (t : Nat) (p : Packet) (avs : AvsAnswer) (s : State) : Host.Outcome State Fault Refusal :=
  s.runOn t fun s => s.receive (p.writing 0x0003_0050 2) avs

/-- `CLK_REF_CFG_WRITE` (R600). -/
def execClkRefCfgWrite (t : Nat) (p : Packet) (s : State) : Host.Outcome State Fault Refusal :=
  s.runOn t fun s => State.take (p.asWrite 0x0003_0004) s

/-- `CLK_VLIMIT_WRITE` (R619). -/
def execClkVlimitWrite (t : Nat) (p : Packet) (avs : AvsAnswer) (s : State) : Host.Outcome State Fault Refusal :=
  s.runOn t fun s => s.receive (p.asWrite 0x0003_0048) avs

end Sys2Proof.Machine
end

