-- ==== Sys2Proof/Machine/ExecComb.lean ====
section
/-! DEFINITION. The commands of the Comb: blocks, frames, products, detections, rebuilds and foreign channels (R243 to R331, R434 to R437): one
meaning per row of the table, over the operations of the units. `t` cycles pass first; `runOn` is for a hub out of HOLD. -/

namespace Sys2Proof.Machine

/-- `COMB_BLOCK` (R255). -/
def execCombBlock (t : Nat) (prog : Nat) (hits : List ParityHit) (s : State) : Host.Outcome State Fault Refusal :=
  s.runOn t fun s => s.combWork false prog hits

/-- `SPECTRAL_FRAME` (R304). -/
def execSpectralFrame (t : Nat) (prog : Nat) (hits : List ParityHit) (s : State) : Host.Outcome State Fault Refusal :=
  s.runOn t fun s => s.combWork true prog hits

/-- `SVD_DONE` (R314). -/
def execSvdDone (t : Nat) (prog : Nat) (s : State) : Host.Outcome State Fault Refusal :=
  s.runOn t fun s => s.svdDone prog

/-- `PRODUCT_EMIT` (R300). -/
def execProductEmit (t : Nat) (prog : Nat) (s : State) : Host.Outcome State Fault Refusal :=
  s.runOn t fun s => s.productEmit prog

/-- `MATCH_WINDOW_END` (R321). -/
def execMatchWindowEnd (t : Nat) (prog : Nat) (chan : Nat) (template : MatchRead) (s : State) :
    Host.Outcome State Fault Refusal :=
  s.runOn t fun s => s.matchWindow prog chan template.templ template.hits

/-- `MATCH_INTERVAL_END` (R323). -/
def execMatchIntervalEnd (t : Nat) (prog : Nat) (s : State) : Host.Outcome State Fault Refusal :=
  s.runOn t fun s => s.matchInterval prog

/-- `REBUILD_DONE` (R272). -/
def execRebuildDone (t : Nat) (s : State) : Host.Outcome State Fault Refusal :=
  s.runOn t fun s => s.rebuildDone

/-- `FOREIGN` (R276). -/
def execForeign (t : Nat) (lane : Nat) (m : List Byte) (s : State) : Host.Outcome State Fault Refusal :=
  s.runOn t fun s => s.foreignIn lane m

/-- `FMAP` (R437). -/
def execFmap (t : Nat) (lane : Nat) (m : List Byte) (s : State) : Host.Outcome State Fault Refusal :=
  s.runOn t fun s => s.fmapIn lane m

/-- `FMAP_SEND` (R436). -/
def execFmapSend (t : Nat) (down : Bool) (s : State) : Host.Outcome State Fault Refusal :=
  s.runOn t fun s => s.fmapTick down

end Sys2Proof.Machine
end

