-- ==== Sys2Proof/Machine/ExecFlow.lean ====
section
/-! DEFINITION. The commands of streams, Nectar, events and the ports (R446 to R519): one
meaning per row of the table, over the operations of the units. `t` cycles pass first; `runOn` is for a hub out of HOLD. -/

namespace Sys2Proof.Machine

/-- `NECTAR_RECORD_IN` (R450). -/
def execNectarRecordIn (t : Nat) (stream : Nat) (s : State) : Host.Outcome State Fault Refusal :=
  s.runOn t fun s => s.nectarRecordIn stream

/-- `FLUSH_LAG_EXPIRY` (R450). -/
def execFlushLagExpiry (t : Nat) (stream : Nat) (s : State) : Host.Outcome State Fault Refusal :=
  s.runOn t fun s => s.flushExpired stream

/-- `EVENTS_RECORD_TIMEOUT` (R491). -/
def execEventsRecordTimeout (t : Nat) (s : State) : Host.Outcome State Fault Refusal :=
  s.runOn t fun s => s.eventsTimeout

/-- `EVENTS_LOST` (R493). -/
def execEventsLost (t : Nat) (s : State) : Host.Outcome State Fault Refusal :=
  s.runOn t fun s => s.eventsLost

/-- `OVERFLOW_GAP_WRITE` (R37). -/
def execOverflowGapWrite (t : Nat) (stream : Nat) (s : State) : Host.Outcome State Fault Refusal :=
  s.runOn t fun s => s.overflowGaps stream

/-- `PACKET_HDR_BAD` (R477). -/
def execPacketHdrBad (t : Nat) (port : Port) (s : State) : Host.Outcome State Fault Refusal :=
  s.runOn t fun s => s.headerBad port

/-- `PACKET_TRAILER_BAD` (R477). -/
def execPacketTrailerBad (t : Nat) (p : Packet) (s : State) : Host.Outcome State Fault Refusal :=
  s.runOn t fun s => s.trailerBad p

/-- `LINK_SKIP` (R476). -/
def execLinkSkip (t : Nat) (lane : Nat) (received : Nat) (s : State) : Host.Outcome State Fault Refusal :=
  s.runOn t fun s => s.linkSkip lane received

/-- `DR_CFG_EN_WRITE` (R509). -/
def execDrCfgEnWrite (t : Nat) (p : Packet) (s : State) : Host.Outcome State Fault Refusal :=
  s.runOn t fun s => State.take (p.writing 0x000B_0080 (leAt p.payload 0 4 ||| 1)) s

/-- `STREAM_OPEN` (R494). -/
def execStreamOpen (t : Nat) (p : Packet) (s : State) : Host.Outcome State Fault Refusal :=
  s.runOn t fun s => State.take (p.withOp 0x48) s

/-- `STREAM_CLOSE` (R494). -/
def execStreamClose (t : Nat) (p : Packet) (s : State) : Host.Outcome State Fault Refusal :=
  s.runOn t fun s => State.take (p.withOp 0x49) s

/-- `ACK` (R494). -/
def execAck (t : Nat) (p : Packet) (s : State) : Host.Outcome State Fault Refusal :=
  s.runOn t fun s => State.take (p.withOp 0x4A) s

/-- `UNIT_RESET_LANE` (R488). -/
def execUnitResetLane (t : Nat) (p : Packet) (s : State) : Host.Outcome State Fault Refusal :=
  s.runOn t fun s => State.take (p.resetting 0x04) s

/-- `UNIT_RESET_POD` (R488). -/
def execUnitResetPod (t : Nat) (p : Packet) (s : State) : Host.Outcome State Fault Refusal :=
  s.runOn t fun s => State.take (p.resetting 0x05) s

/-- `UNIT_RESET_TRIG` (R488). -/
def execUnitResetTrig (t : Nat) (p : Packet) (s : State) : Host.Outcome State Fault Refusal :=
  s.runOn t fun s => State.take (p.resetting 0x07) s

/-- `UNIT_RESET_HOSTP` (R488). -/
def execUnitResetHostp (t : Nat) (p : Packet) (s : State) : Host.Outcome State Fault Refusal :=
  s.runOn t fun s => State.take (p.resetting 0x0B) s

/-- `DRIP_FRAME` (R506). -/
def execDripFrame (t : Nat) (stopOk : Bool) (bs : List Byte) (s : State) : Host.Outcome State Fault Refusal :=
  s.runOn t fun s => s.dripFrame stopOk bs

/-- `DRIP_RETRY_TIMEOUT` (R508). -/
def execDripRetryTimeout (t : Nat) (s : State) : Host.Outcome State Fault Refusal :=
  s.runOn t fun s => s.dripRetry

/-- `DRIP_PORT_RESET` (R552). -/
def execDripPortReset (t : Nat) (s : State) : Host.Outcome State Fault Refusal :=
  s.runOn t fun s => s.portReset .drip

/-- `I2C_COMMAND_STOP` (R511). -/
def execI2cCommandStop (t : Nat) (bs : List Byte) (s : State) : Host.Outcome State Fault Refusal :=
  s.runOn t fun s => s.i2cCommand bs

/-- `I2C_RESPONSE_READ` (R511). -/
def execI2cResponseRead (t : Nat) (s : State) : Host.Outcome State Fault Refusal :=
  s.runOn t fun s => s.i2cResponseRead

/-- `I2C_EVENT_READ` (R511). -/
def execI2cEventRead (t : Nat) (s : State) : Host.Outcome State Fault Refusal :=
  s.runOn t fun s => s.i2cEventRead

/-- `I2C_PORT_RESET` (R552). -/
def execI2cPortReset (t : Nat) (s : State) : Host.Outcome State Fault Refusal :=
  s.runOn t fun s => s.i2cReset

/-- `DAP_READ` (R516). -/
def execDapRead (t : Nat) (addr : Word) (s : State) : Host.Outcome State Fault Refusal :=
  s.run t fun s => s.dapRead addr false

/-- `DAP_READ_CLEAR` (R516). -/
def execDapReadClear (t : Nat) (addr : Word) (s : State) : Host.Outcome State Fault Refusal :=
  s.run t fun s => s.dapRead addr true

/-- `DAP_WRITE` (R516). -/
def execDapWrite (t : Nat) (addr : Word) (data : Word) (s : State) : Host.Outcome State Fault Refusal :=
  s.run t fun s => s.dapWrite addr data

/-- `TAP_RESET` (R552). -/
def execTapReset (t : Nat) (s : State) : Host.Outcome State Fault Refusal :=
  s.run t fun s => s.tapReset

/-- `HOST_STOP` (R474). -/
def execHostStop (t : Nat) (on : Bool) (s : State) : Host.Outcome State Fault Refusal :=
  s.runOn t fun s => { s with ports := { s.ports with hostStop := on } }

/-- `PACKET_SENT` (R499). -/
def execPacketSent (t : Nat) (port : Port) (s : State) : Host.Outcome State Fault Refusal :=
  s.runOn t fun s => s.packetSent port

/-- `CTS_N_CHANGE` (R507). -/
def execCtsNChange (t : Nat) (low : Bool) (s : State) : Host.Outcome State Fault Refusal :=
  s.runOn t fun s => { s with ports := { s.ports with ctsLow := low } }

/-- `EXTEST` (R516). -/
def execExtest (t : Nat) (ir : Byte) (boundary : List Bool) (s : State) : Host.Outcome State Fault Refusal :=
  s.run t fun s => s.setIr ir boundary

end Sys2Proof.Machine
end

