-- ==== Sys2Proof/Machine/ExecFront.lean ====
section
/-! DEFINITION. The commands of the local front end: windows, excitation, housekeeping, spots and calibration (R49 to R140): one
meaning per row of the table, over the operations of the units. `t` cycles pass first; `runOn` is for a hub out of HOLD. -/

namespace Sys2Proof.Machine

/-- `EXCITATION_PULSE_ON` (R59). -/
def execExcitationPulseOn (t : Nat) (k : Nat) (s : State) : Host.Outcome State Fault Refusal :=
  s.runOn t fun s => s.pulseOn k

/-- `WINDOW_START` (R113). -/
def execWindowStart (t : Nat) (k : Nat) (s : State) : Host.Outcome State Fault Refusal :=
  s.runOn t fun s => s.windowStart k

/-- `WINDOW_END` (R116). -/
def execWindowEnd (t : Nat) (k : Nat) (c : Conversion) (s : State) : Host.Outcome State Fault Refusal :=
  s.runOn t fun s => s.windowEnd k c

/-- `HOUSEKEEPING_END` (R116). -/
def execHousekeepingEnd (t : Nat) (k : Nat) (reading : Rat) (s : State) : Host.Outcome State Fault Refusal :=
  s.runOn t fun s => s.housekeepingEnd k reading

/-- `WITNESS_UPDATE` (R137). -/
def execWitnessUpdate (t : Nat) (k : Nat) (s : State) : Host.Outcome State Fault Refusal :=
  s.runOn t fun s => s.witnessUpdate k

/-- `WITNESS_STARTUP_DONE` (R139). -/
def execWitnessStartupDone (t : Nat) (means : List (Nat × Rat)) (s : State) : Host.Outcome State Fault Refusal :=
  s.runOn t fun s => s.witnessStartup means

/-- `MAINS_CYCLE` (R109): the input is always active, in HOLD too (R92). -/
def execMainsCycle (t : Nat) (period : Nat) (peak : Nat) (s : State) : Host.Outcome State Fault Refusal :=
  s.run t fun s => s.mainsCycle period peak

/-- `EXC_LIMIT_ENGAGE` (R56). -/
def execExcLimitEngage (t : Nat) (k : Nat) (s : State) : Host.Outcome State Fault Refusal :=
  s.runOn t fun s => s.limitEngages k

/-- `COMPLIANCE_LOSS` (R57). -/
def execComplianceLoss (t : Nat) (k : Nat) (s : State) : Host.Outcome State Fault Refusal :=
  s.runOn t fun s => s.complianceLost k

/-- `EXC_ENABLE` (R66). -/
def execExcEnable (t : Nat) (p : Packet) (s : State) : Host.Outcome State Fault Refusal :=
  s.runOn t fun s => State.take (p.guarding 0x18 1) s

/-- `EXC_DISABLE` (R67). -/
def execExcDisable (t : Nat) (p : Packet) (s : State) : Host.Outcome State Fault Refusal :=
  s.runOn t fun s => State.take (p.guarding 0x18 0) s

/-- `SPOT` (R121). -/
def execSpot (t : Nat) (p : Packet) (s : State) : Host.Outcome State Fault Refusal :=
  s.runOn t fun s => State.take (p.withOp 0x30) s

/-- `SPOT_END` (R122). -/
def execSpotEnd (t : Nat) (k : Nat) (c : Conversion) (s : State) : Host.Outcome State Fault Refusal :=
  s.runOn t fun s => s.spotEnd k c

/-- `CAL_ZERO` (R128). -/
def execCalZero (t : Nat) (p : Packet) (s : State) : Host.Outcome State Fault Refusal :=
  s.runOn t fun s => State.take (p.operating 0x31 0) s

/-- `CAL_SPAN` (R128). -/
def execCalSpan (t : Nat) (p : Packet) (s : State) : Host.Outcome State Fault Refusal :=
  s.runOn t fun s => State.take (p.operating 0x31 1) s

/-- `CAL_ABORT` (R128). -/
def execCalAbort (t : Nat) (p : Packet) (s : State) : Host.Outcome State Fault Refusal :=
  s.runOn t fun s => State.take (p.operating 0x31 2) s

/-- `CAL_STEP_END` (R130). -/
def execCalStepEnd (t : Nat) (k : Nat) (s : State) : Host.Outcome State Fault Refusal :=
  s.runOn t fun s => s.calStepEnd k

/-- `CAL_STEP_TIMEOUT` (R129). -/
def execCalStepTimeout (t : Nat) (k : Nat) (s : State) : Host.Outcome State Fault Refusal :=
  s.runOn t fun s => s.calTimeout k

/-- `LIMITING_END` (R56). -/
def execLimitingEnd (t : Nat) (k : Nat) (s : State) : Host.Outcome State Fault Refusal :=
  s.runOn t fun s => s.limitEnds k

/-- `COMPLIANCE_RESTORED` (R57). -/
def execComplianceRestored (t : Nat) (k : Nat) (s : State) : Host.Outcome State Fault Refusal :=
  s.runOn t fun s => s.complianceBack k

/-- `MAINS_SIGNAL_LOSS` (R109), in HOLD too (R92). -/
def execMainsSignalLoss (t : Nat) (s : State) : Host.Outcome State Fault Refusal :=
  s.run t fun s => s.mainsLost

/-- `FIELD_OTP_CHECK_DONE` (R135). -/
def execFieldOtpCheckDone (t : Nat) (good : Bool) (s : State) : Host.Outcome State Fault Refusal :=
  s.run t fun s => s.otpChecked good

end Sys2Proof.Machine
end

