-- ==== Sys2Proof/Machine/ExecHive.lean ====
section
/-! DEFINITION. The commands of Hive: scrubbing, arbiters and byte access (R366 to R398): one
meaning per row of the table, over the operations of the units. `t` cycles pass first; `runOn` is for a hub out of HOLD. -/

namespace Sys2Proof.Machine

/-- `SCRUB_READ` (R373). -/
def execScrubRead (t : Nat) (bank : Nat) (found : BeatFinding) (s : State) : Host.Outcome State Fault Refusal :=
  s.runOn t fun s => s.scrubRead bank found

/-- `HIVE_ARB_COMMIT_ARB` (R392). -/
def execHiveArbCommitArb (t : Nat) (p : Packet) (s : State) : Host.Outcome State Fault Refusal :=
  s.runOn t fun s => State.take (p.writing 0x0008_000C 1) s

/-- `HIVE_ARB_COMMIT_EGR` (R394). -/
def execHiveArbCommitEgr (t : Nat) (p : Packet) (s : State) : Host.Outcome State Fault Refusal :=
  s.runOn t fun s => State.take (p.writing 0x0008_000C 2) s

/-- `HIVE_ECC_INJ_WRITE` (R376). -/
def execHiveEccInjWrite (t : Nat) (p : Packet) (s : State) : Host.Outcome State Fault Refusal :=
  s.runOn t fun s => State.take (p.asWrite 0x0008_0064) s

/-- `RDB` (R381). -/
def execRdb (t : Nat) (p : Packet) (s : State) : Host.Outcome State Fault Refusal :=
  s.runOn t fun s => State.take (p.withOp 0x10) s

/-- `WRB` (R381). -/
def execWrb (t : Nat) (p : Packet) (s : State) : Host.Outcome State Fault Refusal :=
  s.runOn t fun s => State.take (p.withOp 0x11) s

end Sys2Proof.Machine
end

