-- ==== Sys2Proof/Machine/ExecLane.lean ====
section
/-! DEFINITION. The commands of serial lanes: bring-up, loss, patterns and eye scans (R176 to R213): one
meaning per row of the table, over the operations of the units. `t` cycles pass first; `runOn` is for a hub out of HOLD. -/

namespace Sys2Proof.Machine

/-- `LANE_DETECT` (R191). -/
def execLaneDetect (t : Nat) (lane : Nat) (term : Bool) (energy : Bool) (s : State) : Host.Outcome State Fault Refusal :=
  s.runOn t fun s => s.laneDetected lane term energy

/-- `LANE_STATE_TIMEOUT` (R189). -/
def execLaneStateTimeout (t : Nat) (lane : Nat) (s : State) : Host.Outcome State Fault Refusal :=
  s.runOn t fun s => s.laneDeadline lane

/-- `TRAINING_BLOCK` (R193). -/
def execTrainingBlock (t : Nat) (lane : Nat) (tcw : Word) (s : State) : Host.Outcome State Fault Refusal :=
  s.runOn t fun s => s.trainingBlock lane tcw.toNat

/-- `TCW_TIMEOUT` (R193). -/
def execTcwTimeout (t : Nat) (lane : Nat) (s : State) : Host.Outcome State Fault Refusal :=
  s.runOn t fun s => s.tcwDeadline lane

/-- `PRESET_SEARCH_STEP` (R195). -/
def execPresetSearchStep (t : Nat) (lane : Nat) (opening : Nat) (s : State) : Host.Outcome State Fault Refusal :=
  s.runOn t fun s => s.presetStep lane opening

/-- `RX_ADAPT_DONE` (R195). -/
def execRxAdaptDone (t : Nat) (lane : Nat) (ctle : Nat) (dfe : Word) (s : State) : Host.Outcome State Fault Refusal :=
  s.runOn t fun s => s.rxAdapted lane ctle dfe

/-- `TRAIN_HANDSHAKE_DONE` (R193). -/
def execTrainHandshakeDone (t : Nat) (lane : Nat) (s : State) : Host.Outcome State Fault Refusal :=
  s.runOn t fun s => s.handshakeDone lane

/-- `BIT_LOCK` (R196). -/
def execBitLock (t : Nat) (lane : Nat) (s : State) : Host.Outcome State Fault Refusal :=
  s.runOn t fun s => s.bitLocked lane

/-- `SYMLOCK_ACQUIRED` (R183). -/
def execSymlockAcquired (t : Nat) (lane : Nat) (s : State) : Host.Outcome State Fault Refusal :=
  s.runOn t fun s => s.symlocked lane

/-- `SYMLOCK_LOST` (R198). -/
def execSymlockLost (t : Nat) (lane : Nat) (s : State) : Host.Outcome State Fault Refusal :=
  s.runOn t fun s => s.symlockLost lane

/-- `LANE_BACKOFF_END` (R189). -/
def execLaneBackoffEnd (t : Nat) (lane : Nat) (s : State) : Host.Outcome State Fault Refusal :=
  s.runOn t fun s => s.backoffEnd lane

/-- `LANE_RETRAIN` (R198). -/
def execLaneRetrain (t : Nat) (p : Packet) (s : State) : Host.Outcome State Fault Refusal :=
  s.runOn t fun s => State.take (p.asWrite 0x0004_000C) s

/-- `LANE_GEN_SET` (R202). -/
def execLaneGenSet (t : Nat) (p : Packet) (s : State) : Host.Outcome State Fault Refusal :=
  s.runOn t fun s => State.take (p.asWrite (laneReg p.onLane 0x10)) s

/-- `LANE_CHK_SET` (R204). -/
def execLaneChkSet (t : Nat) (p : Packet) (s : State) : Host.Outcome State Fault Refusal :=
  s.runOn t fun s => State.take (p.asWrite (laneReg p.onLane 0x10)) s

/-- `LANE_LOOP_SET` (R207). -/
def execLaneLoopSet (t : Nat) (p : Packet) (s : State) : Host.Outcome State Fault Refusal :=
  s.runOn t fun s => State.take (p.asWrite (laneReg p.onLane 0x10)) s

/-- `CHECKER_SYNC` (R204). -/
def execCheckerSync (t : Nat) (lane : Nat) (s : State) : Host.Outcome State Fault Refusal :=
  s.runOn t fun s => s.checkerSync lane

/-- `CHECKER_SYNC_LOSS` (R204). -/
def execCheckerSyncLoss (t : Nat) (lane : Nat) (errors : Nat) (bitsMi : Nat) (s : State) : Host.Outcome State Fault Refusal :=
  s.runOn t fun s => s.checkerLost lane errors bitsMi

/-- `LANE_INJ_GO` (R206). -/
def execLaneInjGo (t : Nat) (p : Packet) (s : State) : Host.Outcome State Fault Refusal :=
  s.runOn t fun s => State.take (p.writing (laneReg p.onLane 0x24) 1) s

/-- `LANE_INJ_STOP` (R206). -/
def execLaneInjStop (t : Nat) (p : Packet) (s : State) : Host.Outcome State Fault Refusal :=
  s.runOn t fun s => State.take (p.writing (laneReg p.onLane 0x24) 2) s

/-- `EYE_SCAN_START` (R209). -/
def execEyeScanStart (t : Nat) (p : Packet) (s : State) : Host.Outcome State Fault Refusal :=
  s.runOn t fun s => State.take (p.asWrite (laneReg p.onLane 0x28)) s

/-- `EYE_SCAN_STEP` (R208). -/
def execEyeScanStep (t : Nat) (lane : Nat) (disagree : Bool) (s : State) : Host.Outcome State Fault Refusal :=
  s.runOn t fun s => s.eyeStep lane disagree

/-- `STUFF_ERR` (R181). -/
def execStuffErr (t : Nat) (lane : Nat) (s : State) : Host.Outcome State Fault Refusal :=
  s.runOn t fun s => s.stuffErr lane

/-- `SYNC_MISS` (R184). -/
def execSyncMiss (t : Nat) (lane : Nat) (s : State) : Host.Outcome State Fault Refusal :=
  s.runOn t fun s => s.syncMiss lane

/-- `FAR_TRAINING_END` (R200). -/
def execFarTrainingEnd (t : Nat) (lane : Nat) (s : State) : Host.Outcome State Fault Refusal :=
  s.runOn t fun s => s.farTrainingEnd lane

end Sys2Proof.Machine
end

