-- ==== Sys2Proof/Machine/ExecPair.lean ====
section
/-! DEFINITION. The commands of the pair link, forwarded commands, leases and takeovers (R561 to R595): one
meaning per row of the table, over the operations of the units. `t` cycles pass first; `runOn` is for a hub out of HOLD. -/

namespace Sys2Proof.Machine

/-- `PL_HB_SEND` (R565). -/
def execPlHbSend (t : Nat) (s : State) : Host.Outcome State Fault Refusal :=
  s.runOn t fun s => s.plHbSend

/-- `PL_HB` (R571). -/
def execPlHb (t : Nat) (plseq : Nat) (hb : Heartbeat) (s : State) : Host.Outcome State Fault Refusal :=
  s.runOn t fun s => s.plHb plseq hb

/-- `PL_FWD` (R570). -/
def execPlFwd (t : Nat) (plseq : Nat) (fseq : Nat) (tick : Nat) (p : Packet) (s : State) : Host.Outcome State Fault Refusal :=
  s.runOn t fun s => s.plFwd plseq fseq tick p

/-- `FORWARD_APPLY` (R569). -/
def execForwardApply (t : Nat) (s : State) : Host.Outcome State Fault Refusal :=
  s.runOn t fun s => s.forwardApply

/-- `APPLY_TIME_REACHED` (R590). -/
def execApplyTimeReached (t : Nat) (s : State) : Host.Outcome State Fault Refusal :=
  s.runOn t fun s => s.timedApply

/-- `PL_ACK` (R565). -/
def execPlAck (t : Nat) (plseq : Nat) (entries : List (Nat × Nat)) (s : State) : Host.Outcome State Fault Refusal :=
  s.runOn t fun s => s.plAck plseq entries

/-- `PL_DIGEST` (R578). -/
def execPlDigest (t : Nat) (plseq : Nat) (stream : Nat) (rseq : Nat) (frag : Nat) (digest : Nat) (s : State) : Host.Outcome State Fault Refusal :=
  s.runOn t fun s => s.plDigest plseq stream rseq frag digest

/-- `CMP_WAIT_EXPIRY` (R578). -/
def execCmpWaitExpiry (t : Nat) (s : State) : Host.Outcome State Fault Refusal :=
  s.runOn t fun s => s.cmpExpiry

/-- `PL_MARK` (R573). -/
def execPlMark (t : Nat) (plseq : Nat) (mark : Mark) (s : State) : Host.Outcome State Fault Refusal :=
  s.runOn t fun s => s.plMark plseq mark

/-- `PL_LOCAL` (R575). -/
def execPlLocal (t : Nat) (plseq : Nat) (ch : Nat) (slot : Nat) (word : Word48) (stamp : Word48) (s : State) : Host.Outcome State Fault Refusal :=
  s.runOn t fun s => s.plLocal plseq ch slot word stamp

/-- `PL_TICKS` (R171). -/
def execPlTicks (t : Nat) (plseq : Nat) (lane : Nat) (ticks : List Nat) (s : State) : Host.Outcome State Fault Refusal :=
  s.runOn t fun s => s.plTicks plseq lane ticks

/-- `PL_JOIN` (R567). -/
def execPlJoin (t : Nat) (plseq : Nat) (boundary : Nat) (entries : List JoinEntry) (s : State) : Host.Outcome State Fault Refusal :=
  s.runOn t fun s => s.plJoin plseq boundary entries

/-- `PL_LEASE` (R582). -/
def execPlLease (t : Nat) (plseq : Nat) (msg : LeaseMsg) (s : State) : Host.Outcome State Fault Refusal :=
  s.runOn t fun s => s.plLease plseq msg

/-- `PL_FAULT` (R584). -/
def execPlFault (t : Nat) (plseq : Nat) (fault : Nat) (selfCheck : Nat) (s : State) : Host.Outcome State Fault Refusal :=
  s.runOn t fun s => s.plFault plseq fault selfCheck

/-- `PAIR_JOIN_REQUEST` (R567). -/
def execPairJoinRequest (t : Nat) (s : State) : Host.Outcome State Fault Refusal :=
  s.runOn t fun s => s.joinRequest

/-- `HB_TIMEOUT` (R584). -/
def execHbTimeout (t : Nat) (s : State) : Host.Outcome State Fault Refusal :=
  s.runOn t fun s => s.hbTimedOut

/-- `TAKEOVER_LIVE` (R587). -/
def execTakeoverLive (t : Nat) (s : State) : Host.Outcome State Fault Refusal :=
  s.runOn t fun s => s.takeoverLive

/-- `PARTNER_ACTIVE_RISE` (R586). -/
def execPartnerActiveRise (t : Nat) (s : State) : Host.Outcome State Fault Refusal :=
  s.runOn t fun s => s.partnerActiveRise

/-- `PAIR_LINK_UP` (R589). -/
def execPairLinkUp (t : Nat) (s : State) : Host.Outcome State Fault Refusal :=
  s.runOn t fun s => s.pairLinkUp

/-- `LEASE_READ` (R582). -/
def execLeaseRead (t : Nat) (p : Packet) (s : State) : Host.Outcome State Fault Refusal :=
  s.runOn t fun s => State.take (p.operating 0x40 0) s

/-- `LEASE_GRANT_PRIMARY` (R583). -/
def execLeaseGrantPrimary (t : Nat) (p : Packet) (s : State) : Host.Outcome State Fault Refusal :=
  s.runOn t fun s => State.take (p.operating 0x40 1) s

/-- `LEASE_GRANT_SUCCESSION` (R584). -/
def execLeaseGrantSuccession (t : Nat) (p : Packet) (s : State) : Host.Outcome State Fault Refusal :=
  s.runOn t fun s => State.take (p.operating 0x40 2) s

/-- `LEASE_REVOKE` (R582). -/
def execLeaseRevoke (t : Nat) (p : Packet) (s : State) : Host.Outcome State Fault Refusal :=
  s.runOn t fun s => State.take (p.operating 0x40 3) s

/-- `LEASE_RELAY_TIMEOUT` (R582). -/
def execLeaseRelayTimeout (t : Nat) (s : State) : Host.Outcome State Fault Refusal :=
  s.runOn t fun s => s.leaseRelayTimeout

/-- `LEASE_EXPIRED` (R583). -/
def execLeaseExpired (t : Nat) (succession : Bool) (s : State) : Host.Outcome State Fault Refusal :=
  s.runOn t fun s => s.leaseExpired succession

/-- `PAIR_HANDOVER` (R588). -/
def execPairHandover (t : Nat) (p : Packet) (s : State) : Host.Outcome State Fault Refusal :=
  s.runOn t fun s => State.take (p.guarding 0x000C_001C 1) s

/-- `PAIR_REJOIN` (R570). -/
def execPairRejoin (t : Nat) (p : Packet) (s : State) : Host.Outcome State Fault Refusal :=
  s.runOn t fun s => State.take (p.guarding 0x000C_001C 2) s

/-- `PAIR_DECLARE_FAULT` (R581). -/
def execPairDeclareFault (t : Nat) (p : Packet) (s : State) : Host.Outcome State Fault Refusal :=
  s.runOn t fun s => State.take (p.guarding 0x000C_001C 3) s

/-- `MARK_WAIT_EXPIRY` (R573). -/
def execMarkWaitExpiry (t : Nat) (s : State) : Host.Outcome State Fault Refusal :=
  s.runOn t fun s => s.markExpiry

/-- `SELF_CHECK_EXPIRY` (R579). -/
def execSelfCheckExpiry (t : Nat) (bitNo : Nat) (s : State) : Host.Outcome State Fault Refusal :=
  s.runOn t fun s => s.checkExpires bitNo

end Sys2Proof.Machine
end

