-- ==== Sys2Proof/Machine/ExecPod.lean ====
section
/-! DEFINITION. The commands of pods: ticks, frames, ranges, resends and commands (R141 to R175): one
meaning per row of the table, over the operations of the units. `t` cycles pass first; `runOn` is for a hub out of HOLD. -/

namespace Sys2Proof.Machine

/-- `POD_TICK` (R146). -/
def execPodTick (t : Nat) (s : State) : Host.Outcome State Fault Refusal :=
  s.runOn t fun s => s.sendTicks

/-- `FRAME` (R163). -/
def execFrame (t : Nat) (lane : Nat) (m : List Byte) (s : State) : Host.Outcome State Fault Refusal :=
  s.runOn t fun s => s.podFrame lane 0 m

/-- `TICK_FRAME` (R151). -/
def execTickFrame (t : Nat) (lane : Nat) (m : List Byte) (s : State) : Host.Outcome State Fault Refusal :=
  s.runOn t fun s => s.podFrame lane 1 m

/-- `RESEND_FRAME` (R163). -/
def execResendFrame (t : Nat) (lane : Nat) (m : List Byte) (s : State) : Host.Outcome State Fault Refusal :=
  s.runOn t fun s => s.podFrame lane 2 m

/-- `POD_CAPS` (R157). -/
def execPodCaps (t : Nat) (lane : Nat) (m : List Byte) (s : State) : Host.Outcome State Fault Refusal :=
  s.runOn t fun s => s.podCaps lane m

/-- `RANGE` (R155). -/
def execRange (t : Nat) (lane : Nat) (m : List Byte) (s : State) : Host.Outcome State Fault Refusal :=
  s.runOn t fun s => s.podRange lane m

/-- `CMD_RESP` (R160). -/
def execCmdResp (t : Nat) (lane : Nat) (m : List Byte) (s : State) : Host.Outcome State Fault Refusal :=
  s.runOn t fun s => s.podCmdResp lane m

/-- `ECHO_RESP` (R149). -/
def execEchoResp (t : Nat) (lane : Nat) (m : List Byte) (rtt : Nat) (s : State) : Host.Outcome State Fault Refusal :=
  s.runOn t fun s => s.echoResp lane m rtt

/-- `INGEST_LAG_EXPIRY` (R165). -/
def execIngestLagExpiry (t : Nat) (lane : Nat) (s : State) : Host.Outcome State Fault Refusal :=
  s.runOn t fun s => s.lagDeadline lane

/-- `TICK_OUTSTANDING` (R164). -/
def execTickOutstanding (t : Nat) (lane : Nat) (tick : Nat) (s : State) : Host.Outcome State Fault Refusal :=
  s.runOn t fun s => s.tickOutstanding lane tick

/-- `RESEND_REQ_REPEAT` (R164). -/
def execResendReqRepeat (t : Nat) (lane : Nat) (tick : Nat) (s : State) : Host.Outcome State Fault Refusal :=
  s.runOn t fun s => s.resendRepeat lane tick

/-- `POD_NOP` (R161). -/
def execPodNop (t : Nat) (p : Packet) (s : State) : Host.Outcome State Fault Refusal :=
  s.runOn t fun s => State.take (p.podCmd 0) s

/-- `POD_STOP` (R161). -/
def execPodStop (t : Nat) (p : Packet) (s : State) : Host.Outcome State Fault Refusal :=
  s.runOn t fun s => State.take (p.podCmd 1) s

/-- `POD_RESET` (R161). -/
def execPodReset (t : Nat) (p : Packet) (s : State) : Host.Outcome State Fault Refusal :=
  s.runOn t fun s => State.take (p.podCmd 2) s

/-- `POD_IDENTIFY` (R161). -/
def execPodIdentify (t : Nat) (p : Packet) (s : State) : Host.Outcome State Fault Refusal :=
  s.runOn t fun s => State.take (p.podCmd 3) s

/-- `POD_VENDOR_CMD` (R161). -/
def execPodVendorCmd (t : Nat) (p : Packet) (s : State) : Host.Outcome State Fault Refusal :=
  s.runOn t fun s => State.take (p.podCmd (max 0x40 (leAt p.payload 0 1))) s

/-- `POD_CMD_TIMEOUT` (R160). -/
def execPodCmdTimeout (t : Nat) (lane : Nat) (s : State) : Host.Outcome State Fault Refusal :=
  s.runOn t fun s => s.podCmdTimeout lane

/-- `POD_QUAR_RELEASE` (R170). -/
def execPodQuarRelease (t : Nat) (p : Packet) (s : State) : Host.Outcome State Fault Refusal :=
  s.runOn t fun s => State.take (p.asWrite 0x0005_000C) s

/-- `UNKNOWN_MESSAGE_TYPE` (R142). -/
def execUnknownMessageType (t : Nat) (lane : Nat) (s : State) : Host.Outcome State Fault Refusal :=
  s.runOn t fun s => s.unknownMessage lane

end Sys2Proof.Machine
end

