-- ==== Sys2Proof/Machine/ExecSystem.lean ====
section
/-! DEFINITION. The commands of resets, modes, the ends of TRAIN, surges and QUIESCE, and epochs (R45, R46, R625 to R652): one
meaning per row of the table, over the operations of the units. `t` cycles pass first; `runOn` is for a hub out of HOLD. -/

namespace Sys2Proof.Machine

/-- `POWER_ON_RESET` (R630). -/
def execPowerOnReset (t : Nat) (s : State) : Host.Outcome State Fault Refusal :=
  s.run t fun s => s.reborn

/-- `PIN_RESET` (R630). -/
def execPinReset (t : Nat) (s : State) : Host.Outcome State Fault Refusal :=
  s.run t fun s => s.reborn

/-- `RESET_RELEASE` (R631). -/
def execResetRelease (t : Nat) (pairId : Bool) (addr : BitVec 3) (boot : BitVec 2) (s : State) : Host.Outcome State Fault Refusal :=
  s.run t fun s => s.resetRelease pairId addr boot

/-- `AON_FEEDS_LOST` (R662). -/
def execAonFeedsLost (t : Nat) (s : State) : Host.Outcome State Fault Refusal :=
  s.run t fun s => s.aonLost

/-- `AON_FEED_CHANGE` (R662). -/
def execAonFeedChange (t : Nat) (feedB : Bool) (present : Bool) (s : State) : Host.Outcome State Fault Refusal :=
  s.run t fun s => s.aonChange feedB present

/-- `HOLD_EXIT` (R634). -/
def execHoldExit (t : Nat) (avs : AvsAnswer) (s : State) : Host.Outcome State Fault Refusal :=
  s.run t fun s => s.holdExit avs

/-- `FLASH_COPY_READ_DONE` (R515). -/
def execFlashCopyReadDone (t : Nat) (header : List Byte) (image : List Byte) (s : State) : Host.Outcome State Fault Refusal :=
  s.runOn t fun s => s.flashRead header image

/-- `HIVE_INIT_DONE` (R375). -/
def execHiveInitDone (t : Nat) (s : State) : Host.Outcome State Fault Refusal :=
  s.runOn t fun s => s.hiveInitDone

/-- `TRAIN_END` (R635). -/
def execTrainEnd (t : Nat) (s : State) : Host.Outcome State Fault Refusal :=
  s.runOn t fun s => s.trainEnd

/-- `EPOCH_GRID_START` (R45). -/
def execEpochGridStart (t : Nat) (s : State) : Host.Outcome State Fault Refusal :=
  s.runOn t fun s =>
    let (avs, s) := s.fresh Config.avsAnswer
    s.epochGridStart avs

/-- `MODE_REQ_QUIESCE` (R647). -/
def execModeReqQuiesce (t : Nat) (p : Packet) (s : State) : Host.Outcome State Fault Refusal :=
  s.runOn t fun s => State.take (p.guarding 0x10 11) s

/-- `MODE_REQ_TEST` (R649). -/
def execModeReqTest (t : Nat) (p : Packet) (s : State) : Host.Outcome State Fault Refusal :=
  s.runOn t fun s => State.take (p.guarding 0x10 10) s

/-- `MODE_REQ_LEAVE_TEST` (R649). -/
def execModeReqLeaveTest (t : Nat) (p : Packet) (s : State) : Host.Outcome State Fault Refusal :=
  s.runOn t fun s => State.take (p.guarding 0x10 (modeCode s.sys.prev)) s

/-- `MODE_REQ_SAFE` (R644). -/
def execModeReqSafe (t : Nat) (p : Packet) (s : State) : Host.Outcome State Fault Refusal :=
  s.runOn t fun s => State.take (p.guarding 0x10 9) s

/-- `FIELD_LINK_TIMEOUT` (R644). -/
def execFieldLinkTimeout (t : Nat) (s : State) : Host.Outcome State Fault Refusal :=
  s.runOn t fun s => s.fieldLinkTimeout

/-- `OVERTEMP` (R644). -/
def execOvertemp (t : Nat) (temp : Int) (s : State) : Host.Outcome State Fault Refusal :=
  s.runOn t fun s => s.overtemp temp

/-- `QUIESCE_POINT` (R647). -/
def execQuiescePoint (t : Nat) (s : State) : Host.Outcome State Fault Refusal :=
  s.runOn t fun s => s.quiescePoint

/-- `QUIESCED` (R648). -/
def execQuiesced (t : Nat) (s : State) : Host.Outcome State Fault Refusal :=
  s.runOn t fun s => s.quiescedNow

/-- `SURGE_DETECT` (R638). -/
def execSurgeDetect (t : Nat) (cause : SurgeCause) (ch : Nat) (s : State) : Host.Outcome State Fault Refusal :=
  s.runOn t fun s => s.surgeDetect cause ch

/-- `SURGE_QUIET` (R638). -/
def execSurgeQuiet (t : Nat) (s : State) : Host.Outcome State Fault Refusal :=
  s.runOn t fun s => s.surgeQuiet

/-- `LEAD_TEST_END` (R642). -/
def execLeadTestEnd (t : Nat) (loops : List LeadMeasure) (s : State) : Host.Outcome State Fault Refusal :=
  s.runOn t fun s => s.leadTestEnd loops

/-- `SURGE_CHAIN_RESTART` (R238). -/
def execSurgeChainRestart (t : Nat) (s : State) : Host.Outcome State Fault Refusal :=
  s.runOn t fun s => s.surgeChainRestart

/-- `CORE_RESET` (R630). -/
def execCoreReset (t : Nat) (p : Packet) (s : State) : Host.Outcome State Fault Refusal :=
  s.runOn t fun s => State.take (p.guarding 0x20 1) s

/-- `CORE_RESET_START` (R630). -/
def execCoreResetStart (t : Nat) (s : State) : Host.Outcome State Fault Refusal :=
  s.runOn t fun s => s.coreResetStart

/-- `FIELD_DIE_RESET` (R632). -/
def execFieldDieReset (t : Nat) (p : Packet) (s : State) : Host.Outcome State Fault Refusal :=
  s.runOn t fun s => State.take (p.guarding 0x20 2) s

/-- `FIELD_DIE_READY` (R632). -/
def execFieldDieReady (t : Nat) (s : State) : Host.Outcome State Fault Refusal :=
  s.run t fun s => s.fieldDieReady

/-- `EPOCH_BOUNDARY` (R46). -/
def execEpochBoundary (t : Nat) (s : State) : Host.Outcome State Fault Refusal :=
  s.runOn t fun s =>
    let (avs, s) := s.fresh Config.avsAnswer
    s.epochBoundary avs

/-- `FIELD_LINK_LOSS` (R644). -/
def execFieldLinkLoss (t : Nat) (s : State) : Host.Outcome State Fault Refusal :=
  s.run t fun s => s.fieldLinkLoss

/-- `FIELD_LINK_RETURN` (R555). -/
def execFieldLinkReturn (t : Nat) (s : State) : Host.Outcome State Fault Refusal :=
  s.run t fun s => s.fieldLinkReturn

end Sys2Proof.Machine
end

