-- ==== Sys2Proof/Machine/ExecTime.lean ====
section
/-! DEFINITION. The commands of hub time, its sources, steps, timed actions and the trunk (R399 to R445): one
meaning per row of the table, over the operations of the units. `t` cycles pass first; `runOn` is for a hub out of HOLD. -/

namespace Sys2Proof.Machine

/-- `SECOND_BEACON` (R20). -/
def execSecondBeacon (t : Nat) (s : State) : Host.Outcome State Fault Refusal :=
  s.runOn t fun s => s.secondBeacon

/-- `PPS_EDGE` (R403). -/
def execPpsEdge (t : Nat) (resid : Int) (s : State) : Host.Outcome State Fault Refusal :=
  s.runOn t fun s => s.ppsEdge resid

/-- `PPS_MISSING` (R403). -/
def execPpsMissing (t : Nat) (s : State) : Host.Outcome State Fault Refusal :=
  s.runOn t fun s => s.ppsMissing

/-- `TIME_TOD` (R405). -/
def execTimeTod (t : Nat) (p : Packet) (s : State) : Host.Outcome State Fault Refusal :=
  s.runOn t fun s => State.take (p.operating 0x38 2) s

/-- `TIME_SET` (R423). -/
def execTimeSet (t : Nat) (p : Packet) (s : State) : Host.Outcome State Fault Refusal :=
  s.runOn t fun s => State.take (p.operating 0x38 1) s

/-- `TIME_READ` (R423). -/
def execTimeRead (t : Nat) (p : Packet) (s : State) : Host.Outcome State Fault Refusal :=
  s.runOn t fun s => State.take (p.operating 0x38 0) s

/-- `HOST_SOURCE_EXPIRY` (R403). -/
def execHostSourceExpiry (t : Nat) (s : State) : Host.Outcome State Fault Refusal :=
  s.runOn t fun s => s.hostExpiry

/-- `TSYNC_SEND` (R407). -/
def execTsyncSend (t : Nat) (lane : Nat) (s : State) : Host.Outcome State Fault Refusal :=
  s.runOn t fun s => s.tsyncSend lane

/-- `TSYNC` (R407). -/
def execTsync (t : Nat) (lane : Nat) (m : List Byte) (arrival : Int) (s : State) : Host.Outcome State Fault Refusal :=
  s.runOn t fun s => s.tsync lane m arrival

/-- `TDREQ` (R407). -/
def execTdreq (t : Nat) (lane : Nat) (m : List Byte) (arrival : Int) (s : State) : Host.Outcome State Fault Refusal :=
  s.runOn t fun s => s.tdreq lane m arrival

/-- `TDRESP` (R408). -/
def execTdresp (t : Nat) (lane : Nat) (m : List Byte) (s : State) : Host.Outcome State Fault Refusal :=
  s.runOn t fun s => s.tdresp lane m

/-- `EXCHANGE_TIMEOUT` (R407). -/
def execExchangeTimeout (t : Nat) (lane : Nat) (s : State) : Host.Outcome State Fault Refusal :=
  s.runOn t fun s => s.exchTimeout lane

/-- `ANNOUNCE_SEND` (R431). -/
def execAnnounceSend (t : Nat) (s : State) : Host.Outcome State Fault Refusal :=
  s.runOn t fun s => s.announceSend

/-- `ANNOUNCE` (R431). -/
def execAnnounce (t : Nat) (lane : Nat) (m : List Byte) (s : State) : Host.Outcome State Fault Refusal :=
  s.runOn t fun s => s.announceIn lane m

/-- `ACTIVE_NEIGHBOUR_EXPIRY` (R431). -/
def execActiveNeighbourExpiry (t : Nat) (_down : Bool) (s : State) : Host.Outcome State Fault Refusal :=
  s.runOn t fun s => s.followNeighbours

/-- `TCAPS` (R430). -/
def execTcaps (t : Nat) (lane : Nat) (m : List Byte) (s : State) : Host.Outcome State Fault Refusal :=
  s.runOn t fun s => s.tcapsIn lane m

/-- `TCAPS_ACK` (R430). -/
def execTcapsAck (t : Nat) (lane : Nat) (m : List Byte) (s : State) : Host.Outcome State Fault Refusal :=
  s.runOn t fun s => s.tcapsAckIn lane m

/-- `REQUAL_EXPIRY` (R421). -/
def execRequalExpiry (t : Nat) (s : State) : Host.Outcome State Fault Refusal :=
  s.runOn t fun s => s.requalTake

/-- `SLEW_END` (R411). -/
def execSlewEnd (t : Nat) (s : State) : Host.Outcome State Fault Refusal :=
  s.runOn t fun s => s.slewEnd

/-- `TIME_ACCEPT` (R414). -/
def execTimeAccept (t : Nat) (p : Packet) (s : State) : Host.Outcome State Fault Refusal :=
  s.runOn t fun s => State.take (p.guarding 0x0002_0020 1) s

/-- `TIME_STEP` (R415). -/
def execTimeStep (t : Nat) (s : State) : Host.Outcome State Fault Refusal :=
  s.runOn t fun s => s.timeStep

/-- `TIMED_ACTION_RUN` (R426). -/
def execTimedActionRun (t : Nat) (e : Nat) (s : State) : Host.Outcome State Fault Refusal :=
  s.runOn t fun s => s.runTimed e

/-- `TA_WRITE_ENTRY` (R425). -/
def execTaWriteEntry (t : Nat) (p : Packet) (s : State) : Host.Outcome State Fault Refusal :=
  s.runOn t fun s => State.take (p.writing 0x0002_0218 1) s

/-- `TA_LOAD_ENTRY` (R443). -/
def execTaLoadEntry (t : Nat) (p : Packet) (s : State) : Host.Outcome State Fault Refusal :=
  s.runOn t fun s => State.take (p.writing 0x0002_0218 2) s

/-- `TA_CANCEL_ENTRY` (R443). -/
def execTaCancelEntry (t : Nat) (p : Packet) (s : State) : Host.Outcome State Fault Refusal :=
  s.runOn t fun s => State.take (p.writing 0x0002_0218 3) s

/-- `PPS_OUT_EDGE` (R428). -/
def execPpsOutEdge (t : Nat) (s : State) : Host.Outcome State Fault Refusal :=
  s.runOn t fun s => s.ppsOutEdge

/-- `PPS_OUT_PULSE_END` (R428). -/
def execPpsOutPulseEnd (t : Nat) (s : State) : Host.Outcome State Fault Refusal :=
  s.runOn t fun s => s.ppsOutEnd

/-- `RELAY` (R438). -/
def execRelay (t : Nat) (lane : Nat) (m : List Byte) (s : State) : Host.Outcome State Fault Refusal :=
  s.runOn t fun s => s.relayIn lane m

/-- `RELAY_REWIND_TIMEOUT` (R439). -/
def execRelayRewindTimeout (t : Nat) (s : State) : Host.Outcome State Fault Refusal :=
  s.runOn t fun s => s.relayRetry

/-- `TIME_NOW_LATCH_READ` (R443). -/
def execTimeNowLatchRead (t : Nat) (p : Packet) (s : State) : Host.Outcome State Fault Refusal :=
  s.runOn t fun s => State.take (p.reading 0x0002_0004) s

/-- `HOLD_LIMIT_CROSSED` (R420). -/
def execHoldLimitCrossed (t : Nat) (s : State) : Host.Outcome State Fault Refusal :=
  s.runOn t id

end Sys2Proof.Machine
end

