-- ==== Sys2Proof/Machine/ExecTrigger.lean ====
section
/-! DEFINITION. The commands of triggers and capture (R332 to R365): one
meaning per row of the table, over the operations of the units. `t` cycles pass first; `runOn` is for a hub out of HOLD. -/

namespace Sys2Proof.Machine

/-- `TRIG_EVENT_ARRIVAL` (R337). -/
def execTrigEventArrival (t : Nat) (src : Nat) (stamp : Nat) (s : State) : Host.Outcome State Fault Refusal :=
  s.runOn t fun s => s.trigEventArrival src stamp

/-- `UNIT_TAKE_EVENT` (R338). -/
def execUnitTakeEvent (t : Nat) (u : Nat) (s : State) : Host.Outcome State Fault Refusal :=
  s.runOn t fun s => s.takeEvent u

/-- `TRIG_IN_EDGE` (R334). -/
def execTrigInEdge (t : Nat) (edge : TrigEdge) (s : State) : Host.Outcome State Fault Refusal :=
  s.runOn t fun s => s.trigInEdge edge

/-- `TRIG_OUT_PULSE_END` (R339). -/
def execTrigOutPulseEnd (t : Nat) (ball : Nat) (s : State) : Host.Outcome State Fault Refusal :=
  s.runOn t fun s => s.trigOutEnd ball

/-- `ENGINE_ARMED` (R343). -/
def execEngineArmed (t : Nat) (e : Nat) (s : State) : Host.Outcome State Fault Refusal :=
  s.runOn t fun s => s.armDue e

/-- `ENGINE_REARM` (R343). -/
def execEngineRearm (t : Nat) (e : Nat) (s : State) : Host.Outcome State Fault Refusal :=
  s.runOn t fun s => s.armDue e

/-- `CAPTURE_CLOSE` (R348). -/
def execCaptureClose (t : Nat) (e : Nat) (s : State) : Host.Outcome State Fault Refusal :=
  s.runOn t fun s => s.recordCloses e false

/-- `CAPTURE_COPY_DONE` (R349). -/
def execCaptureCopyDone (t : Nat) (e : Nat) (s : State) : Host.Outcome State Fault Refusal :=
  s.runOn t fun s => s.copyDone e

/-- `SEGMENT_CLOSE` (R351). -/
def execSegmentClose (t : Nat) (e : Nat) (s : State) : Host.Outcome State Fault Refusal :=
  s.runOn t fun s => s.recordCloses e true

/-- `SEGMENT_REARM` (R351). -/
def execSegmentRearm (t : Nat) (e : Nat) (s : State) : Host.Outcome State Fault Refusal :=
  s.runOn t fun s => s.segmentRearm e

/-- `SEG_QUIET_DECISION` (R352). -/
def execSegQuietDecision (t : Nat) (e : Nat) (s : State) : Host.Outcome State Fault Refusal :=
  s.runOn t fun s => s.segQuietDecision e

/-- `ARM` (R343). -/
def execArm (t : Nat) (p : Packet) (s : State) : Host.Outcome State Fault Refusal :=
  s.runOn t fun s => State.take (p.withOp 0x32) s

/-- `FIRE` (R483). -/
def execFire (t : Nat) (p : Packet) (s : State) : Host.Outcome State Fault Refusal :=
  s.runOn t fun s => State.take (p.withOp 0x33) s

/-- `SWARM_ARM` (R356). -/
def execSwarmArm (t : Nat) (lane : Nat) (m : List Byte) (s : State) : Host.Outcome State Fault Refusal :=
  s.runOn t fun s => s.swarmArmIn lane m

/-- `ARM_RESULT` (R357). -/
def execArmResult (t : Nat) (lane : Nat) (m : List Byte) (s : State) : Host.Outcome State Fault Refusal :=
  s.runOn t fun s => s.armResultIn lane m

/-- `ARMED_MASK_FIXED` (R357). -/
def execArmedMaskFixed (t : Nat) (s : State) : Host.Outcome State Fault Refusal :=
  s.runOn t fun s => s.fixMask

/-- `SWARM_FIRE` (R358). -/
def execSwarmFire (t : Nat) (lane : Nat) (m : List Byte) (s : State) : Host.Outcome State Fault Refusal :=
  s.runOn t fun s => s.swarmFireIn lane m

end Sys2Proof.Machine
end

