-- ==== Sys2Proof/Machine/Dispatch.lean ====
section
/-! DEFINITION. One arm per command: a direct call of its meaning. -/

namespace Sys2Proof.Machine

def exec (i : Instr) (s : State) : Host.Outcome State Fault Refusal :=
  match i with
  | .powerOnReset t => Sys2Proof.Machine.execPowerOnReset t s
  | .pinReset t => Sys2Proof.Machine.execPinReset t s
  | .resetRelease t pairId addr boot => Sys2Proof.Machine.execResetRelease t pairId addr boot s
  | .aonFeedsLost t => Sys2Proof.Machine.execAonFeedsLost t s
  | .aonFeedChange t feedB present => Sys2Proof.Machine.execAonFeedChange t feedB present s
  | .holdExit t avs => Sys2Proof.Machine.execHoldExit t avs s
  | .flashCopyReadDone t header image => Sys2Proof.Machine.execFlashCopyReadDone t header image s
  | .hiveInitDone t => Sys2Proof.Machine.execHiveInitDone t s
  | .trainEnd t => Sys2Proof.Machine.execTrainEnd t s
  | .epochGridStart t => Sys2Proof.Machine.execEpochGridStart t s
  | .modeReqQuiesce t p => Sys2Proof.Machine.execModeReqQuiesce t p s
  | .modeReqTest t p => Sys2Proof.Machine.execModeReqTest t p s
  | .modeReqLeaveTest t p => Sys2Proof.Machine.execModeReqLeaveTest t p s
  | .modeReqSafe t p => Sys2Proof.Machine.execModeReqSafe t p s
  | .fieldLinkTimeout t => Sys2Proof.Machine.execFieldLinkTimeout t s
  | .overtemp t temp => Sys2Proof.Machine.execOvertemp t temp s
  | .quiescePoint t => Sys2Proof.Machine.execQuiescePoint t s
  | .quiesced t => Sys2Proof.Machine.execQuiesced t s
  | .surgeDetect t cause ch => Sys2Proof.Machine.execSurgeDetect t cause ch s
  | .surgeQuiet t => Sys2Proof.Machine.execSurgeQuiet t s
  | .leadTestEnd t loops => Sys2Proof.Machine.execLeadTestEnd t loops s
  | .surgeChainRestart t => Sys2Proof.Machine.execSurgeChainRestart t s
  | .coreReset t p => Sys2Proof.Machine.execCoreReset t p s
  | .coreResetStart t => Sys2Proof.Machine.execCoreResetStart t s
  | .fieldDieReset t p => Sys2Proof.Machine.execFieldDieReset t p s
  | .fieldDieReady t => Sys2Proof.Machine.execFieldDieReady t s
  | .refWindowEnd t w => Sys2Proof.Machine.execRefWindowEnd t w s
  | .refLossOfSignal t c => Sys2Proof.Machine.execRefLossOfSignal t c s
  | .pllLock t => Sys2Proof.Machine.execPllLock t s
  | .pllNoLock t => Sys2Proof.Machine.execPllNoLock t s
  | .refGraceExpiry t => Sys2Proof.Machine.execRefGraceExpiry t s
  | .clkCoastEnd t => Sys2Proof.Machine.execClkCoastEnd t s
  | .marginEvaluation t minima avs => Sys2Proof.Machine.execMarginEvaluation t minima avs s
  | .clkPlanNow t p avs => Sys2Proof.Machine.execClkPlanNow t p avs s
  | .marginAlarm t sensor slack avs => Sys2Proof.Machine.execMarginAlarm t sensor slack avs s
  | .hourlyEyeScans t => Sys2Proof.Machine.execHourlyEyeScans t s
  | .avsRetryTimer t avs => Sys2Proof.Machine.execAvsRetryTimer t avs s
  | .avsRetry t p avs => Sys2Proof.Machine.execAvsRetry t p avs s
  | .clkRefCfgWrite t p => Sys2Proof.Machine.execClkRefCfgWrite t p s
  | .clkVlimitWrite t p avs => Sys2Proof.Machine.execClkVlimitWrite t p avs s
  | .excitationPulseOn t k => Sys2Proof.Machine.execExcitationPulseOn t k s
  | .windowStart t k => Sys2Proof.Machine.execWindowStart t k s
  | .windowEnd t k c => Sys2Proof.Machine.execWindowEnd t k c s
  | .housekeepingEnd t k reading => Sys2Proof.Machine.execHousekeepingEnd t k reading s
  | .witnessUpdate t k => Sys2Proof.Machine.execWitnessUpdate t k s
  | .witnessStartupDone t means => Sys2Proof.Machine.execWitnessStartupDone t means s
  | .mainsCycle t period peak => Sys2Proof.Machine.execMainsCycle t period peak s
  | .excLimitEngage t k => Sys2Proof.Machine.execExcLimitEngage t k s
  | .complianceLoss t k => Sys2Proof.Machine.execComplianceLoss t k s
  | .excEnable t p => Sys2Proof.Machine.execExcEnable t p s
  | .excDisable t p => Sys2Proof.Machine.execExcDisable t p s
  | .spot t p => Sys2Proof.Machine.execSpot t p s
  | .spotEnd t k c => Sys2Proof.Machine.execSpotEnd t k c s
  | .calZero t p => Sys2Proof.Machine.execCalZero t p s
  | .calSpan t p => Sys2Proof.Machine.execCalSpan t p s
  | .calAbort t p => Sys2Proof.Machine.execCalAbort t p s
  | .calStepEnd t k => Sys2Proof.Machine.execCalStepEnd t k s
  | .calStepTimeout t k => Sys2Proof.Machine.execCalStepTimeout t k s
  | .podTick t => Sys2Proof.Machine.execPodTick t s
  | .frame t lane m => Sys2Proof.Machine.execFrame t lane m s
  | .tickFrame t lane m => Sys2Proof.Machine.execTickFrame t lane m s
  | .resendFrame t lane m => Sys2Proof.Machine.execResendFrame t lane m s
  | .podCaps t lane m => Sys2Proof.Machine.execPodCaps t lane m s
  | .range t lane m => Sys2Proof.Machine.execRange t lane m s
  | .cmdResp t lane m => Sys2Proof.Machine.execCmdResp t lane m s
  | .echoResp t lane m rtt => Sys2Proof.Machine.execEchoResp t lane m rtt s
  | .ingestLagExpiry t lane => Sys2Proof.Machine.execIngestLagExpiry t lane s
  | .tickOutstanding t lane tick => Sys2Proof.Machine.execTickOutstanding t lane tick s
  | .resendReqRepeat t lane tick => Sys2Proof.Machine.execResendReqRepeat t lane tick s
  | .podNop t p => Sys2Proof.Machine.execPodNop t p s
  | .podStop t p => Sys2Proof.Machine.execPodStop t p s
  | .podReset t p => Sys2Proof.Machine.execPodReset t p s
  | .podIdentify t p => Sys2Proof.Machine.execPodIdentify t p s
  | .podVendorCmd t p => Sys2Proof.Machine.execPodVendorCmd t p s
  | .podCmdTimeout t lane => Sys2Proof.Machine.execPodCmdTimeout t lane s
  | .podQuarRelease t p => Sys2Proof.Machine.execPodQuarRelease t p s
  | .laneDetect t lane term energy => Sys2Proof.Machine.execLaneDetect t lane term energy s
  | .laneStateTimeout t lane => Sys2Proof.Machine.execLaneStateTimeout t lane s
  | .trainingBlock t lane tcw => Sys2Proof.Machine.execTrainingBlock t lane tcw s
  | .tcwTimeout t lane => Sys2Proof.Machine.execTcwTimeout t lane s
  | .presetSearchStep t lane opening => Sys2Proof.Machine.execPresetSearchStep t lane opening s
  | .rxAdaptDone t lane ctle dfe => Sys2Proof.Machine.execRxAdaptDone t lane ctle dfe s
  | .trainHandshakeDone t lane => Sys2Proof.Machine.execTrainHandshakeDone t lane s
  | .bitLock t lane => Sys2Proof.Machine.execBitLock t lane s
  | .symlockAcquired t lane => Sys2Proof.Machine.execSymlockAcquired t lane s
  | .symlockLost t lane => Sys2Proof.Machine.execSymlockLost t lane s
  | .laneBackoffEnd t lane => Sys2Proof.Machine.execLaneBackoffEnd t lane s
  | .laneRetrain t p => Sys2Proof.Machine.execLaneRetrain t p s
  | .laneGenSet t p => Sys2Proof.Machine.execLaneGenSet t p s
  | .laneChkSet t p => Sys2Proof.Machine.execLaneChkSet t p s
  | .laneLoopSet t p => Sys2Proof.Machine.execLaneLoopSet t p s
  | .checkerSync t lane => Sys2Proof.Machine.execCheckerSync t lane s
  | .checkerSyncLoss t lane errors bitsMi => Sys2Proof.Machine.execCheckerSyncLoss t lane errors bitsMi s
  | .laneInjGo t p => Sys2Proof.Machine.execLaneInjGo t p s
  | .laneInjStop t p => Sys2Proof.Machine.execLaneInjStop t p s
  | .eyeScanStart t p => Sys2Proof.Machine.execEyeScanStart t p s
  | .eyeScanStep t lane disagree => Sys2Proof.Machine.execEyeScanStep t lane disagree s
  | .epochBoundary t => Sys2Proof.Machine.execEpochBoundary t s
  | .combBlock t prog hits => Sys2Proof.Machine.execCombBlock t prog hits s
  | .spectralFrame t prog hits => Sys2Proof.Machine.execSpectralFrame t prog hits s
  | .svdDone t prog => Sys2Proof.Machine.execSvdDone t prog s
  | .productEmit t prog => Sys2Proof.Machine.execProductEmit t prog s
  | .matchWindowEnd t prog chan template => Sys2Proof.Machine.execMatchWindowEnd t prog chan template s
  | .matchIntervalEnd t prog => Sys2Proof.Machine.execMatchIntervalEnd t prog s
  | .rebuildDone t => Sys2Proof.Machine.execRebuildDone t s
  | .foreign t lane m => Sys2Proof.Machine.execForeign t lane m s
  | .fmap t lane m => Sys2Proof.Machine.execFmap t lane m s
  | .fmapSend t down => Sys2Proof.Machine.execFmapSend t down s
  | .trigEventArrival t src stamp => Sys2Proof.Machine.execTrigEventArrival t src stamp s
  | .unitTakeEvent t u => Sys2Proof.Machine.execUnitTakeEvent t u s
  | .trigInEdge t edge => Sys2Proof.Machine.execTrigInEdge t edge s
  | .trigOutPulseEnd t ball => Sys2Proof.Machine.execTrigOutPulseEnd t ball s
  | .engineArmed t e => Sys2Proof.Machine.execEngineArmed t e s
  | .engineRearm t e => Sys2Proof.Machine.execEngineRearm t e s
  | .captureClose t e => Sys2Proof.Machine.execCaptureClose t e s
  | .captureCopyDone t e => Sys2Proof.Machine.execCaptureCopyDone t e s
  | .segmentClose t e => Sys2Proof.Machine.execSegmentClose t e s
  | .segmentRearm t e => Sys2Proof.Machine.execSegmentRearm t e s
  | .segQuietDecision t e => Sys2Proof.Machine.execSegQuietDecision t e s
  | .arm t p => Sys2Proof.Machine.execArm t p s
  | .fire t p => Sys2Proof.Machine.execFire t p s
  | .swarmArm t lane m => Sys2Proof.Machine.execSwarmArm t lane m s
  | .armResult t lane m => Sys2Proof.Machine.execArmResult t lane m s
  | .armedMaskFixed t => Sys2Proof.Machine.execArmedMaskFixed t s
  | .swarmFire t lane m => Sys2Proof.Machine.execSwarmFire t lane m s
  | .scrubRead t bank found => Sys2Proof.Machine.execScrubRead t bank found s
  | .hiveArbCommitArb t p => Sys2Proof.Machine.execHiveArbCommitArb t p s
  | .hiveArbCommitEgr t p => Sys2Proof.Machine.execHiveArbCommitEgr t p s
  | .hiveEccInjWrite t p => Sys2Proof.Machine.execHiveEccInjWrite t p s
  | .secondBeacon t => Sys2Proof.Machine.execSecondBeacon t s
  | .ppsEdge t resid => Sys2Proof.Machine.execPpsEdge t resid s
  | .ppsMissing t => Sys2Proof.Machine.execPpsMissing t s
  | .timeTod t p => Sys2Proof.Machine.execTimeTod t p s
  | .timeSet t p => Sys2Proof.Machine.execTimeSet t p s
  | .timeRead t p => Sys2Proof.Machine.execTimeRead t p s
  | .hostSourceExpiry t => Sys2Proof.Machine.execHostSourceExpiry t s
  | .tsyncSend t lane => Sys2Proof.Machine.execTsyncSend t lane s
  | .tsync t lane m arrival => Sys2Proof.Machine.execTsync t lane m arrival s
  | .tdreq t lane m arrival => Sys2Proof.Machine.execTdreq t lane m arrival s
  | .tdresp t lane m => Sys2Proof.Machine.execTdresp t lane m s
  | .exchangeTimeout t lane => Sys2Proof.Machine.execExchangeTimeout t lane s
  | .announceSend t => Sys2Proof.Machine.execAnnounceSend t s
  | .announce t lane m => Sys2Proof.Machine.execAnnounce t lane m s
  | .activeNeighbourExpiry t down => Sys2Proof.Machine.execActiveNeighbourExpiry t down s
  | .tcaps t lane m => Sys2Proof.Machine.execTcaps t lane m s
  | .tcapsAck t lane m => Sys2Proof.Machine.execTcapsAck t lane m s
  | .requalExpiry t => Sys2Proof.Machine.execRequalExpiry t s
  | .slewEnd t => Sys2Proof.Machine.execSlewEnd t s
  | .timeAccept t p => Sys2Proof.Machine.execTimeAccept t p s
  | .timeStep t => Sys2Proof.Machine.execTimeStep t s
  | .timedActionRun t e => Sys2Proof.Machine.execTimedActionRun t e s
  | .taWriteEntry t p => Sys2Proof.Machine.execTaWriteEntry t p s
  | .taLoadEntry t p => Sys2Proof.Machine.execTaLoadEntry t p s
  | .taCancelEntry t p => Sys2Proof.Machine.execTaCancelEntry t p s
  | .ppsOutEdge t => Sys2Proof.Machine.execPpsOutEdge t s
  | .ppsOutPulseEnd t => Sys2Proof.Machine.execPpsOutPulseEnd t s
  | .relay t lane m => Sys2Proof.Machine.execRelay t lane m s
  | .relayRewindTimeout t => Sys2Proof.Machine.execRelayRewindTimeout t s
  | .nectarRecordIn t stream => Sys2Proof.Machine.execNectarRecordIn t stream s
  | .flushLagExpiry t stream => Sys2Proof.Machine.execFlushLagExpiry t stream s
  | .eventsRecordTimeout t => Sys2Proof.Machine.execEventsRecordTimeout t s
  | .eventsLost t => Sys2Proof.Machine.execEventsLost t s
  | .overflowGapWrite t stream => Sys2Proof.Machine.execOverflowGapWrite t stream s
  | .packetHdrBad t port => Sys2Proof.Machine.execPacketHdrBad t port s
  | .packetTrailerBad t p => Sys2Proof.Machine.execPacketTrailerBad t p s
  | .linkSkip t lane received => Sys2Proof.Machine.execLinkSkip t lane received s
  | .badOpcode t p => Sys2Proof.Machine.execBadOpcode t p s
  | .rd t p => Sys2Proof.Machine.execRd t p s
  | .wr t p => Sys2Proof.Machine.execWr t p s
  | .ixrd t p => Sys2Proof.Machine.execIxrd t p s
  | .ixwr t p => Sys2Proof.Machine.execIxwr t p s
  | .gwr t p => Sys2Proof.Machine.execGwr t p s
  | .rdb t p => Sys2Proof.Machine.execRdb t p s
  | .wrb t p => Sys2Proof.Machine.execWrb t p s
  | .img t p => Sys2Proof.Machine.execImg t p s
  | .commit t p => Sys2Proof.Machine.execCommit t p s
  | .cfgCommitWrite t p => Sys2Proof.Machine.execCfgCommitWrite t p s
  | .imageApply t => Sys2Proof.Machine.execImageApply t s
  | .partialApplyTick t => Sys2Proof.Machine.execPartialApplyTick t s
  | .configCrcPass t upset => Sys2Proof.Machine.execConfigCrcPass t upset s
  | .cfgRefWrite t p => Sys2Proof.Machine.execCfgRefWrite t p s
  | .otpProgram t p => Sys2Proof.Machine.execOtpProgram t p s
  | .otpProgramDone t => Sys2Proof.Machine.execOtpProgramDone t s
  | .guardFirstWrite t p => Sys2Proof.Machine.execGuardFirstWrite t p s
  | .guardTimeout t port => Sys2Proof.Machine.execGuardTimeout t port s
  | .lock t p => Sys2Proof.Machine.execLock t p s
  | .unlock t p => Sys2Proof.Machine.execUnlock t p s
  | .lockReqTake t p => Sys2Proof.Machine.execLockReqTake t p s
  | .lockReqRelease t p => Sys2Proof.Machine.execLockReqRelease t p s
  | .lockLeaseExpiry t n => Sys2Proof.Machine.execLockLeaseExpiry t n s
  | .ixAddrWrite t p => Sys2Proof.Machine.execIxAddrWrite t p s
  | .ixDataRead t p => Sys2Proof.Machine.execIxDataRead t p s
  | .ixDataWrite t p => Sys2Proof.Machine.execIxDataWrite t p s
  | .timeNowLatchRead t p => Sys2Proof.Machine.execTimeNowLatchRead t p s
  | .readClear t p => Sys2Proof.Machine.execReadClear t p s
  | .registerWrite t p => Sys2Proof.Machine.execRegisterWrite t p s
  | .drCfgEnWrite t p => Sys2Proof.Machine.execDrCfgEnWrite t p s
  | .streamOpen t p => Sys2Proof.Machine.execStreamOpen t p s
  | .streamClose t p => Sys2Proof.Machine.execStreamClose t p s
  | .ack t p => Sys2Proof.Machine.execAck t p s
  | .unitResetLane t p => Sys2Proof.Machine.execUnitResetLane t p s
  | .unitResetPod t p => Sys2Proof.Machine.execUnitResetPod t p s
  | .unitResetTrig t p => Sys2Proof.Machine.execUnitResetTrig t p s
  | .unitResetHostp t p => Sys2Proof.Machine.execUnitResetHostp t p s
  | .dripFrame t stopOk bs => Sys2Proof.Machine.execDripFrame t stopOk bs s
  | .dripRetryTimeout t => Sys2Proof.Machine.execDripRetryTimeout t s
  | .dripPortReset t => Sys2Proof.Machine.execDripPortReset t s
  | .i2cCommandStop t bs => Sys2Proof.Machine.execI2cCommandStop t bs s
  | .i2cResponseRead t => Sys2Proof.Machine.execI2cResponseRead t s
  | .i2cEventRead t => Sys2Proof.Machine.execI2cEventRead t s
  | .i2cPortReset t => Sys2Proof.Machine.execI2cPortReset t s
  | .dapRead t addr => Sys2Proof.Machine.execDapRead t addr s
  | .dapReadClear t addr => Sys2Proof.Machine.execDapReadClear t addr s
  | .dapWrite t addr data => Sys2Proof.Machine.execDapWrite t addr data s
  | .tapReset t => Sys2Proof.Machine.execTapReset t s
  | .plHbSend t => Sys2Proof.Machine.execPlHbSend t s
  | .plHb t plseq hb => Sys2Proof.Machine.execPlHb t plseq hb s
  | .plFwd t plseq fseq tick p => Sys2Proof.Machine.execPlFwd t plseq fseq tick p s
  | .forwardApply t => Sys2Proof.Machine.execForwardApply t s
  | .applyTimeReached t => Sys2Proof.Machine.execApplyTimeReached t s
  | .plAck t plseq entries => Sys2Proof.Machine.execPlAck t plseq entries s
  | .plDigest t plseq stream rseq frag digest => Sys2Proof.Machine.execPlDigest t plseq stream rseq frag digest s
  | .cmpWaitExpiry t => Sys2Proof.Machine.execCmpWaitExpiry t s
  | .plMark t plseq mark => Sys2Proof.Machine.execPlMark t plseq mark s
  | .plLocal t plseq ch slot word stamp => Sys2Proof.Machine.execPlLocal t plseq ch slot word stamp s
  | .plTicks t plseq lane ticks => Sys2Proof.Machine.execPlTicks t plseq lane ticks s
  | .plJoin t plseq boundary entries => Sys2Proof.Machine.execPlJoin t plseq boundary entries s
  | .plLease t plseq msg => Sys2Proof.Machine.execPlLease t plseq msg s
  | .plFault t plseq fault selfCheck => Sys2Proof.Machine.execPlFault t plseq fault selfCheck s
  | .pairJoinRequest t => Sys2Proof.Machine.execPairJoinRequest t s
  | .hbTimeout t => Sys2Proof.Machine.execHbTimeout t s
  | .takeoverLive t => Sys2Proof.Machine.execTakeoverLive t s
  | .partnerActiveRise t => Sys2Proof.Machine.execPartnerActiveRise t s
  | .pairLinkUp t => Sys2Proof.Machine.execPairLinkUp t s
  | .leaseRead t p => Sys2Proof.Machine.execLeaseRead t p s
  | .leaseGrantPrimary t p => Sys2Proof.Machine.execLeaseGrantPrimary t p s
  | .leaseGrantSuccession t p => Sys2Proof.Machine.execLeaseGrantSuccession t p s
  | .leaseRevoke t p => Sys2Proof.Machine.execLeaseRevoke t p s
  | .leaseRelayTimeout t => Sys2Proof.Machine.execLeaseRelayTimeout t s
  | .leaseExpired t succession => Sys2Proof.Machine.execLeaseExpired t succession s
  | .pairHandover t p => Sys2Proof.Machine.execPairHandover t p s
  | .pairRejoin t p => Sys2Proof.Machine.execPairRejoin t p s
  | .pairDeclareFault t p => Sys2Proof.Machine.execPairDeclareFault t p s
  | .limitingEnd t k => Sys2Proof.Machine.execLimitingEnd t k s
  | .complianceRestored t k => Sys2Proof.Machine.execComplianceRestored t k s
  | .mainsSignalLoss t => Sys2Proof.Machine.execMainsSignalLoss t s
  | .fieldOtpCheckDone t good => Sys2Proof.Machine.execFieldOtpCheckDone t good s
  | .unknownMessageType t lane => Sys2Proof.Machine.execUnknownMessageType t lane s
  | .stuffErr t lane => Sys2Proof.Machine.execStuffErr t lane s
  | .syncMiss t lane => Sys2Proof.Machine.execSyncMiss t lane s
  | .farTrainingEnd t lane => Sys2Proof.Machine.execFarTrainingEnd t lane s
  | .holdLimitCrossed t => Sys2Proof.Machine.execHoldLimitCrossed t s
  | .hostStop t on => Sys2Proof.Machine.execHostStop t on s
  | .packetSent t port => Sys2Proof.Machine.execPacketSent t port s
  | .ctsNChange t low => Sys2Proof.Machine.execCtsNChange t low s
  | .extest t ir boundary => Sys2Proof.Machine.execExtest t ir boundary s
  | .markWaitExpiry t => Sys2Proof.Machine.execMarkWaitExpiry t s
  | .selfCheckExpiry t bitNo => Sys2Proof.Machine.execSelfCheckExpiry t bitNo s
  | .fieldLinkLoss t => Sys2Proof.Machine.execFieldLinkLoss t s
  | .fieldLinkReturn t => Sys2Proof.Machine.execFieldLinkReturn t s

end Sys2Proof.Machine
end

