-- ==== Sys2Proof/WellFormed.lean ====
section
/-! DEFINITION. Which commands are well formed: the operands lie in the ranges the rules give them (R176 for lanes, R340 for
engines, R335 for units, R550 for locks, R424 for timed actions, R478 for packets). The machine takes any command; an ill-formed
one names something the hub does not have. -/

namespace Sys2Proof

/-- A packet's payload is at most 4,096 bytes (R477) and it comes on one of the 32 lanes. -/
def Packet.framed (p : Packet) : Bool := p.payload.length ≤ 4096 && p.lane < 32

/-- Only a packet that the active forwards carries a Δ beside it (R417). -/
def Packet.wf (p : Packet) : Bool := p.framed && p.delta.isNone

/-- The pod lanes (R176). -/
def podLane (l : Nat) : Bool := l < 24
/-- The trunk lanes U0, U1, D0 and D1 (R176). -/
def trunkLane (l : Nat) : Bool := 24 ≤ l && l < 28
/-- Lanes that carry time exchanges: the trunk lanes, and the pair lanes (R407, R566). -/
def timedLane (l : Nat) : Bool := trunkLane l || l == 30 || l == 31

/-- Operands in range, command by command. -/
def Instr.wellFormed : Instr → Bool
  | .powerOnReset _ => true
  | .pinReset _ => true
  | .resetRelease _ _ _ _ => true
  | .aonFeedsLost _ => true
  | .aonFeedChange _ _ _ => true
  | .holdExit _ _ => true
  | .flashCopyReadDone _ _ image => image.length ≤ 8388608
  | .hiveInitDone _ => true
  | .trainEnd _ => true
  | .epochGridStart _ => true
  | .modeReqQuiesce _ p => p.wf
  | .modeReqTest _ p => p.wf
  | .modeReqLeaveTest _ p => p.wf
  | .modeReqSafe _ p => p.wf
  | .fieldLinkTimeout _ => true
  | .overtemp _ _ => true
  | .quiescePoint _ => true
  | .quiesced _ => true
  | .surgeDetect _ _ ch => ch < 32
  | .surgeQuiet _ => true
  | .leadTestEnd _ loops => loops.all (·.ch < 32)
  | .surgeChainRestart _ => true
  | .coreReset _ p => p.wf
  | .coreResetStart _ => true
  | .fieldDieReset _ p => p.wf
  | .fieldDieReady _ => true
  | .refWindowEnd _ _ => true
  | .refLossOfSignal _ _ => true
  | .pllLock _ => true
  | .pllNoLock _ => true
  | .refGraceExpiry _ => true
  | .clkCoastEnd _ => true
  | .marginEvaluation _ minima _ => minima.length ≤ 64
  | .clkPlanNow _ p _ => p.wf
  | .marginAlarm _ sensor slack _ => sensor < 64 && slack < 1024
  | .hourlyEyeScans _ => true
  | .avsRetryTimer _ _ => true
  | .avsRetry _ p _ => p.wf
  | .clkRefCfgWrite _ p => p.wf
  | .clkVlimitWrite _ p _ => p.wf
  | .excitationPulseOn _ k => k < 32
  | .windowStart _ k => k < 32
  | .windowEnd _ k _ => k < 32
  | .housekeepingEnd _ k _ => k < 32
  | .witnessUpdate _ k => k < 32
  | .witnessStartupDone _ _ => true
  | .mainsCycle _ _ _ => true
  | .excLimitEngage _ k => k < 32
  | .complianceLoss _ k => k < 32
  | .excEnable _ p => p.wf
  | .excDisable _ p => p.wf
  | .spot _ p => p.wf
  | .spotEnd _ k _ => k < 32
  | .calZero _ p => p.wf
  | .calSpan _ p => p.wf
  | .calAbort _ p => p.wf
  | .calStepEnd _ k => k < 32
  | .calStepTimeout _ k => k < 32
  | .podTick _ => true
  | .frame _ lane m => podLane lane && m.length ≤ 255
  | .tickFrame _ lane m => podLane lane && m.length ≤ 255
  | .resendFrame _ lane m => podLane lane && m.length ≤ 255
  | .podCaps _ lane m => podLane lane && m.length ≤ 255
  | .range _ lane m => podLane lane && m.length ≤ 255
  | .cmdResp _ lane m => podLane lane && m.length ≤ 255
  | .echoResp _ lane m _ => podLane lane && m.length ≤ 255
  | .ingestLagExpiry _ lane => podLane lane
  | .tickOutstanding _ lane _ => podLane lane
  | .resendReqRepeat _ lane _ => podLane lane
  | .podNop _ p => p.wf
  | .podStop _ p => p.wf
  | .podReset _ p => p.wf
  | .podIdentify _ p => p.wf
  | .podVendorCmd _ p => p.wf
  | .podCmdTimeout _ lane => podLane lane
  | .podQuarRelease _ p => p.wf
  | .laneDetect _ lane _ _ => lane < 32
  | .laneStateTimeout _ lane => lane < 32
  | .trainingBlock _ lane _ => lane < 32
  | .tcwTimeout _ lane => lane < 32
  | .presetSearchStep _ lane _ => lane < 32
  | .rxAdaptDone _ lane _ _ => lane < 32
  | .trainHandshakeDone _ lane => lane < 32
  | .bitLock _ lane => lane < 32
  | .symlockAcquired _ lane => lane < 32
  | .symlockLost _ lane => lane < 32
  | .laneBackoffEnd _ lane => lane < 32
  | .laneRetrain _ p => p.wf
  | .laneGenSet _ p => p.wf
  | .laneChkSet _ p => p.wf
  | .laneLoopSet _ p => p.wf
  | .checkerSync _ lane => lane < 32
  | .checkerSyncLoss _ lane _ _ => lane < 32
  | .laneInjGo _ p => p.wf
  | .laneInjStop _ p => p.wf
  | .eyeScanStart _ p => p.wf
  | .eyeScanStep _ lane _ => lane < 32
  | .epochBoundary _ => true
  | .combBlock _ prog _ => prog < 8
  | .spectralFrame _ prog _ => prog < 8
  | .svdDone _ prog => prog < 8
  | .productEmit _ prog => prog < 8
  | .matchWindowEnd _ prog chan template => prog < 8 && chan < 1536 && template.templ < 256
  | .matchIntervalEnd _ prog => prog < 8
  | .rebuildDone _ => true
  | .foreign _ lane _ => trunkLane lane
  | .fmap _ lane m => trunkLane lane && m.length ≤ 255
  | .fmapSend _ _ => true
  | .trigEventArrival _ src _ => src < 65536
  | .unitTakeEvent _ u => u < 16
  | .trigInEdge _ edge => edge.ball < 2
  | .trigOutPulseEnd _ ball => ball < 2
  | .engineArmed _ e => e < 8
  | .engineRearm _ e => e < 8
  | .captureClose _ e => e < 8
  | .captureCopyDone _ e => e < 8
  | .segmentClose _ e => e < 8
  | .segmentRearm _ e => e < 8
  | .segQuietDecision _ e => e < 8
  | .arm _ p => p.wf
  | .fire _ p => p.wf
  | .swarmArm _ lane m => trunkLane lane && m.length ≤ 255
  | .armResult _ lane m => trunkLane lane && m.length ≤ 255
  | .armedMaskFixed _ => true
  | .swarmFire _ lane m => trunkLane lane && m.length ≤ 255
  | .scrubRead _ bank _ => bank < 32
  | .hiveArbCommitArb _ p => p.wf
  | .hiveArbCommitEgr _ p => p.wf
  | .hiveEccInjWrite _ p => p.wf
  | .secondBeacon _ => true
  | .ppsEdge _ _ => true
  | .ppsMissing _ => true
  | .timeTod _ p => p.wf
  | .timeSet _ p => p.wf
  | .timeRead _ p => p.wf
  | .hostSourceExpiry _ => true
  | .tsyncSend _ lane => timedLane lane
  | .tsync _ lane m _ => timedLane lane && m.length ≤ 255
  | .tdreq _ lane m _ => timedLane lane && m.length ≤ 255
  | .tdresp _ lane m => timedLane lane && m.length ≤ 255
  | .exchangeTimeout _ lane => timedLane lane
  | .announceSend _ => true
  | .announce _ lane m => trunkLane lane && m.length ≤ 255
  | .activeNeighbourExpiry _ _ => true
  | .tcaps _ lane m => trunkLane lane && m.length ≤ 255
  | .tcapsAck _ lane m => trunkLane lane && m.length ≤ 255
  | .requalExpiry _ => true
  | .slewEnd _ => true
  | .timeAccept _ p => p.wf
  | .timeStep _ => true
  | .timedActionRun _ e => e < 64
  | .taWriteEntry _ p => p.wf
  | .taLoadEntry _ p => p.wf
  | .taCancelEntry _ p => p.wf
  | .ppsOutEdge _ => true
  | .ppsOutPulseEnd _ => true
  | .relay _ lane m => trunkLane lane && m.length ≤ 255
  | .relayRewindTimeout _ => true
  | .nectarRecordIn _ stream => stream < 65536
  | .flushLagExpiry _ stream => stream < 65536
  | .eventsRecordTimeout _ => true
  | .eventsLost _ => true
  | .overflowGapWrite _ stream => stream < 65536
  | .packetHdrBad _ port => port != .own
  | .packetTrailerBad _ p => p.wf
  | .linkSkip _ lane received => (lane == 28 || lane == 29) && received < 65536
  | .badOpcode _ p => p.wf
  | .rd _ p => p.wf
  | .wr _ p => p.wf
  | .ixrd _ p => p.wf
  | .ixwr _ p => p.wf
  | .gwr _ p => p.wf
  | .rdb _ p => p.wf
  | .wrb _ p => p.wf
  | .img _ p => p.wf
  | .commit _ p => p.wf
  | .cfgCommitWrite _ p => p.wf
  | .imageApply _ => true
  | .partialApplyTick _ => true
  | .configCrcPass _ _ => true
  | .cfgRefWrite _ p => p.wf
  | .otpProgram _ p => p.wf
  | .otpProgramDone _ => true
  | .guardFirstWrite _ p => p.wf
  | .guardTimeout _ port => port != .own
  | .lock _ p => p.wf
  | .unlock _ p => p.wf
  | .lockReqTake _ p => p.wf
  | .lockReqRelease _ p => p.wf
  | .lockLeaseExpiry _ n => n < 16
  | .ixAddrWrite _ p => p.wf
  | .ixDataRead _ p => p.wf
  | .ixDataWrite _ p => p.wf
  | .timeNowLatchRead _ p => p.wf
  | .readClear _ p => p.wf
  | .registerWrite _ p => p.wf
  | .drCfgEnWrite _ p => p.wf
  | .streamOpen _ p => p.wf
  | .streamClose _ p => p.wf
  | .ack _ p => p.wf
  | .unitResetLane _ p => p.wf
  | .unitResetPod _ p => p.wf
  | .unitResetTrig _ p => p.wf
  | .unitResetHostp _ p => p.wf
  | .dripFrame _ _ _ => true
  | .dripRetryTimeout _ => true
  | .dripPortReset _ => true
  | .i2cCommandStop _ _ => true
  | .i2cResponseRead _ => true
  | .i2cEventRead _ => true
  | .i2cPortReset _ => true
  | .dapRead _ _ => true
  | .dapReadClear _ _ => true
  | .dapWrite _ _ _ => true
  | .tapReset _ => true
  | .plHbSend _ => true
  | .plHb _ plseq _ => plseq < 65536
  | .plFwd _ plseq fseq _ p => plseq < 65536 && fseq < 2 ^ 32 && p.framed
  | .forwardApply _ => true
  | .applyTimeReached _ => true
  | .plAck _ plseq entries => plseq < 65536 && entries.all (fun e => e.1 < 65536 && e.2 < 2 ^ 32)
  | .plDigest _ plseq stream _ _ _ => plseq < 65536 && stream < 65536
  | .cmpWaitExpiry _ => true
  | .plMark _ plseq _ => plseq < 65536
  | .plLocal _ plseq ch _ _ _ => plseq < 65536 && ch < 32
  | .plTicks _ plseq lane _ => plseq < 65536 && podLane lane
  | .plJoin _ plseq _ entries => plseq < 65536 && entries.all (fun e => e.stream < 65536 && e.rseq < 2 ^ 32)
  | .plLease _ plseq _ => plseq < 65536
  | .plFault _ plseq _ _ => plseq < 65536
  | .pairJoinRequest _ => true
  | .hbTimeout _ => true
  | .takeoverLive _ => true
  | .partnerActiveRise _ => true
  | .pairLinkUp _ => true
  | .leaseRead _ p => p.wf
  | .leaseGrantPrimary _ p => p.wf
  | .leaseGrantSuccession _ p => p.wf
  | .leaseRevoke _ p => p.wf
  | .leaseRelayTimeout _ => true
  | .leaseExpired _ _ => true
  | .pairHandover _ p => p.wf
  | .pairRejoin _ p => p.wf
  | .pairDeclareFault _ p => p.wf
  | .limitingEnd _ k => k < 32
  | .complianceRestored _ k => k < 32
  | .mainsSignalLoss _ => true
  | .fieldOtpCheckDone _ _ => true
  | .unknownMessageType _ lane => lane < 32
  | .stuffErr _ lane => lane < 32
  | .syncMiss _ lane => lane < 32
  | .farTrainingEnd _ lane => lane < 32
  | .holdLimitCrossed _ => true
  | .hostStop _ _ => true
  | .packetSent _ port => (port == .host || port == .drip)
  | .ctsNChange _ _ => true
  | .extest _ _ _ => true
  | .markWaitExpiry _ => true
  | .selfCheckExpiry _ bitNo => bitNo < 5
  | .fieldLinkLoss _ => true
  | .fieldLinkReturn _ => true

end Sys2Proof
end

