-- ==== Sys2Proof/Safety.lean ====
section
/-! DEFINITION. What the statements about runs are said in: stored tables in their canonical form, a hub held in HOLD, memory but for
descriptors, and a command that a port takes and serves at once. -/

namespace Sys2Proof.Machine

/-- Hive memory and the register file are in their canonical form. -/
def State.wf (s : State) : Bool := Memory.wf s.hive.mem && Tab.wf regReset s.regs

/-- What HOLD leaves of a hub (R630, R633, R634): no time counted, no memory, configuration, lane, stream, record or command in
flight, no lock held, excitation not enabled, no field-die reset under way; and no `HOLD_EXIT` among the commands waiting. -/
structure AtRest (s : State) : Prop where
  mode : s.sys.mode = .hold
  exc : s.sys.excEn = false
  stopped : s.time.running = false
  zero : s.time.now = 0
  memory : s.hive.mem = []
  config : s.cfg = {}
  lanes : s.lanes = []
  pods : s.pods = []
  chains : s.chains = []
  streams : s.streams = []
  events : s.ev = {}
  host : s.host = {}
  drip : s.drip = {}
  compressor : s.nx = {}
  triggers : s.trig = {}
  comb : s.comb = {}
  locks : s.ports.locks = []
  inbound : s.ports.inbound = []
  reordered : s.ports.held = []
  fieldDie : s.field.resetting = false
  regs : Tab.wf regReset s.regs = true
  queue : ∀ t avs, Instr.holdExit t avs ∉ s.pending

/-- No byte of memory differs between two states but where the closing of blocks writes them and their descriptors (R461, R462): every byte below the base
of each pool that a stream's blocks go to reads as before. -/
def SameBelowPools (s v : State) : Prop :=
  ∀ a, (∀ r ∈ s.routes, r.nxMode ≠ 0 → a < s.poolBase r.nxPool) → v.hiveByte a = s.hiveByte a

/-- A message is asked for at a trunk lane's egress arbiter, in a slot (R394, R441). -/
def State.egressAsks (s : State) (lane slot : Nat) (m : List Byte) : Bool :=
  (s.egressArb lane).wants.any fun x => x.req == slot && x.msg == m

/-- A message is on its way out: asked for at its trunk lane's arbiter, in a slot, or sent at once on a lane that has none. -/
def State.goesOut (s : State) (lane slot : Nat) (m : List Byte) : Bool :=
  if lane < 28 then s.egressAsks lane slot m else s.wire.contains { lane := lane, bytes := m }

/-- No message waits at a trunk lane. -/
def State.egressIdle (s : State) : Bool := [24, 25, 26, 27].all fun l => (s.egressArb l).wants.isEmpty

/-- A command that the host port of an unpaired hub takes and serves at once: it is next in the order of `LSEQ` (R476), for this hub
(R478), its tag is free (R480), the inbound FIFO and the reserve have room (R500, R503), nothing waits before it, the mode serves
it (R513), and no apply time defers it (R590); an `ARM` carries its own arm time. -/
structure Admits (s : State) (p : Packet) : Prop where
  awake : s.sys.mode ≠ .hold
  single : s.pair.role = 0
  port : p.port = .host
  direct : p.lane ≠ 30
  next : p.lseq.toNat = s.ports.expect
  none : s.ports.held = []
  room : s.inboundFill + 20 + p.payload.length ≤ 65536
  tag : s.inFlight p = false
  free : s.mustWait p = false
  here : s.elsewhere p = false
  served : s.serves p = true
  now : s.takesApply p = false

/-- The same for a hub that is no standby, where the command is none that the active of a pair forwards (R569). -/
structure Takes (s : State) (p : Packet) : Prop where
  awake : s.sys.mode ≠ .hold
  leads : s.isStandby = false
  alone : (s.forwards && p.changesState) = false
  port : p.port = .host
  direct : p.lane ≠ 30
  next : p.lseq.toNat = s.ports.expect
  none : s.ports.held = []
  room : s.inboundFill + 20 + p.payload.length ≤ 65536
  tag : s.inFlight p = false
  free : s.mustWait p = false
  here : s.elsewhere p = false
  served : s.serves p = true
  now : s.takesApply p = false

/-- The state in which such a command has its effect: its number taken and its tag in flight. -/
def State.admitted (s : State) (p : Packet) : State :=
  ({ s with free := s.free + 1, ports := { s.ports with expect := (s.ports.expect + 1) % 65536 } } : State).updPort .host
    fun x => { x with inflight := x.inflight ++ [(p.hub.toNat, p.tag.toNat)] }

/-- The packet's effect and answer in that state; the regulator's answer, where a write brings one about, is open. -/
def State.effect (s : State) (p : Packet) : Reply × State := (s.admitted p).applyPacket p (Config.avsAnswer s.free)

end Sys2Proof.Machine
end

