-- ==== Sys2Proof/Certificates/Slice0/Obligations.lean ====
section
/-! DEFINITION. The statements for the provers. The last fifty-two say, of each command, that it answers a next state with the
effect the rules cited give it and what it leaves alone. `u` is the state once the command's time has passed and `v.finish u` what follows
from a command at its end (R37, R491, R500 among them). All of them rest on the model's form of commands, times and conditions: log entries 2, 3 and 57. -/

open Sys2Proof Machine

/-- What a step runs: the command at the front of the queue, on the state whose queue is the rest; with nothing waiting, one `CORE` cycle passes
(the model's choice: notes/assumptions/1.md). -/
def Obligations.StepTakesTheFront : Prop :=
  (∀ (c : Instr) (rest : List Instr) (s : State), step { s with pending := c :: rest } = exec c { s with pending := rest }) ∧
  (∀ s : State, s.pending = [] → step s = .next (s.elapse 1))

/-- After reset a hub is at rest, and the registers whose reset values the rules give read so (R174, R396, R443, R517, R559, R621).
Where the rules leave it open it says the model's choice: log entries 6, 7 and 8. -/
def Obligations.ResetLeavesAtRest : Prop :=
  AtRest State.reset ∧ State.wf State.reset = true ∧
  (∀ av ∈ [(0x000B_0008, 0x0010_0030), (0x000B_000C, 0x0004_0010), (0x000B_0010, 0x0000_0800), (0x000B_0084, 0x0000_4B7F),
      (0x000E_0000, 10), (0x0003_0004, 0x000A_140E), (0x0003_0040, 3), (0x0003_0044, 0x021E_2850), (0x0003_0048, 0x02EE_0320),
      (0x0008_0010, 0xACE1), (0x0008_0014, 0x2020_4040), (0x0008_0018, 0x0810_1020), (0x0008_001C, 0x0004_0004),
      (0x0008_0020, 0x0010_0010), (0x0008_0024, 0x0010_0010), (0x0008_0028, 0x0100_0010), (0x0008_002C, 10),
      (0x0008_0030, 0x1010_1010), (0x0008_0034, 0x1010_1010), (0x0008_0038, 0x0010_0010), (0x0008_0044, 0x0010_0010),
      (0x0008_0000, 0x0008_0020), (0x000B_0000, 8), (0x0003_0000, 0x10), (0x0003_0008, 0x18),
      (0x0003_0058, 0x0640_0000), (0x0003_0100, 0x3FF), (0x0005_0100, 0x0004_0814), (0x0002_0100, 0xA00)],
    (State.reset.peek .host av.1).toNat = av.2)

/-- A hub at rest stays at rest by every step, until a `HOLD_EXIT` waits (R630, R633, R634).
Where the rules leave it open it says the model's choice: log entry 96. -/
def Obligations.HoldKeepsAtRest : Prop :=
  ∀ s s' : State, AtRest s → step s = .next s' → AtRest s'

/-- Nothing but `HOLD_EXIT` takes a hub out of HOLD, and that only with `RST_N` high, the PLL locked and the time of a core reset over
(R607, R630, R634).
Where the rules leave it open it says the model's choice: log entry 96. -/
def Obligations.OnlyHoldExitLeavesHold : Prop :=
  ∀ (c : Instr) (s s' : State), s.sys.mode = .hold → exec c s = .next s' → s'.sys.mode ≠ .hold →
    ∃ (t : Nat) (avs : AvsAnswer), c = .holdExit t avs ∧ s.sys.rstHigh = true ∧ s.clk.lock = true ∧ s.sys.holdUntil ≤ s.time.cyc + t

/-- Sample words (R12, R13): a word that carries a value has it saturated to 31 bits and a sign, never 0x8000_0000, with `CLIP` whenever it was
saturated; one with `ABSENT` carries none of `CLIP`, `LATE`, `SLEW` and `EVENT`, and of the other three what applies. -/
def Obligations.SampleWordsSaturate : Prop :=
  ∀ (v : Int) (range seq : Nat) (f : WordFlags) (w : Word48), w = sampleWord v range f seq →
    (f.absent = false → wAbsent w = false ∧ wValue w = max (-2 ^ 31 + 1) (min (2 ^ 31 - 1) v)
      ∧ w.toNat / 65536 ≠ 0x8000_0000 ∧ (v < -2 ^ 31 + 1 ∨ 2 ^ 31 - 1 < v → wClip w = true)) ∧
    (f.absent = true → wAbsent w = true ∧ wClip w = false ∧ bit w.toNat 8 = false ∧ bit w.toNat 7 = false ∧ bit w.toNat 4 = false
      ∧ wSettling w = f.settling ∧ wSuspect w = f.suspect ∧ bit w.toNat 5 = f.surge)

/-- Records (R24, R495): a stream's numbers start at 0 as it opens; each record it writes, of any type, takes the next, which wraps after
0xFFFF_FFFF; a record travels as packets of 4,096 payload bytes, the last holding the rest and marked `LAST`, numbered from 0,
and records enter a FIFO one after another, each whole. -/
def Obligations.RecordsNumberedAndSplit : Prop :=
  (∀ (s : State) (r : Route), ((s.openStream r).stream r.id).rseq = 0) ∧
  (∀ (s : State) (r : Route) (x : Record), ∃ y : Record, y.typ = x.typ ∧ y.stream = r.id ∧ y.rseq = (s.stream r.id).rseq
    ∧ y.payload = x.payload
    ∧ ((s.writeRecord r x).stream r.id).rseq = ((s.stream r.id).rseq + 1) % 2 ^ 32
    ∧ (r.nxMode = 0 → r.port = 1 → (s.writeRecord r x).drip.waiting = s.drip.waiting ++ [y])
    ∧ (r.nxMode = 0 → r.port ≠ 1 → (s.writeRecord r x).host.waiting = s.host.waiting ++ [y])
    ∧ (r.nxMode ≠ 0 → (s.writeRecord r x).nx.inq = s.nx.inq ++ [y])) ∧
  (∀ (hub : Nat) (r : Record), ((recordPkts hub r).flatMap (·.payload)) = r.bytes
    ∧ ∀ (i : Nat) (p : OutPkt), (recordPkts hub r)[i]? = some p →
        p.opcode = 0x80 ∧ p.addr = r.stream + i * 65536 ∧ 1 ≤ p.payload.length ∧ p.payload.length ≤ 4096
        ∧ (i + 1 < (recordPkts hub r).length → p.payload.length = 4096 ∧ p.pflags = 0)
        ∧ (i + 1 = (recordPkts hub r).length → p.pflags = 2)) ∧
  (∀ (cap hub : Nat) (rs : List Record) (f : Fifo), ∃ n, (Fifo.takeRecords cap hub rs f).waiting = rs.drop n
    ∧ (Fifo.takeRecords cap hub rs f).q = f.q ++ (rs.take n).flatMap (recordPkts hub))

/-- The lottery of a bank's arbiter (R386): its register steps once, by the bits named; the contender wins whose interval of tickets holds r mod T,
in ascending order, or with no ticket the one that has waited longest, the lower on a tie. -/
def Obligations.LotteryByTickets : Prop :=
  (∀ r : BitVec 16, lfsrStep r = (r <<< 1) ||| (if ((r.getLsbD 15 ^^ r.getLsbD 13) ^^ (r.getLsbD 12 ^^ r.getLsbD 10)) then 1 else 0)) ∧
  (∀ w0 w1 i, (ticketList w0 w1).getD i 0 ≤ 255) ∧
  (∀ (egress : Bool) (a : Arbiter) (cs xs : List Nat) (total r : Nat), cs ≠ [] → cs.Pairwise (· < ·) → (∀ f ∈ a.forced, f ∉ cs) →
    xs = (if cs.any (isClassS egress) then cs.filter (isClassS egress) else cs) →
    total = (xs.map fun x => a.tickets.getD x 0).sum → r = (lfsrStep a.lfsr).toNat →
    (a.arbitrate egress cs).2.lfsr = lfsrStep a.lfsr ∧
    (0 < total → ∀ pre w post, xs = pre ++ w :: post → (pre.map fun x => a.tickets.getD x 0).sum ≤ r % total →
      r % total < (pre.map fun x => a.tickets.getD x 0).sum + a.tickets.getD w 0 → (a.arbitrate egress cs).1 = w) ∧
    (total = 0 → (a.arbitrate egress cs).1 ∈ xs ∧ ∀ c ∈ xs, a.waits.getD c 0 ≤ a.waits.getD (a.arbitrate egress cs).1 0
      ∧ (a.waits.getD c 0 = a.waits.getD (a.arbitrate egress cs).1 0 → (a.arbitrate egress cs).1 ≤ c)))

/-- Hive memory and the register file (R369, R381): a write puts its bytes where they are addressed and changes no other byte, a register written
reads back and no other changes, and both tables keep their canonical form.
Where the rules leave it open it says the model's choice: log entry 9. -/
def Obligations.HiveAndRegistersHold : Prop :=
  (∀ (s : State) (req a : Nat) (bs : List Byte), State.wf s = true →
    State.wf (s.hiveWrite req a bs) = true ∧ (∀ i v, bs[i]? = some v → (s.hiveWrite req a bs).hiveByte (a + i) = v)
      ∧ (∀ b, b < a ∨ a + bs.length ≤ b → (s.hiveWrite req a bs).hiveByte b = s.hiveByte b)
      ∧ (s.hiveWrite req a bs).pods = s.pods ∧ (s.hiveWrite req a bs).streams = s.streams
      ∧ (s.hiveWrite req a bs).field = s.field ∧ (s.hiveWrite req a bs).cfg = s.cfg) ∧
  (∀ (s : State) (a : Nat) (v : Word), State.wf s = true →
    State.wf (s.setReg a v) = true ∧ (s.setReg a v).reg a = v ∧ (∀ b, b ≠ a → (s.setReg a v).reg b = s.reg b)
      ∧ (s.setReg a v).hive = s.hive) ∧
  (∀ (s : State) (req : Nat) (ws : List Nat), State.wf s = true → State.wf (s.eccRead req ws).1 = true
    ∧ (s.eccRead req ws).1.hive.mem = s.hive.mem)

/-- Resets (R630 to R632, R662): a power-on reset, a pin reset and the loss of both always-on feeds leave the state after reset, but for the
variant, the user OTP, the feeds and the commands that wait outside the hub; a core reset, 10 µs after its guarded write, keeps the
straps too. `RST_N` rising samples the straps. A field-die reset opens every switch and sets the die's checks going again.
Where the rules leave it open it says the model's choice: log entries 5, 94 and 173. -/
def Obligations.ResetsComplete : Prop :=
  ∀ (s u r : State) (t : Nat), u = s.elapse t →
    r = { State.reset with
      sys := { State.reset.sys with variant := s.sys.variant }
      field := { State.reset.field with userOtp := s.field.userOtp }
      pair := { State.reset.pair with aonA := s.pair.aonA, aonB := s.pair.aonB }
      pending := s.pending, free := s.free } →
    exec (.powerOnReset t) s = .next r ∧ exec (.pinReset t) s = .next r ∧
    (s.pair.aonA = false → s.pair.aonB = false → exec (.aonFeedsLost t) s = .next r) ∧
    (∀ feedB present, exec (.aonFeedChange t feedB present) s
      = .next (({ u with pair := { s.pair with
          aonA := if feedB then s.pair.aonA else present, aonB := if feedB then present else s.pair.aonB } } : State).finish u)) ∧
    (∀ pairId addr boot, s.sys.mode = .hold → s.sys.rstHigh = false →
      exec (.resetRelease t pairId addr boot) s
        = .next { u with sys := { s.sys with rstHigh := true, pairId := pairId, addrStrap := addr, bootStrap := boot } }) ∧
    (∀ c, s.sys.mode ≠ .hold → s.sys.resetAt = some c → c ≤ u.time.cyc →
      exec (.coreResetStart t) s = .next { r with sys := { r.sys with
        rstHigh := true, pairId := s.sys.pairId, addrStrap := s.sys.addrStrap, bootStrap := s.sys.bootStrap
        holdUntil := 10 * cycPerUs } }) ∧
    (∀ p, Admits u (p.guarding 0x20 1) →
      ∃ w : State, exec (.coreReset t p) s = .next ((w.complete (p.guarding 0x20 1) stOk []).finish u)
        ∧ w.sys = { s.sys with resetAt := some (u.time.cyc + 10 * cycPerUs) } ∧ w.field = s.field ∧ w.streams = s.streams
        ∧ w.hive = s.hive) ∧
    (∀ p, Admits u (p.guarding 0x20 2) → s.sys.mode ≠ .surge → s.field.surgeAt = none →
      ∃ w : State, exec (.fieldDieReset t p) s = .next ((w.complete (p.guarding 0x20 2) stOk []).finish u)
        ∧ w.field.resetting = true ∧ w.field.otpChecked = false ∧ w.field.witnessValid = false
        ∧ (∀ k ∈ s.localsUsed, (w.local' k).isolated = true ∧ (w.local' k).excOn = false ∧ (w.local' k).fe = (s.local' k).fe)
        ∧ (∀ k, (w.local' k).witnessed = false) ∧ w.sys = s.sys ∧ w.hive.mem = s.hive.mem)

/-- Bring-up of the hub and its field die (R135, R375, R401, R515, R632, R634, R635, R644): leaving HOLD starts the counter at 0, clears Hive and
enables the host lanes of the straps; Hive is ready 131,072 cycles later; the die's OTP check compares the array's CRC, and its
link's loss and return and its readiness after a reset are noted; a flash image that passes its commit ends the boot; and TRAIN ends once its lanes have
been up, or after 5 s.
Where the rules leave it open it says the model's choice: log entries 29, 46 and 95. -/
def Obligations.BringUpComplete : Prop :=
  ∀ (s u : State) (t : Nat), u = s.elapse t →
    (∀ avs, s.sys.mode = .hold → s.sys.rstHigh = true → s.clk.lock = true → s.sys.holdUntil ≤ u.time.cyc →
      ∃ v : State, exec (.holdExit t avs) s = .next (v.finish u) ∧ v.sys.mode = .load ∧ v.sys.prev = .hold
        ∧ v.time.running = true ∧ v.time.now = 0 ∧ v.hive.mem = [] ∧ v.hive.initDone = false ∧ v.hive.initAt = u.time.cyc
        ∧ (s.sys.bootStrap.toNat ≤ 1 → (v.lane 28).enable = true) ∧ (s.sys.bootStrap.toNat = 0 → (v.lane 29).enable = true)
        ∧ (v.ports.bootRunning = true ↔ s.sys.bootStrap.toNat = 3) ∧ v.streams = s.streams ∧ v.cfg = s.cfg) ∧
    (∀ good, good = decide (otpRead 0xFFC = crc32c ((List.range 0x3FF).flatMap fun i => toLE 4 (otpRead (4 * i)).toNat)) →
      ∃ v : State, exec (.fieldOtpCheckDone t good) s = .next (v.finish u)
        ∧ v.field = { s.field with otpChecked := true, otpOk := good }
        ∧ v.sys = s.sys ∧ v.streams = s.streams ∧ v.hive = s.hive) ∧
    (s.field.resetting = true →
      ∃ v : State, exec (.fieldDieReady t) s = .next (v.finish u) ∧ v.field.resetting = false ∧ v.sys = s.sys
        ∧ v.hive.mem = s.hive.mem) ∧
    (s.sys.fdLink = true →
      exec (.fieldLinkLoss t) s
        = .next (({ u with sys := { s.sys with fdLink := false, fdDownAt := some u.time.cyc } } : State).finish u)) ∧
    exec (.fieldLinkReturn t) s = .next (({ u with sys := { s.sys with fdLink := true, fdDownAt := none } } : State).finish u) ∧
    (s.sys.mode ≠ .hold →
      (∀ header image n x y i, s.ports.bootRunning = true → bootHeaderOk header = true → s.cfg.staged = none →
        s.comb.rebuild = none → n = leAt header (if s.ports.bootCopy = 2 then 20 else 12) 4 →
        x = u.hiveWrite 5 stagingBase (image.take n) →
        ({ x with cfg := { x.cfg with stagedLen := 0 } } : State).readImage (image.take n).length 0 false = (.ok i, y) →
        y.imageChecks i = none → i.isFull = true ∨ (∀ sec ∈ i.secs, sec.1 ≠ 8) →
        ∃ (v : State) (g : Staged), exec (.flashCopyReadDone t header image) s = .next (v.finish u) ∧ v.ports.bootDone = true
          ∧ v.ports.bootRunning = false ∧ v.cfg.staged = some g ∧ g.isFull = i.isFull ∧ g.imageId = i.imageId
          ∧ g.sections = i.secs ∧ g.port = .own ∧ v.cfg.result = stOk) ∧
      (∀ header image, s.ports.bootRunning = true → bootHeaderOk header = false →
        ∃ v : State, exec (.flashCopyReadDone t header image) s = .next (v.finish u)
          ∧ (s.ports.bootCopy = 1 → v.ports.bootCopy = 2 ∧ v.ports.bootFailed = s.ports.bootFailed)
          ∧ (s.ports.bootCopy ≠ 1 → v.ports.bootFailed = true ∧ v.ports.bootRunning = false)
          ∧ v.sys = s.sys ∧ v.hive = s.hive) ∧
      (s.hive.initDone = false → s.hive.initAt + 131072 ≤ u.time.cyc →
        ∃ v : State, exec (.hiveInitDone t) s = .next (v.finish u) ∧ v.hive.initDone = true ∧ v.hive.mem = s.hive.mem
          ∧ (∀ b, b < 32 → (Tab.get (fun _ => ({} : Scrub)) v.hive.scrubs b).passAt = u.time.cyc) ∧ v.sys = s.sys ∧ v.regs = s.regs) ∧
      (s.sys.mode = .train → u.lanesReached = true ∨ s.sys.trainAt + 5 * cycPerS ≤ u.time.cyc →
        ∃ v : State, exec (.trainEnd t) s = .next (v.finish u) ∧ v.sys.mode = u.roleMode
          ∧ v.sys.prev = .train ∧ v.lanes = s.lanes ∧ v.streams = s.streams ∧ v.hive = s.hive))

/-- Requests of a mode (R629, R647, R649): QUIESCE from a mode that acquires sets the time Q and goes on acquiring; TEST is entered from LOAD, SAFE and a
finished QUIESCE, and left for the mode before it with the test features off; SAFE is entered from every other mode, TEST too.
Where the rules leave it open it says the model's choice: log entry 92. -/
def Obligations.ModeRequestsComplete : Prop :=
  ∀ (s u : State) (t : Nat) (p : Packet), u = s.elapse t →
    (Admits u (p.guarding 0x10 11) → s.sys.mode = .train ∨ s.sys.mode = .run ∨ s.sys.mode = .holdover ∨ s.sys.mode = .shadow →
      ∃ w : State, exec (.modeReqQuiesce t p) s = .next ((w.complete (p.guarding 0x10 11) stOk []).finish u)
        ∧ w.sys.mode = .quiesce ∧ w.sys.prev = s.sys.mode ∧ w.sys.quiesceAt = some u.quiesceTime ∧ w.sys.quiesced = false
        ∧ w.sys.excEn = s.sys.excEn ∧ w.hive.mem = s.hive.mem) ∧
    (Admits u (p.guarding 0x10 10) →
      s.sys.mode = .load ∨ s.sys.mode = .safe ∨ (s.sys.mode = .quiesce ∧ s.sys.quiesced = true) →
      ∃ w : State, exec (.modeReqTest t p) s = .next ((w.complete (p.guarding 0x10 10) stOk []).finish u)
        ∧ w.sys.mode = .test ∧ w.sys.prev = s.sys.mode ∧ w.streams = s.streams ∧ w.lanes = s.lanes ∧ w.hive = s.hive) ∧
    (Admits u (p.guarding 0x10 (modeCode s.sys.prev)) → s.sys.mode = .test → s.sys.prev ≠ .test → s.sys.prev ≠ .safe →
      ∃ w : State, exec (.modeReqLeaveTest t p) s
          = .next ((w.complete (p.guarding 0x10 (modeCode s.sys.prev)) stOk []).finish u)
        ∧ w.sys.mode = s.sys.prev ∧ w.sys.prev = .test ∧ w.hive = { s.hive with inject := none }
        ∧ w.reg 0x0008_0064 = s.reg 0x0008_0064 &&& 0x0FFF_FFF8 ∧ (∀ l, l < 32 → w.reg (laneReg l 0x10) = 0 ∧ (w.lane l).st ≠ 8
            ∧ (w.lane l).inject = none) ∧ w.streams = s.streams) ∧
    (Admits u (p.guarding 0x10 9) → s.sys.mode ≠ .safe →
      ∃ w : State, exec (.modeReqSafe t p) s = .next ((w.complete (p.guarding 0x10 9) stOk []).finish u)
        ∧ w.sys.mode = .safe ∧ w.sys.prev = s.sys.mode ∧ w.sys.excEn = false ∧ w.cfg.gridOn = false ∧ w.cfg.epoch = none
        ∧ w.comb.insts = [] ∧ SameBelowPools s w)

/-- SAFE and QUIESCE as they come about (R644, R645, R647, R648): a field link down for 10 ms with a `FRONT_END` in force and a temperature above
125 °C enter SAFE, which ends excitation, the epoch grid and Comb programs; at Q a QUIESCE stops what acquires and keeps the
excitation enable; with every record released and every pool empty it is quiesced.
Where the rules leave it open it says the model's choice: log entries 91 and 139. -/
def Obligations.StopsComplete : Prop :=
  ∀ (s u : State) (t : Nat), u = s.elapse t → s.sys.mode ≠ .hold →
    (∀ c, s.sys.fdDownAt = some c → c + 10 * cycPerMs ≤ u.time.cyc → s.field.feApplied = true → s.sys.mode ≠ .safe →
      ∃ v : State, exec (.fieldLinkTimeout t) s = .next (v.finish u) ∧ v.sys.mode = .safe ∧ v.sys.prev = s.sys.mode
        ∧ v.sys.excEn = false ∧ v.cfg.gridOn = false ∧ v.cfg.epoch = none ∧ v.comb.insts = [] ∧ SameBelowPools s v) ∧
    (∀ temp, 125_000 < temp → s.sys.mode ≠ .safe →
      ∃ v : State, exec (.overtemp t temp) s = .next (v.finish u) ∧ v.sys.mode = .safe ∧ v.sys.prev = s.sys.mode
        ∧ v.sys.temp = temp ∧ v.sys.excEn = false ∧ v.cfg.gridOn = false ∧ v.cfg.epoch = none ∧ v.comb.insts = []
        ∧ SameBelowPools s v) ∧
    (∀ q, s.sys.mode = .quiesce → s.sys.quiesceAt = some q → q ≤ u.ns →
      ∃ v : State, exec (.quiescePoint t) s = .next (v.finish u) ∧ v.sys.mode = .quiesce ∧ v.sys.quiesceAt = none
        ∧ v.sys.quiesceStamp = some (stampOfNs q) ∧ v.sys.quiesced = false ∧ v.sys.excEn = s.sys.excEn ∧ v.cfg.gridOn = false
        ∧ v.cfg.epoch = none ∧ v.comb.insts = [] ∧ SameBelowPools s v) ∧
    (∀ w, s.sys.mode = .quiesce → s.sys.quiesceStamp = some w → s.sys.quiesced = false → s.host.holdsData = false →
      s.drip.holdsData = false → s.nx.inq = [] → (∀ i, i < 16 → s.poolEmpty i = true) →
      ∃ v : State, exec (.quiesced t) s = .next (v.finish u) ∧ v.sys = { s.sys with quiesced := true }
        ∧ v.streams = s.streams ∧ v.hive = s.hive)

/-- A surge (R99, R238, R637 to R643): a condition in a mode that a surge interrupts enters SURGE, keeps the mode to go back to and opens the
switches of the channels in use with their drives off; in another mode it changes no mode; a condition within an episode starts its
50 ms again; at their end the lead-integrity test begins; 4 ms later it ends with a code for each channel in use that it measured,
held out where the code is not 0, and the episode is over; and each chain with `SURGE_RESTART` that is not drained takes the
tick as a change point with its configuration unchanged.
Where the rules leave it open it says the model's choice: log entry 90. -/
def Obligations.SurgesComplete : Prop :=
  ∀ (s u : State) (t : Nat), u = s.elapse t → s.sys.mode ≠ .hold →
    (∀ cause ch, s.field.surgeAt = none → surgeable s.sys.mode = true →
      ∃ v : State, exec (.surgeDetect t cause ch) s = .next (v.finish u) ∧ v.sys.mode = .surge ∧ v.sys.prev = s.sys.mode
        ∧ v.sys.surgeFrom = s.sys.mode ∧ v.field.surgeAt = some u.time.now ∧ v.field.quietAt = some u.time.cyc
        ∧ v.field.surgeCause = surgeCode cause ∧ v.field.leadTest = false
        ∧ (∀ k ∈ s.localsUsed, (v.local' k).isolated = true ∧ (v.local' k).excOn = false) ∧ v.hive.mem = s.hive.mem
        ∧ v.lanes = s.lanes) ∧
    (∀ cause ch, s.field.surgeAt = none → surgeable s.sys.mode = false →
      ∃ v : State, exec (.surgeDetect t cause ch) s = .next (v.finish u) ∧ v.sys = s.sys ∧ v.field.surgeAt = some u.time.now
        ∧ v.field.quietAt = some u.time.cyc ∧ v.field.surgeCause = surgeCode cause ∧ v.field.leadTest = false
        ∧ (∀ k ∈ s.localsUsed, (v.local' k).isolated = true ∧ (v.local' k).excOn = false) ∧ v.hive.mem = s.hive.mem
        ∧ v.lanes = s.lanes) ∧
    (∀ cause ch, s.field.surgeAt.isSome = true →
      ∃ v : State, exec (.surgeDetect t cause ch) s = .next (v.finish u)
        ∧ v.field = { s.field with quietAt := some u.time.cyc, leadTest := false } ∧ v.sys = s.sys ∧ v.streams = s.streams
        ∧ v.hive = s.hive) ∧
    (∀ q, s.field.surgeAt.isSome = true → s.field.quietAt = some q → s.field.leadTest = false → q + 50 * cycPerMs ≤ u.time.cyc →
      ∃ v : State, exec (.surgeQuiet t) s = .next (v.finish u)
        ∧ v.field = { s.field with leadTest := true, quietAt := some u.time.cyc } ∧ v.sys = s.sys ∧ v.streams = s.streams
        ∧ v.hive = s.hive) ∧
    (∀ q loops, s.field.surgeAt.isSome = true → s.field.quietAt = some q → s.field.leadTest = true → q + 4 * cycPerMs ≤ u.time.cyc →
      (loops.map (·.ch)).Nodup →
      ∃ v : State, exec (.leadTestEnd t loops) s = .next (v.finish u) ∧ v.field.surgeAt = none ∧ v.field.quietAt = none
        ∧ v.field.leadTest = false
        ∧ (∀ m ∈ loops, (s.local' m.ch).fe.inUse = true → (v.local' m.ch).leadResult =
            (if m.loss1 ∨ 2_000_000 ≤ m.dv1 ∨ ((s.local' m.ch).fe.mode ≠ 0 ∧ (m.loss2 ∨ 2_000_000 ≤ m.dv2)) then 1
             else if (s.local' m.ch).fe.mode ≠ 0 ∧ (m.dv1 < 100 ∨ m.dv2 < 100) then 2 else 0)
            ∧ ((v.local' m.ch).leadResult ≠ 0 → (v.local' m.ch).heldOut = true ∧ (v.local' m.ch).isolated = true)
            ∧ ((v.local' m.ch).leadResult = 0 → (v.local' m.ch).heldOut = false ∧ (v.local' m.ch).isolated = !s.switchMode))
        ∧ v.sys.mode = (if s.sys.mode ≠ .surge then s.sys.mode else if s.sys.surgeFrom = .takeover then u.timeMode
            else if s.sys.surgeFrom = .train then .train else u.roleMode)
        ∧ v.sys.surgeChains = (if s.isStandby then s.sys.surgeChains else some (u.tickAfter 0))
        ∧ v.hive.mem = s.hive.mem ∧ v.lanes = s.lanes) ∧
    (∀ n, s.sys.surgeChains = some n → tickTime n ≤ u.time.now →
      ∃ v : State, exec (.surgeChainRestart t) s = .next (v.finish u) ∧ v.sys = { s.sys with surgeChains := none }
        ∧ (∀ ch i, (s.chain ch).insts.getLast? = some i →
            v.chain ch = (if ch < s.chainCount ∧ surgeRestartOf i.cfg = true ∧ (s.chain ch).drained = false then
              (s.chain ch).configure (some i.cfg) n true (s.pod (ch / 32)).running else s.chain ch))
        ∧ (∀ ch, (s.chain ch).insts = [] → v.chain ch = s.chain ch)
        ∧ v.field = s.field ∧ v.streams = s.streams ∧ v.hive = s.hive)

/-- Epochs (R45, R46): the grid starts at its second while the hub acquires, or at its first boundary not before the time a step has gone to, and a
boundary that the grid has reached begins its epoch, with the number counted from the start second.
Where the rules leave it open it says the model's choice: log entry 41. -/
def Obligations.EpochsComplete : Prop :=
  ∀ (s u : State) (t st k : Nat), u = s.elapse t → s.sys.mode ≠ .hold → s.cfg.gridStart = some st → s.acquiring = true →
    s.sys.quiesceAt = none → s.cfg.staged = none → st * 1_000_000_000 ≤ u.ns →
    k = (u.ns - st * 1_000_000_000) / max 1 (s.cfg.epochDs * 100_000_000) →
    (s.cfg.gridOn = false → s.cfg.epochFrom ≤ st * 1_000_000_000 + k * (s.cfg.epochDs * 100_000_000) →
      ∃ v : State, exec (.epochGridStart t) s = .next (v.finish u) ∧ v.cfg.gridOn = true ∧ v.cfg.epoch = some k
        ∧ v.cfg.gridStart = some st ∧ v.sys = s.sys ∧ v.streams = s.streams ∧ v.hive = s.hive) ∧
    (s.cfg.gridOn = true → (∀ j, s.cfg.epoch = some j → j < k) →
      (s.cfg.epoch = none → s.cfg.epochFrom ≤ st * 1_000_000_000 + k * (s.cfg.epochDs * 100_000_000)) →
      ∃ v : State, exec (.epochBoundary t) s = .next (v.finish u) ∧ v.cfg.gridOn = true ∧ v.cfg.epoch = some k
        ∧ v.cfg.gridStart = some st ∧ v.sys = s.sys ∧ v.hive = s.hive)

/-- Reference candidates and the PLL (R598 to R605): a window moves each candidate's run of passing windows on or ends it, and with it the
qualification; loss of signal ends it at once; lock, and its absence for 1 ms, are noted; a write of `CLK_REF_CFG` disables
candidates.
Where the rules leave it open it says the model's choice: log entry 8. -/
def Obligations.ReferencesComplete : Prop :=
  ∀ (s u : State) (t : Nat), u = s.elapse t →
    (∀ w, ∃ v : State, exec (.refWindowEnd t w) s = .next (v.finish u)
        ∧ (∀ c, c < 3 → v.clk.qual c
            = ((u.windowFails w c).isNone && (decide (u.refQualWin ≤ min 100 (Tab.get (fun _ => 0) s.clk.passes c + 1)) || s.clk.qual c)))
        ∧ (∀ c, c < 3 → Tab.get (fun _ => 0) v.clk.passes c
            = (if (u.windowFails w c).isSome then 0 else min 100 (Tab.get (fun _ => 0) s.clk.passes c + 1)))
        ∧ v.clk.losA = (w.refa == 0) ∧ v.clk.losB = (w.refb == 0) ∧ v.clk.bosc = w.bosc
        ∧ v.sys = s.sys ∧ v.time = u.time ∧ v.streams = s.streams ∧ v.hive = s.hive) ∧
    (∀ c, ∃ v : State, exec (.refLossOfSignal t c) s = .next (v.finish u) ∧ v.clk.qual (candCode c) = false
        ∧ Tab.get (fun _ => 0) v.clk.passes (candCode c) = 0
        ∧ v.clk.losA = (s.clk.losA || candCode c == 0) ∧ v.clk.losB = (s.clk.losB || candCode c == 1)
        ∧ v.reg 0x0003_0028 = (if s.clk.qual (candCode c) = true ∧ s.reg 0x0003_0028 ≠ 0xFFFF_FFFF then s.reg 0x0003_0028 + 1
            else s.reg 0x0003_0028)
        ∧ v.sys = s.sys ∧ v.time = u.time ∧ v.streams = s.streams ∧ v.hive = s.hive) ∧
    (s.clk.lock = false → s.clk.selected ≠ 3 → s.clk.coast = false →
      exec (.pllLock t) s
        = .next (({ u with clk := { s.clk with lock := true, periphBosc := false, unlockAt := none } } : State).finish u)) ∧
    (∀ c, s.clk.unlockAt = some c → s.clk.lock = false → s.clk.selected ≠ 3 → c + cycPerMs ≤ u.time.cyc →
      ∃ v : State, exec (.pllNoLock t) s = .next (v.finish u) ∧ v.clk.qual s.clk.selected = false
        ∧ v.reg 0x0003_0028 = (if s.reg 0x0003_0028 = 0xFFFF_FFFF then 0xFFFF_FFFF else s.reg 0x0003_0028 + 1)
        ∧ v.sys = s.sys ∧ v.time = u.time ∧ v.streams = s.streams ∧ v.hive = s.hive) ∧
    (∀ (p : Packet) (v0 : Word), Admits u (p.asWrite 0x0003_0004) → (p.asWrite 0x0003_0004).words = some [v0] →
      bits v0.toNat 8 8 ≠ 0 → bits v0.toNat 16 7 ≠ 0 → bits v0.toNat 16 7 ≤ 100 →
      ∃ w : State, exec (.clkRefCfgWrite t p) s = .next ((w.complete (p.asWrite 0x0003_0004) stOk []).finish u)
        ∧ w.regN 0x0003_0004 = v0.toNat &&& 0x007F_FF0F
        ∧ (∀ c, c < 3 → w.clk.qual c = (bit v0.toNat (c + 1) && s.clk.qual c))
        ∧ w.sys = s.sys ∧ w.time = u.time ∧ w.streams = s.streams ∧ w.hive = s.hive)

/-- Coast (R419, R610 to R613): a grace that ends with no candidate opens the loop, with time and mode in COAST; the ramp's end locks again,
with time in HOLDOVER, enabled lanes back in `DETECT` and the mode the one that coast interrupted leads to.
Where the rules leave it open it says the model's choice: log entries 12, 85 and 159. -/
def Obligations.CoastComplete : Prop :=
  ∀ (s u : State) (t : Nat), u = s.elapse t → s.sys.mode ≠ .hold →
    (∀ c old, s.clk.grace = some (c, old) → s.clk.coast = false → c + s.refGrace * cycPerMs ≤ u.time.cyc →
      ∃ v : State, exec (.refGraceExpiry t) s = .next (v.finish u) ∧ v.clk.coast = true ∧ v.clk.lock = false
        ∧ v.clk.grace = none ∧ v.clk.coastAt = u.time.now ∧ v.clk.periphBosc = true
        ∧ v.reg 0x0003_0024 = (if s.reg 0x0003_0024 = 0xFFFF_FFFF then 0xFFFF_FFFF else s.reg 0x0003_0024 + 1)
        ∧ v.time.state = 4 ∧ v.time.source = 3 ∧ v.time.slew = none ∧ v.time.now = u.time.now
        ∧ v.sys.mode = (if coastable s.sys.mode then .coast else s.sys.mode)
        ∧ (coastable s.sys.mode = true → v.sys.coastFrom = s.sys.mode) ∧ v.hive.mem = s.hive.mem) ∧
    (s.clk.coast = true → s.clk.ramping = true →
      ∃ v : State, exec (.clkCoastEnd t) s = .next (v.finish u) ∧ v.clk.coast = false ∧ v.clk.ramping = false
        ∧ v.clk.lock = true ∧ v.clk.selected = u.bestLocal.getD 3
        ∧ v.clk.coastTime = min 0xFFFF_FFFF ((u.time.now - s.clk.coastAt) / unitsPerNs / 1_000_000)
        ∧ v.time.state = 3 ∧ v.time.source = 3 ∧ v.time.now = u.time.now
        ∧ (∀ l, l < 32 → (s.lane l).enable = true → (s.lane l).st ≠ 8 →
            (v.lane l).st = 1 ∧ (v.lane l).entered = u.time.cyc ∧ (v.lane l).tries = if (s.lane l).st = 7 then [] else (s.lane l).tries)
        ∧ (∀ l, (s.lane l).enable = false ∨ (s.lane l).st = 8 → v.lane l = s.lane l)
        ∧ v.sys.mode = (if s.sys.mode ≠ .coast then s.sys.mode else if s.sys.coastFrom = .train then .train
            else if s.field.surgeAt.isSome && !s.isStandby then .surge else if s.isStandby then .shadow else .holdover)
        ∧ v.hive.mem = s.hive.mem)

/-- Margins and the regulator (R614 to R619): an evaluation takes the sensors' least values and, with a shortfall and voltage to spare, asks
for 5 mV more; an alarm is counted in every mode, and evaluated at most once in 60 s where the planner may; a request that the regulator answers well is in force, one that fails is tried again after
1 ms and is a fault after the third failure; hourly scans take the lanes in `ACTIVE`; a lower `VMAX` is asked for at once.
Where the rules leave it open it says the model's choice: log entries 14, 17 and 93. -/
def Obligations.MarginsComplete : Prop :=
  ∀ (s u : State) (t : Nat) (p : Packet) (avs : AvsAnswer), u = s.elapse t → s.sys.mode ≠ .hold →
    (∀ minima, s.mayPlan = true → s.clk.hour ≠ some (u.ns / 3_600_000_000_000) → s.clk.alarmAt ≠ some u.time.cyc →
      ∃ (v w : State), exec (.marginEvaluation t minima avs) s = .next (v.finish u)
        ∧ w = (minima.zip (List.range 64)).foldl (fun (s : State) (vn : Nat × Nat) => s.sense vn.2 vn.1) u
        ∧ v.clk.hour = some (u.ns / 3_600_000_000_000) ∧ v.clk.sensors = []
        ∧ v.clk.mCore = (w.leastSensor 0).1 ∧ v.clk.mComb = (w.leastSensor 32).1
        ∧ ((v.clk.mCore < s.regN 0x0003_0044 % 256 ∨ v.clk.mComb < s.regN 0x0003_0044 % 256) → s.clk.volts < s.vmax →
            s.clk.avsFault = false → v.clk.request = min (s.clk.volts + 5) s.vmax)
        ∧ v.sys = s.sys ∧ v.time = u.time ∧ v.streams = s.streams ∧ v.hive = s.hive) ∧
    (Admits u (p.writing 0x0003_0050 1) → s.mayPlan = true →
      ∃ w : State, exec (.clkPlanNow t p avs) s = .next ((w.complete (p.writing 0x0003_0050 1) stOk []).finish u)
        ∧ w.clk.sensors = [] ∧ w.clk.planLast = u.ns / 1_000_000_000 % 2 ^ 32 ∧ w.clk.hour = s.clk.hour
        ∧ w.sys = s.sys ∧ w.time = u.time ∧ w.streams = s.streams ∧ w.hive = s.hive) ∧
    (∀ sensor slack, bit (s.regN 0x0003_0040) 0 = true → slack < bits (s.regN 0x0003_0044) 16 8 →
      ∃ v : State, exec (.marginAlarm t sensor slack avs) s = .next (v.finish u)
        ∧ v.reg 0x0003_006C = (if s.reg 0x0003_006C = 0xFFFF_FFFF then 0xFFFF_FFFF else s.reg 0x0003_006C + 1)
        ∧ v.clk.alarmAt = (if s.clk.alarmAt.any (fun c => decide (u.time.cyc < c + 60 * cycPerS)) || !s.mayPlan then s.clk.alarmAt
            else some u.time.cyc)
        ∧ (s.mayPlan = false → v.clk.request = s.clk.request ∧ v.clk.volts = s.clk.volts ∧ v.clk.pPlan = s.clk.pPlan)
        ∧ v.sys = s.sys ∧ v.time = u.time ∧ v.streams = s.streams ∧ v.hive = s.hive) ∧
    (bit (s.regN 0x0003_0040) 1 = true →
      (∀ l, (s.lane l).scan.any (·.planner) = false) →
      ∃ v : State, exec (.hourlyEyeScans t) s = .next (v.finish u)
        ∧ (∀ l q, (((List.range 32).filter fun l => s.laneActive l).filter fun l => (s.lane l).scan.isNone) = l :: q →
            (v.lane l).scan = some { planner := true, dwell := 1, from' := u.time.cyc } ∧ (v.lane l).eyePlanner = true
            ∧ (∀ j, j ≠ l → v.lane j = s.lane j) ∧ (∀ j, j ∈ v.clk.scanQueue ↔ j < 32 ∧ s.laneActive j = true ∧ j ≠ l))
        ∧ v.sys = s.sys ∧ v.regs = s.regs ∧ v.hive = s.hive) ∧
    (∀ c, s.clk.avsAt = some c → c ≤ u.time.cyc →
      ∃ v : State, exec (.avsRetryTimer t avs) s = .next (v.finish u) ∧ v.clk.readback = avs.readback
        ∧ v.clk.request = s.clk.request
        ∧ (avs.good = true ∧ ((avs.readback : Int) - s.clk.request).natAbs ≤ 15 →
            v.clk.volts = s.clk.request ∧ v.clk.avsFails = 0 ∧ v.clk.avsAt = none ∧ v.clk.avsFault = s.clk.avsFault)
        ∧ (¬ (avs.good = true ∧ ((avs.readback : Int) - s.clk.request).natAbs ≤ 15) → v.clk.volts = s.clk.volts
            ∧ v.clk.avsFails = s.clk.avsFails + 1
            ∧ v.clk.avsAt = (if s.clk.avsFails + 1 < 3 then some (u.time.cyc + cycPerMs) else none)
            ∧ v.clk.avsFault = (decide (3 ≤ s.clk.avsFails + 1) || s.clk.avsFault))
        ∧ v.sys = s.sys ∧ v.time = u.time ∧ v.streams = s.streams ∧ v.hive = s.hive) ∧
    (Admits u (p.writing 0x0003_0050 2) → s.clk.request ≠ 0 → avs.good = true →
      ((avs.readback : Int) - s.clk.request).natAbs ≤ 15 →
      ∃ w : State, exec (.avsRetry t p avs) s = .next ((w.complete (p.writing 0x0003_0050 2) stOk []).finish u)
        ∧ w.clk = { s.clk with readback := avs.readback, volts := s.clk.request, avsFails := 0, avsAt := none, avsFault := false }
        ∧ w.sys = s.sys ∧ w.time = u.time ∧ w.streams = s.streams ∧ w.hive = s.hive) ∧
    (∀ v0 : Word, Admits u (p.asWrite 0x0003_0048) → (p.asWrite 0x0003_0048).words = some [v0] →
      650 ≤ v0.toNat % 1024 → v0.toNat % 1024 ≤ 850 → 650 ≤ bits v0.toNat 16 10 → bits v0.toNat 16 10 ≤ v0.toNat % 1024 →
      ∃ w : State, exec (.clkVlimitWrite t p avs) s = .next ((w.complete (p.asWrite 0x0003_0048) stOk []).finish u)
        ∧ w.regN 0x0003_0048 = bits v0.toNat 16 10 * 65536 + v0.toNat % 1024
        ∧ w.clk.request = (if v0.toNat % 1024 < s.clk.volts then v0.toNat % 1024 else s.clk.request)
        ∧ w.sys = s.sys ∧ w.time = u.time ∧ w.streams = s.streams ∧ w.hive = s.hive)

/-- Drives of the local channels (R56, R57, R59, R66, R67): a pulse that is due switches its drive on, a limit or a loss of compliance
is flagged in its register bit and in the window under way, if that has started, and ends again, and the enable is set, or cleared with every drive
off. Each command answers a next state, whose own effect leaves the rest as it was.
Where the rules leave it open it says the model's choice: log entries 112 and 144. -/
def Obligations.DrivesComplete : Prop :=
  ∀ (s u : State) (t k : Nat), u = s.elapse t → s.sys.mode ≠ .hold →
    (u.driveAllowed k = true → u.localsRun = true → (u.local' k).origin.isSome = true →
      u.localSlotNs k (u.local' k).next ≤ u.ns + (u.local' k).fe.preNs →
      ∃ v : State, exec (.excitationPulseOn t k) s = .next (v.finish u) ∧ (v.local' k).excOn = true
        ∧ (∀ j, j ≠ k → v.local' j = s.local' j) ∧ v.regs = s.regs ∧ v.streams = s.streams ∧ v.hive = s.hive) ∧
    ((u.local' k).excOn = true → (u.local' k).fe.mode = 1 →
      ∃ v : State, exec (.excLimitEngage t k) s = .next (v.finish u) ∧ (v.local' k).limiting = true
        ∧ v.reg 0x0100_0020 = s.reg 0x0100_0020 ||| BitVec.ofNat 32 (2 ^ k)
        ∧ (v.local' k).window = (s.local' k).window.map (fun w => { w with fault := w.fault || decide (w.start ≤ u.ns) })
        ∧ (∀ j, j ≠ k → v.local' j = s.local' j) ∧ v.streams = s.streams ∧ v.hive = s.hive) ∧
    (∃ v : State, exec (.limitingEnd t k) s = .next (v.finish u) ∧ (v.local' k).limiting = false
        ∧ (∀ j, j ≠ k → v.local' j = s.local' j) ∧ v.regs = s.regs ∧ v.hive = s.hive) ∧
    ((u.local' k).excOn = true → (u.local' k).fe.mode = 2 →
      ∃ v : State, exec (.complianceLoss t k) s = .next (v.finish u) ∧ (v.local' k).compliance = true
        ∧ v.reg 0x0100_0020 = s.reg 0x0100_0020 ||| BitVec.ofNat 32 (2 ^ k)
        ∧ (v.local' k).window = (s.local' k).window.map (fun w => { w with fault := w.fault || decide (w.start ≤ u.ns) })
        ∧ (∀ j, j ≠ k → v.local' j = s.local' j) ∧ v.streams = s.streams ∧ v.hive = s.hive) ∧
    (∃ v : State, exec (.complianceRestored t k) s = .next (v.finish u) ∧ (v.local' k).compliance = false
        ∧ (∀ j, j ≠ k → v.local' j = s.local' j) ∧ v.regs = s.regs ∧ v.hive = s.hive) ∧
    (∀ p, Admits u (p.guarding 0x18 1) → s.field.otpOk = true →
      ∃ w : State, exec (.excEnable t p) s = .next ((w.complete (p.guarding 0x18 1) stOk []).finish u) ∧ w.sys.excEn = true
        ∧ w.reg 0x18 = 1 ∧ w.field = s.field ∧ w.streams = s.streams ∧ w.hive = s.hive) ∧
    (∀ p, Admits u (p.guarding 0x18 0) →
      ∃ w : State, exec (.excDisable t p) s = .next ((w.complete (p.guarding 0x18 0) stOk []).finish u) ∧ w.sys.excEn = false
        ∧ w.reg 0x18 = 0 ∧ (∀ j, j ∈ s.localsUsed → (w.local' j).excOn = false) ∧ w.streams = s.streams ∧ w.hive = s.hive)

/-- Windows on the slot grid (R80, R106, R113, R114, R116, R139): a slot that is due on a channel whose start-up comparisons are done opens a
window of its channel's settings, on a whole 10 ns and on the fixed code where one is set, and its grid moves to the next slot; a window that has ended gives its channel's last word, stamped at its midpoint, and the channel is free for the gap.
Where the rules leave it open it says the model's choice: log entries 19, 20, 21, 66, 101, 107, 110, 111, 113, 114, 142 and 147. -/
def Obligations.WindowsComplete : Prop :=
  ∀ (s u : State) (t k : Nat), u = s.elapse t → s.sys.mode ≠ .hold →
    (∀ start, (s.local' k).fe.inUse = true → (s.local' k).origin.isSome = true → u.localsRun = true → (s.local' k).window = none →
      (s.local' k).spot = none → (s.local' k).witnessed = true →
      start = quantised (u.localSlotNs k (s.local' k).next) → start ≤ u.ns →
      ∃ (v : State) (w : Window), exec (.windowStart t k) s = .next (v.finish u) ∧ (v.local' k).window = some w ∧ w.spot = false
        ∧ w.slot = (s.local' k).next ∧ w.start = start
        ∧ w.len = u.field.windowNs (s.local' k).fe (s.local' k).fe.nplc start
        ∧ w.code = (if (s.local' k).fe.fixed then (s.local' k).fe.fixedCode else (s.local' k).code) ∧ w.fe = (s.local' k).fe
        ∧ (v.local' k).next = (s.local' k).next + 1 ∧ (∀ j, j ≠ k → v.local' j = s.local' j) ∧ v.streams = s.streams
        ∧ v.hive = s.hive) ∧
    (∀ (c : Conversion) (w w' : Window) (age : Int), (s.local' k).window = some w → w.spot = false → w.start + w.len ≤ u.ns →
      w' = (if w.slot < (s.local' k).absentTo then { w with noDrive := true } else w) →
      age = slewAge (s.local' k).age (s.local' k).ageTarget s.field.slewStep →
      ∃ (v : State) (f : Formed) (e : Bool), exec (.windowEnd t k c) s = .next (v.finish u) ∧ (v.local' k).window = none
        ∧ (v.local' k).age = age ∧ f = (u.formWord k w' c age ((s.local' k).age != (s.local' k).ageTarget)).1
        ∧ (v.local' k).last = some (sampleWord f.val w.code { f.flags with event := e } (w.slot + (s.local' k).seqBase),
            w.start + w.len / 2)
        ∧ v.hive.mem = s.hive.mem ∧ v.lanes = s.lanes)

/-- What happens between windows (R92, R109, R116, R117, R118, R137, R139): the task of a gap that no started spot ended leaves its reading, an
auto-zero in the mean of the range it was taken on, with a reference check failing after three bad ones in a row; a mains cycle enters the
measurement of eight in every mode, which is valid within 10 % of the nominal frequency and above 100 mV, and changes no channel but one
whose window is still to start; 64 comparisons give a channel's drift, and the start-up ones, once, its age.
Where the rules leave it open it says the model's choice: log entries 10, 118, 119 and 147. -/
def Obligations.HousekeepingComplete : Prop :=
  ∀ (s u : State) (t k : Nat) (x : Rat), u = s.elapse t →
    (s.sys.mode ≠ .hold →
      (∀ code, (s.local' k).taskNow u.ns = some (0, code) →
        ∃ v : State, exec (.housekeepingEnd t k x) s = .next (v.finish u) ∧ (v.local' k).task = none
          ∧ Tab.get (fun _ => []) (v.local' k).zeros code = (x :: Tab.get (fun _ => []) (s.local' k).zeros code).take 4
          ∧ code ∈ (v.local' k).zeroed
          ∧ (∀ j, j ≠ k → v.local' j = s.local' j) ∧ v.regs = s.regs ∧ v.ev = s.ev) ∧
      (∀ code, (s.local' k).taskNow u.ns = some (1, code) → 1 / 2000 < x → 2 ≤ (s.local' k).refBad →
        ∃ v : State, exec (.housekeepingEnd t k x) s = .next (v.finish u) ∧ (v.local' k).task = none
          ∧ (v.local' k).refFail = true ∧ (∀ j, j ≠ k → v.local' j = s.local' j)) ∧
      (∀ code, (s.local' k).taskNow u.ns = some (2, code) →
        ∃ v : State, exec (.housekeepingEnd t k x) s = .next (v.finish u) ∧ (v.local' k).task = none
          ∧ (v.local' k).ratios = (s.local' k).ratios ++ [x] ∧ (∀ j, j ≠ k → v.local' j = s.local' j) ∧ v.regs = s.regs)) ∧
    (∀ period peak, 7 ≤ s.field.periods.length →
      ∃ v : State, exec (.mainsCycle t period peak) s = .next (v.finish u)
        ∧ v.field.periods = (period :: s.field.periods).take 8 ∧ v.field.mainsPresent = decide (100 < peak)
        ∧ (∀ j, (∀ w ∈ (s.local' j).window, w.start ≤ u.ns) → v.local' j = s.local' j)
        ∧ (v.field.mainsValid = true ↔ 100 < peak
          ∧ 9 * (if s.field.nom60 then 60 else 50) * ((period :: s.field.periods).take 8).sum ≤ 8 * 1_000_000_000
          ∧ 8 * 1_000_000_000 ≤ 11 * (if s.field.nom60 then 60 else 50) * ((period :: s.field.periods).take 8).sum)) ∧
    (∃ v : State, exec (.mainsSignalLoss t) s = .next (v.finish u) ∧ v.field.mainsValid = false ∧ v.field.periods = []
        ∧ v.field.mainsPresent = false ∧ (∀ j, (∀ w ∈ (s.local' j).window, w.start ≤ u.ns) → v.local' j = s.local' j)) ∧
    (s.sys.mode ≠ .hold → 64 ≤ (s.local' k).ratios.length →
      ∃ v : State, exec (.witnessUpdate t k) s = .next (v.finish u)
        ∧ (v.local' k).ratios = (s.local' k).ratios.drop 64
        ∧ (v.local' k).drift = ((s.local' k).ratios.take 64).sum / 64 / witnessR0 k - 1
        ∧ (v.local' k).ageLimit = (ageFrom k (((s.local' k).ratios.take 64).sum / 64)).2
        ∧ (∀ j, j ≠ k → v.local' j = s.local' j)) ∧
    (s.sys.mode ≠ .hold → k ∈ s.localsUsed → s.field.feApplied = true → (s.local' k).witnessed = false →
      ∃ v : State, exec (.witnessStartupDone t [(k, x)]) s = .next (v.finish u) ∧ (v.local' k).witnessed = true
        ∧ ((∀ j ∈ s.localsUsed, j ≠ k → (s.local' j).witnessed = true) → v.field.witnessValid = true)
        ∧ (v.local' k).age = (ageFrom k x).1 ∧ (v.local' k).ageTarget = (ageFrom k x).1
        ∧ (v.local' k).ageLimit = (ageFrom k x).2
        ∧ (∀ sp ∈ (s.local' k).spot, ∀ sp' ∈ (v.local' k).spot, sp'.startAt = max sp.ready (quantised u.ns))
        ∧ (∀ j, j ≠ k → v.local' j = s.local' j))

/-- Spot conversions (R121, R122, R123): a `SPOT` that may start opens a window of its own, whose length is the one it names, `T_PRE` later
where it switches a drive on, on the fixed range where one is set; when it ends, the command completes with its word, stamped at its midpoint,
and a slot that it displaced (the one it aborted, or the next if that should have started) opens its window then, 100 µs later where the range changed.
Where the rules leave it open it says the model's choice: log entries 19, 103, 107, 115, 116, 144 and 145. -/
def Obligations.SpotsComplete : Prop :=
  ∀ (s u : State) (t : Nat), u = s.elapse t → s.sys.mode ≠ .hold →
    (∀ (p : Packet) (start len : Nat), Admits u (p.withOp 0x30) → p.addr.toNat < s.localChs → p.payload.length = 4 →
      (s.local' p.addr.toNat).fe.inUse = true →
      byteAt p.payload 0 ≤ bits (s.local' p.addr.toNat).fe.conv.toNat 0 3 →
      (s.local' p.addr.toNat).spot = none → (s.local' p.addr.toNat).cal = none → s.field.surgeAt = none →
      u.localsRun = true → s.sys.mode ≠ .quiesce →
      start = quantised (u.ns + (if (s.local' p.addr.toNat).fe.mode ≠ 0 ∧ (s.local' p.addr.toNat).excOn = false
        then (s.local' p.addr.toNat).fe.preNs else 0)) + (if (s.local' p.addr.toNat).witnessed then 0 else 16_000_000) →
      len = u.field.windowNs (s.local' p.addr.toNat).fe (2 ^ byteAt p.payload 0) start →
      u.spotTotal p.addr.toNat start len (u.spotDisplaces p.addr.toNat start len) ≤ 400_000 →
      (∀ j, u.spotDisplaces p.addr.toNat start len = some j →
        start + len + 100_000 + u.field.windowNs (s.local' p.addr.toNat).fe (s.local' p.addr.toNat).fe.nplc (start + len) + 2_000_000
          ≤ u.localSlotNs p.addr.toNat (j + 2)) →
      ∃ (v : State) (sp : Spot) (w : Window), exec (.spot t p) s = .next (v.finish u)
        ∧ (v.local' p.addr.toNat).spot = some sp ∧ sp.pkt = p.withOp 0x30 ∧ sp.startAt = start ∧ sp.len = len
        ∧ sp.aborted = (s.local' p.addr.toNat).window.map (·.slot)
        ∧ (v.local' p.addr.toNat).window = some w ∧ w.spot = true ∧ w.start = start ∧ w.len = len
        ∧ w.code = (if (s.local' p.addr.toNat).fe.fixed then (s.local' p.addr.toNat).fe.fixedCode else (s.local' p.addr.toNat).code)
        ∧ v.host = s.host ∧ v.streams = s.streams ∧ ((s.local' p.addr.toNat).fe.fixed = false → v.regs = s.regs)
        ∧ (∀ j, j ≠ p.addr.toNat → v.local' j = s.local' j)) ∧
    (∀ (k : Nat) (c : Conversion) (sp : Spot) (w : Window), (s.local' k).spot = some sp → (s.local' k).window = some w →
      (s.local' k).witnessed = true → sp.startAt + sp.len ≤ u.ns →
      ∃ v : State, exec (.spotEnd t k c) s = .next ((v.complete sp.pkt stOk (spotBody
            (sampleWord (u.formWord k w c (s.local' k).age ((s.local' k).age != (s.local' k).ageTarget)).1.val w.code
              (u.formWord k w c (s.local' k).age ((s.local' k).age != (s.local' k).ageTarget)).1.flags (s.local' k).spotCount)
            (sp.startAt + sp.len / 2))).finish u)
        ∧ (v.local' k).spot = none ∧ (v.local' k).spotCount = (s.local' k).spotCount + 1
        ∧ (u.spotSlot k sp (sp.startAt + sp.len) = none → (v.local' k).window = none)
        ∧ (∀ j, u.spotSlot k sp (sp.startAt + sp.len) = some j → ∃ w' : Window, (v.local' k).window = some w' ∧ w'.spot = false ∧ w'.slot = j ∧ w'.late = true
            ∧ w'.fe = (s.local' k).fe ∧ w'.code = (v.local' k).code
            ∧ w'.start = quantised (sp.startAt + sp.len + if (v.local' k).code = w.code then 0 else 100_000))
        ∧ (∀ j, j ≠ k → v.local' j = s.local' j)
        ∧ v.streams = s.streams ∧ v.hive = s.hive)

/-- Calibration (R128 to R132): a zero or a span begins on a channel with none under way and slots running; an abort drops it and a held
zero; a zero whose words agree on one code, within its limit of 5 % of full scale and quiet, is held and answered; a step
that has seen 4·N + 16 slots without its N words is refused as aborted.
Where the rules leave it open it says the model's choice: log entries 103 and 117. -/
def Obligations.CalibrationComplete : Prop :=
  ∀ (s u : State) (t : Nat), u = s.elapse t → s.sys.mode ≠ .hold →
    (∀ p : Packet, Admits u (p.operating 0x31 0) → p.addr.toNat < s.localChs → p.payload.length = 8 →
      (s.local' p.addr.toNat).fe.inUse = true → leAt p.payload 2 2 ≤ 256 → (s.local' p.addr.toNat).cal = none →
      u.localsRun = true → s.sys.mode ≠ .quiesce →
      ∃ (v : State) (c : CalStep), exec (.calZero t p) s = .next (v.finish u)
        ∧ (v.local' p.addr.toNat).cal = some c ∧ c.isSpan = false ∧ c.pkt = p.operating 0x31 0
        ∧ c.n = (if leAt p.payload 2 2 = 0 then 16 else leAt p.payload 2 2) ∧ ((s.local' p.addr.toNat).origin.isSome = true →
            c.fromSlot = max (s.local' p.addr.toNat).next (u.slotAt p.addr.toNat (u.ns + 1)))
        ∧ (v.local' p.addr.toNat).calState = 1 ∧ (v.local' p.addr.toNat).heldZero = none ∧ v.host = s.host
        ∧ (∀ j, j ≠ p.addr.toNat → v.local' j = s.local' j)) ∧
    (∀ p : Packet, Admits u (p.operating 0x31 1) → p.addr.toNat < s.localChs → p.payload.length = 8 →
      (s.local' p.addr.toNat).fe.inUse = true → leAt p.payload 2 2 ≤ 256 → (s.local' p.addr.toNat).cal = none →
      u.localsRun = true → s.sys.mode ≠ .quiesce →
      fullScale (s.local' p.addr.toNat).code / 10 ≤ ((sleAt p.payload 4 4).natAbs : Rat) / 100_000_000 →
      ∃ (v : State) (c : CalStep), exec (.calSpan t p) s = .next (v.finish u)
        ∧ (v.local' p.addr.toNat).cal = some c ∧ c.isSpan = true ∧ c.x = sleAt p.payload 4 4 ∧ c.pkt = p.operating 0x31 1
        ∧ (v.local' p.addr.toNat).calState = 3 ∧ (v.local' p.addr.toNat).heldZero = (s.local' p.addr.toNat).heldZero
        ∧ v.host = s.host ∧ (∀ j, j ≠ p.addr.toNat → v.local' j = s.local' j)) ∧
    (∀ p : Packet, Admits u (p.operating 0x31 2) → p.addr.toNat < s.localChs → p.payload.length = 8 →
      (s.local' p.addr.toNat).fe.inUse = true → leAt p.payload 2 2 ≤ 256 →
      ∃ v : State, exec (.calAbort t p) s = .next ((v.complete (p.operating 0x31 2) stOk
            (calBody 0 (s.local' p.addr.toNat).code 0 0 0 0)).finish u)
        ∧ (v.local' p.addr.toNat).cal = none ∧ (v.local' p.addr.toNat).heldZero = none
        ∧ (∀ j, j ≠ p.addr.toNat → v.local' j = s.local' j) ∧ v.streams = s.streams ∧ v.hive = s.hive) ∧
    (∀ (k : Nat) (c : CalStep) (m : Rat), (s.local' k).cal = some c → c.isSpan = false → c.n ≤ c.volts.length →
      c.clip = false → (∀ x ∈ c.codes, x = c.codes.headD 0) → m = c.volts.sum / c.volts.length →
      (if m < 0 then -m else m) ≤ fullScale (c.codes.headD 0) / 20 →
      variance c.volts m ≤ 8 * noiseVolts (c.codes.headD 0) (bits (s.local' k).fe.conv.toNat 0 3)
        * (8 * noiseVolts (c.codes.headD 0) (bits (s.local' k).fe.conv.toNat 0 3)) →
      ∃ v : State, exec (.calStepEnd t k) s = .next ((v.complete c.pkt stOk (calBody 0 (c.codes.headD 0)
            (roundRat (m * 100_000_000)) (min 0xFFFF_FFFF (nearestRoot (variance c.volts m * ((10 ^ 20 : Nat) : Rat)))) 0 0)).finish u)
        ∧ (v.local' k).cal = none ∧ (v.local' k).calState = 2 ∧ (v.local' k).heldZero = some m
        ∧ (∀ j, j ≠ k → v.local' j = s.local' j) ∧ v.regs = s.regs ∧ v.hive = s.hive) ∧
    (∀ (k : Nat) (c : CalStep), (s.local' k).cal = some c → 4 * c.n + 16 ≤ c.slots → c.volts.length < c.n →
      ∃ v : State, exec (.calStepTimeout t k) s = .next ((v.complete c.pkt stRefused
            (calBody 5 (s.local' k).code 0 0 0 0)).finish u)
        ∧ (v.local' k).cal = none ∧ (v.local' k).calState = 5 ∧ (v.local' k).calReason = 5
        ∧ (∀ j, j ≠ k → v.local' j = s.local' j) ∧ v.regs = s.regs ∧ v.hive = s.hive)

/-- Pod frames (R150, R151, R159, R163, R165, R166): a good frame that is in time is held for its tick; a `TICK_FRAME` of a drained lane, for a tick
whose lag has not expired, restarts it; a `RESEND_FRAME` for an outstanding tick is held as one resent, or enters the chains at once where it comes in the
cycle in which its lag expires.
Where the rules leave it open it says the model's choice: log entries 62 and 150. -/
def Obligations.PodFramesComplete : Prop :=
  ∀ (s u : State) (t l n t0 : Nat) (m : List Byte), u = s.elapse t → s.sys.mode ≠ .hold → u.podHears l = true →
    crcGood m = true → (s.pod l).startTick = some t0 → t0 ≤ n → u.lagExpired l n = false →
    (m.length = 3 * (s.pod l).count + 6 → n = u.resolveTick (leAt m (1 + 3 * (s.pod l).count) 2) 16 →
      (s.pod l).running = true → (s.pod l).drained = false → n % 64 ≠ 0 → (∀ h ∈ (s.pod l).held, h.1 ≠ n) → u.tick ≤ n + 64 →
      (s.pod l).lagDue = false →
      ∃ v : State, exec (.frame t l m) s = .next (v.finish u)
        ∧ (v.pod l).held = (s.pod l).held ++ [(n,
            { status := byteAt m (1 + 3 * (s.pod l).count + 2),
              body := (m.drop 1).take (3 * (s.pod l).count), resent := false })]
        ∧ (v.pod l).lastStatus = byteAt m (1 + 3 * (s.pod l).count + 2)
        ∧ (∀ j, j ≠ l → v.pod j = s.pod j) ∧ v.chains = s.chains ∧ v.streams = s.streams ∧ v.hive.mem = s.hive.mem) ∧
    (m.length = 3 * (s.pod l).count + 10 → n = u.resolveTick (leAt m (1 + 3 * (s.pod l).count) 2) 16 → n % 64 = 0 →
      leAt m (1 + 3 * (s.pod l).count + 3) 4 = n % 2 ^ 32 → (s.pod l).running = true → (s.pod l).drained = false →
      (∀ h ∈ (s.pod l).held, h.1 ≠ n) → u.tick ≤ n + 64 → (s.pod l).lagDue = false →
      ∃ v : State, exec (.tickFrame t l m) s = .next (v.finish u)
        ∧ (v.pod l).held = (s.pod l).held ++ [(n,
            { status := byteAt m (1 + 3 * (s.pod l).count + 2),
              body := (m.drop 1).take (3 * (s.pod l).count), resent := false })]
        ∧ (∀ j, j ≠ l → v.pod j = s.pod j) ∧ v.chains = s.chains ∧ v.streams = s.streams ∧ v.hive.mem = s.hive.mem) ∧
    (m.length = 3 * (s.pod l).count + 10 → n = u.resolveTick (leAt m (1 + 3 * (s.pod l).count) 2) 16 → n % 64 = 0 →
      leAt m (1 + 3 * (s.pod l).count + 3) 4 = n % 2 ^ 32 → (s.pod l).drained = true → (s.pod l).lagDue = false →
      ∃ v : State, exec (.tickFrame t l m) s = .next (v.finish u) ∧ (v.pod l).running = true ∧ (v.pod l).drained = false
        ∧ (v.pod l).nextTick = n
        ∧ (v.pod l).held = [(n,
            { status := byteAt m (1 + 3 * (s.pod l).count + 2),
              body := (m.drop 1).take (3 * (s.pod l).count), resent := false })]
        ∧ (∀ j, j ≠ l → v.pod j = s.pod j) ∧ v.lanes = s.lanes ∧ v.hive.mem = s.hive.mem) ∧
    (m.length = 3 * (s.pod l).count + 10 → n = u.nearestTick (leAt m 1 4) →
      (s.pod l).running = true → (s.pod l).drained = false → (∀ h ∈ (s.pod l).held, h.1 ≠ n) →
      ((s.pod l).outstanding.any fun o => o.1 == n) = true → (s.pod l).lagDue = false →
      ∃ v : State, exec (.resendFrame t l m) s = .next (v.finish u)
        ∧ (v.pod l).held = (s.pod l).held ++ [(n,
            { status := byteAt m (5 + 3 * (s.pod l).count + 2),
              body := (m.drop 5).take (3 * (s.pod l).count), resent := true })]
        ∧ (∀ j, j ≠ l → v.pod j = s.pod j) ∧ v.chains = s.chains ∧ v.streams = s.streams ∧ v.hive.mem = s.hive.mem) ∧
    (m.length = 3 * (s.pod l).count + 10 → n = u.nearestTick (leAt m 1 4) →
      (s.pod l).running = true → (s.pod l).drained = false → (∀ h ∈ (s.pod l).held, h.1 ≠ n) →
      ((s.pod l).outstanding.any fun o => o.1 == n) = true →
      (s.pod l).lagDue = true → n = (s.pod l).nextTick → u.lagExpiry l n ≤ u.time.now → s.hive.inject = none →
      ∃ v : State, exec (.resendFrame t l m) s = .next (v.finish u) ∧ (v.pod l).nextTick = n + 1 ∧ (v.pod l).lastFed = n
        ∧ (v.pod l).missRun = 0 ∧ (v.pod l).lagDue = false
        ∧ (∀ j, j ≠ l → v.pod j = s.pod j) ∧ v.lanes = s.lanes ∧ v.hive.mem = s.hive.mem)

/-- Other messages and timers of a pod lane (R142, R146, R149, R154 to R157, R160, R162, R164): each has its own effect on the lane's state
once its time has come; a tick whose frame is missing counts, and drains the lane past its limit; a tick message leaving each lane's own delay before its tick; ticks due for another request are asked for
together.
Where the rules leave it open it says the model's choice: log entries 12, 58, 109, 141, 152 and 153. -/
def Obligations.PodMessagesComplete : Prop :=
  ∀ (s u : State) (t l : Nat) (m : List Byte), u = s.elapse t → s.sys.mode ≠ .hold →
    (s.isStandby = false → s.time.tickSent ≠ some u.tick →
      ∃ v : State, exec (.podTick t) s = .next (v.finish u)
        ∧ v.wire.map (·.lane) = (List.range s.podLanes).filter (fun p => s.laneActive p && s.carries p)
        ∧ (∀ x ∈ v.wire, x.leaves = some ((u.tick * 1_250_000 : Nat) - (s.pod x.lane).delay))
        ∧ v.time = { u.time with tickSent := some u.tick } ∧ v.pods = s.pods ∧ v.regs = s.regs ∧ v.hive = s.hive) ∧
    (u.capsHears l = true → crcGood m = true → m.length = 35 → u.podCapsResult l (slice m 1 32) = 0 → s.laneLoop l = 0 →
      ∃ v : State, exec (.podCaps t l m) s = .next (v.finish u) ∧ (v.pod l).caps = slice m 1 32 ∧ (v.pod l).capsResult = 0
        ∧ (v.lane l).st = 6 ∧ { lane := l, bytes := message 0x16 (toLE 1 0) } ∈ v.wire ∧ (∀ j, j ≠ l → v.pod j = s.pod j ∧ v.lane j = s.lane j)
        ∧ v.chains = s.chains ∧ v.hive = s.hive) ∧
    (u.podHears l = true → crcGood m = true → m.length = 23 → byteAt (s.pod l).caps 24 ≠ 0 →
      ∃ (v : State) (n : Nat), exec (.range t l m) s = .next (v.finish u) ∧ (s.pod l).nextTick ≤ n
        ∧ (n % 2 ^ 32 = leAt m 1 4 ∨ n = (s.pod l).nextTick)
        ∧ (v.pod l).ranges = (n, leAt m 5 16) :: (s.pod l).ranges.filter (fun r => r.1 < n)
        ∧ (∀ j, j ≠ l → v.pod j = s.pod j) ∧ v.regs = s.regs ∧ v.hive = s.hive) ∧
    (∀ c, u.podHears l = true → crcGood m = true → m.length = 9 → (s.pod l).cmd = some (byteAt m 1, c) →
      ∃ v : State, exec (.cmdResp t l m) s = .next (v.finish u) ∧ (v.pod l).cmd = none ∧ (v.pod l).respTag = byteAt m 1
        ∧ (v.pod l).respResult = byteAt m 2 ∧ (v.pod l).respData = BitVec.ofNat 32 (leAt m 3 4)
        ∧ (∀ j, j ≠ l → v.pod j = s.pod j) ∧ v.regs = s.regs ∧ v.hive = s.hive) ∧
    (∀ rtt, u.podHears l = true ∨ u.capsHears l = true → crcGood m = true → m.length = 4 → byteAt m 1 < 16 →
      (s.pod l).echoes.length < 16 →
      ∃ v : State, exec (.echoResp t l m rtt) s = .next (v.finish u) ∧ (v.pod l).echoes = rtt :: (s.pod l).echoes
        ∧ (∀ j, j ≠ l → v.pod j = s.pod j) ∧ v.regs = s.regs ∧ v.hive = s.hive) ∧
    (∀ f, (s.pod l).running = true → u.lagExpiry l (s.pod l).nextTick ≤ u.time.now →
      (s.pod l).held.find? (fun h => h.1 == (s.pod l).nextTick) = some ((s.pod l).nextTick, f) →
      u.poisoned (u.region 0x01 l) (u.ringSlot l (s.pod l).nextTick) 104 = [] →
      ∃ v : State, exec (.ingestLagExpiry t l) s = .next (v.finish u) ∧ (v.pod l).nextTick = (s.pod l).nextTick + 1
        ∧ (v.pod l).lastFed = (s.pod l).nextTick ∧ (v.pod l).missRun = 0
        ∧ (∀ j, j ≠ l → v.pod j = s.pod j) ∧ v.lanes = s.lanes ∧ v.hive.mem = s.hive.mem) ∧
    ((s.pod l).running = true → u.lagExpiry l (s.pod l).nextTick + u.time.increment ≤ u.time.now →
      (s.pod l).held.find? (fun h => h.1 == (s.pod l).nextTick) = none →
      ∃ v : State, exec (.ingestLagExpiry t l) s = .next (v.finish u)
        ∧ ((s.pod l).missRun < s.gapDrain l → (v.pod l).running = true ∧ (v.pod l).nextTick = (s.pod l).nextTick + 1
            ∧ (v.pod l).missRun = (s.pod l).missRun + 1
            ∧ v.reg (podReg l 0x60) = (if s.reg (podReg l 0x60) = 0xFFFF_FFFF then 0xFFFF_FFFF else s.reg (podReg l 0x60) + 1))
        ∧ (s.gapDrain l ≤ (s.pod l).missRun → (v.pod l).running = false ∧ (v.pod l).drained = true ∧ (v.pod l).held = []
            ∧ v.reg (podReg l 0x64) = (if s.reg (podReg l 0x64) = 0xFFFF_FFFF then 0xFFFF_FFFF else s.reg (podReg l 0x64) + 1))
        ∧ (∀ j, j ≠ l → v.pod j = s.pod j) ∧ v.lanes = s.lanes ∧ v.hive.mem = s.hive.mem) ∧
    (∀ n, (s.pod l).running = true → n * 1250 + 80_000 ≤ u.ns →
      ∃ v : State, exec (.tickOutstanding t l n) s = .next (v.finish u) ∧ (v.pod l).outMark = max (s.pod l).outMark (n + 1)
        ∧ (∀ j, j ≠ l → v.pod j = s.pod j) ∧ v.chains = s.chains ∧ v.streams = s.streams ∧ v.hive = s.hive) ∧
    (∀ n ns, n ∈ u.repeatsDue l → s.isStandby = false → s.carries l = true → (s.pod l).quarantined = false →
      ns = (u.repeatsDue l).filter (fun k => u.time.now + 10000 * unitsPerNs < u.lagExpiry l k) → ns ≠ [] →
      ∃ v : State, exec (.resendReqRepeat t l n) s = .next (v.finish u)
        ∧ v.wire = (tickRuns ns).map (fun r => { lane := l, bytes := message 0x13 (toLE 4 (r.1 % 2 ^ 32) ++ toLE 1 r.2) })
        ∧ (v.pod l).outstanding = (s.pod l).outstanding.map (fun o => if o.1 ∈ ns then (o.1, u.time.cyc) else o)
        ∧ (∀ j, j ≠ l → v.pod j = s.pod j) ∧ v.chains = s.chains ∧ v.hive = s.hive) ∧
    (∀ n ns, n ∈ u.repeatsDue l → s.isStandby = true → s.linkUp = true → (s.pod l).quarantined = false →
      ns = (u.repeatsDue l).filter (fun k => u.time.now + 10000 * unitsPerNs < u.lagExpiry l k) → ns ≠ [] →
      ∃ v : State, exec (.resendReqRepeat t l n) s = .next (v.finish u) ∧ v.plOut = [(s.pair.outSeq, .ticks l ns)]
        ∧ (v.pod l).outstanding = (s.pod l).outstanding.map (fun o => if o.1 ∈ ns then (o.1, u.time.cyc) else o)
        ∧ (∀ j, j ≠ l → v.pod j = s.pod j) ∧ v.chains = s.chains ∧ v.regs = s.regs ∧ v.hive = s.hive) ∧
    (∀ tag c, (s.pod l).cmd = some (tag, c) → c + 10 * cycPerMs ≤ u.time.cyc →
      ∃ v : State, exec (.podCmdTimeout t l) s = .next (v.finish u) ∧ (v.pod l).cmd = none ∧ (v.pod l).respTag = tag
        ∧ (v.pod l).respResult = 0xFF ∧ (∀ j, j ≠ l → v.pod j = s.pod j) ∧ v.regs = s.regs ∧ v.hive = s.hive) ∧
    (24 ≤ l → l < 28 → 5 ≤ (s.lane l).st → (s.lane l).st ≤ 6 →
      ∃ v : State, exec (.unknownMessageType t l) s = .next (v.finish u)
        ∧ v.reg (tpReg (l - 24) 0x14) = (if s.reg (tpReg (l - 24) 0x14) = 0xFFFF_FFFF then 0xFFFF_FFFF
            else s.reg (tpReg (l - 24) 0x14) + 1)
        ∧ v.pods = s.pods ∧ v.lanes = s.lanes ∧ v.hive = s.hive) ∧
    (l < 24 → u.podHears l = true →
      ∃ v : State, exec (.unknownMessageType t l) s = .next (v.finish u) ∧ (v.pod l).errSec = (s.pod l).errSec + 1
        ∧ (∀ j, j ≠ l → v.pod j = s.pod j) ∧ v.lanes = s.lanes ∧ v.hive.mem = s.hive.mem)

/-- Pod commands (R160, R161, R170): each of the five awaits the response with its tag, and is sent to its pod with the tag and argument given
where the lane carries messages and the pod is not quarantined; a write of `POD_QUAR_RELEASE` releases the lanes it names, which then
await a first frame, and one that names an absent lane releases none.
Where the rules leave it open it says the model's choice: log entry 57. -/
def Obligations.PodCommandsComplete : Prop :=
  ∀ (s u : State) (t : Nat) (p : Packet), u = s.elapse t → s.sys.mode ≠ .hold →
    (∀ l tag, l = p.onLane % 24 → tag = leAt p.payload 1 1 → l < s.podLanes → (s.pod l).cmd = none →
      ∀ c ∈ [(Instr.podNop t p, 0), (Instr.podStop t p, 1), (Instr.podReset t p, 2), (Instr.podIdentify t p, 3),
          (Instr.podVendorCmd t p, max 0x40 (leAt p.payload 0 1))],
      Admits u (p.podCmd c.2) →
      ∃ w : State, exec c.1 s = .next ((w.complete (p.podCmd c.2) stOk []).finish u)
        ∧ (w.pod l).cmd = some (tag, u.time.cyc)
        ∧ w.wire = (if (s.pod l).quarantined = false ∧ s.carries l = true then
            [{ lane := l, bytes := message 0x12 (toLE 1 tag ++ toLE 1 c.2 ++ toLE 4 (s.regN (podReg l 0x2C))) }] else [])
        ∧ (∀ j, j ≠ l → w.pod j = s.pod j) ∧ w.lanes = s.lanes ∧ w.hive = s.hive) ∧
    (∀ v0 : Word, Admits u (p.asWrite 0x0005_000C) → (p.asWrite 0x0005_000C).words = some [v0] →
      (∀ l, l < 24 → bit v0.toNat l = true → l < s.podLanes) →
      ∃ w : State, exec (.podQuarRelease t p) s = .next ((w.complete (p.asWrite 0x0005_000C) stOk []).finish u)
        ∧ (∀ l, l < s.podLanes → bit v0.toNat l = true → (s.pod l).quarantined = true →
            (w.pod l).quarantined = false ∧ (w.pod l).errSec = 0 ∧ (w.pod l).drained = true ∧ (w.pod l).running = false)
        ∧ (∀ l, bit v0.toNat l = false → w.pod l = s.pod l) ∧ w.lanes = s.lanes ∧ w.chains = s.chains ∧ w.hive = s.hive) ∧
    (∀ (v0 : Word) (l : Nat), Admits u (p.asWrite 0x0005_000C) → (p.asWrite 0x0005_000C).words = some [v0] →
      l < 24 → bit v0.toNat l = true → s.podLanes ≤ l →
      ∃ (w : State) (body : List Byte),
        exec (.podQuarRelease t p) s = .next ((w.complete (p.asWrite 0x0005_000C) stUnitAbsent body).finish u)
        ∧ w.pods = s.pods ∧ w.lanes = s.lanes ∧ w.chains = s.chains ∧ w.hive = s.hive)

/-- Bring-up of a lane (R189 to R197, R200): each event moves the lane on from the state it belongs to; a training block
for the lane's class is answered with the preset it asks for; a timer that has run out, with no success in its own cycle, records its
code and counts a failure; the handshake is over 16 training blocks after its 8 confirmations, bit lock comes after 2,048 clean
line bits, and symbol lock once the hunt has had time for four sync words 1,024 bits apart. -/
def Obligations.LaneBringUpComplete : Prop :=
  ∀ (s u : State) (t l : Nat), u = s.elapse t → s.sys.mode ≠ .hold →
    (∀ term energy, (s.lane l).st = 1 →
      ∃ v : State, exec (.laneDetect t l term energy) s = .next (v.finish u)
        ∧ (v.lane l).st = (if energy || (term && !s.silent l) then 2 else 1) ∧ (v.lane l).termSeen = term
        ∧ (v.lane l).energy = energy ∧ (∀ j, j ≠ l → v.lane j = s.lane j) ∧ v.pods = s.pods ∧ v.regs = s.regs) ∧
    (∀ us code, laneTimeout (s.lane l).st = some (us, code) → (s.lane l).entered + us * cycPerUs ≤ u.time.cyc →
      ((s.lane l).entered + us * cycPerUs = u.time.cyc → u.successComes l = false) →
      ∃ v : State, exec (.laneStateTimeout t l) s = .next (v.finish u) ∧ (v.lane l).lastCode = code
        ∧ ((s.lane l).st = 1 → (v.lane l).st = 1) ∧ ((s.lane l).st ≠ 1 →
            (v.lane l).st = if 2 ≤ Tab.get (fun _ => 0) (s.lane l).tries (s.lane l).st then 7 else afterFailure (s.lane l).st)
        ∧ v.reg (laneReg l 0x3C) = (if s.reg (laneReg l 0x3C) = 0xFFFF_FFFF then 0xFFFF_FFFF else s.reg (laneReg l 0x3C) + 1)
        ∧ (∀ j, j ≠ l → v.lane j = s.lane j) ∧ v.hive = s.hive) ∧
    (∀ w : Word, (s.lane l).st = 2 → tcwValid w.toNat = true → bits w.toNat 9 2 = laneClass l →
      ∃ v : State, exec (.trainingBlock t l w) s = .next (v.finish u) ∧ (v.lane l).st = 2 ∧ (v.lane l).tcwAt = u.time.cyc
        ∧ (v.lane l).txPreset = (if w.toNat % 16 ≤ 10 then w.toNat % 16 else (s.lane l).txPreset)
        ∧ ((s.lane l).readyAt = none →
            (v.lane l).confirms = (if bit w.toNat 8 && (s.lane l).rxReady then (s.lane l).confirms + 1 else 0)
            ∧ (v.lane l).readyAt = (if bit w.toNat 8 && (s.lane l).rxReady && decide (7 ≤ (s.lane l).confirms) then some u.time.cyc
                else none))
        ∧ (∀ c, (s.lane l).readyAt = some c → (v.lane l).readyAt = some c)
        ∧ (∀ j, j ≠ l → v.lane j = s.lane j) ∧ v.pods = s.pods ∧ v.regs = s.regs) ∧
    ((s.lane l).st = 2 → (s.lane l).tcwAt + 1000 * cycPerUs ≤ u.time.cyc →
      ((s.lane l).tcwAt + 1000 * cycPerUs = u.time.cyc → u.successComes l = false) →
      ∃ v : State, exec (.tcwTimeout t l) s = .next (v.finish u) ∧ (v.lane l).lastCode = 4
        ∧ v.reg (laneReg l 0x3C) = (if s.reg (laneReg l 0x3C) = 0xFFFF_FFFF then 0xFFFF_FFFF else s.reg (laneReg l 0x3C) + 1)
        ∧ (∀ j, j ≠ l → v.lane j = s.lane j) ∧ v.hive = s.hive) ∧
    (∀ o, (s.lane l).st = 2 → (s.lane l).searching = true →
      (s.lane l).entered + ((s.lane l).rxPreset + 1) * 1000 * cycPerUs ≤ u.time.cyc →
      ∃ v : State, exec (.presetSearchStep t l o) s = .next (v.finish u)
        ∧ (v.lane l).best = some (betterPreset (s.lane l).best o (s.lane l).rxPreset)
        ∧ (v.lane l).rxPreset = (if (s.lane l).rxPreset < 10 then (s.lane l).rxPreset + 1
            else (betterPreset (s.lane l).best o (s.lane l).rxPreset).2)
        ∧ ((v.lane l).searching = true ↔ (s.lane l).rxPreset < 10)
        ∧ (∀ j, j ≠ l → v.lane j = s.lane j) ∧ v.pods = s.pods ∧ v.regs = s.regs) ∧
    (∀ ctle dfe, (s.lane l).st = 2 → (s.lane l).searching = false → (s.lane l).rxReady = false →
      (s.lane l).entered + (if (s.lane l).best.isSome then 12 else 1) * 1000 * cycPerUs ≤ u.time.cyc →
      ∃ v : State, exec (.rxAdaptDone t l ctle dfe) s = .next (v.finish u) ∧ (v.lane l).rxReady = true
        ∧ (bit (s.regN (phyReg l 4)) 0 = false → (v.lane l).ctle = ctle % 16 ∧ (v.lane l).dfe = BitVec.ofNat 32 (dfe.toNat % 2 ^ 30))
        ∧ (bit (s.regN (phyReg l 4)) 0 = true → (v.lane l).ctle = bits (s.regN (phyReg l 4)) 1 4) ∧ (∀ j, j ≠ l → v.lane j = s.lane j) ∧ v.pods = s.pods ∧ v.regs = s.regs) ∧
    (∀ c, (s.lane l).st = 2 → (s.lane l).readyAt = some c → c + lineCycles l (16 * 1024) ≤ u.time.cyc → s.silent l = false →
      ∃ v : State, exec (.trainHandshakeDone t l) s = .next (v.finish u) ∧ (v.lane l).st = 3
        ∧ (v.lane l).entered = u.time.cyc ∧ (∀ j, j ≠ l → v.lane j = s.lane j) ∧ v.pods = s.pods ∧ v.regs = s.regs) ∧
    ((s.lane l).st = 2 → s.silent l = true →
      ∃ v : State, exec (.farTrainingEnd t l) s = .next (v.finish u) ∧ (v.lane l).st = 3
        ∧ (v.lane l).entered = u.time.cyc ∧ (∀ j, j ≠ l → v.lane j = s.lane j) ∧ v.pods = s.pods ∧ v.regs = s.regs) ∧
    ((s.lane l).st = 3 → (s.lane l).cleanFrom + lineCycles l 2048 ≤ u.time.cyc →
      ∃ v : State, exec (.bitLock t l) s = .next (v.finish u) ∧ (v.lane l).st = 4 ∧ (v.lane l).entered = u.time.cyc
        ∧ (∀ j, j ≠ l → v.lane j = s.lane j) ∧ v.pods = s.pods ∧ v.regs = s.regs) ∧
    ((s.lane l).st = 4 → (s.lane l).huntFrom + lineCycles l (3 * 1024 + 32) ≤ u.time.cyc →
      ∃ v : State, exec (.symlockAcquired t l) s = .next (v.finish u)
        ∧ (v.lane l).st = (if laneClass l ≤ 1 then 5 else 6) ∧ (v.lane l).locked = true
        ∧ (∀ j, j ≠ l → v.lane j = s.lane j) ∧ v.regs = s.regs ∧ v.hive = s.hive)

/-- Lanes in service (R181, R183, R184, R190, R196, R198, R204, R208): a lane that loses symbol lock in `ACTIVE` goes back to `SYMLOCK` and the
loss is counted; a lane leaves `BACKOFF` after 1 s; stuff errors and sync misses are counted; a checker takes sync after the bits that seed it and
64 clean ones, and loses it with 256 errors, which are counted as far as they were not yet; and a step of an eye scan ends once it has dwelt.
Where the rules leave it open it says the model's choice: log entry 123. -/
def Obligations.LaneServiceComplete : Prop :=
  ∀ (s u : State) (t l : Nat), u = s.elapse t → s.sys.mode ≠ .hold →
    ((s.lane l).st = 6 →
      ∃ v : State, exec (.symlockLost t l) s = .next (v.finish u) ∧ (v.lane l).st = 4 ∧ (v.lane l).locked = false
        ∧ (v.lane l).lastCode = 9
        ∧ v.reg (laneReg l 0x38) = (if s.reg (laneReg l 0x38) = 0xFFFF_FFFF then 0xFFFF_FFFF else s.reg (laneReg l 0x38) + 1)
        ∧ (∀ j, j ≠ l → v.lane j = s.lane j) ∧ v.hive = s.hive) ∧
    ((s.lane l).st = 7 → (s.lane l).entered + 1000 * cycPerMs ≤ u.time.cyc →
      ∃ v : State, exec (.laneBackoffEnd t l) s = .next (v.finish u) ∧ (v.lane l).st = 1 ∧ (v.lane l).tries = []
        ∧ (v.lane l).entered = u.time.cyc ∧ (∀ j, j ≠ l → v.lane j = s.lane j) ∧ v.regs = s.regs ∧ v.pods = s.pods) ∧
    (∃ v : State, exec (.stuffErr t l) s = .next (v.finish u)
        ∧ v.reg (laneReg l 0x30) = (if s.reg (laneReg l 0x30) = 0xFFFF_FFFF then 0xFFFF_FFFF else s.reg (laneReg l 0x30) + 1)
        ∧ v.lane l = { s.lane l with cleanFrom := u.time.cyc } ∧ (∀ j, j ≠ l → v.lane j = s.lane j) ∧ v.pods = s.pods
        ∧ v.hive = s.hive) ∧
    ((s.lane l).locked = true →
      ∃ v : State, exec (.syncMiss t l) s = .next (v.finish u)
        ∧ v.reg (laneReg l 0x34) = (if s.reg (laneReg l 0x34) = 0xFFFF_FFFF then 0xFFFF_FFFF else s.reg (laneReg l 0x34) + 1)
        ∧ v.lane l = { s.lane l with missRun := (s.lane l).run l u.time.cyc + 1, missAt := u.time.cyc }
        ∧ (∀ j, j ≠ l → v.lane j = s.lane j) ∧ v.pods = s.pods ∧ v.hive = s.hive) ∧
    (s.sys.mode = .test → s.chkCode l ≠ 0 → (s.lane l).chkSync = false →
      (s.lane l).chkFrom + lineCycles l (checkerSeed (s.chkCode l) + 64) ≤ u.time.cyc → u.checkerClean l = true →
      ∃ v : State, exec (.checkerSync t l) s = .next (v.finish u) ∧ (v.lane l).chkSync = true ∧ (v.lane l).chkFrom = u.time.cyc
        ∧ (v.lane l).chkErrs = 0
        ∧ (∀ j, j ≠ l → v.lane j = s.lane j) ∧ v.regs = s.regs ∧ v.pods = s.pods) ∧
    (∀ errs mi, (s.lane l).chkSync = true → 256 ≤ errs →
      ∃ v : State, exec (.checkerSyncLoss t l errs mi) s = .next (v.finish u) ∧ (v.lane l).chkSync = false
        ∧ v.reg (laneReg l 0x48) = (if s.reg (laneReg l 0x48) = 0xFFFF_FFFF then 0xFFFF_FFFF else s.reg (laneReg l 0x48) + 1)
        ∧ v.regN (laneReg l 0x40) = min 0xFFFF_FFFF (s.regN (laneReg l 0x40) + (errs - (s.lane l).chkErrs))
        ∧ v.regN (laneReg l 0x44) = min 0xFFFF_FFFF (s.regN (laneReg l 0x44) + (mi - (s.lane l).chkDone))
        ∧ (∀ j, j ≠ l → v.lane j = s.lane j) ∧ v.hive = s.hive) ∧
    (∀ e, (s.lane l).scan = some e → e.from' + lineCycles l (10 ^ (6 + e.dwell)) ≤ u.time.cyc → e.steps + 1 < 32 →
      ∃ v : State, exec (.eyeScanStep t l false) s = .next (v.finish u)
        ∧ (v.lane l).scan = some { e with steps := e.steps + 1, from' := u.time.cyc }
        ∧ (∀ j, j ≠ l → v.lane j = s.lane j) ∧ v.regs = s.regs ∧ v.pods = s.pods) ∧
    (∀ e dis n, (s.lane l).scan = some e → e.from' + lineCycles l (10 ^ (6 + e.dwell)) ≤ u.time.cyc → e.dir < 3 →
      dis = true ∨ 31 ≤ e.steps → n = (if dis then e.steps else e.steps + 1) →
      ∃ v : State, exec (.eyeScanStep t l dis) s = .next (v.finish u)
        ∧ (v.lane l).scan = some { e with dir := e.dir + 1, steps := 0, from' := u.time.cyc }
        ∧ (e.dir = 0 → (v.lane l).eyeL = n) ∧ (e.dir = 1 → (v.lane l).eyeR = n) ∧ (e.dir = 2 → (v.lane l).eyeU = n)
        ∧ (∀ j, j ≠ l → v.lane j = s.lane j) ∧ v.regs = s.regs ∧ v.pods = s.pods) ∧
    (∀ e dis n, (s.lane l).scan = some e → e.from' + lineCycles l (10 ^ (6 + e.dwell)) ≤ u.time.cyc → e.dir = 3 →
      dis = true ∨ 31 ≤ e.steps → n = (if dis then e.steps else e.steps + 1) →
      ∃ v : State, exec (.eyeScanStep t l dis) s = .next (v.finish u) ∧ (v.lane l).eyeValid = true
        ∧ (v.lane l).eyeD = n
        ∧ ((v.lane l).eyeLow = true ↔ (s.lane l).eyeL + (s.lane l).eyeR < s.eyeHMin l
            ∨ (s.lane l).eyeU + n < s.eyeVMin l)
        ∧ v.pods = s.pods ∧ v.hive = s.hive)

/-- Commands on lanes (R198, R202 to R206, R209): a retrain sends every enabled lane it names, out of `PATTERN`, to `DETECT`, and one that names an absent lane changes none; in TEST a write of
`LANE_TEST_CTRL` is held, and its generator takes the lane into `PATTERN`; injection starts in its mode, and the repeated mode stops;
an eye scan starts on a lane in `ACTIVE` or `PATTERN` that has none.
Where the rules leave it open it says the model's choice: log entries 57 and 134. -/
def Obligations.LaneCommandsComplete : Prop :=
  ∀ (s u : State) (t : Nat) (p : Packet) (v0 : Word), u = s.elapse t → s.sys.mode ≠ .hold →
    (Admits u (p.asWrite 0x0004_000C) → (p.asWrite 0x0004_000C).words = some [v0] →
      (∀ l, l < 32 → bit v0.toNat l = true → s.lanePresent l = true) →
      ∃ w : State, exec (.laneRetrain t p) s = .next ((w.complete (p.asWrite 0x0004_000C) stOk []).finish u)
        ∧ (∀ l, l < 32 → bit v0.toNat l = true → (s.lane l).enable = true → (s.lane l).st ≠ 8 →
            (w.lane l).st = 1 ∧ (w.lane l).lastCode = 10)
        ∧ (∀ l, bit v0.toNat l = false ∨ (s.lane l).enable = false ∨ (s.lane l).st = 8 →
            w.lane l = s.lane l)
        ∧ w.hive = s.hive) ∧
    (∀ l, Admits u (p.asWrite 0x0004_000C) → (p.asWrite 0x0004_000C).words = some [v0] →
      l < 32 → bit v0.toNat l = true → s.lanePresent l = false →
      ∃ (w : State) (body : List Byte),
        exec (.laneRetrain t p) s = .next ((w.complete (p.asWrite 0x0004_000C) stUnitAbsent body).finish u)
        ∧ w.lanes = s.lanes ∧ w.regs = s.regs ∧ w.pods = s.pods ∧ w.hive = s.hive) ∧
    (∀ l, l = p.onLane → s.lanePresent l = true → Admits u (p.asWrite (laneReg l 0x10)) →
      (p.asWrite (laneReg l 0x10)).words = some [v0] → s.sys.mode = .test →
      v0.toNat % 8 ≠ 7 → v0.toNat / 8 % 8 ≠ 7 → v0.toNat % 256 / 64 ≠ 3 →
      (v0.toNat % 8 = 6 → patternOk (s.regN (laneReg l 0x18) * 2 ^ 32 + s.regN (laneReg l 0x14)) = true) →
      ∀ c ∈ [Instr.laneGenSet t p, .laneChkSet t p, .laneLoopSet t p],
      ∃ w : State, exec c s = .next ((w.complete (p.asWrite (laneReg l 0x10)) stOk []).finish u)
        ∧ w.regN (laneReg l 0x10) = v0.toNat % 256
        ∧ (v0.toNat % 8 ≠ 0 → (w.lane l).st = 8)
        ∧ (v0.toNat % 8 = 0 → (s.lane l).st = 8 → (w.lane l).st = if (s.lane l).enable then 1 else 0)
        ∧ (v0.toNat / 8 % 8 ≠ s.chkCode l → (w.lane l).chkSync = false ∧ (w.lane l).chkFrom = u.time.cyc ∧ (w.lane l).chkErrs = 0)
        ∧ (v0.toNat % 8 ≠ 0 → (s.lane l).st ≠ 8 ∨ v0.toNat % 8 ≠ s.genCode l → (w.lane l).entered = u.time.cyc)
        ∧ (∀ j, j ≠ l → w.lane j = s.lane j) ∧ w.hive = s.hive) ∧
    (∀ l, l = p.onLane → s.lanePresent l = true → Admits u (p.writing (laneReg l 0x24) 1) → s.sys.mode = .test →
      (s.regN (laneReg l 0x1C) % 4 = 2 → 2 ≤ s.regN (laneReg l 0x20)) →
      (s.regN (laneReg l 0x1C) % 4 = 3 → s.regN (laneReg l 0x1C) / 4 % 65536 ≠ 0) →
      ∃ w : State, exec (.laneInjGo t p) s = .next ((w.complete (p.writing (laneReg l 0x24) 1) stOk []).finish u)
        ∧ (s.regN (laneReg l 0x1C) % 4 = 0 → (w.lane l).inject = (s.lane l).inject)
        ∧ (s.regN (laneReg l 0x1C) % 4 ≠ 0 → (w.lane l).inject = some
            { mode := s.regN (laneReg l 0x1C) % 4, from' := u.time.cyc, n := s.regN (laneReg l 0x20)
              len := s.regN (laneReg l 0x1C) / 4 % 65536 })
        ∧ (∀ j, j ≠ l → w.lane j = s.lane j) ∧ w.pods = s.pods ∧ w.hive = s.hive) ∧
    (∀ l, l = p.onLane → s.lanePresent l = true → Admits u (p.writing (laneReg l 0x24) 2) →
      ∃ w : State, exec (.laneInjStop t p) s = .next ((w.complete (p.writing (laneReg l 0x24) 2) stOk []).finish u)
        ∧ (w.lane l).inject = (s.lane l).inject.filter (fun j => j.mode != 2) ∧ (∀ j, j ≠ l → w.lane j = s.lane j) ∧ w.pods = s.pods ∧ w.hive = s.hive) ∧
    (∀ l, l = p.onLane → s.lanePresent l = true → Admits u (p.asWrite (laneReg l 0x28)) →
      (p.asWrite (laneReg l 0x28)).words = some [v0] → bit v0.toNat 0 = true → (s.lane l).scan = none →
      (s.lane l).st = 6 ∨ (s.lane l).st = 8 →
      ∃ w : State, exec (.eyeScanStart t p) s = .next ((w.complete (p.asWrite (laneReg l 0x28)) stOk []).finish u)
        ∧ (w.lane l).scan = some { dwell := v0.toNat / 2 % 4, from' := u.time.cyc } ∧ (w.lane l).eyePlanner = false
        ∧ w.regN (laneReg l 0x28) = v0.toNat % 8 / 2 * 2
        ∧ (∀ j, j ≠ l → w.lane j = s.lane j) ∧ w.pods = s.pods ∧ w.hive = s.hive)

/-- The Comb at work (R258, R262, R300, R302, R310, R314): the next block or frame of a program, once its lag has passed, runs on its epoch's
work, which counts it and the parity hits it met; an epoch whose blocks or frames are all done and whose boundary has come gives its
products to their stream and leaves its program, or, with singular pairs still to come, waits for its iteration; and when that has
ended the pairs go and it leaves.
Where the rules leave it open it says the model's choice: log entries 41, 100, 128, 155 and 157. -/
def Obligations.CombWorkComplete : Prop :=
  ∀ (s u : State) (t p : Nat), u = s.elapse t → s.sys.mode ≠ .hold →
    (∀ (hits : List ParityHit) (ii wi : Nat) (i : ProgInst) (w : Work), u.nextWork p = some (ii, i, wi, w) → recType i.cfg = 0 →
      workNext i.cfg w + u.workLag i w ≤ u.sub →
      ∃ (v : State) (w' : Work), exec (.combBlock t p hits) s = .next (v.finish u)
        ∧ v.comb.insts[ii]? = some { i with works := i.works.set wi w' } ∧ w' = srpBlock i hits w
        ∧ w'.next = w.next + 1 ∧ w'.start = w.start ∧ w'.stop = w.stop ∧ w'.parity = w.parity + hits.length
        ∧ (hits ≠ [] → v.comb.parity = true) ∧ (∀ j, j ≠ ii → v.comb.insts[j]? = s.comb.insts[j]?)
        ∧ v.streams = s.streams ∧ v.sys = s.sys ∧ v.hive = s.hive) ∧
    (∀ (hits : List ParityHit) (ii wi : Nat) (i : ProgInst) (w : Work), u.nextWork p = some (ii, i, wi, w) → recType i.cfg ≠ 0 →
      workNext i.cfg w + u.workLag i w ≤ u.sub →
      ∃ (v : State) (w' : Work), exec (.spectralFrame t p hits) s = .next (v.finish u)
        ∧ v.comb.insts[ii]? = some { i with works := i.works.set wi w' } ∧ w' = u.specFrame i hits w
        ∧ w'.next = w.next + 1 ∧ w'.start = w.start ∧ w'.stop = w.stop ∧ w'.parity = w.parity + hits.length
        ∧ (hits ≠ [] → v.comb.parity = true) ∧ (∀ j, j ≠ ii → v.comb.insts[j]? = s.comb.insts[j]?)
        ∧ v.streams = s.streams ∧ v.sys = s.sys ∧ v.hive = s.hive) ∧
    (∀ (ii : Nat) (i : ProgInst) (w : Work), u.oldestWork p = some (ii, i, w) → w.emitted = false →
      workTotal i.cfg w ≤ w.next → w.closed = true ∨ w.stop ≤ u.ns →
      ∃ (v x : State) (i' : ProgInst), exec (.productEmit t p) s = .next (v.finish u)
        ∧ i' = (if recType i.cfg = 1 ∧ bit (xsOutputs i.cfg) 1 = true then
            { i with works := { w with emitted := true
                                       svdAt := some (u.time.cyc + (svdTime i.cfg w.derate * 800000000).ceil.toNat) } :: i.works.tail }
          else { i with works := i.works.tail })
        ∧ x = u.showCounts i.cfg w.miss w.settle
        ∧ v = (({ x with comb := { x.comb with insts := s.comb.insts.set ii i' } } : State).holdProducts p w.gen
            ((u.workProducts i w).map fun x => (subNs w.start, x))).dropDone
        ∧ v.comb.insts = (s.comb.insts.set ii i').filter
            (fun i => !(i.stopped && i.works.isEmpty && i.dets.isEmpty && i.spans.isEmpty))
        ∧ (∀ q, q < recFrames i.cfg → Tab.get (fun _ => 0) v.comb.miss (recFirst i.cfg + q)
            = Tab.get (fun _ => 0) w.miss (recFirst i.cfg + q))
        ∧ v.sys = s.sys ∧ v.time = u.time ∧ v.hive.mem = s.hive.mem) ∧
    (∀ (ii c : Nat) (i : ProgInst) (w : Work), u.oldestWork p = some (ii, i, w) → w.svdAt = some c → c ≤ u.time.cyc →
      ∃ (v : State) (i' : ProgInst), exec (.svdDone t p) s = .next (v.finish u) ∧ i' = { i with works := i.works.tail }
        ∧ v = (({ u with comb := { s.comb with insts := s.comb.insts.set ii i' } } : State).holdProducts p w.gen
            ((u.xsPairs i w).map fun x => (subNs w.start, x))).dropDone
        ∧ v.comb.insts = (s.comb.insts.set ii i').filter
            (fun i => !(i.stopped && i.works.isEmpty && i.dets.isEmpty && i.spans.isEmpty))
        ∧ v.sys = s.sys ∧ v.time = u.time ∧ v.hive.mem = s.hive.mem)

/-- MATCH (R249, R320 to R323, R329): a pair's window that has ended gives the detection of its best crossing, with the parity hits it met,
which the trigger network hears of where its template says so, and the pair looks on after the hold; a 100 ms interval whose time has come takes
the detections before its end, in order, each in a record of its own interval, to the program's stream.
Where the rules leave it open it says the model's choice: log entries 137 and 164. -/
def Obligations.MatchComplete : Prop :=
  ∀ (s u : State) (t p : Nat), u = s.elapse t → s.sys.mode ≠ .hold →
    (∀ (hits : List ParityHit) (chan tm ii si next : Nat) (i : ProgInst) (sp : MatchSpan) (det : Detection),
      u.matchEnded p chan tm hits = some (ii, si, next, det) → s.comb.insts[ii]? = some i → i.spans[si]? = some sp →
      ∃ v : State, exec (.matchWindowEnd t p chan ⟨tm, hits⟩) s = .next (v.finish u)
        ∧ v.comb.insts[ii]? = some { u.strikeMatch i hits with
            dets := i.dets ++ [det]
            spans := i.spans.set si { sp with pos := Tab.set (fun _ => sp.base) sp.pos (pairKey chan tm) next } }
        ∧ (∀ j, j ≠ ii → v.comb.insts[j]? = s.comb.insts[j]?)
        ∧ (∃ n slot rho ex, (slot, chan, rho) ∈ recSlots i.cfg
            ∧ firstCrossing i hits slot tm (sp.limit (u.arrived i u.sub) - Tab.get (fun _ => sp.base) sp.pos (pairKey chan tm))
                (Tab.get (fun _ => sp.base) sp.pos (pairKey chan tm)) = some n
            ∧ n + matchWin i.cfg ≤ sp.limit (u.arrived i u.sub)
            ∧ bestInWindow i hits slot tm n (matchWin i.cfg) = some (det.idx, det.score, ex, det.settling)
            ∧ next = max (det.idx + matchHold i.cfg + 1) (n + matchWin i.cfg))
        ∧ recProg i.cfg = p ∧ det.chan = chan ∧ det.templ = tm
        ∧ det.stamp = subNs ((det.idx + 1 - matchL i.cfg) * i.period) - u.residAt i.period chan
        ∧ v.trig = { s.trig with transit := s.trig.transit ++ if bit (matchThr i.cfg tm) 63 = true then
            [{ t := det.stamp, src := 0x800 + 256 * p + tm, chan := some chan }] else [] }
        ∧ (hits ≠ [] → v.comb.parity = true) ∧ v.sys = s.sys ∧ v.streams = s.streams ∧ v.hive = s.hive) ∧
    (∀ (ii : Nat) (i : ProgInst) (rest : List (ProgInst × Nat)) (t1 : Int), s.matchInsts p = (i, ii) :: rest →
      t1 = subNs ((i.interval + 1) * 100_000_000) →
      t1 + subNs ((matchL i.cfg - 1 + matchWin i.cfg) * i.period) + u.instLag i ≤ u.sub →
      ∃ (v y : State) (j i' : ProgInst), exec (.matchIntervalEnd t p) s = .next (v.finish u)
        ∧ y.comb.insts[ii]? = some j ∧ ((∀ sp ∈ i.spans, sp.stop = none) → y = u ∧ j = i)
        ∧ v = (({ y with comb := { y.comb with insts := y.comb.insts.set ii i' } } : State).holdProducts p y.comb.gen
            (y.matchRecords (y.countRun j (u.arrived i u.sub))
              ((j.dets.filter fun d => d.stamp < t1).foldl (fun l d => insertDet d l) []))).dropDone
        ∧ i'.interval = i.interval + 1 ∧ i'.dets = j.dets.filter (fun d => !(d.stamp < t1)) ∧ i'.cfg = i.cfg
        ∧ (∀ sp ∈ i'.spans, ∀ x ∈ sp.stop, i.indexAt ((i.interval + 1) * 100_000_000) < x)
        ∧ v.sys = s.sys ∧ v.time = u.time ∧ v.hive.mem = s.hive.mem)

/-- Rebuilds and foreign channels (R272, R276, R436, R437): a rebuild that is done completes its commit and stays staged, or, where a check fails
or its section was poisoned, is refused with all of it; each sample a neighbour sends enters history under the map it sent last, or is
late; a map is taken, and sent every 100 ms to the egress arbiter of every lane in service of its direction that carries messages.
Where the rules leave it open it says the model's choice: log entries 36 and 124. -/
def Obligations.ForeignComplete : Prop :=
  ∀ (s u : State) (t : Nat), u = s.elapse t → s.sys.mode ≠ .hold →
    (∀ (b : Rebuild) (g : Staged) (y : State) (i : Image) (bad : Option Refuse), s.comb.rebuild = some b → s.cfg.staged = some g → b.finished = false →
      y = u.extendLeases b.pkt.port ((u.ns - b.startAt) * 4 / 5) →
      i = { isFull := false, imageId := g.imageId, epochDs := g.epochDs, compressed := b.compressed, secs := g.sections
            anchorsNx := b.compressed } →
      bad = (if b.poisoned then some (refused 0x08 0x0012 0) else y.imageChecks i) →
      (bad = none →
        ∃ w : State, exec (.rebuildDone t) s = .next ((w.complete b.pkt stOk []).finish u)
          ∧ w.comb.rebuild = some { b with finished := true } ∧ w.cfg.staged = some g ∧ w.cfg.result = stOk
          ∧ w.sys = s.sys ∧ w.streams = s.streams ∧ w.hive = s.hive) ∧
      (∀ r st body, bad = some r → r.reply = .done st body →
        ∃ w : State, exec (.rebuildDone t) s = .next ((w.complete b.pkt st body).finish u)
          ∧ w.comb.rebuild = none ∧ w.cfg.staged = none ∧ w.cfg.result = r.status ∧ w.cfg.reason = r.reason
          ∧ w.sys = s.sys ∧ w.streams = s.streams ∧ w.hive = s.hive)) ∧
    (∀ (lane : Nat) (m : List Byte), 24 ≤ lane → lane < 28 → s.laneActive lane = true → crcGood m = true →
      s.fromNeighbour lane = true →
      (∃ v : State, exec (.foreign t lane m) s = .next (v.finish u)
        ∧ v = (bitList 16 (leAt m 8 2)).foldl (fun w j =>
            (if Tab.get (fun _ => 0xFFFF) (if 26 ≤ lane then s.time.fmapDown else s.time.fmapUp) (byteAt m 1 + j) = 0xFFFF then []
             else s.foreignChannels (decide (26 ≤ lane))
              (Tab.get (fun _ => 0xFFFF) (if 26 ≤ lane then s.time.fmapDown else s.time.fmapUp) (byteAt m 1 + j))).foldl
              (fun w ch => w.combForeign ch (u.extend (leAt m 2 6)) (sleAt m (12 + 3 * onesBelow (leAt m 8 2) j) 3)
                (bit (leAt m 10 2) j)) w) u
        ∧ (∀ ch c rho, leAt m 8 2 = 1 → s.hasComb = true → rho = ((-(u.extend (leAt m 2 6))) % subNs 2500).toNat →
            c = Tab.get (fun _ => 0xFFFF) (if 26 ≤ lane then s.time.fmapDown else s.time.fmapUp) (byteAt m 1) → c ≠ 0xFFFF →
            s.foreignChannels (decide (26 ≤ lane)) c = [ch] → u.sub ≤ u.extend (leAt m 2 6) + u.feedLag ch →
            v.comb.insts = (({ u with comb := { s.comb with resid := Tab.set (fun _ => 0) s.comb.resid ch rho } } : State).combStore ch (indexOfStamp (u.extend (leAt m 2 6)) 2500)
              { val := sleAt m 12 3, settling := bit (leAt m 10 2) 0 }).comb.insts
            ∧ Tab.get (fun _ => 0) v.comb.resid ch = rho)
        ∧ v.sys = s.sys ∧ v.time = u.time ∧ v.streams = s.streams ∧ v.hive = s.hive) ∧
      (∃ v : State, exec (.fmap t lane m) s = .next (v.finish u)
        ∧ (∀ j, j < 16 → Tab.get (fun _ => 0xFFFF) (if 26 ≤ lane then v.time.fmapDown else v.time.fmapUp) (byteAt m 1 + j)
            = if j < byteAt m 2 then leAt m (3 + 2 * j) 2 else 0xFFFF)
        ∧ (∀ k, k < byteAt m 1 ∨ byteAt m 1 + 16 ≤ k →
            Tab.get (fun _ => 0xFFFF) v.time.fmapDown k = Tab.get (fun _ => 0xFFFF) s.time.fmapDown k
            ∧ Tab.get (fun _ => 0xFFFF) v.time.fmapUp k = Tab.get (fun _ => 0xFFFF) s.time.fmapUp k)
        ∧ v.sys = s.sys ∧ v.regs = s.regs ∧ v.streams = s.streams ∧ v.hive = s.hive)) ∧
    (∀ down : Bool, (if down then s.time.fmapDownAt else s.time.fmapUpAt) ≠ some (u.ns / 100_000_000) →
      ∃ v : State, exec (.fmapSend t down) s = .next (v.finish u)
        ∧ (∀ m ∈ s.fmapMessages down, ∀ l ∈ if down then [26, 27] else [24, 25], s.laneActive l = true → s.carries l = true →
            v.egressAsks l 3 m = true)
        ∧ (∀ l ∈ if down then [24, 25] else [26, 27], v.egressArb l = s.egressArb l)
        ∧ (if down then v.time.fmapDownAt else v.time.fmapUpAt) = some (u.ns / 100_000_000)
        ∧ v.sys = s.sys ∧ (s.egressIdle = true → v.regs = s.regs ∧ v.wire = []) ∧ v.streams = s.streams ∧ v.hive.mem = s.hive.mem)

/-- Trigger units and balls (R332, R334, R337 to R339): an arriving event enters the queue of each unit that has its source, or, from the
cycle after its horizon on, is late there;
a unit takes its next event once its horizon has passed, and absorbs it, waits for coincidence or fires; a rising edge that had 20 ns of low
before it and has 20 ns of high after it, and comes more than 100 ns after the last one taken, becomes an event, and no other does; a pulse
ends. -/
def Obligations.UnitsComplete : Prop :=
  ∀ (s u : State) (t : Nat), u = s.elapse t → s.sys.mode ≠ .hold →
    (∀ (src stamp : Nat) (e : TrigEvent),
      (s.trig.transit.find? fun e => e.src == src && (stampOfSub e.t).toNat == stamp % 2 ^ 48) = some e →
      ∃ v : State, exec (.trigEventArrival t src stamp) s = .next (v.finish u) ∧ v.trig.transit = s.trig.transit.erase e
        ∧ (∀ k, k < 16 → unitOn (s.unitRec k) = true → unitHas (s.unitRec k) e.src = true →
            u.sub < e.t + (s.tunit k).horizon + u.cycleSub →
            (v.tunit k).queue = insertEvent e (s.tunit k).queue ∧ v.reg (tuReg k 0x1C) = s.reg (tuReg k 0x1C))
        ∧ (∀ k, k < 16 → unitOn (s.unitRec k) = true → unitHas (s.unitRec k) e.src = true →
            e.t + (s.tunit k).horizon + u.cycleSub ≤ u.sub → v.tunit k = s.tunit k ∧ v.reg (tuReg k 0x1C)
              = (if s.reg (tuReg k 0x1C) = 0xFFFF_FFFF then 0xFFFF_FFFF else s.reg (tuReg k 0x1C) + 1))
        ∧ (∀ k, unitOn (s.unitRec k) = false ∨ unitHas (s.unitRec k) e.src = false → v.tunit k = s.tunit k)
        ∧ v.trig.engines = s.trig.engines ∧ v.sys = s.sys ∧ v.time = u.time ∧ v.hive = s.hive) ∧
    (∀ (k : Nat) (e : TrigEvent) (rest win : List TrigEvent) (w : Int), (s.tunit k).queue = e :: rest → unitOn (s.unitRec k) = true →
      e.t + (s.tunit k).horizon ≤ u.sub → w = subUs (leAt (s.unitRec k) 2 2) →
      win = (insertEvent e (s.tunit k).taken).filter (fun x => e.t - w < x.t && x.t ≤ e.t) →
      ∃ v : State, exec (.unitTakeEvent t k) s = .next (v.finish u) ∧ (v.tunit k).queue = rest
        ∧ (∀ a, (s.tunit k).absorb = some a → e.t < a → (v.tunit k).taken = (s.tunit k).taken
            ∧ v.reg (tuReg k 0x14) = s.reg (tuReg k 0x14) ∧ v.reg (tuReg k 0x18)
              = (if s.reg (tuReg k 0x18) = 0xFFFF_FFFF then 0xFFFF_FFFF else s.reg (tuReg k 0x18) + 1))
        ∧ ((∀ a, (s.tunit k).absorb = some a → a ≤ e.t) → (win.map (·.src)).dedup.length < byteAt (s.unitRec k) 1 →
            (v.tunit k).taken = win ∧ v.reg (tuReg k 0x14) = s.reg (tuReg k 0x14))
        ∧ ((∀ a, (s.tunit k).absorb = some a → a ≤ e.t) → byteAt (s.unitRec k) 1 ≤ (win.map (·.src)).dedup.length →
            (v.tunit k).absorb = some ((win.map (·.t)).foldl min e.t + w)
            ∧ (v.tunit k).last = stampOfSub ((win.map (·.t)).foldl min e.t) ∧ v.reg (tuReg k 0x14)
              = (if s.reg (tuReg k 0x14) = 0xFFFF_FFFF then 0xFFFF_FFFF else s.reg (tuReg k 0x14) + 1))
        ∧ (∀ j, j ≠ k → v.tunit j = s.tunit j) ∧ v.sys = s.sys ∧ v.hive.mem = s.hive.mem) ∧
    (∀ ball low high, 1 < ball ∨ low < 16 ∨ high < 16 ∨
        (∃ c, (if ball = 0 then s.trig.lastIn0 else s.trig.lastIn1) = some c ∧ u.time.cyc ≤ c + 80) →
      exec (.trigInEdge t { ball, low, high }) s = .next (u.finish u)) ∧
    (∀ ball low high, ball ≤ 1 → 16 ≤ low → 16 ≤ high →
      (∀ c, (if ball = 0 then s.trig.lastIn0 else s.trig.lastIn1) = some c → c + 80 < u.time.cyc) →
      ∃ v : State, exec (.trigInEdge t { ball, low, high }) s = .next (v.finish u)
        ∧ v.trig.transit = s.trig.transit ++ [{ t := u.sub, src := 0x1010 + ball }]
        ∧ (if ball = 0 then v.trig.lastIn0 else v.trig.lastIn1) = some u.time.cyc
        ∧ v.sys = s.sys ∧ v.regs = s.regs ∧ v.hive = s.hive) ∧
    (∀ c, s.trig.out0 = some c → c ≤ u.time.cyc →
      exec (.trigOutPulseEnd t 0) s = .next (({ u with trig := { s.trig with out0 := none } } : State).finish u)) ∧
    (∀ c, s.trig.out1 = some c → c ≤ u.time.cyc →
      exec (.trigOutPulseEnd t 1) s = .next (({ u with trig := { s.trig with out1 := none } } : State).finish u))

/-- Capture engines (R343, R347 to R352): an arm time that has come arms the engine; a record or a segment whose last slot is in, or can no longer come,
closes and is copied, a fire that waited for the segment's end beginning the next one; a copy that the stream takes leaves the ring free; an engine in segmented mode stands ready again 1 µs after a segment
and leaves the mode after `SEG_QUIET` without a fire. An engine that a mask has stopped takes a host arm only.
Where the rules leave it open it says the model's choice: log entries 129, 136, 160 and 161. -/
def Obligations.EnginesComplete : Prop :=
  ∀ (s u : State) (t e : Nat), u = s.elapse t → s.sys.mode ≠ .hold →
    (∀ c ∈ [Instr.engineArmed t e, Instr.engineRearm t e],
      ∃ v : State, exec c s = .next (v.finish u)
        ∧ (v.engine e).arms = (s.engine e).arms.filter (fun a => u.sub < a.time)
        ∧ ((s.engine e).armed = true ∨ ((s.engine e).coll.isSome = true ∧ (s.engine e).seg = false) →
            v.engine e = { s.engine e with arms := (v.engine e).arms })
        ∧ ((s.engine e).maskStopped = true → (∀ a ∈ (s.engine e).arms, a.time ≤ u.sub → a.source ≠ .host) →
            v.engine e = { s.engine e with arms := (v.engine e).arms })
        ∧ (∀ a rest, (s.engine e).arms = a :: rest → a.time ≤ u.sub → (∀ x ∈ rest, u.sub < x.time) → (s.engine e).armed = false →
            ((s.engine e).coll = none ∨ (s.engine e).seg = true) → ((s.engine e).maskStopped = true → a.source = .host) →
            v.engine e = { s.engine e with armed := true, armAt := a.time, arms := rest, maskStopped := false })
        ∧ (∀ j, j ≠ e → v.engine j = s.engine j) ∧ v.trig.units = s.trig.units ∧ v.regs = s.regs ∧ v.hive = s.hive) ∧
    (∀ c, (s.engine e).coll = some c → (s.engine e).seg = false → u.collectDone e = true →
      ∃ v : State, exec (.captureClose t e) s = .next (v.finish u) ∧ (v.engine e).coll = none ∧ (v.engine e).armed = false
        ∧ (v.engine e).copies.length = (s.engine e).copies.length + 1
        ∧ (v.engine e).lastEnd = some (u.timeOf (engFirst (s.engineRec e)) ((c.trig : Int) + engPost (s.engineRec e)))
        ∧ (engFlag (s.engineRec e) 1 = false → (v.engine e).arms = (s.engine e).arms)
        ∧ v.reg (ceReg e 0x2C) = (if s.reg (ceReg e 0x2C) = 0xFFFF_FFFF then 0xFFFF_FFFF else s.reg (ceReg e 0x2C) + 1)
        ∧ (∀ j, j ≠ e → v.engine j = s.engine j) ∧ v.sys = s.sys ∧ v.streams = s.streams ∧ v.hive.mem = s.hive.mem) ∧
    (∀ c, (s.engine e).coll = some c → (s.engine e).seg = true → u.collectDone e = true →
      ∃ v : State, exec (.segmentClose t e) s = .next (v.finish u) ∧ (v.engine e).seg = true
        ∧ ((s.engine e).segWait = [] → (v.engine e).coll = none ∧ (v.engine e).segWait = [])
        ∧ (∀ f : Fire, (s.engine e).segWait = [f] → (s.engine e).maskStopped = false → (s.engine e).ringStopped = false →
            u.segmentEnd e c + subUs 1 ≤ f.stamp →
            ∃ c', (v.engine e).coll = some c' ∧ c'.fire = f.stamp ∧ c'.kind = f.kind ∧ c'.num = f.num ∧ (v.engine e).segWait = [])
        ∧ (v.engine e).segNum = (s.engine e).segNum + 1 ∧ (v.engine e).segEnd = u.segmentEnd e c
        ∧ (v.engine e).copies.length = (s.engine e).copies.length + 1
        ∧ v.reg (ceReg e 0x30) = (if s.reg (ceReg e 0x30) = 0xFFFF_FFFF then 0xFFFF_FFFF else s.reg (ceReg e 0x30) + 1)
        ∧ (∀ j, j ≠ e → v.engine j = s.engine j) ∧ v.sys = s.sys ∧ v.streams = s.streams ∧ v.hive.mem = s.hive.mem) ∧
    (∀ parts first c rest, (s.engine e).copies = (parts, first, c) :: rest → c ≤ u.time.cyc →
      (∀ r, s.engineRoute e = some r → (s.stream r.id).st = 1 → u.bufTakes r ((parts.map Record.size).sum) = true) →
      ∃ v : State, exec (.captureCopyDone t e) s = .next (v.finish u) ∧ (v.engine e).copies = rest
        ∧ ((s.engineRoute e).isSome = true → (v.engine e).ringStopped = false)
        ∧ (∀ j, j ≠ e → v.engine j = s.engine j) ∧ v.sys = s.sys ∧ v.time = u.time ∧ v.hive.mem = s.hive.mem) ∧
    ((s.engine e).seg = true → (s.engine e).coll = none → (s.engine e).segEnd + subUs 1 ≤ u.sub →
      ∃ v : State, exec (.segmentRearm t e) s = .next (v.finish u) ∧ v.engine e = { s.engine e with segReady := true }
        ∧ (∀ j, j ≠ e → v.engine j = s.engine j) ∧ v.regs = s.regs ∧ v.streams = s.streams ∧ v.hive = s.hive) ∧
    ((s.engine e).seg = true → (s.engine e).coll = none →
      (s.engine e).segEnd + subUs (engSegQuiet (s.engineRec e) * 1000) + u.engHorizon (fun k => (s.tunit k).horizon) e ≤ u.sub →
      ∃ v : State, exec (.segQuietDecision t e) s = .next (v.finish u)
        ∧ ((∀ x ∈ (s.engine e).segFires, x < (s.engine e).segEnd
              ∨ (s.engine e).segEnd + subUs (engSegQuiet (s.engineRec e) * 1000) ≤ x) →
            v.engine e = { s.engine e with seg := false, segReady := false, segNum := 0, segFires := [] })
        ∧ ((∃ x ∈ (s.engine e).segFires, (s.engine e).segEnd ≤ x
              ∧ x < (s.engine e).segEnd + subUs (engSegQuiet (s.engineRec e) * 1000)) → v.engine e = s.engine e)
        ∧ (∀ j, j ≠ e → v.engine j = s.engine j) ∧ v.regs = s.regs ∧ v.streams = s.streams ∧ v.hive = s.hive)

/-- `ARM` and `FIRE` (R343, R356, R358): an `ARM` of engines that are idle arms them now, or at its apply time, or as the master with `SWARM`
sends an arm with the next sequence number; a `FIRE` is answered with its stamp, offered to the units named, and taken by an armed engine.
Where the rules leave it open it says the model's choice: log entries 56, 88 and 160. -/
def Obligations.ArmFireComplete : Prop :=
  ∀ (s u : State) (t : Nat) (p : Packet), u = s.elapse t → s.acquiring = true →
    (Admits u (p.withOp 0x32) → p.payload.length = 4 → p.pflag 2 = false → p.pflag 1 = false →
      ∃ w : State, exec (.arm t p) s = .next ((w.complete (p.withOp 0x32) stOk []).finish u)
        ∧ (∀ e, e < 8 → bit (byteAt p.payload 0) e = true → engOn (s.engineRec e) = true → (s.engine e).armed = false →
            (s.engine e).coll = none → (∀ a ∈ (s.engine e).arms, u.sub < a.time) → (w.engine e).armed = true ∧ (w.engine e).armAt = u.sub ∧ (w.engine e).maskStopped = false)
        ∧ (∀ e, bit (byteAt p.payload 0) e = false ∨ engOn (s.engineRec e) = false → w.engine e = s.engine e)
        ∧ w.trig.units = s.trig.units ∧ w.sys = s.sys ∧ w.streams = s.streams ∧ w.hive = s.hive) ∧
    (Admits u (p.withOp 0x32) → p.payload.length = 16 → p.pflag 2 = true → p.pflag 1 = false →
      u.sub < subOfBytes (slice p.payload 4 12) →
      ∃ w : State, exec (.arm t p) s = .next ((w.complete (p.withOp 0x32) stOk []).finish u)
        ∧ (∀ e, e < 8 → bit (byteAt p.payload 0) e = true → engOn (s.engineRec e) = true → (∀ a ∈ (s.engine e).arms, u.sub < a.time) →
            w.engine e = { s.engine e with
              arms := insertArm { time := subOfBytes (slice p.payload 4 12), source := .host } (s.engine e).arms })
        ∧ (∀ e, bit (byteAt p.payload 0) e = false ∨ engOn (s.engineRec e) = false → w.engine e = s.engine e)
        ∧ w.trig.units = s.trig.units ∧ w.sys = s.sys ∧ w.streams = s.streams ∧ w.hive = s.hive) ∧
    (Admits u (p.withOp 0x32) → p.payload.length = 4 → p.pflag 2 = false → p.pflag 1 = true → s.swarmMaster = true →
      ∃ w : State, exec (.arm t p) s
          = .next ((w.complete (p.withOp 0x32) stOk (toLE 2 ((s.trig.swarmSeq + 1) % 65536))).finish u)
        ∧ w.trig.swarmSeq = (s.trig.swarmSeq + 1) % 65536
        ∧ (s.swarmEn = true → w.trig.swarmArm = some (u.sub, byteAt p.payload 0) ∧ w.trig.maskFixed = false)
        ∧ w.trig.units = s.trig.units ∧ w.sys = s.sys ∧ w.streams = s.streams ∧ w.hive.mem = s.hive.mem) ∧
    (Admits u (p.withOp 0x33) → p.payload.length = 4 →
      ∃ w : State, exec (.fire t p) s = .next ((w.complete (p.withOp 0x33) stOk (toLE 6 u.stamp.toNat)).finish u)
        ∧ (∀ k, k < 16 → (w.tunit k).queue =
            (if bit (leAt p.payload 0 2) k && unitOn (s.unitRec k) && unitHas (s.unitRec k) 0x1021 then
              insertEvent { t := u.sub, src := 0x1021 } (s.tunit k).queue else (s.tunit k).queue))
        ∧ (∀ e, p.pflag 1 = false → bit (byteAt p.payload 2) e = false → w.engine e = s.engine e)
        ∧ (∀ e, e < 8 → p.pflag 1 = false → bit (byteAt p.payload 2) e = true → engOn (s.engineRec e) = true →
            (s.engine e).maskStopped = false → (s.engine e).ringStopped = false → (s.engine e).coll = none →
            (s.engine e).seg = false → (s.engine e).armedFor u.sub = true →
            u.freshBefore e u.sub = true →
            ∃ c, (w.engine e).coll = some c ∧ c.fire = u.sub ∧ c.kind = 1)
        ∧ w.sys = s.sys ∧ w.streams = s.streams ∧ w.hive.mem = s.hive.mem)

/-- The swarm (R356 to R358, R435): an arm that is new goes on to the egress arbiters of the other side's lanes and, where the hub takes part, is in force and answered both ways; an answer
that is new goes on, and in time counts in the armed mask, which is fixed 1 ms after the arm time; a fire that is new goes on, is
counted, becomes an event of its own and is taken by an engine that is armed for it.
Where the rules leave it open it says the model's choice: log entries 88 and 160. -/
def Obligations.SwarmComplete : Prop :=
  ∀ (s u : State) (t lane : Nat) (m : List Byte), u = s.elapse t → s.sys.mode ≠ .hold →
    ((s.exchPort lane).isSome = true → s.laneActive lane = true → crcGood m = true →
      (u.wasSeen 0 (byteAt m 1) (leAt m 2 2) = false →
        ∃ v : State, exec (.swarmArm t lane m) s = .next (v.finish u)
          ∧ v.wasSeen 0 (byteAt m 1) (leAt m 2 2) = true
          ∧ (s.swarmEn = true → v.trig.swarmArm = some (subOfFull (leAt m 4 12), byteAt m 16) ∧ v.trig.swarmSeq = leAt m 2 2
              ∧ v.trig.maskFixed = false
              ∧ (∀ l, 24 ≤ l → l < 28 → s.laneActive l = true → s.carries l = true →
                  v.egressAsks l 1 (message 0x31 (toLE 2 (leAt m 2 2) ++ toLE 1 s.hubId ++ toLE 1 (bnat s.sys.pairId)
                    ++ toLE 1 (u.armAnswer (subOfFull (leAt m 4 12)) (byteAt m 16)))) = true))
          ∧ (∀ l ∈ if lane < 26 then [26, 27] else [24, 25], s.laneActive l = true → s.carries l = true → v.egressAsks l 1 m = true)
          ∧ (s.swarmEn = false → v.trig = s.trig ∧ ∀ l ∈ if lane < 26 then [24, 25] else [26, 27], v.egressArb l = s.egressArb l)
          ∧ v.trig.units = s.trig.units ∧ v.sys = s.sys ∧ v.streams = s.streams ∧ v.hive.mem = s.hive.mem) ∧
      (u.wasSeen 1 (leAt m 1 2) (byteAt m 3) = false → s.swarmEn = true → leAt m 1 2 = s.trig.swarmSeq →
        s.trig.maskFixed = false → byteAt m 3 ∉ s.trig.answered →
        (∃ a set, s.trig.swarmArm = some (a, set) ∧ u.sub ≤ a + subUs 1000) →
        ∃ v : State, exec (.armResult t lane m) s = .next (v.finish u)
          ∧ v.trig = { s.trig with
              answered := byteAt m 3 :: s.trig.answered
              armedMask := if byteAt m 5 = 0 then s.trig.armedMask ||| 2 ^ (byteAt m 3 % 64) else s.trig.armedMask }
          ∧ (∀ l ∈ if lane < 26 then [26, 27] else [24, 25], s.laneActive l = true → s.carries l = true → v.egressAsks l 1 m = true)
          ∧ (∀ l ∈ if lane < 26 then [24, 25] else [26, 27], v.egressArb l = s.egressArb l)
          ∧ v.sys = s.sys ∧ (s.egressIdle = true → v.regs = s.regs ∧ v.wire = []) ∧ v.hive.mem = s.hive.mem) ∧
      (u.wasSeen 2 (byteAt m 1) (leAt m 2 2) = false → s.isStandby = false →
        ∃ v : State, exec (.swarmFire t lane m) s = .next (v.finish u)
          ∧ v.wasSeen 2 (byteAt m 1) (leAt m 2 2) = true
          ∧ v.reg 0x0007_0018 = (if s.reg 0x0007_0018 = 0xFFFF_FFFF then 0xFFFF_FFFF else s.reg 0x0007_0018 + 1)
          ∧ (∀ l ∈ if lane < 26 then [26, 27] else [24, 25], s.laneActive l = true → s.carries l = true → v.egressAsks l 1 m = true)
          ∧ (∀ l ∈ if lane < 26 then [24, 25] else [26, 27], v.egressArb l = s.egressArb l)
          ∧ (s.swarmEn = true → v.trig.transit = s.trig.transit ++ [{ t := u.extend (leAt m 4 6), src := 0x1020 }])
          ∧ (∀ e, bit (byteAt m 10) e = false ∨ engOn (s.engineRec e) = false ∨ engFlag (s.engineRec e) 3 = false →
              v.engine e = s.engine e)
          ∧ (∀ e g, e < 8 → s.swarmEn = true → bit (byteAt m 10) e = true → engOn (s.engineRec e) = true →
              engFlag (s.engineRec e) 3 = true → g = s.engine e → g.maskStopped = false → g.ringStopped = false → g.coll = none →
              g.seg = false → g.armedFor (u.extend (leAt m 4 6)) = true →
              u.freshBefore e (u.extend (leAt m 4 6)) = true →
              ∃ c, (v.engine e).coll = some c ∧ c.fire = u.extend (leAt m 4 6) ∧ c.kind = 2 ∧ c.num = byteAt m 1)
          ∧ (s.swarmEn = false → v.trig = s.trig)
          ∧ v.trig.units = s.trig.units ∧ v.sys = s.sys ∧ v.streams = s.streams ∧ v.hive.mem = s.hive.mem)) ∧
    (∀ a set, s.trig.swarmArm = some (a, set) → s.trig.maskFixed = false → a + subUs 1000 ≤ u.sub →
      ∃ v : State, exec (.armedMaskFixed t) s = .next (v.finish u) ∧ v.trig = { s.trig with maskFixed := true }
        ∧ v.sys = s.sys ∧ v.streams = s.streams ∧ v.hive = s.hive)

/-- Hive (R369 to R371, R373, R376, R381, R383, R387, R392, R394, R441): a scrub read that is due moves its bank's pass on, corrects what it
can and asks for its beat, and never changes data; a commit of arbiter or egress settings marks every arbiter; an injection is armed in TEST;
`RDB` answers the bytes stored, or `CRC_BAD` with zeros for poisoned words, and `WRB` stores exactly its payload; a message alone at its lane
goes out, and of two that come together the one of class S goes first.
Where the rules leave it open it says the model's choice: log entries 9, 18, 122, 165, 166 and 167. -/
def Obligations.HiveComplete : Prop :=
  ∀ (s u : State) (t : Nat) (p : Packet), u = s.elapse t → s.sys.mode ≠ .hold →
    (∀ (bank : Nat) (found : BeatFinding) (k : Scrub), k = Tab.get (fun _ => {}) s.hive.scrubs bank →
      (s.hive.initDone = false ∨ u.time.cyc < k.dueAt (s.scrubCycles bank) →
        exec (.scrubRead t bank found) s = .next (u.finish u)) ∧
      (s.hive.initDone = true → k.dueAt (s.scrubCycles bank) ≤ u.time.cyc →
        ∃ v : State, exec (.scrubRead t bank found) s = .next (v.finish u)
          ∧ (Tab.get (fun _ => ({} : Scrub)) v.hive.scrubs bank).beat = (if k.beat + 1 < 131072 then k.beat + 1 else 0)
          ∧ (∀ b, b ≠ bank → Tab.get (fun _ => ({} : Scrub)) v.hive.scrubs b = Tab.get (fun _ => {}) s.hive.scrubs b)
          ∧ (found.lower = .single → Tab.get (fun _ => 0) s.hive.errs (addrOfBeat bank k.beat) ≠ 2 →
              Tab.get (fun _ => 0) v.hive.errs (addrOfBeat bank k.beat) = 0)
          ∧ (found.upper = .single → Tab.get (fun _ => 0) s.hive.errs (addrOfBeat bank k.beat + 8) ≠ 2 →
              Tab.get (fun _ => 0) v.hive.errs (addrOfBeat bank k.beat + 8) = 0)
          ∧ (found.lower = .double ∨ found.upper = .double → v.hive.ue = true)
          ∧ (∃ x ∈ (v.bank bank).wants, x.req = 7
              ∧ (found = {} → Tab.get (fun _ => 0) s.hive.errs (addrOfBeat bank k.beat) ≠ 1 →
                  Tab.get (fun _ => 0) s.hive.errs (addrOfBeat bank k.beat + 8) ≠ 1 → x.beats = 1)
              ∧ (found.lower = .single → Tab.get (fun _ => 0) s.hive.errs (addrOfBeat bank k.beat) ≠ 2 → x.beats = 2))
          ∧ v.hive.mem = s.hive.mem ∧ v.sys = s.sys ∧ v.time = u.time ∧ v.streams = s.streams)) ∧
    (Admits u (p.writing 0x0008_000C 1) →
      (∀ b, b < 32 → (u.runBanks.bank b).pend = false) → s.regN 0x0008_0010 % 65536 ≠ 0 →
      scrubStarves ((s.writtenArb false).limits.getD 7 0) (s.regN 0x0008_002C % 4096) = false →
      ∃ w : State, exec (.hiveArbCommitArb t p) s = .next ((w.complete (p.writing 0x0008_000C 1) stOk []).finish u)
        ∧ (∀ b, b < 32 → w.bank b
            = { u.runBanks.bank b with pend := true })
        ∧ w.hive.arbSet = s.writtenArb false ∧ w.hive.egress = s.hive.egress ∧ w.hive.mem = s.hive.mem
        ∧ w.sys = s.sys ∧ w.streams = s.streams) ∧
    (Admits u (p.writing 0x0008_000C 2) →
      (∀ b, b < 4 → ((u.runLanes u.time.cyc).egressArb (24 + b)).pend = false) → s.regN 0x0008_0010 % 65536 ≠ 0 →
      ∃ w : State, exec (.hiveArbCommitEgr t p) s = .next ((w.complete (p.writing 0x0008_000C 2) stOk []).finish u)
        ∧ (∀ b, b < 4 → w.egressArb (24 + b) = { (u.runLanes u.time.cyc).egressArb (24 + b) with pend := true })
        ∧ w.hive.egrSet = s.writtenArb true
        ∧ (s.egressIdle = true → w.hive.banks = s.hive.banks) ∧ w.hive.mem = s.hive.mem ∧ w.sys = s.sys ∧ w.streams = s.streams) ∧
    (∀ v0 : Word, Admits u (p.asWrite 0x0008_0064) → (p.asWrite 0x0008_0064).words = some [v0] → s.sys.mode = .test →
      bits v0.toNat 26 2 ≠ 3 →
      ∃ w : State, exec (.hiveEccInjWrite t p) s = .next ((w.complete (p.asWrite 0x0008_0064) stOk []).finish u)
        ∧ w.hive.inject = (if bits v0.toNat 26 2 = 0 then none else some (bits v0.toNat 3 23 * 8, bits v0.toNat 26 2))
        ∧ w.reg 0x0008_0064 = (if bits v0.toNat 26 2 = 0 then v0 &&& 0x0FFF_FFF8 else v0 &&& 0x0FFF_FFF8 ||| 0x1000_0000)
        ∧ w.hive.mem = s.hive.mem ∧ w.sys = s.sys ∧ w.streams = s.streams) ∧
    (∀ a n, Admits u (p.withOp 0x10) → s.hive.initDone = true → p.payload.length = 4 → a = p.addr.toNat → n = leAt p.payload 0 4 →
      a % 16 = 0 → n % 16 = 0 → 16 ≤ n → n ≤ 4096 →
      ((inStaging a n = true ∨ ∃ r, s.regionOf a n = some r ∧ bit r.rflags 0 = true ∧ ∀ i, i < n → s.laidOut r (a + i) = true) →
        (∀ x ∈ wordsIn a n, Tab.get (fun _ => 0) s.hive.errs x ≠ 2) →
        ∃ w : State, exec (.rdb t p) s = .next ((w.complete (p.withOp 0x10) stOk (s.hiveGet a n)).finish u)
          ∧ w.hive.mem = s.hive.mem ∧ w.sys = s.sys ∧ w.streams = s.streams) ∧
      ((inStaging a n = true ∨ ∃ r, s.regionOf a n = some r ∧ bit r.rflags 0 = true ∧ ∀ i, i < n → s.laidOut r (a + i) = true) →
        (∃ x ∈ wordsIn a n, Tab.get (fun _ => 0) s.hive.errs x = 2) →
        ∃ w : State, exec (.rdb t p) s = .next ((w.complete (p.withOp 0x10) stCrcBad ((List.range n).map fun i =>
              if Tab.get (fun _ => 0) s.hive.errs ((a + i) / 8 * 8) = 2 then 0 else s.hiveByte (a + i))).finish u)
          ∧ w.hive.mem = s.hive.mem ∧ w.sys = s.sys ∧ w.streams = s.streams)) ∧
    (∀ a r, Admits u (p.withOp 0x11) → s.hive.initDone = true → a = p.addr.toNat → a % 16 = 0 → p.payload.length % 16 = 0 →
      p.payload ≠ [] → s.regionOf a p.payload.length = some r → bit r.rflags 1 = true → inStaging a p.payload.length = false →
      ∃ w : State, exec (.wrb t p) s = .next ((w.complete (p.withOp 0x11) stOk []).finish u)
        ∧ (∀ i, i < p.payload.length → w.hiveByte (a + i) = p.payload.getD i 0)
        ∧ (∀ x, x < a ∨ a + p.payload.length ≤ x → w.hiveByte x = s.hiveByte x)
        ∧ w.sys = s.sys ∧ w.streams = s.streams) ∧
    (∀ (l : Nat) (x : Xfer), l ∈ [24, 25, 26, 27] → s.sameCycle = [] → s.carries l = true →
      (∀ j ∈ [24, 25, 26, 27], j ≠ l → (s.egressArb j).wants = []) → (s.egressArb l).owner = none → x.since = s.time.cyc →
      ((s.egressArb l).wants = [x] → x.req < 4 → s.flushLanes.wire = s.wire ++ [{ lane := l, bytes := x.msg }]) ∧
      (∀ y : Xfer, (s.egressArb l).wants = [y, x] → y.since = s.time.cyc → x.req < 3 → 3 ≤ y.req → y.req < 8 →
        (s.egressArb l).pend = false → (s.egressArb l).forced = [] →
        s.flushLanes.wire = s.wire ++ [{ lane := l, bytes := x.msg }] ∧ s.flushLanes.egressAsks l y.req y.msg = true))

/-- Sources of time (R20, R403, R405, R423, R443): a whole second is beaconed and the sums of a second start anew; an edge takes the offset of
its `TIME_TOD` and a missing one ends `PPS`; `TIME` notes a second, sets the `HOST` source or answers the time; the source set
by a host expires; a read of `TIME_NOW` holds the rest of it.
Where the rules leave it open it says the model's choice: log entries 11, 80 and 82. -/
def Obligations.SourcesComplete : Prop :=
  ∀ (s u : State) (t : Nat), u = s.elapse t → s.sys.mode ≠ .hold →
    (s.time.beacon < u.ns / 1_000_000_000 →
      ∃ v : State, exec (.secondBeacon t) s = .next (v.finish u) ∧ v.time.beacon = u.ns / 1_000_000_000
        ∧ v.time.now = u.time.now ∧ (∀ l, l < 24 → (v.pod l).errSec = 0) ∧ v.pair.crcErrs = 0 ∧ v.sys = s.sys
        ∧ v.streams = s.streams ∧ v.hive = s.hive) ∧
    (∀ resid, ∃ v : State, exec (.ppsEdge t resid) s = .next (v.finish u) ∧ v.time.lastEdge = some (u.ps + resid)
        ∧ v.time.tods = [] ∧ v.time.missed = 0
        ∧ (∀ sec x, s.tflag 0 = true →
            (s.time.tods.filter fun (x : Nat × Nat) => decide ((x.2 + 100_000_000 : Int) * 1000 ≤ u.ps + resid)
              && decide (u.ps + resid ≤ (x.2 + 900_000_000 : Int) * 1000)).head? = some (sec, x) →
            v.time.ppsOfs = (sec * psPerS : Nat) + s.ppsDelay - (u.ps + resid))
        ∧ v.time.now = u.time.now ∧ v.sys = s.sys ∧ v.streams = s.streams ∧ v.hive = s.hive) ∧
    ((∀ e, s.time.lastEdge = some e → e + 2 * (psPerS : Int) + 1_000_000 ≤ u.ps) →
      ∃ v : State, exec (.ppsMissing t) s = .next (v.finish u) ∧ v.time.ppsQ = false ∧ v.time.ppsRun = 0
        ∧ v.time.now = u.time.now ∧ v.sys = s.sys ∧ v.streams = s.streams ∧ v.hive = s.hive) ∧
    (s.time.hostQ = true → s.time.source ≠ 2 → s.time.hostAt + 10 * cycPerS ≤ u.time.cyc →
      ∃ v : State, exec (.hostSourceExpiry t) s = .next (v.finish u) ∧ v.time.hostQ = false
        ∧ v.time.now = u.time.now ∧ v.sys = s.sys ∧ v.streams = s.streams ∧ v.hive = s.hive) ∧
    (∀ p : Packet,
      (Admits u (p.operating 0x38 2) → p.payload.length = 20 →
        ∃ w : State, exec (.timeTod t p) s = .next ((w.complete (p.operating 0x38 2) stOk []).finish u)
          ∧ w.time = { u.time with tods := (leAt p.payload 4 6, u.ns) :: s.time.tods } ∧ w.sys = s.sys ∧ w.regs = s.regs
          ∧ w.hive = s.hive) ∧
      (Admits u (p.operating 0x38 1) → p.payload.length = 20 → leAt p.payload 4 12 / 2 ^ 16 % 2 ^ 32 < 1_000_000_000 →
        1 ≤ leAt p.payload 16 4 → leAt p.payload 16 4 ≤ 1_000_000_000 →
        ∃ w : State, exec (.timeSet t p) s = .next ((w.complete (p.operating 0x38 1) stOk []).finish u)
          ∧ w.time.hostT = ((ofFullTime (leAt p.payload 4 12) * 1000 / unitsPerNs : Nat) : Int)
          ∧ w.time.hostU = leAt p.payload 16 4 ∧ w.time.hostAt = u.time.cyc ∧ w.time.hostQ = true
          ∧ w.time.now = u.time.now ∧ w.sys = s.sys ∧ w.hive = s.hive) ∧
      (Admits u (p.operating 0x38 0) → p.payload.length = 4 →
        ∃ w : State, exec (.timeRead t p) s = .next ((w.complete (p.operating 0x38 0) stOk u.timeReadBody).finish u)
          ∧ w.time = u.time ∧ w.sys = s.sys ∧ w.regs = s.regs ∧ w.hive = s.hive) ∧
      (Admits u (p.reading 0x0002_0004) →
        ∃ w : State, exec (.timeNowLatchRead t p) s = .next ((w.complete (p.reading 0x0002_0004) stOk
            (bytesOf [BitVec.ofNat 32 (fullTime u.time.now / 2 ^ 48 % 2 ^ 32)])).finish u)
          ∧ w.time = { u.time with latch := fullTime u.time.now } ∧ w.sys = s.sys ∧ w.regs = s.regs ∧ w.hive = s.hive))

/-- Exchanges on trunk and pair lanes (R407, R408): a `TSYNC` leaves with the port's number and its departure, is answered by `TDREQ`, that by
`TDRESP`, and the last completes the exchange with the delay; an exchange fails without it, with a message that bears another number, and with one that
comes 500 µs after the `TSYNC` or later.
Where the rules leave it open it says the model's choice: log entries 12 and 83. -/
def Obligations.ExchangesComplete : Prop :=
  ∀ (s u : State) (t lane i : Nat) (m : List Byte) (arrival : Int), u = s.elapse t → s.sys.mode ≠ .hold →
    s.exchPort lane = some i →
    (s.exchUp i = false → s.laneActive lane = true → s.time.state ≠ 4 → (s.tport i).syncMs ≠ some u.msNow →
      ∃ (v : State) (e : Exchange), exec (.tsyncSend t lane) s = .next (v.finish u) ∧ (v.tport i).exch = some e
        ∧ e.seq = (s.tport i).seq ∧ e.startAt = u.time.cyc ∧ (v.tport i).seq = ((s.tport i).seq + 1) % 65536
        ∧ (v.tport i).syncMs = some u.msNow
        ∧ (s.carries lane = true → v.goesOut lane 0 (message 0x20 (toLE 2 (s.tport i).seq ++ fullOfSub e.t1)) = true)
        ∧ (∀ j, j ≠ i → v.tport j = s.tport j) ∧ v.sys = s.sys ∧ (s.egressIdle = true → v.regs = s.regs) ∧ v.hive.mem = s.hive.mem) ∧
    (s.exchUp i = true → s.laneActive lane = true → crcGood m = true → s.time.state ≠ 4 →
      ∃ (v : State) (e : Exchange), exec (.tsync t lane m arrival) s = .next (v.finish u) ∧ (v.tport i).exch = some e
        ∧ e.seq = leAt m 1 2 ∧ e.t1 = subOfFull (leAt m 3 12) ∧ e.t2 = u.sub + subOfPs arrival ∧ e.startAt = u.time.cyc
        ∧ (s.carries lane = true → v.goesOut lane 0 (message 0x21 (toLE 2 (leAt m 1 2) ++ fullOfSub e.t3)) = true)
        ∧ (∀ j, j ≠ i → v.tport j = s.tport j) ∧ v.sys = s.sys ∧ v.hive.mem = s.hive.mem) ∧
    (∀ e, s.exchUp i = false → s.laneActive lane = true → crcGood m = true → (s.tport i).exch = some e →
      e.seq ≠ leAt m 1 2 ∨ e.startAt + 500 * cycPerUs < u.time.cyc →
      ∃ v : State, exec (.tdreq t lane m arrival) s = .next (v.finish u) ∧ (v.tport i).exch = none ∧ (v.tport i).exchOk = false
        ∧ (v.tport i).okRun = 0 ∧ (v.tport i).failRun = (s.tport i).failRun + 1
        ∧ (∀ j, j ≠ i → v.tport j = s.tport j) ∧ v.sys = s.sys ∧ v.hive = s.hive) ∧
    (∀ e, s.exchUp i = true → s.laneActive lane = true → crcGood m = true → (s.tport i).exch = some e →
      e.seq ≠ leAt m 1 2 ∨ e.startAt + 500 * cycPerUs < u.time.cyc →
      ∃ v : State, exec (.tdresp t lane m) s = .next (v.finish u) ∧ (v.tport i).exch = none ∧ (v.tport i).exchOk = false
        ∧ (v.tport i).okRun = 0 ∧ (v.tport i).failRun = (s.tport i).failRun + 1
        ∧ (∀ j, j ≠ i → v.tport j = s.tport j) ∧ v.sys = s.sys ∧ v.hive = s.hive) ∧
    (∀ e, s.exchUp i = false → s.laneActive lane = true → crcGood m = true → (s.tport i).exch = some e → e.seq = leAt m 1 2 →
      u.time.cyc ≤ e.startAt + 500 * cycPerUs →
      ∃ v : State, exec (.tdreq t lane m arrival) s = .next (v.finish u) ∧ (v.tport i).exch = none ∧ (v.tport i).exchOk = true
        ∧ (s.carries lane = true →
            v.goesOut lane 0 (message 0x22 (toLE 2 (leAt m 1 2) ++ fullOfSub (u.sub + subOfPs arrival))) = true)
        ∧ (∀ j, j ≠ i → v.tport j = s.tport j) ∧ v.sys = s.sys ∧ (s.egressIdle = true → v.regs = s.regs) ∧ v.hive.mem = s.hive.mem) ∧
    (∀ e rtt, s.exchUp i = true → s.laneActive lane = true → crcGood m = true → (s.tport i).exch = some e → e.seq = leAt m 1 2 →
      u.time.cyc ≤ e.startAt + 500 * cycPerUs → rtt = psOfSub ((e.t2 - e.t1) + (subOfFull (leAt m 3 12) - e.t3)) →
      ∃ v : State, exec (.tdresp t lane m) s = .next (v.finish u) ∧ (v.tport i).exch = none ∧ (v.tport i).exchOk = true
        ∧ (v.tport i).okRun = (s.tport i).okRun + 1 ∧ (v.tport i).failRun = 0
        ∧ (v.tport i).rtts = (rtt :: (s.tport i).rtts).take 16
        ∧ (v.tport i).delay = roundHalfEven (rtt * (2 ^ 24 + (s.asym i).1)) (2 ^ 25) + (s.asym i).2
        ∧ (∀ j, j ≠ i → v.tport j = s.tport j) ∧ v.sys = s.sys ∧ v.time.now = u.time.now ∧ v.hive = s.hive) ∧
    (∀ e, (s.tport i).exch = some e → e.startAt + 500 * cycPerUs ≤ u.time.cyc →
      ∃ v : State, exec (.exchangeTimeout t lane) s = .next (v.finish u) ∧ (v.tport i).exch = none
        ∧ (v.tport i).exchOk = false ∧ (v.tport i).okRun = 0 ∧ (v.tport i).failRun = (s.tport i).failRun + 1
        ∧ (∀ j, j ≠ i → v.tport j = s.tport j) ∧ v.sys = s.sys ∧ v.time.now = u.time.now ∧ v.hive = s.hive)

/-- Neighbours (R430, R431, R434): an announcement is sent on every trunk lane in service, and noted as it comes, one of another role leaving the last of role 0 or 1
in force for its 3 ms; the neighbour followed is picked
anew; a trunk lane's capabilities are answered, and the lane is in service once both ends have accepted.
Where the rules leave it open it says the model's choice: log entry 83. -/
def Obligations.NeighboursComplete : Prop :=
  ∀ (s u : State) (t lane i : Nat) (m : List Byte), u = s.elapse t → s.sys.mode ≠ .hold → 24 ≤ lane → lane < 28 → i = lane - 24 →
    (s.time.announceMs ≠ some u.msNow → ∃ v : State, exec (.announceSend t) s = .next (v.finish u)
        ∧ (∀ l, 24 ≤ l → l < 28 → s.laneActive l = true → s.carries l = true → v.egressAsks l 0 (message 0x23
            (toLE 1 s.hubId ++ toLE 1 (bnat s.sys.pairId) ++ toLE 1 s.announcedRole ++ toLE 1 s.tqual
              ++ toLE 4 u.errEst ++ toLE 2 s.time.stepSeq ++ toLE 8 (ofSigned 64 s.time.lastStep))) = true)
        ∧ v.time = { u.time with announceMs := some u.msNow } ∧ v.sys = s.sys ∧ (s.egressIdle = true → v.regs = s.regs ∧ v.wire = []) ∧ v.hive.mem = s.hive.mem) ∧
    (s.laneActive lane = true → crcGood m = true →
      ∃ v : State, exec (.announce t lane m) s = .next (v.finish u) ∧ (v.tport i).farHub = byteAt m 1 % 64
        ∧ (v.tport i).farPair = byteAt m 2 % 2 ∧ (v.tport i).farTqual = byteAt m 4 % 8 ∧ (v.tport i).farTerr = leAt m 5 4
        ∧ (v.tport i).activeAt = (if byteAt m 3 ≤ 1 then some u.time.cyc else (s.tport i).activeAt)
        ∧ (v.tport i).farStepSeq = some (leAt m 9 2) ∧ (v.tport i).farStep = sleAt m 11 8
        ∧ v.time.now = u.time.now ∧ v.sys = s.sys ∧ v.hive = s.hive) ∧
    (∀ down, ∃ v : State, exec (.activeNeighbourExpiry t down) s = .next (v.finish u)
        ∧ v.time.upActive = u.pickNeighbour false ∧ v.time.downActive = u.pickNeighbour true
        ∧ v.time.now = u.time.now ∧ v.sys = s.sys ∧ v.hive = s.hive) ∧
    ((s.lane lane).st = 5 → crcGood m = true →
      ∃ v : State, exec (.tcaps t lane m) s = .next (v.finish u)
        ∧ (s.carries lane = true →
            v.egressAsks lane 0 (message 0x25 (toLE 1 (s.tcapsResult lane m))) = true)
        ∧ (s.tcapsResult lane m = 0 → (v.tport i).ackSent = true
            ∧ (v.lane lane).st = (if (s.tport i).ackGot then 6 else 5))
        ∧ (s.tcapsResult lane m ≠ 0 → (v.lane lane).lastCode = 8 ∧ (v.lane lane).st ≠ 5)
        ∧ (∀ j, j ≠ lane → v.lane j = s.lane j) ∧ v.sys = s.sys ∧ v.hive.mem = s.hive.mem) ∧
    ((s.lane lane).st = 5 → crcGood m = true →
      ∃ v : State, exec (.tcapsAck t lane m) s = .next (v.finish u) ∧ (v.tport i).capsResult = byteAt m 1 % 8
        ∧ (byteAt m 1 = 0 → (v.tport i).ackGot = true ∧ (v.lane lane).st = (if (s.tport i).ackSent then 6 else 5))
        ∧ (byteAt m 1 ≠ 0 → (v.lane lane).lastCode = 8 ∧ (v.lane lane).st ≠ 5)
        ∧ (∀ j, j ≠ lane → v.lane j = s.lane j) ∧ v.sys = s.sys ∧ v.hive.mem = s.hive.mem)

/-- Switches and steps of time (R411 to R415, R420 to R422): a source that has stayed qualified is taken, by a slew or refused as a step; a slew
that is complete ends; an accepted step is scheduled for the first tick at least 1 ms ahead and moves time by its offset; the
hold limit shows by itself.
Where the rules leave it open it says the model's choice: log entries 79, 81, 97, 129 and 139. -/
def Obligations.StepsComplete : Prop :=
  ∀ (s u : State) (t : Nat), u = s.elapse t → s.sys.mode ≠ .hold →
    (∀ k, s.time.state ≠ 2 → ([0, 1, 2].find? fun k => u.mayTake k && u.requalAt k ≤ u.time.cyc) = some k →
      ∃ v : State, exec (.requalExpiry t) s = .next (v.finish u)
        ∧ v.reg 0x0002_004C = (if s.reg 0x0002_004C = 0xFFFF_FFFF then 0xFFFF_FFFF else s.reg 0x0002_004C + 1)
        ∧ ((u.offsetOf k).natAbs ≤ s.stepLimit * 1000 → v.time.state = 2 ∧ v.time.source = k
            ∧ v.time.slew.map (·.1) = some (u.offsetOf k))
        ∧ (s.stepLimit * 1000 < (u.offsetOf k).natAbs → v.time.state = 3 ∧ v.time.source = 3
            ∧ v.time.stepPend = some (k, roundHalfEven (u.offsetOf k) 1000))
        ∧ v.time.now = u.time.now ∧ v.sys = s.sys ∧ v.streams = s.streams ∧ v.hive = s.hive) ∧
    (∀ d stop, s.time.slew = some (d, stop) → s.time.state = 2 → stop ≤ u.time.cyc →
      ∃ v : State, exec (.slewEnd t) s = .next (v.finish u)
        ∧ ((∀ k, k < s.time.source → s.qualified k = false) → v.time.state = 1 ∧ v.time.source = s.time.source
            ∧ v.time.slew = none ∧ v.time.y = s.time.yLocked)
        ∧ v.time.now = u.time.now ∧ v.sys = s.sys ∧ v.streams = s.streams ∧ v.hive = s.hive) ∧
    (∀ (p : Packet) src d, Admits u (p.guarding 0x0002_0020 1) → p.delta = none → s.time.stepAt = none → s.time.stepPend = some (src, d) →
      ∃ w : State, exec (.timeAccept t p) s = .next ((w.complete (p.guarding 0x0002_0020 1) stOk []).finish u)
        ∧ w.time = { u.time with stepAt := some (u.stepTick, src, none) } ∧ w.sys = s.sys ∧ w.streams = s.streams
        ∧ w.hive = s.hive) ∧
    (∀ p : Packet, Admits u (p.guarding 0x0002_0020 1) → p.delta = none → s.time.stepPend = none →
      exec (.timeAccept t p) s = .next ((((u.admitted (p.guarding 0x0002_0020 1)).guardFail .host).answer (p.guarding 0x0002_0020 1)
        (Reply.of stRefused 0x02)).finish u)) ∧
    (∀ tick src fixed d, s.time.stepAt = some (tick, src, fixed) → tickTime tick ≤ u.time.now →
      d = fixed.getD (u.offsetOf src) →
      ∃ v : State, exec (.timeStep t) s = .next (v.finish u)
        ∧ v.time.now = (((u.time.now : Int) + d * unitsPerNs / 1000).toNat)
        ∧ v.time.stepSeq = (s.time.stepSeq + 1) % 65536 ∧ v.time.lastStep = roundHalfEven d 1000
        ∧ v.cfg.epoch = none ∧ v.sys = s.sys ∧ SameBelowPools s v) ∧
    exec (.holdLimitCrossed t) s = .next (u.finish u)

/-- Timed actions and `PPS_OUT` (R424 to R428, R443): an entry that is due has run, after those of lower number that are due, and is a trigger
source, and has started the grids, armed the engines or driven the pulse it names; an entry is written with what its
checks let pass, read back, and cancelled; `PPS_OUT` rises and falls.
Where the rules leave it open it says the model's choice: log entries 86 and 138. -/
def Obligations.TimedActionsComplete : Prop :=
  ∀ (s u : State) (t : Nat), u = s.elapse t → s.sys.mode ≠ .hold →
    (∀ e, u.actDue e = true → (∀ j, j < e → u.actDue j = false ∨ (s.act j).action ≠ 6) →
      ∃ v : State, exec (.timedActionRun t e) s = .next (v.finish u)
        ∧ ∀ j, j ≤ e → u.actDue j = true → (v.act j).ran = true ∧ (v.act j).runTime = u.ns) ∧
    (∀ e, (s.act e).pending = true → s.sys.mode ≠ .safe → (∀ j, j < e → u.actDue j = false) →
      (match (s.act e).lateAt with
        | some n => tickTime n ≤ u.time.now
        | none => (s.act e).time * unitsPerNs ≤ u.time.now) →
      ∃ v : State, exec (.timedActionRun t e) s = .next (v.finish u) ∧ (v.act e).ran = true ∧ (v.act e).runTime = u.ns
        ∧ (v.act e).ranLate = (s.act e).lateAt.isSome ∧ (v.act e).pending = decide ((s.act e).period ≠ 0)
        ∧ v.trig.transit.getLast? = some { t := if (s.act e).lateAt.isSome then u.sub else subNs (s.act e).time, src := 0x1040 + e }
        ∧ ((s.act e).action = 1 → ∀ k, k < s.localChs → bit (s.act e).arg k = true → (s.local' k).fe.inUse = true →
            (v.local' k).origin = some (s.act e).time)
        ∧ ((s.act e).action = 2 → s.cfg.gridOn = false → v.cfg.gridStart = some ((s.act e).time / 1_000_000_000))
        ∧ ((s.act e).action = 4 → ∀ j, j < 8 → bit (s.act e).arg j = true → engOn (s.engineRec j) = true →
            (s.engine j).coll = none → (s.engine j).maskStopped = false → (v.engine j).armed = true)
        ∧ ((s.act e).action = 5 → (s.act e).arg % 4 = 0 → v.time.ppsOut
            = some (max (u.time.cyc + (s.act e).arg / 65536 * cycPerUs) (s.time.ppsOut.getD 0)))
        ∧ ((s.act e).action = 5 → (s.act e).arg % 4 = 1 → v.trig.out0
            = some (max (u.time.cyc + (s.act e).arg / 65536 * cycPerUs) (s.trig.out0.getD 0)))
        ∧ ((s.act e).action = 5 → (s.act e).arg % 4 = 2 → v.trig.out1
            = some (max (u.time.cyc + (s.act e).arg / 65536 * cycPerUs) (s.trig.out1.getD 0)))
        ∧ ((s.act e).action ≠ 6 → v.sys = s.sys ∧ v.hive.mem = s.hive.mem) ∧ SameBelowPools s v) ∧
    (∀ (p : Packet) (e sec nsec c : Nat) (a : TaEntry), Admits u (p.writing 0x0002_0218 1) → e = s.regN 0x0002_0200 % 64 →
      sec = s.regN 0x0002_0204 + s.regN 0x0002_0208 % 65536 * 2 ^ 32 → nsec = s.regN 0x0002_020C → c = s.regN 0x0002_0210 →
      a = { time := sec * 1_000_000_000 + nsec, action := c % 16, arg := s.regN 0x0002_0214, en := bit c 4, runLate := bit c 5
            period := c / 65536 } →
      u.actAbsent a.action a.arg = none → u.actCheck a.action a.arg sec nsec = none → ¬ (a.en = true ∧ a.action = 5 ∧ a.arg % 4 = 2 ∧ s.tflag 5 = true) →
      a.en = false ∨ u.isLate a.time = false ∨ a.runLate = true →
      ∃ w : State, exec (.taWriteEntry t p) s = .next ((w.complete (p.writing 0x0002_0218 1) stOk []).finish u)
        ∧ w.act e = { a with pending := a.en, lateAt := if a.en && u.isLate a.time then some (u.tick + 1) else none }
        ∧ (∀ j, j ≠ e → w.act j = s.act j) ∧ w.time.now = u.time.now ∧ w.sys = s.sys ∧ w.hive = s.hive) ∧
    (∀ (p : Packet) (e : Nat), Admits u (p.writing 0x0002_0218 2) → e = s.regN 0x0002_0200 % 64 →
      ∃ w : State, exec (.taLoadEntry t p) s = .next ((w.complete (p.writing 0x0002_0218 2) stOk []).finish u)
        ∧ w.regN 0x0002_0204 = (s.act e).time / 1_000_000_000 % 2 ^ 32
        ∧ w.regN 0x0002_020C = (s.act e).time % 1_000_000_000
        ∧ w.regN 0x0002_0214 = (s.act e).arg % 2 ^ 32 ∧ w.time = { u.time with taLoaded := some e }
        ∧ w.sys = s.sys ∧ w.hive = s.hive) ∧
    (∀ (p : Packet) (e : Nat), Admits u (p.writing 0x0002_0218 3) → e = s.regN 0x0002_0200 % 64 →
      ∃ w : State, exec (.taCancelEntry t p) s = .next ((w.complete (p.writing 0x0002_0218 3) stOk []).finish u)
        ∧ w.act e = {} ∧ (∀ j, j ≠ e → w.act j = s.act j) ∧ w.time.now = u.time.now ∧ w.sys = s.sys ∧ w.hive = s.hive) ∧
    (s.tflag 4 = true ∨ s.tflag 5 = true → s.time.ppsMark < u.ppsSecond u.ns → s.tflag 6 = false ∨ u.suspectAt u.ns = false →
      ∃ v : State, exec (.ppsOutEdge t) s = .next (v.finish u) ∧ v.time.ppsMark = u.ppsSecond u.ns ∧ v.time.now = u.time.now
        ∧ v.time.ppsOut = (if s.tflag 4 = true then some (max (u.time.cyc + s.ppsW * cycPerMs) (s.time.ppsOut.getD 0)) else s.time.ppsOut)
        ∧ v.trig.out1 = (if s.tflag 5 = true then some (max (u.time.cyc + s.ppsW * 1000 * cycPerUs) (s.trig.out1.getD 0)) else s.trig.out1)
        ∧ v.trig.out0 = s.trig.out0 ∧ v.sys = s.sys ∧ v.regs = s.regs ∧ v.hive = s.hive) ∧
    (∀ c, s.time.ppsOut = some c → c ≤ u.time.cyc →
      exec (.ppsOutPulseEnd t) s = .next (({ u with time := { u.time with ppsOut := none } } : State).finish u))

/-- The relay (R438, R439): a fragment for another hub is passed on to the egress arbiters of the other side's lanes, or dropped and counted
where none is in service; one for this hub is put to its packet, a `NAK` starts the outbound FIFO
again from what is unreleased, and so does a second without an advance.
Where the rules leave it open it says the model's choice: log entry 84. -/
def Obligations.RelayComplete : Prop :=
  ∀ (s u : State) (t lane : Nat) (m : List Byte), u = s.elapse t → s.sys.mode ≠ .hold →
    (24 ≤ lane → lane < 28 → s.laneActive lane = true → crcGood m = true → s.fromNeighbour lane = true → s.isStandby = false →
      (byteAt m 1 ≠ s.hubId → s.dirUp (decide (lane < 26)) = true →
        (∀ l, s.laneActive l = true → (u.runEgress u.time.cyc l).relayFill l + m.length ≤ s.regionSize 0x07 (l - 24)) →
        ∃ v : State, exec (.relay t lane m) s = .next (v.finish u)
          ∧ (∀ l ∈ if lane < 26 then [26, 27] else [24, 25], s.laneActive l = true → s.carries l = true → v.egressAsks l 5 m = true)
          ∧ (∀ l ∈ if lane < 26 then [24, 25] else [26, 27], v.egressArb l = s.egressArb l)
          ∧ (∀ j, j < 4 → v.reg (tpReg j 0x1C) = s.reg (tpReg j 0x1C))
          ∧ v.time = u.time ∧ v.sys = s.sys ∧ v.hive.mem = s.hive.mem) ∧
      (∀ j, byteAt m 1 ≠ s.hubId → s.dirUp (decide (lane < 26)) = false → j = (if lane < 26 then 2 else 0) →
        ∃ v : State, exec (.relay t lane m) s = .next (v.finish u)
          ∧ v.reg (tpReg j 0x1C) = (if s.reg (tpReg j 0x1C) = 0xFFFF_FFFF then 0xFFFF_FFFF else s.reg (tpReg j 0x1C) + 1)
          ∧ (∀ l, v.egressArb l = s.egressArb l) ∧ v.wire = [] ∧ v.time = u.time ∧ v.sys = s.sys ∧ v.hive = s.hive) ∧
      (∀ r, byteAt m 1 = s.hubId → bit (byteAt m 3) 2 = false →
        (Tab.get (fun _ => ({} : Reasm)) s.time.reasm (byteAt m 2)).step (byteAt m 3) (leAt m 5 2) (slice m 7 (byteAt m 4))
          = (r, none, none) →
        ∃ v : State, exec (.relay t lane m) s = .next (v.finish u)
          ∧ Tab.get (fun _ => ({} : Reasm)) v.time.reasm (byteAt m 2) = r
          ∧ (∀ j, j ≠ byteAt m 2 → Tab.get (fun _ => ({} : Reasm)) v.time.reasm j = Tab.get (fun _ => {}) s.time.reasm j)
          ∧ v.sys = s.sys ∧ v.regs = s.regs ∧ v.hive = s.hive) ∧
      (byteAt m 1 = s.hubId → bit (byteAt m 3) 2 = true →
        ∃ v : State, exec (.relay t lane m) s = .next (v.finish u) ∧ v.host.s = 0
          ∧ v.time = u.time ∧ v.sys = s.sys ∧ v.hive = s.hive)) ∧
    (∀ c, s.time.relayHeld = some c → s.host.unreleased = true → c + cycPerS ≤ u.time.cyc →
      ∃ v : State, exec (.relayRewindTimeout t) s = .next (v.finish u) ∧ v.time = { u.time with relayHeld := some u.time.cyc }
        ∧ v.host.s = 0 ∧ v.sys = s.sys ∧ v.hive = s.hive)

/-- The compressor (R449, R450): a record that its open block can hold joins it; an open block whose window and `FLUSH_LAG` have passed
closes into its pool and goes to its port as one `NECTAR` record.
Where the rules leave it open it says the model's choice: log entry 16. -/
def Obligations.CompressorComplete : Prop :=
  ∀ (s u : State) (t id : Nat) (rt : Route), u = s.elapse t → s.sys.mode ≠ .hold → s.route id = some rt →
    (s.nxPool rt.nxPool).stalledAt = none →
    (∀ r x, s.nx.inq.find? (fun x => x.stream == id) = some r → rt.nxMode ≠ 0 → u.blockEnds rt (s.nxStream id) r = false →
      x = (u.recordRead 3 r).1 →
      ∃ v : State, exec (.nectarRecordIn t id) s = .next (v.finish u)
        ∧ (v.nxStream id).recs = (s.nxStream id).recs ++ [x] ∧ (v.nxStream id).lastEpoch = some (u.recEpoch x)
        ∧ (s.hive.errs = [] → x = r) ∧ v.drip = s.drip
        ∧ v.nx.inq.length + 1 = s.nx.inq.length ∧ (∀ j, j ≠ id → v.nxStream j = s.nxStream j)
        ∧ v.nx.pools = s.nx.pools ∧ v.streams = s.streams ∧ v.sys = s.sys ∧ v.hive.mem = s.hive.mem) ∧
    (∀ r0 rs, (s.nxStream id).recs = r0 :: rs → (u.recWindow rt r0 + 1) * rt.flushMs * 1_000_000 + rt.flushLag * 1_000_000 ≤ u.ns →
      u.poolTakes rt.nxPool (32 + (blockOf rt (s.nxStream id)).1.length) = true →
      ∃ (v : State) (x : Record), exec (.flushLagExpiry t id) s = .next (v.finish u) ∧ (v.nxStream rt.id).recs = []
        ∧ x.typ = 0x0B ∧ x.stream = rt.id ∧ x.rseq = r0.rseq ∧ x.stamp = r0.stamp ∧ x.items = rs.length + 1
        ∧ x.payload = (blockOf rt (s.nxStream id)).1
        ∧ (rt.port = 1 → v.drip.waiting = s.drip.waiting ++ [x]) ∧ (rt.port ≠ 1 → v.host.waiting.getLast? = some x)
        ∧ v.nx.inq = s.nx.inq ∧ v.streams = s.streams ∧ v.pods = s.pods ∧ v.trig = s.trig ∧ v.sys = s.sys)

/-- Records that wait (R37, R491, R493): an `EVENTS` record 1 ms old closes; `EVENTS_LOST` is placed ahead of later events once there is
space and its count starts again; a closed stream's last `GAP` records are written as far as its buffer takes them.
Where the rules leave it open it says the model's choice: log entries 64 and 108. -/
def Obligations.WaitingRecordsComplete : Prop :=
  ∀ (s u : State) (t : Nat), u = s.elapse t → s.sys.mode ≠ .hold →
    (∀ e es, s.ev.items = e :: es → s.ev.openAt + cycPerMs ≤ u.time.cyc →
      ∃ v : State, exec (.eventsRecordTimeout t) s = .next (v.finish u) ∧ v.ev.items = [] ∧ v.ev.rseq = (s.ev.rseq + 1) % 2 ^ 32
        ∧ v.ev.eseq = s.ev.eseq
        ∧ (s.evHasPort = true → ∃ x : Record, v.host.waiting = s.host.waiting ++ [x] ∧ x.typ = 0x0A ∧ x.rseq = s.ev.rseq
            ∧ x.stamp = e.stamp ∧ x.items = es.length + 1 ∧ x.payload = s.ev.items.flatMap Event.bytes)
        ∧ (s.evHasPort = false → v.host = s.host) ∧ v.streams = s.streams ∧ v.regs = s.regs ∧ v.hive = s.hive) ∧
    (s.ev.lost ≠ 0 → s.evRoom 64 = true → s.isStandby = false → s.ev.items.length < 61 →
      ∃ v : State, exec (.eventsLost t) s = .next (v.finish u) ∧ v.ev.lost = 0
        ∧ (∃ e : Event, e ∈ v.ev.items ∧ e.code = 0x0B06 ∧ e.eseq = s.ev.eseq
            ∧ e.args = BitVec.ofNat 32 s.ev.lost :: (stampWords s.ev.lostFirst ++ stampWords s.ev.lostLast))
        ∧ v.streams = s.streams ∧ v.hive = s.hive) ∧
    (∀ id r g gs, s.route id = some r → r.id = id → (s.stream id).pendingGaps = g :: gs → s.bufTakes r g.size = true →
      ∃ (v : State) (k : Nat), exec (.overflowGapWrite t id) s = .next (v.finish u) ∧ 1 ≤ k
        ∧ (v.stream id).pendingGaps = (g :: gs).drop k ∧ (v.stream id).rseq = ((s.stream id).rseq + k) % 2 ^ 32
        ∧ (v.stream id).closePoint = (s.stream id).closePoint ∧ (∀ j, j ≠ id → v.stream j = s.stream j)
        ∧ v.sys = s.sys ∧ v.hive.mem = s.hive.mem)

/-- The link of a port (R474, R476, R477, R499, R507): a bad header is dropped and counted; a bad trailer completes its tagged command with
`CRC_BAD`; a missing number is skipped, counted and reported, and what was held behind it is taken; `STOP` and `CTS_N` are followed;
and the packet at S leaves on its lane or the drip and S moves past it.
Where the rules leave it open it says the model's choice: log entries 47, 48, 50, 130 and 158. -/
def Obligations.PacketsComplete : Prop :=
  ∀ (s u : State) (t : Nat), u = s.elapse t → s.sys.mode ≠ .hold →
    (∀ port, ∃ v : State, exec (.packetHdrBad t port) s = .next (v.finish u)
        ∧ (port ≠ .drip → v.reg 0x000B_0038 = (if s.reg 0x000B_0038 = 0xFFFF_FFFF then 0xFFFF_FFFF else s.reg 0x000B_0038 + 1))
        ∧ (port = .drip → v.reg 0x000B_0094 = (if s.reg 0x000B_0094 = 0xFFFF_FFFF then 0xFFFF_FFFF else s.reg 0x000B_0094 + 1))
        ∧ v.ports.inbound = s.ports.inbound ∧ v.ports.expect = s.ports.expect ∧ v.cfg = s.cfg ∧ v.hive = s.hive) ∧
    (∀ p : Packet, p.port = .host → p.lane ≠ 30 → s.isStandby = false → p.lseq.toNat = s.ports.expect → s.inFlight p = false →
      ∃ w : State, exec (.packetTrailerBad t p) s = .next ((w.complete p stCrcBad []).finish u)
        ∧ w.ports.expect = (s.ports.expect + 1) % 65536
        ∧ w.reg 0x000B_003C = (if s.reg 0x000B_003C = 0xFFFF_FFFF then 0xFFFF_FFFF else s.reg 0x000B_003C + 1)
        ∧ w.cfg = s.cfg ∧ w.field = s.field ∧ w.trig = s.trig ∧ w.streams = s.streams ∧ w.hive = s.hive) ∧
    (∀ lane received (q : Packet), s.ports.held = [q] → s.ports.expect < 65536 → s.ports.gapFrom + 50 * cycPerUs ≤ u.time.cyc →
      ∃ w : State, exec (.linkSkip t lane received) s = .next ((w.accept q (Config.avsAnswer u.free)).finish u)
        ∧ w.ports.held = [] ∧ w.ports.expect = (q.lseq.toNat + 1) % 65536
        ∧ w.reg 0x000B_0040 = (if s.reg 0x000B_0040 = 0xFFFF_FFFF then 0xFFFF_FFFF else s.reg 0x000B_0040 + 1)
        ∧ w.cfg = s.cfg ∧ w.streams = s.streams ∧ w.hive = s.hive) ∧
    (∀ on, exec (.hostStop t on) s = .next (({ u with ports := { s.ports with hostStop := on } } : State).finish u)) ∧
    (∀ low, exec (.ctsNChange t low) s = .next (({ u with ports := { s.ports with ctsLow := low } } : State).finish u)) ∧
    (∀ x l bs, s.host.q[s.host.nextIdx]? = some x → s.pair.role = 0 → s.gwDir = 0 → s.ports.hostStop = false →
      (s.laneActive 28 || s.laneActive 29) = true → l = (if s.laneActive 28 then 28 else 29) →
      bs = hostBlocks s.ports.cmdStop (122 * (s.lane l).blocks % 4) (x.bytes s.host.seq) →
      ∃ v : State, exec (.packetSent t .host) s = .next (v.finish u) ∧ v.host = s.host.sendOne ∧ v.drip = s.drip
        ∧ v.wire = (if s.carries l then bs.map (fun b => ({ lane := l, bytes := b } : Sent)) else [])
        ∧ v.lane l = { s.lane l with blocks := (s.lane l).blocks + bs.length } ∧ (∀ j, j ≠ l → v.lane j = s.lane j)
        ∧ v.regs = s.regs ∧ v.streams = s.streams ∧ v.hive = s.hive) ∧
    (∀ x, s.drip.q[s.drip.nextIdx]? = some x → s.pair.role = 0 → bit (s.regN 0x000B_0080) 0 = true →
      (bit (s.regN 0x000B_0080) 1 = true → s.ports.ctsLow = true) →
      ∃ v : State, exec (.packetSent t .drip) s = .next (v.finish u) ∧ v.drip = s.drip.sendOne ∧ v.host = s.host
        ∧ v.wire = [{ lane := 32, bytes := dripBytes (x.bytes s.drip.seq) }]
        ∧ v.regs = s.regs ∧ v.streams = s.streams ∧ v.hive = s.hive)

/-- Streams and `DR_CFG` (R24, R494, R499, R509): opening starts the stream's numbers at 0; closing an open stream waits for its open record, or
ends the opening where none is open, and a closed one answers at once; one `ACK` entry between a and n releases what it
acknowledges, and `REWIND` sends the rest again; a write of `DR_CFG.EN` turns the drip port on.
Where the rules leave it open it says the model's choice: log entry 60. -/
def Obligations.StreamsComplete : Prop :=
  ∀ (s u : State) (t id : Nat) (p q : Packet) (r : Route), u = s.elapse t → s.route id = some r → r.id = id →
    (q = p.withOp 0x48 → Admits u q → p.addr.toNat = id → (s.stream id).st ≠ 1 → (s.stream id).closing = none →
      (s.stream id).pendingGaps = [] → s.streamHeld id = false → s.routeChanges r = false → s.acquiring = true →
      ∃ w : State, exec (.streamOpen t p) s = .next ((w.complete q stOk []).finish u) ∧ (w.stream id).st = 1
        ∧ (w.stream id).rseq = 0 ∧ (w.stream id).recItems = [] ∧ (w.stream id).openAt = u.time.now
        ∧ (∀ j, j ≠ id → w.stream j = s.stream j) ∧ w.chains = s.chains ∧ w.hive = s.hive ∧ w.regs = s.regs) ∧
    (q = p.withOp 0x49 → Admits u q → p.addr.toNat = id → (s.stream id).st = 1 → (s.stream id).closing = none →
      (s.stream id).recItems ≠ [] →
      ∃ w : State, exec (.streamClose t p) s = .next (w.finish u) ∧ (w.stream id).closing = some q ∧ (w.stream id).st = 1
        ∧ (w.stream id).recItems = (s.stream id).recItems ∧ (∀ j, j ≠ id → w.stream j = s.stream j) ∧ w.hive = s.hive
        ∧ w.regs = s.regs) ∧
    (q = p.withOp 0x49 → Admits u q → p.addr.toNat = id → (s.stream id).st = 1 → (s.stream id).closing = none →
      (s.stream id).recItems = [] →
      ∃ w : State, exec (.streamClose t p) s = .next (w.finish u) ∧ (w.stream id).closing = some q ∧ (w.stream id).st = 0
        ∧ (w.stream id).closePoint = u.closeStamp r (s.stream id)
        ∧ (∀ j, j ≠ id → w.stream j = s.stream j) ∧ w.hive.mem = s.hive.mem ∧ w.sys = s.sys) ∧
    (q = p.withOp 0x49 → Admits u q → p.addr.toNat = id → (s.stream id).st ≠ 1 → (s.stream id).pendingGaps = [] →
      exec (.streamClose t p) s = .next ((((u.admitted q).complete q stOk
        (toLE 4 (s.stream id).lastRseq ++ toLE 6 (s.stream id).closePoint.toNat ++ [0, 0]))).finish u)) ∧
    (∀ k, q = p.withOp 0x4A → Admits u q → p.payload.length = 8 → leAt p.payload 0 2 = id → leAt p.payload 4 4 = k → id ≠ 0 →
      (s.stream id).rseq ≠ 0 → (k + 2 ^ 32 - (s.stream id).acked) % 2 ^ 32
        ≤ (((s.stream id).rseq + 2 ^ 32 - 1) % 2 ^ 32 + 2 ^ 32 - (s.stream id).acked) % 2 ^ 32 →
      ∃ w : State, exec (.ack t p) s = .next ((w.complete q stOk (toLE 4 1)).finish u) ∧ (w.stream id).acked = k
        ∧ (∀ j, j ≠ id → w.stream j = s.stream j)
        ∧ (p.pflag 1 = false → w.host = s.host.release id k ∧ w.drip = s.drip.release id k ∧ w.regs = s.regs)
        ∧ (p.pflag 1 = true → w.host.s = 0 ∧ w.drip = s.drip.release id k
            ∧ w.reg 0x000B_004C = (if s.reg 0x000B_004C = 0xFFFF_FFFF then 0xFFFF_FFFF else s.reg 0x000B_004C + 1))
        ∧ w.hive = s.hive) ∧
    (q = p.writing 0x000B_0080 (leAt p.payload 0 4 ||| 1) → Admits u q → s.ports.bootRunning = false →
      ∃ w : State, exec (.drCfgEnWrite t p) s = .next ((w.complete q stOk []).finish u)
        ∧ w.reg 0x000B_0080 = (BitVec.ofNat 32 (leAt p.payload 0 4) ||| 1) &&& 0xFF03 ∧ bit (w.regN 0x000B_0080) 0 = true
        ∧ w.streams = s.streams ∧ w.hive = s.hive ∧ w.cfg = s.cfg)

/-- Resets of one unit (R488, R552): a lane present, enabled and out of `PATTERN` goes to `DETECT`; a running pod lane is drained; an engine is
disarmed; the command's own port loses its commands in flight but this one, its guard and its locks, and its FIFO is rewound. -/
def Obligations.UnitResetsComplete : Prop :=
  ∀ (s u : State) (t a : Nat) (p q : Packet), u = s.elapse t → a = p.addr.toNat →
    (q = p.resetting 4 → Admits u q → s.lanePresent a = true → (s.lane a).enable = true → (s.lane a).st ≠ 8 →
      ∃ w : State, exec (.unitResetLane t p) s = .next ((w.complete q stOk []).finish u) ∧ (w.lane a).st = 1
        ∧ (w.lane a).lastCode = 10 ∧ (∀ j, j ≠ a → w.lane j = s.lane j) ∧ w.cfg = s.cfg) ∧
    (q = p.resetting 5 → Admits u q → a < s.podLanes → (s.pod a).running = true →
      ∃ w : State, exec (.unitResetPod t p) s = .next ((w.complete q stOk []).finish u) ∧ (w.pod a).running = false
        ∧ (w.pod a).drained = true ∧ (w.pod a).held = [] ∧ (w.pod a).outstanding = []
        ∧ (∀ ch, ch / 32 = a → (s.chain ch).drained = false → (w.chain ch).insts ≠ [] →
            (w.chain ch).gap.map (·.cause) = some 1)
        ∧ (∀ j, j ≠ a → w.pod j = s.pod j) ∧ w.lanes = s.lanes ∧ w.cfg = s.cfg) ∧
    (q = p.resetting 7 → Admits u q → a < 8 →
      ∃ w : State, exec (.unitResetTrig t p) s = .next ((w.complete q stOk []).finish u) ∧ (w.engine a).armed = false
        ∧ (w.engine a).arms = [] ∧ (w.engine a).coll = none ∧ (∀ j, j ≠ a → w.engine j = s.engine j)
        ∧ w.streams = s.streams ∧ w.hive = s.hive ∧ w.regs = s.regs) ∧
    (q = p.resetting 11 → Admits u q →
      ∃ w : State, exec (.unitResetHostp t p) s = .next ((w.complete q stOk []).finish u)
        ∧ (w.port .host).inflight = [(p.hub.toNat, p.tag.toNat)] ∧ (w.port .host).guard = none
        ∧ w.ports.inbound = s.ports.inbound.filter (fun x => x.port != .host) ∧ w.host.s = 0
        ∧ (∀ n, n < 16 → (s.lockOf n).owner = portCode .host → (w.lockOf n).owner = 0)
        ∧ (∀ n, (s.lockOf n).owner ≠ portCode .host → w.lockOf n = s.lockOf n) ∧ w.hive = s.hive ∧ w.cfg = s.cfg)

/-- The drip and I²C ports (R506, R508, R511, R552): a whole frame or a whole write of the command area is taken as that port's command and served; data
not acknowledged within the retry time is sent again; reading the response frees the command area, and reading an event takes it
from its queue; a reset of either port drops what it had in flight.
Where the rules leave it open it says the model's choice: log entries 47 and 131. -/
def Obligations.OtherPortsComplete : Prop :=
  ∀ (s u x : State) (t : Nat) (bs : List Byte), u = s.elapse t → s.sys.mode ≠ .hold →
    (∀ (p : Packet) (st : Nat) (body : List Byte), p.port = .drip → bit (s.regN 0x000B_0080) 0 = true → 2 ≤ (unescape bs).length →
      (crc16 ((unescape bs).take ((unescape bs).length - 2))).toNat = leAt (unescape bs) ((unescape bs).length - 2) 2 →
      packetOf .drip ((unescape bs).take ((unescape bs).length - 2)) = some p → s.pair.role = 0 → p.pflag 2 = false →
      s.inboundFill + 20 + p.payload.length ≤ 65536 → s.inFlight p = false → s.mustWait p = false → s.elsewhere p = false →
      s.serves p = true →
      (({ u with free := s.free + 1 } : State).updPort .drip fun k =>
        { k with inflight := k.inflight ++ [(p.hub.toNat, p.tag.toNat)] }).applyPacket p (Config.avsAnswer s.free)
          = (.done st body, x) →
      exec (.dripFrame t true bs) s = .next ((x.complete p st body).finish u)) ∧
    (∀ c, s.ports.dripHeld = some c → s.drip.unreleased = true →
      c + orDefault (bits (s.regN 0x000B_0080) 8 8) 30 * cycPerS ≤ u.time.cyc →
      ∃ v : State, exec (.dripRetryTimeout t) s = .next (v.finish u) ∧ v.drip = s.drip.rewind ∧ v.drip.s = 0
        ∧ v.ports.dripHeld = some u.time.cyc
        ∧ v.reg 0x000B_0098 = (if s.reg 0x000B_0098 = 0xFFFF_FFFF then 0xFFFF_FFFF else s.reg 0x000B_0098 + 1)
        ∧ v.streams = s.streams ∧ v.hive = s.hive) ∧
    (∃ v : State, exec (.dripPortReset t) s = .next (v.finish u) ∧ (v.port .drip).inflight = [] ∧ (v.port .drip).guard = none
        ∧ v.drip.s = 0 ∧ v.ports.inbound = s.ports.inbound.filter (fun y => y.port != .drip)
        ∧ (∀ n, n < 16 → (s.lockOf n).owner = portCode .drip → (v.lockOf n).owner = 0) ∧ v.hive = s.hive) ∧
    (∀ (p : Packet) (st : Nat) (body : List Byte), p.port = .i2c → s.ports.cmdFree = true → packetOf .i2c bs = some p →
      s.pair.role = 0 → p.pflag 2 = false → s.inFlight p = false → s.mustWait p = false → s.elsewhere p = false → s.serves p = true →
      (({ u with free := s.free + 1, ports := { s.ports with cmdFree := false } } : State).updPort .i2c fun k =>
        { k with inflight := k.inflight ++ [(p.hub.toNat, p.tag.toNat)] }).applyPacket p (Config.avsAnswer s.free)
          = (.done st body, x) →
      exec (.i2cCommandStop t bs) s = .next ((x.complete p st body).finish u)) ∧
    (s.ports.rspValid = true →
      exec (.i2cResponseRead t) s = .next (({ u with
        ports := { s.ports with rspValid := false, cmdFree := true, response := [] } } : State).finish u)) ∧
    exec (.i2cEventRead t) s = .next (({ u with ports := { s.ports with i2cQueue := s.ports.i2cQueue.tail } } : State).finish u) ∧
    (∃ v : State, exec (.i2cPortReset t) s = .next (v.finish u) ∧ (v.port .i2c).inflight = [] ∧ (v.port .i2c).guard = none
        ∧ v.ports.cmdFree = true ∧ v.ports.rspValid = false ∧ v.ports.i2cQueue = s.ports.i2cQueue
        ∧ (∀ n, n < 16 → (s.lockOf n).owner = portCode .i2c → (v.lockOf n).owner = 0)
        ∧ v.reg 0x000B_00C4 = (if s.reg 0x000B_00C4 = 0xFFFF_FFFF then 0xFFFF_FFFF else s.reg 0x000B_00C4 + 1)
        ∧ v.hive = s.hive)

/-- The debug port (R8, R516, R552): out of HOLD a read shows the register and status, clearing it only where asked to; a write of a register
that only holds its bits is held; in HOLD both show `BUSY`. A TAP reset drops the port's guard and locks and selects `IDCODE`; the
boundary register is driven under `EXTEST` and `PRELOAD`.
Where the rules leave it open it says the model's choice: log entry 59. -/
def Obligations.DebugComplete : Prop :=
  ∀ (s u : State) (t : Nat), u = s.elapse t →
    (∀ a : Word, s.sys.mode = .hold →
      exec (.dapRead t a) s = .next { u with ports := { s.ports with dapStatus := stBusy, dapData := 0 } }
      ∧ exec (.dapReadClear t a) s = .next { u with ports := { s.ports with dapStatus := stBusy, dapData := 0 } }
      ∧ (∀ d, exec (.dapWrite t a d) s
          = .next { u with free := s.free + 1, ports := { s.ports with dapStatus := stBusy, dapData := 0 } })) ∧
    (∀ (a : Word) (y : State), s.sys.mode ≠ .hold → u.badAddr a.toNat = none → a ≠ 0x000D_0004 → a ≠ 0x0002_0004 →
      y = u.refresh a.toNat →
      exec (.dapRead t a) s
        = .next (({ y with ports := { y.ports with dapStatus := stOk, dapData := y.peek .debug a.toNat } } : State).finish u)
      ∧ ∃ v : State, exec (.dapReadClear t a) s = .next (v.finish u) ∧ v.ports.dapStatus = stOk
          ∧ v.ports.dapData = y.peek .debug a.toNat ∧ (isRc a.toNat = true → v.reg a.toNat = 0)
          ∧ (∀ b, b ≠ a.toNat → v.reg b = y.reg b) ∧ (isRc a.toNat = false → v.regs = y.regs)
          ∧ v.sys = s.sys ∧ v.streams = s.streams ∧ v.hive.mem = s.hive.mem) ∧
    (s.sys.mode ≠ .hold →
      exec (.dapRead t 0x0002_0004) s = .next (({ u with
        time := { u.time with latch := fullTime u.time.now }
        ports := { s.ports with dapStatus := stOk, dapData := u.peek .debug 0x0002_0004 } } : State).finish u)) ∧
    (∀ (a : Word) r, s.sys.mode ≠ .hold → u.badAddr a.toNat = some r →
      exec (.dapRead t a) s = .next (({ u with ports := { s.ports with dapStatus := r.status, dapData := 0 } } : State).finish u)) ∧
    (∀ (a d : Word) m, s.sys.mode ≠ .hold → s.pair.role = 0 → s.badAddr a.toNat = none → isGw a.toNat = false →
      isGw (a.toNat - 4) = false → heldMask a.toNat = some m → (s.port .debug).guard = none →
      ∃ v : State, exec (.dapWrite t a d) s = .next (v.finish u) ∧ v.reg a.toNat = d &&& BitVec.ofNat 32 m
        ∧ (∀ b, b ≠ a.toNat → v.reg b = s.reg b) ∧ v.ports.dapStatus = stOk ∧ v.sys = s.sys ∧ v.streams = s.streams
        ∧ v.hive = s.hive) ∧
    (∃ v : State, exec (.tapReset t) s = .next (v.finish u) ∧ v.ports.ir = 0xFE ∧ (v.port .debug).guard = none
        ∧ (∀ n, n < 16 → (s.lockOf n).owner = portCode .debug → (v.lockOf n).owner = 0)
        ∧ (∀ n, (s.lockOf n).owner ≠ portCode .debug → v.lockOf n = s.lockOf n) ∧ v.regs = s.regs ∧ v.hive = s.hive) ∧
    (∀ ir b, exec (.extest t ir b) s = .next (({ u with ports := { s.ports with
        ir := ir, boundary := if ir = 0x00 ∨ ir = 0x02 then b else s.ports.boundary } } : State).finish u))

/-- Registers (R7, R8, R483, R486, R542): a read of registers that clear nothing answers with what they show and changes nothing; a read-clear read
answers and clears its register alone; a read of `TIME_NOW_LO` latches the time; words written to registers that hold them are held
by their implemented bits, in order, and any other plain write has its register's effect; an opcode not listed answers
`BAD_OPCODE` without effect.
Where the rules leave it open it says the model's choice: log entries 25, 55, 123 and 126. -/
def Obligations.RegistersComplete : Prop :=
  ∀ (s u x : State) (t a : Nat) (p q : Packet), u = s.elapse t → a = p.addr.toNat → x = u.admitted q →
    (q = p.unlisted → Admits u q → exec (.badOpcode t p) s = .next ((x.complete q stBadOpcode []).finish u)) ∧
    (∀ n, q = p.withOp 1 → Admits u q → p.count = some n →
      (∀ i, i < n → s.badAddr (a + 4 * i) = none ∧ isRc (a + 4 * i) = false ∧ a + 4 * i ≠ 0x0002_0004 ∧ a + 4 * i ≠ 0x000D_0004
        ∧ x.refresh (a + 4 * i) = x) →
      exec (.rd t p) s
        = .next ((x.complete q stOk (bytesOf ((List.range n).map fun i => x.peek .host (a + 4 * i)))).finish u)) ∧
    (∀ y, q = p.withOp 1 → Admits u q → p.count = some 1 → s.badAddr a = none → isRc a = false → a ≠ 0x0002_0004 →
      a ≠ 0x000D_0004 → y = x.refresh a →
      exec (.rd t p) s = .next ((y.complete q stOk (bytesOf [y.peek .host a])).finish u)) ∧
    (∀ c ∈ [Instr.rd t p, Instr.readClear t p], ∀ y, q = p.withOp 1 → Admits u q → p.count = some 1 → s.badAddr a = none →
      isRc a = true → y = x.refresh a →
      ∃ w : State, exec c s = .next ((w.complete q stOk (bytesOf [y.peek .host a])).finish u) ∧ w.reg a = 0
        ∧ (∀ b, b ≠ a → w.reg b = y.reg b) ∧ w.streams = s.streams ∧ w.sys = s.sys ∧ w.hive.mem = s.hive.mem) ∧
    (q = p.withOp 1 → Admits u q → p.count = some 1 → a = 0x0002_0004 →
      exec (.rd t p) s = .next ((({ x with time := { u.time with latch := fullTime u.time.now } } : State).complete q stOk
        (bytesOf [x.peek .host a])).finish u)) ∧
    (∀ c ∈ [Instr.wr t p, Instr.registerWrite t p], q = p.withOp 2 → Admits u q →
      (∀ ws : List Word, p.words = some ws → (s.port .host).guard = none →
        (∀ i, i < ws.length → s.badAddr (a + 4 * i) = none ∧ isGw (a + 4 * i) = false ∧ isGw (a + 4 * i - 4) = false
          ∧ (heldMask (a + 4 * i)).isSome = true) →
        ∃ w : State, exec c s = .next ((w.complete q stOk []).finish u)
          ∧ (∀ i v m, ws[i]? = some v → heldMask (a + 4 * i) = some m → w.reg (a + 4 * i) = v &&& BitVec.ofNat 32 m)
          ∧ (∀ b, (∀ i, i < ws.length → b ≠ a + 4 * i) → w.reg b = s.reg b)
          ∧ w.sys = s.sys ∧ w.cfg = s.cfg ∧ w.streams = s.streams ∧ w.hive = s.hive) ∧
      (∀ (v : Word) (body : List Byte) (y : State), p.words = some [v] → s.badAddr a = none → x.namesAbsent a v.toNat = none →
        isGw a = false → isGw (a - 4) = false →
        (x.guardFail .host).writePlain .host a v (Config.avsAnswer u.free) = (.done 0 body, y) →
        exec c s = .next ((y.complete q stOk []).finish u)))

/-- Guards (R540, R544, R545, R549): the first write of a pair is held for 256 cycles and nothing else happens; the complement written next in time,
or a `GWR`, has the guarded register's effect, and the register reads back what was written; a guard that runs out is dropped,
counted and reported; `CFG_REF` takes its value for the next pass; a user OTP word not yet programmed is programmed, and holds
its value when done.
Where the rules leave it open it says the model's choice: log entries 51 and 148. -/
def Obligations.GuardsComplete : Prop :=
  ∀ (s u x : State) (t a : Nat) (p q : Packet) (v : Word), u = s.elapse t → x = u.admitted q →
    (q = p.withOp 2 → Admits u q → isGw a = true → p.addr.toNat = a → p.words = some [v] → (s.port .host).guard = none →
      ∃ w : State, exec (.guardFirstWrite t p) s = .next ((w.complete q stOk []).finish u)
        ∧ (w.port .host).guard = some (a, v, u.time.cyc + 256) ∧ w.regs = s.regs ∧ w.sys = s.sys ∧ w.cfg = s.cfg
        ∧ w.field = s.field ∧ w.pair = s.pair ∧ w.streams = s.streams ∧ w.hive = s.hive) ∧
    (∀ stop body y, q = p.withOp 2 → Admits u q → isGw a = true → p.addr.toNat = a + 4 → p.words = some [~~~v] →
      (s.port .host).guard = some (a, v, stop) → u.time.cyc ≤ stop →
      (x.updPort .host fun k => { k with guard := none }).guardedAct q a v = (.done 0 body, y) →
      exec (.wr t p) s = .next (((y.setReg a (v &&& gwMask a)).complete q stOk []).finish u)) ∧
    (∀ body y, q = p.withOp 5 → Admits u q → isGw a = true → p.addr.toNat = a → p.payload.length = 4 →
      (x.guardFail .host).guardedAct q a p.word = (.done 0 body, y) →
      exec (.gwr t p) s = .next (((y.setReg a (p.word &&& gwMask a)).complete q stOk body).finish u)) ∧
    (∀ port stop, s.sys.mode ≠ .hold → (s.port port).guard = some (a, v, stop) → stop < u.time.cyc →
      ∃ w : State, exec (.guardTimeout t port) s = .next (w.finish u) ∧ (w.port port).guard = none
        ∧ w.reg 0x0000_0040 = (if s.reg 0x0000_0040 = 0xFFFF_FFFF then 0xFFFF_FFFF else s.reg 0x0000_0040 + 1)
        ∧ w.sys = s.sys ∧ w.cfg = s.cfg ∧ w.field = s.field ∧ w.streams = s.streams ∧ w.hive = s.hive) ∧
    (q = p.asGuarded 0x0001_0010 → Admits u q → p.payload.length = 4 →
      ∃ w : State, exec (.cfgRefWrite t p) s = .next ((w.complete q stOk []).finish u)
        ∧ w.cfg = { s.cfg with refNext := some p.word, refUser := true } ∧ w.reg 0x0001_0010 = p.word ∧ w.sys = s.sys
        ∧ w.streams = s.streams ∧ w.hive = s.hive) ∧
    (q = p.asGuarded 0x0000_0028 → Admits u q → p.payload.length = 4 → bit p.word.toNat 8 = false → s.reg 0x0000_0030 ≠ 0 →
      s.sys.otpRun = none → Tab.get (fun _ => 0) s.field.userOtp (p.word.toNat % 64) = 0 →
      ∃ w : State, exec (.otpProgram t p) s = .next ((w.complete q stOk []).finish u)
        ∧ w.sys = { s.sys with otpRun := some (p.word.toNat % 64, s.reg 0x0000_0030) } ∧ w.field = s.field
        ∧ w.streams = s.streams ∧ w.hive = s.hive) ∧
    (∀ i, s.sys.mode ≠ .hold → s.sys.otpRun = some (i, v) →
      ∃ w : State, exec (.otpProgramDone t) s = .next (w.finish u) ∧ w.sys.otpRun = none
        ∧ Tab.get (fun _ => 0) w.field.userOtp i = v
        ∧ (∀ j, j ≠ i → Tab.get (fun _ => 0) w.field.userOtp j = Tab.get (fun _ => 0) s.field.userOtp j)
        ∧ w.regs = s.regs ∧ w.streams = s.streams ∧ w.hive = s.hive)

/-- The indirect window (R213, R547, R548): `IX_ADDR` takes a word address and clears its errors; a data access that its unit serves answers and
moves `IX_ADDR` on by a word; `IXRD` and `IXWR` do so word after word; writes of the field die's or the OTP's words change nothing,
and a write of a PHY override in TEST is held.
Where the rules leave it open it says the model's choice: log entries 29 and 30. -/
def Obligations.WindowComplete : Prop :=
  ∀ (s u x : State) (t a : Nat) (p q : Packet) (v : Word), u = s.elapse t → x = u.admitted q → (s.port .host).guard = none →
    (q = p.asWrite 0x000D_0000 → Admits u q → p.words = some [v] →
      ∃ w : State, exec (.ixAddrWrite t p) s = .next ((w.complete q stOk []).finish u)
        ∧ (w.port .host).ixAddr = BitVec.ofNat 32 (v.toNat / 4 * 4) ∧ (w.port .host).ixTimeout = false
        ∧ (w.port .host).ixBad = false ∧ (w.port .host).ixAbsent = false ∧ w.regs = s.regs ∧ w.field = s.field ∧ w.hive = s.hive) ∧
    (∀ body y, q = p.reading 0x000D_0004 → Admits u q →
      x.ixAt (s.port .host).ixAddr.toNat none true = (.done 0 body, v, y) →
      ∃ w : State, exec (.ixDataRead t p) s = .next ((w.complete q stOk (bytesOf [v])).finish u)
        ∧ (w.port .host).ixAddr = (s.port .host).ixAddr + 4 ∧ w.regs = y.regs ∧ w.field = s.field ∧ w.hive = s.hive) ∧
    (∀ body r y, q = p.asWrite 0x000D_0004 → Admits u q → p.words = some [v] →
      x.ixAt (s.port .host).ixAddr.toNat (some v) true = (.done 0 body, r, y) →
      ∃ w : State, exec (.ixDataWrite t p) s = .next ((w.complete q stOk []).finish u)
        ∧ (w.port .host).ixAddr = (s.port .host).ixAddr + 4 ∧ w.regs = y.regs ∧ w.field = s.field ∧ w.hive = s.hive) ∧
    (∀ (n : Nat) (vs : List Word), q = p.withOp 3 → Admits u q → p.count = some n → a = p.addr.toNat → a % 4 = 0 → vs.length = n →
      (∀ i y, vs[i]? = some y → ∃ body, u.ixAt (a + 4 * i) none true = (.done 0 body, y, u)) →
      ∃ w : State, exec (.ixrd t p) s = .next ((w.complete q stOk (bytesOf vs)).finish u)
        ∧ (w.port .host).ixAddr = BitVec.ofNat 32 (a + 4 * n) ∧ w.regs = s.regs ∧ w.field = s.field ∧ w.hive = s.hive) ∧
    (∀ ws : List Word, q = p.withOp 4 → Admits u q → p.words = some ws → a = p.addr.toNat → a % 4 = 0 →
      (0x0100_0000 ≤ a ∧ a + 4 * ws.length ≤ 0x0100_1000 + 0x40 * s.localChs ∧ s.sys.fdLink = true)
        ∨ (0x0300_0000 ≤ a ∧ a + 4 * ws.length ≤ 0x0300_1000 ∧ s.sys.fdLink = true)
        ∨ (0x0300_1000 ≤ a ∧ a + 4 * ws.length ≤ 0x0300_1100) →
      ∃ w : State, exec (.ixwr t p) s = .next ((w.complete q stOk []).finish u)
        ∧ (w.port .host).ixAddr = BitVec.ofNat 32 (a + 4 * ws.length) ∧ w.regs = s.regs ∧ w.field = s.field ∧ w.hive = s.hive) ∧
    (∀ l k, q = p.withOp 4 → Admits u q → p.words = some [v] → s.sys.mode = .test → s.lanePresent l = true →
      p.addr.toNat = 0x0200_0000 + 0x1000 * l + k → (k = 0 ∧ bits v.toNat 1 4 ≤ 10) ∨ k = 4 →
      ∃ w : State, exec (.ixwr t p) s = .next ((w.complete q stOk []).finish u)
        ∧ w.reg p.addr.toNat = v &&& (if k = 0 then 0xFF else 0x3F) ∧ (∀ b, b ≠ p.addr.toNat → w.reg b = s.reg b)
        ∧ w.lanes = s.lanes ∧ w.hive = s.hive)

/-- Locks (R550, R551): a lock that is free or held by the port is taken, with its lease from now; a port's own lock is released; a lock whose lease
has run out is released, noted in `LOCK_LOST`, counted and reported. -/
def Obligations.LocksComplete : Prop :=
  ∀ (s u : State) (t n : Nat) (p q : Packet), u = s.elapse t → n < 16 →
    (q = p.withOp 0x28 → Admits u q → p.addr.toNat = n → (s.lockOf n).owner = 0 ∨ (s.lockOf n).owner = 1 →
      ∃ w : State, exec (.lock t p) s = .next ((w.complete q stOk []).finish u)
        ∧ w.lockOf n = { owner := 1, ends := u.time.cyc + s.leaseCycles } ∧ (∀ m, m ≠ n → w.lockOf m = s.lockOf m)
        ∧ w.regs = s.regs ∧ w.hive = s.hive ∧ w.cfg = s.cfg) ∧
    (q = p.withOp 0x29 → Admits u q → p.addr.toNat = n → (s.lockOf n).owner = 1 →
      ∃ w : State, exec (.unlock t p) s = .next ((w.complete q stOk []).finish u) ∧ (w.lockOf n).owner = 0
        ∧ (∀ m, m ≠ n → w.lockOf m = s.lockOf m) ∧ w.regs = s.regs ∧ w.hive = s.hive ∧ w.cfg = s.cfg) ∧
    (leAt p.payload 0 4 % 16 = n → (s.port .host).guard = none →
      (q = p.writing 0x000E_0004 (n + 256) → Admits u q → (s.lockOf n).owner = 0 ∨ (s.lockOf n).owner = 1 →
        ∃ w : State, exec (.lockReqTake t p) s = .next ((w.complete q stOk []).finish u)
          ∧ w.lockOf n = { owner := 1, ends := u.time.cyc + s.leaseCycles } ∧ (w.port .host).lockResult = 0
          ∧ (∀ m, m ≠ n → w.lockOf m = s.lockOf m) ∧ w.regs = s.regs ∧ w.hive = s.hive) ∧
      (q = p.writing 0x000E_0004 n → Admits u q → (s.lockOf n).owner = 1 →
        ∃ w : State, exec (.lockReqRelease t p) s = .next ((w.complete q stOk []).finish u) ∧ (w.lockOf n).owner = 0
          ∧ (w.port .host).lockResult = 0 ∧ (∀ m, m ≠ n → w.lockOf m = s.lockOf m) ∧ w.regs = s.regs ∧ w.hive = s.hive)) ∧
    (s.sys.mode ≠ .hold → (s.lockOf n).owner ≠ 0 → (s.lockOf n).ends ≤ u.time.cyc → s.commitHolds (s.lockOf n).owner = false →
      ∃ w : State, exec (.lockLeaseExpiry t n) s = .next (w.finish u) ∧ (w.lockOf n).owner = 0
        ∧ w.reg 0x000E_0010 = s.reg 0x000E_0010 ||| BitVec.ofNat 32 (2 ^ n)
        ∧ w.reg 0x000E_0014 = (if s.reg 0x000E_0014 = 0xFFFF_FFFF then 0xFFFF_FFFF else s.reg 0x000E_0014 + 1)
        ∧ (∀ m, m ≠ n → w.lockOf m = s.lockOf m) ∧ w.cfg = s.cfg ∧ w.hive = s.hive)

/-- Images (R271, R272, R531 to R536, R540): `IMG` puts its bytes in staging and nowhere else; a commit whose checks pass stages the image, or with the check
flag only says so, and one with `ANCHORS` begins the rebuild that it waits for; a full image staged applies at the next tick and
enters TRAIN; a partial one applies once T_C has passed where no grid runs; a pass of the configuration CRC takes a reference
written, and shows a result that differs.
Where the rules leave it open it says the model's choice: log entries 35, 36, 37, 120, 125, 132, 138, 140, 149, 156 and 170. -/
def Obligations.ImagesComplete : Prop :=
  ∀ (s u x y : State) (t : Nat) (p q : Packet) (i : Image), u = s.elapse t → x = { u.admitted q with cfg := { s.cfg with stagedLen := 0 } } →
    (∀ a, q = p.withOp 0x20 → Admits u q → a = p.addr.toNat → a + p.payload.length ≤ stagingSize → (s.lockOf 0).owner = 1 →
      (∀ b, s.comb.rebuild = some b → b.finished = true) →
      ∃ w : State, exec (.img t p) s = .next ((w.complete q stOk []).finish u)
        ∧ (∀ j v, p.payload[j]? = some v → w.hiveByte (stagingBase + a + j) = v)
        ∧ (∀ b, b < stagingBase + a ∨ stagingBase + a + p.payload.length ≤ b → w.hiveByte b = s.hiveByte b)
        ∧ w.cfg = { s.cfg with stagedLen := 0 } ∧ w.streams = s.streams ∧ w.pods = s.pods) ∧
    ((s.lockOf 0).owner = 1 → s.cfg.staged = none → s.comb.rebuild = none → (s.port .host).guard = none →
      ∀ len fl, x.readImage len fl false = (.ok i, y) →
      ∀ c ∈ [Instr.commit t p, Instr.cfgCommitWrite t p],
        (c = .commit t p ∧ q = p.withOp 0x21 ∧ p.payload.length = 12 ∧ p.addr = 0 ∧ len = leAt p.payload 0 4
            ∧ leAt p.payload 4 4 = 0xFFFF_FFFF - len ∧ fl = leAt p.payload 8 4)
          ∨ (c = .cfgCommitWrite t p ∧ q = p.asGuarded 0x0001_0008 ∧ p.payload.length = 4 ∧ len = p.word.toNat
            ∧ fl = s.regN 0x0001_0004) →
        Admits u q →
        ((fl ≠ 0 ∨ i.isFull = true ∨ ∀ sec ∈ i.secs, sec.1 ≠ 8) → y.imageChecks i = none →
          ∃ w : State, exec c s = .next ((w.complete q stOk []).finish u) ∧ w.cfg.result = stOk ∧ w.cfg.stagedLen = 0
            ∧ (fl = 0 → ∃ g : Staged, w.cfg.staged = some g ∧ g.isFull = i.isFull ∧ g.imageId = i.imageId ∧ g.sections = i.secs
                ∧ g.acceptedAt = u.ns ∧ g.tc = (if (if i.secs.any (fun e => e.1 == 8) then i.anchorsNx else i.compressed) then 6_000_000 else 3_000_000))
            ∧ (fl ≠ 0 → w.cfg.staged = none) ∧ w.cfg.body = s.cfg.body ∧ w.streams = s.streams) ∧
        (fl = 0 → i.isFull = false → (∃ sec ∈ i.secs, sec.1 = 8) → s.sys.fdLink = true →
          ∃ (w : State) (b : Rebuild), exec c s = .next (w.finish u) ∧ w.comb.rebuild = some b ∧ b.pkt = q ∧ b.startAt = u.ns
            ∧ b.finished = false ∧ w.cfg.body = s.cfg.body ∧ w.streams = s.streams)) ∧
    (∀ g, s.sys.mode ≠ .hold → s.cfg.staged = some g → g.isFull = true → tickTime (g.acceptedAt / 1250 + 1) ≤ u.time.now →
      ∃ v : State, exec (.imageApply t) s = .next (v.finish u) ∧ v.sys.mode = .train
        ∧ v.sys.fullLoaded = true ∧ v.cfg.imageId = g.imageId ∧ v.cfg.refUser = false ∧ v.cfg.passVoid = true
        ∧ v.cfg.refNext = none ∧ v.cfg.staged = none ∧ v.cfg.body = mergeBodies true s.cfg.body g.sections
        ∧ v.cfg.epochDs = g.epochDs ∧ v.sys.trainAt = u.time.cyc ∧ v.time.now = u.time.now) ∧
    (∀ g, s.sys.mode ≠ .hold → s.cfg.staged = some g → g.isFull = false → s.cfg.gridOn = false →
      tickTime (ceilDiv (g.acceptedAt + g.tc) 1250) ≤ u.time.now → s.comb.rebuild = none →
      ∃ v : State, exec (.partialApplyTick t) s = .next (v.finish u) ∧ v.cfg.partialId = g.imageId ∧ v.cfg.refUser = false
        ∧ v.cfg.passVoid = true ∧ v.cfg.refNext = none ∧ v.cfg.staged = none
        ∧ v.cfg.body = mergeBodies false s.cfg.body g.sections ∧ v.cfg.imageId = s.cfg.imageId ∧ v.sys.mode = s.sys.mode
        ∧ v.time.now = u.time.now) ∧
    (∀ upset, s.sys.mode ≠ .hold → (∀ c, s.cfg.passAt = some c → c + cycPerMs ≤ u.time.cyc) → s.cfg.passVoid = true →
      exec (.configCrcPass t upset) s = .next (({ u with cfg := { s.cfg with
        passVoid := false, crcRef := s.cfg.refNext.getD s.cfg.crcRef, refNext := none, passAt := some u.time.cyc } } : State).finish
          u)) ∧
    (∀ upset, s.sys.mode ≠ .hold → (∀ c, s.cfg.passAt = some c → c + cycPerMs ≤ u.time.cyc) → s.cfg.passVoid = false →
      s.configCrc ^^^ upset = s.cfg.crcRef →
      exec (.configCrcPass t upset) s = .next (({ u with cfg := { s.cfg with
        crc := s.configCrc ^^^ upset, mismatch := false, crcRef := s.cfg.refNext.getD s.cfg.crcRef, refNext := none
        passAt := some u.time.cyc } } : State).finish u)) ∧
    (∀ upset, s.sys.mode ≠ .hold → (∀ c, s.cfg.passAt = some c → c + cycPerMs ≤ u.time.cyc) → s.cfg.passVoid = false → s.configCrc ^^^ upset ≠ s.cfg.crcRef →
      bit (s.regN 0x0001_001C) 0 = false ∨ s.cfg.mismatch = true →
      ∃ v : State, exec (.configCrcPass t upset) s = .next (v.finish u) ∧ v.cfg.crc = s.configCrc ^^^ upset ∧ v.cfg.mismatch = true
        ∧ v.reg 0x0001_0040 = (if s.reg 0x0001_0040 = 0xFFFF_FFFF then 0xFFFF_FFFF else s.reg 0x0001_0040 + 1)
        ∧ v.sys = s.sys ∧ v.streams = s.streams ∧ v.hive = s.hive) ∧
    (∀ upset, s.sys.mode ≠ .hold → (∀ c, s.cfg.passAt = some c → c + cycPerMs ≤ u.time.cyc) → s.cfg.passVoid = false →
      s.configCrc ^^^ upset ≠ s.cfg.crcRef → s.cfg.mismatch = false →
      bit (s.regN 0x0001_001C) 0 = true →
      ∃ v : State, exec (.configCrcPass t upset) s = .next (v.finish u) ∧ v.sys.mode = .safe)

/-- Heartbeats and faults over the pair link (R565, R571, R579, R584, R589): a member sends its heartbeat, 50 µs after the last, with the next `PLSEQ`; one that comes in order is noted with
its time, and a standby whose chain differs at the same `FSEQ` becomes STALE; a fault message shows the partner's self-check and,
where succession can be used, makes the standby the active, as does a heartbeat missing for its time; a link that returns ends
blind operation; a self-check bit clears 2 s after its condition last held.
Where the rules leave it open it says the model's choice: log entries 71, 73 and 78. -/
def Obligations.HeartbeatsComplete : Prop :=
  ∀ (s u : State) (t n : Nat), u = s.elapse t → s.sys.mode ≠ .hold →
    (s.linkUp = true → s.pair.role ≠ 0 →
      (u.hbDue = true → ∃ (v : State) (hb : Heartbeat), exec (.plHbSend t) s = .next (v.finish u) ∧ v.plOut = [(s.pair.outSeq, .hb hb)]
        ∧ v.pair = { s.pair with outSeq := (s.pair.outSeq + 1) % 65536, hbSent := some u.time.cyc } ∧ hb.role = s.pair.role ∧ hb.mode = modeCode s.sys.mode
        ∧ hb.selfCheck = u.selfCheck ∧ hb.fseq = s.pair.fseq ∧ hb.fchain = s.pair.fchain.toNat ∧ hb.cfgCrc = s.cfg.crc
        ∧ v.regs = s.regs ∧ v.hive = s.hive) ∧
      (s.pair.inSeq = none ∨ s.pair.inSeq = some (n % 65536) →
        (∀ hb : Heartbeat, ∃ v : State, exec (.plHb t n hb) s = .next (v.finish u) ∧ v.pair.inSeq = some ((n + 1) % 65536)
          ∧ v.pair.hbAt = some u.time.cyc ∧ v.pair.partner = hb ∧ v.comb.pairPct = hb.derate
          ∧ v.pair.partnerActive = (s.pair.partnerActive && hb.role == 1)
          ∧ (s.pair.role = 2 → hb.fseq = s.pair.fseq → hb.fchain ≠ s.pair.fchain.toNat → v.pair.stale = true)
          ∧ (s.pair.role ≠ 2 ∨ (hb.fseq = s.pair.fseq ∧ hb.fchain = s.pair.fchain.toNat) → v.pair.stale = s.pair.stale)
          ∧ v.pair.role = s.pair.role ∧ v.cfg = s.cfg ∧ v.hive = s.hive) ∧
        (∀ fault sc, ∃ v : State, exec (.plFault t n fault sc) s = .next (v.finish u) ∧ v.pair.partner.selfCheck = sc
          ∧ (u.succUsable = false → v.pair.role = s.pair.role ∧ v.sys = s.sys ∧ v.hive = s.hive)
          ∧ (u.succUsable = true → v.pair.role = 1 ∧ v.pair.takeover = some (1, u.time.cyc))))) ∧
    (u.succUsable = true → s.linkUp = true → s.pair.hbAt.isSome = true → u.hbOk = false →
      ∃ v : State, exec (.hbTimeout t) s = .next (v.finish u) ∧ v.pair.role = 1 ∧ v.pair.activeOut = true ∧ v.pair.live = false
        ∧ v.pair.takeover = some (3, u.time.cyc) ∧ v.pair.primary = s.pair.succession ∧ v.pair.succession = none) ∧
    (s.pair.blind = true → s.linkUp = true →
      ∃ v : State, exec (.pairLinkUp t) s = .next (v.finish u) ∧ v.pair.blind = false ∧ v.pair.linkBack = true
        ∧ v.pair.hbAt = some u.time.cyc ∧ v.pair.role = s.pair.role ∧ v.sys = s.sys ∧ v.hive = s.hive) ∧
    (∀ b, Tab.get (fun _ => 0) s.pair.checks b ≠ 0 → Tab.get (fun _ => 0) s.pair.checks b + 2 * cycPerS ≤ u.time.cyc →
      ∃ v : State, exec (.selfCheckExpiry t b) s = .next (v.finish u) ∧ Tab.get (fun _ => 0) v.pair.checks b = 0
        ∧ (∀ j, j ≠ b → Tab.get (fun _ => 0) v.pair.checks j = Tab.get (fun _ => 0) s.pair.checks j) ∧ v.regs = s.regs
        ∧ v.hive = s.hive)

/-- Forwarded and timed commands (R569 to R571, R590): one that comes next in order and in time waits for its tick; at its tick it counts in `FSEQ` and has its
effect, and the hub that answers for it completes it; one sent with an apply time to a single hub has its effect at that time.
Where the rules leave it open it says the model's choice: log entries 52 and 67. -/
def Obligations.ForwardsComplete : Prop :=
  ∀ (s u : State) (t n : Nat), u = s.elapse t → s.sys.mode ≠ .hold →
    (∀ fseq tick p, s.isStandby = true → s.linkUp = true → s.pair.inSeq = none ∨ s.pair.inSeq = some (n % 65536) →
      fseq = nextFseq s.pair.fwdNext → u.time.now ≤ tickTime tick →
      ∃ v : State, exec (.plFwd t n fseq tick p) s = .next (v.finish u)
        ∧ v.pair.queue = s.pair.queue ++
          [{ fseq := fseq, tick := tick, pkt := { p with lane := 30 }, timed := false, answers := false }]
        ∧ v.pair.fwdNext = fseq ∧ v.pair.stale = s.pair.stale ∧ v.cfg = s.cfg ∧ v.regs = s.regs ∧ v.hive = s.hive) ∧
    (∀ f, s.pair.queue.find? (fun g => !g.timed && tickTime g.tick ≤ u.time.now) = some f →
      ∃ x : State, x.pair.queue = s.pair.queue.erase f ∧ x.pair.fseq = f.fseq ∧ x.cfg = s.cfg ∧ x.field = s.field ∧ x.trig = s.trig
        ∧ x.regs = s.regs ∧ x.hive = s.hive
        ∧ (f.answers = false → exec (.forwardApply t) s
            = .next ((x.applyPacket { f.pkt with lane := 30 } (Config.avsAnswer s.free)).2.finish u))
        ∧ (∀ st body y, f.answers = true → x.applyPacket f.pkt (Config.avsAnswer s.free) = (.done st body, y) →
            exec (.forwardApply t) s = .next ((y.complete f.pkt st body).finish u))) ∧
    (∀ f, s.pair.role = 0 → s.pair.queue.find? (fun g => g.timed && tickTime g.tick ≤ u.time.now) = some f → f.answers = true →
      ∃ x : State, x.pair.queue = s.pair.queue.erase f ∧ x.pair.fseq = s.pair.fseq ∧ x.cfg = s.cfg ∧ x.regs = s.regs
        ∧ x.hive = s.hive
        ∧ (∀ st body y, x.applyPacket f.pkt (Config.avsAnswer s.free) = (.done st body, y) →
            exec (.applyTimeReached t) s = .next ((y.complete f.pkt st body).finish u)))

/-- What the active tells its standby (R171, R567, R569, R573, R575, R582): acknowledgements release the standby's records; marks and local words are taken over;
the ticks a standby lacks are asked of the pod; a join boundary is noted by a hub that joins; and a `LEASE` relayed, its completion
and a revocation have their effect.
Where the rules leave it open it says the model's choice: log entries 74, 76, 77 and 154. -/
def Obligations.PairMessagesComplete : Prop :=
  ∀ (s u : State) (t n : Nat), u = s.elapse t → s.sys.mode ≠ .hold → s.linkUp = true →
    s.pair.inSeq = none ∨ s.pair.inSeq = some (n % 65536) →
    (∀ id k, s.isStandby = true → id ≠ 0 → (s.route id).isSome = true → (s.stream id).rseq ≠ 0 →
      (k + 2 ^ 32 - (s.stream id).acked) % 2 ^ 32 ≤ (((s.stream id).rseq + 2 ^ 32 - 1) % 2 ^ 32 + 2 ^ 32 - (s.stream id).acked) % 2 ^ 32 →
      ∃ v : State, exec (.plAck t n [(id, k)]) s = .next (v.finish u) ∧ (v.stream id).acked = k ∧ v.host = s.host.release id k
        ∧ (∀ j, j ≠ id → v.stream j = s.stream j) ∧ v.regs = s.regs ∧ v.hive = s.hive) ∧
    (∀ tick on, s.isStandby = true →
      ∃ v : State, exec (.plMark t n (.suspect tick on)) s = .next (v.finish u) ∧ v.time.suspect = on
        ∧ v.time.suspectMarks = (tick * 1250, on) :: s.time.suspectMarks ∧ v.streams = s.streams ∧ v.hive = s.hive) ∧
    (∀ time on, s.isStandby = true →
      ∃ v : State, exec (.plMark t n (.surge time on)) s = .next (v.finish u)
        ∧ v.time.surgeMarks = (time, on) :: s.time.surgeMarks ∧ v.field.surgeAt = s.field.surgeAt ∧ v.sys = s.sys ∧ v.hive = s.hive) ∧
    (∀ origin fid lat armed, s.isStandby = true →
      (s.pair.swarmWait.any fun w => w.1 == origin && w.2.1 == fid) = false →
      ∃ v : State, exec (.plMark t n (.swarm origin fid lat armed)) s = .next (v.finish u)
        ∧ v.pair.swarmMarks = s.pair.swarmMarks ++ [(origin, fid, lat, armed)] ∧ v.trig = s.trig ∧ v.hive = s.hive) ∧
    (∀ ch slot word stamp, s.isStandby = true → ch < s.localChs →
      ∃ (v : State) (ns : Nat), exec (.plLocal t n ch slot word stamp) s = .next (v.finish u)
        ∧ (v.local' ch).last = some (word, ns) ∧ (v.local' ch).restart = false ∧ (v.local' ch).fe = (s.local' ch).fe
        ∧ (∀ j, j ≠ ch → v.local' j = s.local' j) ∧ v.sys = s.sys ∧ v.hive.mem = s.hive.mem) ∧
    (∀ lane ticks, s.isActive = true → lane < s.podLanes →
      ∃ v : State, exec (.plTicks t n lane ticks) s = .next (v.finish u) ∧ (v.pod lane).partner = ticks
        ∧ (v.pod lane).running = (s.pod lane).running ∧ (∀ j, j ≠ lane → v.pod j = s.pod j) ∧ v.lanes = s.lanes ∧ v.hive = s.hive) ∧
    (∀ b es, s.pair.role = 3 →
      exec (.plJoin t n b es) s = .next (({ u with pair := { s.pair with
        inSeq := some ((n + 1) % 65536), joinAt := some b, joinEntries := es } } : State).finish u)) ∧
    (s.pair.role ≠ 0 →
      (∀ id, s.pair.primary.any (fun l => l.id == id) = false → s.pair.succession.any (fun l => l.id == id) = true →
        ∃ v : State, exec (.plLease t n (.revoke id)) s = .next (v.finish u) ∧ v.pair.succession = none
          ∧ v.pair.primary = s.pair.primary ∧ v.pair.role = s.pair.role ∧ v.regs = s.regs ∧ v.hive = s.hive) ∧
      (∀ p : Packet, byteAt p.payload 0 = 0 →
        ∃ v : State, exec (.plLease t n (.command p)) s = .next (v.finish u)
          ∧ v.plOut = [(s.pair.outSeq, .lease (.completion p.tag stOk u.leaseBody))] ∧ v.pair.primary = s.pair.primary
          ∧ v.pair.succession = s.pair.succession ∧ v.regs = s.regs ∧ v.hive = s.hive) ∧
      (∀ p : Packet, s.pair.role = 2 → s.hostless = false → p.payload.length = 12 → byteAt p.payload 0 = 2 → byteAt p.payload 1 < 2 →
        leAt p.payload 4 4 ≠ 0 → 1 ≤ leAt p.payload 8 4 → leAt p.payload 8 4 ≤ 60_000 → s.pair.succession = none →
        ∃ (v : State) (body : List Byte), exec (.plLease t n (.command p)) s = .next (v.finish u)
          ∧ v.plOut = [(s.pair.outSeq, .lease (.completion p.tag stOk body))]
          ∧ v.pair.succession = some { id := leAt p.payload 4 4, ends := some (u.time.cyc + leAt p.payload 8 4 * cycPerMs) }
          ∧ v.pair.primary = s.pair.primary ∧ v.pair.role = 2 ∧ v.regs = s.regs ∧ v.hive = s.hive) ∧
      (∀ tag st body r, s.pair.relayed.find? (fun r => r.1.tag == tag) = some r →
        ∃ w : State, exec (.plLease t n (.completion tag st body)) s = .next ((w.complete r.1 st body).finish u)
          ∧ w.pair.relayed = s.pair.relayed.erase r ∧ w.regs = s.regs ∧ w.hive = s.hive))

/-- Comparison and joining (R567, R573, R577, R578): a digest meets the packet it belongs to and both are counted as compared, or waits for it; those that have
waited `CMP_WAIT` are dropped, the first kind as a divergence of cause 2 where the hub is in step; a hub that has been locked for
1 s and runs the active's configuration asks to join, and the active answers with a boundary 10 ms or more ahead; swarm fires
whose mark has not come take effect without it.
Where the rules leave it open it says the model's choice: log entries 74, 75 and 76. -/
def Obligations.ComparisonComplete : Prop :=
  ∀ (s u : State) (t n : Nat), u = s.elapse t → s.sys.mode ≠ .hold →
    (∀ st r fr d, s.linkUp = true → s.pair.inSeq = none ∨ s.pair.inSeq = some (n % 65536) → s.comparing = true →
      (∀ e : DigestEntry, s.pair.mine.find? (fun x => x.stream == st && x.rseq == r && x.frag == fr) = none →
        e = { stream := st, rseq := r, frag := fr, digest := d, at' := u.time.cyc } →
        exec (.plDigest t n st r fr d) s = .next (({ u with pair := { s.pair with
          inSeq := some ((n + 1) % 65536), theirs := s.pair.theirs ++ [e] } } : State).finish u)) ∧
      (∀ x : DigestEntry, s.pair.mine.find? (fun x => x.stream == st && x.rseq == r && x.frag == fr) = some x → x.digest = d →
        ∃ v : State, exec (.plDigest t n st r fr d) s = .next (v.finish u) ∧ v.pair.mine = s.pair.mine.erase x
          ∧ v.pair.theirs = s.pair.theirs ∧ v.pair.compared = (s.pair.compared + 1) % 1024 ∧ st ∈ v.pair.seen
          ∧ v.pair.stale = s.pair.stale ∧ v.pair.role = s.pair.role ∧ v.hive = s.hive)) ∧
    (∀ old : DigestEntry → Bool, (∀ e, old e = decide (e.at' + s.cmpWait * cycPerMs ≤ u.time.cyc)) →
      (s.pair.theirs.filter old = [] → s.pair.mine.filter old = [] → exec (.cmpWaitExpiry t) s = .next (u.finish u)) ∧
      (∀ e, s.pair.theirs.filter old = [e] → s.pair.mine.filter old = [] → s.pair.inStep = true →
        ∃ v : State, exec (.cmpWaitExpiry t) s = .next (v.finish u) ∧ (∀ x ∈ v.pair.theirs, old x = false)
          ∧ v.pair.divStream = e.stream ∧ v.pair.divRseq = e.rseq ∧ v.pair.divFrag = e.frag ∧ v.pair.divCause = 2)) ∧
    (s.linkUp = true → s.pair.role = 3 → s.pair.joinAsked = false → s.pair.hbAt.isSome = true →
      (∀ c, s.pair.lockedAt = some c → c + cycPerS ≤ u.time.cyc →
        (s.cfg.crc = s.pair.partner.cfgCrc →
          exec (.pairJoinRequest t) s = .next (({ u with
            pair := { s.pair with joinAsked := true, outSeq := (s.pair.outSeq + 1) % 65536 }
            plOut := [(s.pair.outSeq, .joinRequest)] } : State).finish u)) ∧
        (s.cfg.crc ≠ s.pair.partner.cfgCrc → s.pair.cfgDiff = false →
          ∃ v : State, exec (.pairJoinRequest t) s = .next (v.finish u) ∧ v.pair = { s.pair with cfgDiff := true } ∧ v.plOut = []
            ∧ v.hive = s.hive))) ∧
    (∀ g, s.linkUp = true → s.pair.role = 1 → s.cfg.gridStart = some g →
      ∃ (v : State) (b : Nat) (es : List JoinEntry), exec (.pairJoinRequest t) s = .next (v.finish u) ∧ v.pair.joinAt = some b
        ∧ u.ns + 10_000_000 ≤ b ∧ v.pair.fwdNext = s.pair.fseq ∧ v.plOut = [(s.pair.outSeq, .join b es)] ∧ v.pair.role = 1
        ∧ v.regs = s.regs ∧ v.hive = s.hive) ∧
    ((∀ w ∈ s.pair.swarmWait, u.time.cyc < w.2.2.2.2 + plCycles) → exec (.markWaitExpiry t) s = .next (u.finish u)) ∧
    (∃ v : State, exec (.markWaitExpiry t) s = .next (v.finish u)
        ∧ v.pair.swarmWait = s.pair.swarmWait.filter (fun w => !(w.2.2.2.2 + plCycles ≤ u.time.cyc)) ∧ v.pair.role = s.pair.role
        ∧ v.cfg = s.cfg ∧ v.hive.mem = s.hive.mem)

/-- Roles and leases (R582 to R584, R586, R587): a new active goes live; a partner that rises with the higher lease makes this one give up its role; a
`LEASE` is answered with the leases, grants the primary to the active, goes to the partner it names, and ends a lease revoked;
one relayed and not answered for 1 ms completes with `TIMEOUT`; a lease that runs out is reported once, and the active keeps
its role.
Where the rules leave it open it says the model's choice: log entries 23, 72 and 77. -/
def Obligations.LeasesComplete : Prop :=
  ∀ (s u : State) (t : Nat) (p q : Packet), u = s.elapse t → s.sys.mode ≠ .hold →
    (s.pair.takeover.isSome = true →
      ∃ v : State, exec (.takeoverLive t) s = .next (v.finish u) ∧ v.pair.live = true ∧ v.pair.takeover = none
        ∧ v.pair.role = s.pair.role ∧ v.host.s = 0 ∧ v.hive = s.hive) ∧
    (s.pair.role ≠ 1 → exec (.partnerActiveRise t) s
      = .next (({ u with pair := { s.pair with partnerActive := true } } : State).finish u)) ∧
    (∀ l, s.pair.role = 1 → s.pair.primary = some l → l.id < max s.pair.partner.primId s.pair.partner.succId →
      ∃ v : State, exec (.partnerActiveRise t) s = .next (v.finish u) ∧ v.pair.role = 2 ∧ v.pair.activeOut = false
        ∧ v.pair.live = false ∧ v.pair.stale = true ∧ v.pair.partnerActive = true ∧ v.hive = s.hive) ∧
    (q = p.operating 0x40 0 → Takes u q → p.payload.length = 12 → p.addr.toNat ≤ 1 →
      s.pair.role = 0 ∨ p.addr.toNat = bnat s.sys.pairId →
      exec (.leaseRead t p) s = .next (((u.admitted q).complete q stOk u.leaseBody).finish u)) ∧
    (s.pair.role = 1 → s.hostless = false → p.payload.length = 12 → byteAt p.payload 1 < 2 → leAt p.payload 4 4 ≠ 0 →
      1 ≤ leAt p.payload 8 4 → leAt p.payload 8 4 ≤ 60_000 → p.addr.toNat ≤ 1 →
      (q = p.operating 0x40 1 → Takes u q → p.addr.toNat = bnat s.sys.pairId →
        s.pair.primary.elim 0 (·.id) ≤ leAt p.payload 4 4 →
        ∃ (w : State) (body : List Byte), exec (.leaseGrantPrimary t p) s = .next ((w.complete q stOk body).finish u)
          ∧ w.pair.primary = some { id := leAt p.payload 4 4, ends := some (u.time.cyc + leAt p.payload 8 4 * cycPerMs) }
          ∧ w.pair.succession = s.pair.succession ∧ w.pair.role = 1 ∧ body = w.leaseBody ∧ w.regs = s.regs ∧ w.hive = s.hive) ∧
      (q = p.operating 0x40 2 → Takes u q → p.addr.toNat ≠ bnat s.sys.pairId → s.linkUp = true →
        ∃ w : State, exec (.leaseGrantSuccession t p) s = .next (w.finish u)
          ∧ w.pair.relayed = s.pair.relayed ++ [(q, u.time.cyc)] ∧ w.plOut = [(s.pair.outSeq, .lease (.command q))]
          ∧ w.pair.primary = s.pair.primary ∧ w.pair.role = 1 ∧ w.regs = s.regs ∧ w.hive = s.hive) ∧
      (∀ l, q = p.operating 0x40 3 → Takes u q → p.addr.toNat = bnat s.sys.pairId → s.pair.primary = some l → l.id = leAt p.payload 4 4 →
        ∃ (w : State) (body : List Byte), exec (.leaseRevoke t p) s = .next ((w.complete q stOk body).finish u)
          ∧ w.pair.primary = none ∧ w.pair.role = 2 ∧ w.pair.activeOut = false ∧ w.pair.stale = true ∧ w.hive = s.hive)) ∧
    (∀ r, s.pair.relayed = [r] → r.2 + cycPerMs ≤ u.time.cyc →
      exec (.leaseRelayTimeout t) s
        = .next ((({ u with pair := { s.pair with relayed := [] } } : State).complete r.1 stTimeout []).finish u)) ∧
    (∀ id c, c ≠ 0 → c ≤ u.time.cyc →
      (s.pair.primary = some { id := id, ends := some c } →
        ∃ v : State, exec (.leaseExpired t false) s = .next (v.finish u) ∧ v.pair.primary = some { id := id, ends := some 0 }
          ∧ v.pair.succession = s.pair.succession ∧ v.pair.role = s.pair.role ∧ v.sys = s.sys ∧ v.hive = s.hive) ∧
      (s.pair.succession = some { id := id, ends := some c } →
        ∃ v : State, exec (.leaseExpired t true) s = .next (v.finish u) ∧ v.pair.succession = some { id := id, ends := some 0 }
          ∧ v.pair.primary = s.pair.primary ∧ v.pair.role = s.pair.role ∧ v.sys = s.sys ∧ v.hive = s.hive))

/-- `PAIR_FORCE` (R569, R570, R581, R588, R593): an active with its standby joined forwards each of the three for the apply tick it gives; one without declares
the fault at once, and takes a handover or rejoin that its partner could follow; a STALE standby asked over I²C joins again.
Where the rules leave it open it says the model's choice: log entries 53, 68 and 69. -/
def Obligations.PairForceComplete : Prop :=
  ∀ (s u : State) (t : Nat) (p q : Packet), u = s.elapse t → s.sys.mode ≠ .hold →
    (∀ c ∈ [(Instr.pairHandover t p, 1), (Instr.pairRejoin t p, 2), (Instr.pairDeclareFault t p, 3)],
      q = p.guarding 0x000C_001C c.2 → q.port = .host → q.lseq.toNat = s.ports.expect → s.ports.held = [] →
      s.inboundFill + 24 ≤ 65536 → s.inFlight q = false → s.mustWait q = false → s.elsewhere q = false → s.serves q = true →
      q.pflag 2 = false → u.forwards = true →
      ∃ (v : State) (tick : Nat), exec c.1 s = .next (v.finish u) ∧ u.time.now + s.pairLat * 1250 * unitsPerNs ≤ tickTime tick
        ∧ v.pair.queue = s.pair.queue ++
          [{ fseq := nextFseq s.pair.fwdNext, tick := tick, pkt := { q with delta := none }, timed := false, answers := true }]
        ∧ v.plOut = [(s.pair.outSeq, .fwd (nextFseq s.pair.fwdNext) tick { q with delta := none })] ∧ v.pair.role = s.pair.role ∧ v.sys = s.sys
        ∧ v.regs = s.regs ∧ v.hive = s.hive) ∧
    (s.pair.role = 1 →
      (q = p.guarding 0x000C_001C 1 → Takes u q → u.partnerUsable = true →
        ∃ w : State, exec (.pairHandover t p) s = .next ((w.complete q stOk []).finish u) ∧ w.pair = s.pair ∧ w.hive = s.hive) ∧
      (q = p.guarding 0x000C_001C 2 → Takes u q → s.linkUp = true →
        ∃ w : State, exec (.pairRejoin t p) s = .next ((w.complete q stOk []).finish u) ∧ w.pair = s.pair ∧ w.hive = s.hive) ∧
      (q = p.guarding 0x000C_001C 3 → Takes u q → s.linkUp = true →
        ∃ w : State, exec (.pairDeclareFault t p) s = .next ((w.complete q stOk []).finish u)
          ∧ w.plOut = [(s.pair.outSeq, .fault 3 u.selfCheck)] ∧ w.pair.role = 1 ∧ w.sys = s.sys ∧ w.hive = s.hive)) ∧
    (q = p.guarding 0x000C_001C 2 → p.port = .i2c → p.lane ≠ 30 → s.pair.role = 2 → s.pair.stale = true → s.inFlight q = false →
      s.mustWait q = false → s.elsewhere q = false → s.serves q = true → q.pflag 2 = false → (s.port .i2c).guard = none →
      ∃ w : State, exec (.pairRejoin t p) s = .next ((w.complete q stOk []).finish u) ∧ w.pair.role = 3 ∧ w.pair.stale = false
        ∧ w.pair.joinAsked = false ∧ w.pair.joinAt = none ∧ w.sys = s.sys ∧ w.hive = s.hive)
end

