-- ==== Sys2Proof/Laws/Bits.lean ====
section
/-! SUPPORT. Laws of little-endian packing: a number's bytes hold the number. -/

namespace Sys2Proof

@[simp] theorem length_toLE (n v : Nat) : (toLE n v).length = n := by
  induction n generalizing v with
  | zero => rfl
  | succ n ih => simp [toLE, ih]

/-- Bytes written and read back hold the number, to their width. -/
@[simp] theorem fromLE_toLE (n v : Nat) : fromLE (toLE n v) = v % 256 ^ n := by
  induction n generalizing v with
  | zero => simp [toLE, fromLE, Nat.mod_one]
  | succ n ih =>
    have h : (BitVec.ofNat 8 v).toNat = v % 256 := by simp
    rw [toLE, fromLE, ih, h, pow_succ, mul_comm (256 ^ n) 256, Nat.mod_mul]

theorem fromLE_lt (bs : List Byte) : fromLE bs < 256 ^ bs.length := by
  induction bs with
  | nil => simp [fromLE]
  | cons b bs ih =>
    have hb : b.toNat < 256 := b.isLt
    rw [fromLE, List.length_cons, pow_succ]
    omega

/-- A field at the front of packed bytes. -/
theorem leAt_toLE (n v : Nat) (bs : List Byte) : leAt (toLE n v ++ bs) 0 n = v % 256 ^ n := by
  rw [leAt, List.drop_zero, List.take_left' (length_toLE n v), fromLE_toLE]

theorem leAt_toLE_self (n v : Nat) : leAt (toLE n v) 0 n = v % 256 ^ n := by
  simpa using leAt_toLE n v []

end Sys2Proof
end

