-- ==== Sys2Proof/Laws/Ops.lean ====
section
/-! SUPPORT. Frames of the shared operations: what counting, raising an event, putting a message on a lane and answering a
command leave as it was, one lemma per field, and what each of them does to the fields it changes. -/

namespace Sys2Proof.Machine

@[simp] theorem State.setReg_sys (s : State) (a : Nat) (v : Word) : (s.setReg a v).sys = s.sys := by
  rfl

@[simp] theorem State.setReg_time (s : State) (a : Nat) (v : Word) : (s.setReg a v).time = s.time := by
  rfl

@[simp] theorem State.setReg_cfg (s : State) (a : Nat) (v : Word) : (s.setReg a v).cfg = s.cfg := by
  rfl

@[simp] theorem State.setReg_ports (s : State) (a : Nat) (v : Word) : (s.setReg a v).ports = s.ports := by
  rfl

@[simp] theorem State.setReg_ev (s : State) (a : Nat) (v : Word) : (s.setReg a v).ev = s.ev := by
  rfl

@[simp] theorem State.setReg_host (s : State) (a : Nat) (v : Word) : (s.setReg a v).host = s.host := by
  rfl

@[simp] theorem State.setReg_drip (s : State) (a : Nat) (v : Word) : (s.setReg a v).drip = s.drip := by
  rfl

@[simp] theorem State.setReg_streams (s : State) (a : Nat) (v : Word) : (s.setReg a v).streams = s.streams := by
  rfl

@[simp] theorem State.setReg_field (s : State) (a : Nat) (v : Word) : (s.setReg a v).field = s.field := by
  rfl

@[simp] theorem State.setReg_pods (s : State) (a : Nat) (v : Word) : (s.setReg a v).pods = s.pods := by
  rfl

@[simp] theorem State.setReg_chains (s : State) (a : Nat) (v : Word) : (s.setReg a v).chains = s.chains := by
  rfl

@[simp] theorem State.setReg_nx (s : State) (a : Nat) (v : Word) : (s.setReg a v).nx = s.nx := by
  rfl

@[simp] theorem State.setReg_lanes (s : State) (a : Nat) (v : Word) : (s.setReg a v).lanes = s.lanes := by
  rfl

@[simp] theorem State.setReg_trig (s : State) (a : Nat) (v : Word) : (s.setReg a v).trig = s.trig := by
  rfl

@[simp] theorem State.setReg_hive (s : State) (a : Nat) (v : Word) : (s.setReg a v).hive = s.hive := by
  rfl

@[simp] theorem State.setReg_comb (s : State) (a : Nat) (v : Word) : (s.setReg a v).comb = s.comb := by
  rfl

@[simp] theorem State.setReg_pair (s : State) (a : Nat) (v : Word) : (s.setReg a v).pair = s.pair := by
  rfl

@[simp] theorem State.setReg_clk (s : State) (a : Nat) (v : Word) : (s.setReg a v).clk = s.clk := by
  rfl

@[simp] theorem State.setReg_wire (s : State) (a : Nat) (v : Word) : (s.setReg a v).wire = s.wire := by
  rfl

@[simp] theorem State.setReg_returned (s : State) (a : Nat) (v : Word) : (s.setReg a v).returned = s.returned := by
  rfl

@[simp] theorem State.setReg_plOut (s : State) (a : Nat) (v : Word) : (s.setReg a v).plOut = s.plOut := by
  rfl

@[simp] theorem State.setReg_free (s : State) (a : Nat) (v : Word) : (s.setReg a v).free = s.free := by
  rfl

@[simp] theorem State.setReg_pending (s : State) (a : Nat) (v : Word) : (s.setReg a v).pending = s.pending := by
  rfl

@[simp] theorem State.countQuiet_sys (s : State) (a : Nat) : (s.countQuiet a).sys = s.sys := by
  unfold State.countQuiet; split <;> rfl

@[simp] theorem State.countQuiet_time (s : State) (a : Nat) : (s.countQuiet a).time = s.time := by
  unfold State.countQuiet; split <;> rfl

@[simp] theorem State.countQuiet_cfg (s : State) (a : Nat) : (s.countQuiet a).cfg = s.cfg := by
  unfold State.countQuiet; split <;> rfl

@[simp] theorem State.countQuiet_ports (s : State) (a : Nat) : (s.countQuiet a).ports = s.ports := by
  unfold State.countQuiet; split <;> rfl

@[simp] theorem State.countQuiet_ev (s : State) (a : Nat) : (s.countQuiet a).ev = s.ev := by
  unfold State.countQuiet; split <;> rfl

@[simp] theorem State.countQuiet_host (s : State) (a : Nat) : (s.countQuiet a).host = s.host := by
  unfold State.countQuiet; split <;> rfl

@[simp] theorem State.countQuiet_drip (s : State) (a : Nat) : (s.countQuiet a).drip = s.drip := by
  unfold State.countQuiet; split <;> rfl

@[simp] theorem State.countQuiet_streams (s : State) (a : Nat) : (s.countQuiet a).streams = s.streams := by
  unfold State.countQuiet; split <;> rfl

@[simp] theorem State.countQuiet_field (s : State) (a : Nat) : (s.countQuiet a).field = s.field := by
  unfold State.countQuiet; split <;> rfl

@[simp] theorem State.countQuiet_pods (s : State) (a : Nat) : (s.countQuiet a).pods = s.pods := by
  unfold State.countQuiet; split <;> rfl

@[simp] theorem State.countQuiet_chains (s : State) (a : Nat) : (s.countQuiet a).chains = s.chains := by
  unfold State.countQuiet; split <;> rfl

@[simp] theorem State.countQuiet_nx (s : State) (a : Nat) : (s.countQuiet a).nx = s.nx := by
  unfold State.countQuiet; split <;> rfl

@[simp] theorem State.countQuiet_lanes (s : State) (a : Nat) : (s.countQuiet a).lanes = s.lanes := by
  unfold State.countQuiet; split <;> rfl

@[simp] theorem State.countQuiet_trig (s : State) (a : Nat) : (s.countQuiet a).trig = s.trig := by
  unfold State.countQuiet; split <;> rfl

@[simp] theorem State.countQuiet_hive (s : State) (a : Nat) : (s.countQuiet a).hive = s.hive := by
  unfold State.countQuiet; split <;> rfl

@[simp] theorem State.countQuiet_comb (s : State) (a : Nat) : (s.countQuiet a).comb = s.comb := by
  unfold State.countQuiet; split <;> rfl

@[simp] theorem State.countQuiet_pair (s : State) (a : Nat) : (s.countQuiet a).pair = s.pair := by
  unfold State.countQuiet; split <;> rfl

@[simp] theorem State.countQuiet_clk (s : State) (a : Nat) : (s.countQuiet a).clk = s.clk := by
  unfold State.countQuiet; split <;> rfl

@[simp] theorem State.countQuiet_wire (s : State) (a : Nat) : (s.countQuiet a).wire = s.wire := by
  unfold State.countQuiet; split <;> rfl

@[simp] theorem State.countQuiet_returned (s : State) (a : Nat) : (s.countQuiet a).returned = s.returned := by
  unfold State.countQuiet; split <;> rfl

@[simp] theorem State.countQuiet_plOut (s : State) (a : Nat) : (s.countQuiet a).plOut = s.plOut := by
  unfold State.countQuiet; split <;> rfl

@[simp] theorem State.countQuiet_free (s : State) (a : Nat) : (s.countQuiet a).free = s.free := by
  unfold State.countQuiet; split <;> rfl

@[simp] theorem State.countQuiet_pending (s : State) (a : Nat) : (s.countQuiet a).pending = s.pending := by
  unfold State.countQuiet; split <;> rfl

@[simp] theorem State.closeEvents_sys (s : State) : (s.closeEvents).sys = s.sys := by
  unfold State.closeEvents; split; · rfl
  · dsimp only; split <;> rfl

@[simp] theorem State.closeEvents_time (s : State) : (s.closeEvents).time = s.time := by
  unfold State.closeEvents; split; · rfl
  · dsimp only; split <;> rfl

@[simp] theorem State.closeEvents_cfg (s : State) : (s.closeEvents).cfg = s.cfg := by
  unfold State.closeEvents; split; · rfl
  · dsimp only; split <;> rfl

@[simp] theorem State.closeEvents_ports (s : State) : (s.closeEvents).ports = s.ports := by
  unfold State.closeEvents; split; · rfl
  · dsimp only; split <;> rfl

@[simp] theorem State.closeEvents_drip (s : State) : (s.closeEvents).drip = s.drip := by
  unfold State.closeEvents; split; · rfl
  · dsimp only; split <;> rfl

@[simp] theorem State.closeEvents_streams (s : State) : (s.closeEvents).streams = s.streams := by
  unfold State.closeEvents; split; · rfl
  · dsimp only; split <;> rfl

@[simp] theorem State.closeEvents_regs (s : State) : (s.closeEvents).regs = s.regs := by
  unfold State.closeEvents; split; · rfl
  · dsimp only; split <;> rfl

@[simp] theorem State.closeEvents_field (s : State) : (s.closeEvents).field = s.field := by
  unfold State.closeEvents; split; · rfl
  · dsimp only; split <;> rfl

@[simp] theorem State.closeEvents_pods (s : State) : (s.closeEvents).pods = s.pods := by
  unfold State.closeEvents; split; · rfl
  · dsimp only; split <;> rfl

@[simp] theorem State.closeEvents_chains (s : State) : (s.closeEvents).chains = s.chains := by
  unfold State.closeEvents; split; · rfl
  · dsimp only; split <;> rfl

@[simp] theorem State.closeEvents_nx (s : State) : (s.closeEvents).nx = s.nx := by
  unfold State.closeEvents; split; · rfl
  · dsimp only; split <;> rfl

@[simp] theorem State.closeEvents_lanes (s : State) : (s.closeEvents).lanes = s.lanes := by
  unfold State.closeEvents; split; · rfl
  · dsimp only; split <;> rfl

@[simp] theorem State.closeEvents_trig (s : State) : (s.closeEvents).trig = s.trig := by
  unfold State.closeEvents; split; · rfl
  · dsimp only; split <;> rfl

@[simp] theorem State.closeEvents_hive (s : State) : (s.closeEvents).hive = s.hive := by
  unfold State.closeEvents; split; · rfl
  · dsimp only; split <;> rfl

@[simp] theorem State.closeEvents_comb (s : State) : (s.closeEvents).comb = s.comb := by
  unfold State.closeEvents; split; · rfl
  · dsimp only; split <;> rfl

@[simp] theorem State.closeEvents_pair (s : State) : (s.closeEvents).pair = s.pair := by
  unfold State.closeEvents; split; · rfl
  · dsimp only; split <;> rfl

@[simp] theorem State.closeEvents_clk (s : State) : (s.closeEvents).clk = s.clk := by
  unfold State.closeEvents; split; · rfl
  · dsimp only; split <;> rfl

@[simp] theorem State.closeEvents_wire (s : State) : (s.closeEvents).wire = s.wire := by
  unfold State.closeEvents; split; · rfl
  · dsimp only; split <;> rfl

@[simp] theorem State.closeEvents_returned (s : State) : (s.closeEvents).returned = s.returned := by
  unfold State.closeEvents; split; · rfl
  · dsimp only; split <;> rfl

@[simp] theorem State.closeEvents_plOut (s : State) : (s.closeEvents).plOut = s.plOut := by
  unfold State.closeEvents; split; · rfl
  · dsimp only; split <;> rfl

@[simp] theorem State.closeEvents_free (s : State) : (s.closeEvents).free = s.free := by
  unfold State.closeEvents; split; · rfl
  · dsimp only; split <;> rfl

@[simp] theorem State.closeEvents_pending (s : State) : (s.closeEvents).pending = s.pending := by
  unfold State.closeEvents; split; · rfl
  · dsimp only; split <;> rfl

@[simp] theorem State.pushEvent_sys (s : State) (e : Event) : (s.pushEvent e).sys = s.sys := by
  unfold State.pushEvent; dsimp only; split <;> simp

@[simp] theorem State.pushEvent_time (s : State) (e : Event) : (s.pushEvent e).time = s.time := by
  unfold State.pushEvent; dsimp only; split <;> simp

@[simp] theorem State.pushEvent_cfg (s : State) (e : Event) : (s.pushEvent e).cfg = s.cfg := by
  unfold State.pushEvent; dsimp only; split <;> simp

@[simp] theorem State.pushEvent_ports (s : State) (e : Event) : (s.pushEvent e).ports = s.ports := by
  unfold State.pushEvent; dsimp only; split <;> simp

@[simp] theorem State.pushEvent_drip (s : State) (e : Event) : (s.pushEvent e).drip = s.drip := by
  unfold State.pushEvent; dsimp only; split <;> simp

@[simp] theorem State.pushEvent_streams (s : State) (e : Event) : (s.pushEvent e).streams = s.streams := by
  unfold State.pushEvent; dsimp only; split <;> simp

@[simp] theorem State.pushEvent_regs (s : State) (e : Event) : (s.pushEvent e).regs = s.regs := by
  unfold State.pushEvent; dsimp only; split <;> simp

@[simp] theorem State.pushEvent_field (s : State) (e : Event) : (s.pushEvent e).field = s.field := by
  unfold State.pushEvent; dsimp only; split <;> simp

@[simp] theorem State.pushEvent_pods (s : State) (e : Event) : (s.pushEvent e).pods = s.pods := by
  unfold State.pushEvent; dsimp only; split <;> simp

@[simp] theorem State.pushEvent_chains (s : State) (e : Event) : (s.pushEvent e).chains = s.chains := by
  unfold State.pushEvent; dsimp only; split <;> simp

@[simp] theorem State.pushEvent_nx (s : State) (e : Event) : (s.pushEvent e).nx = s.nx := by
  unfold State.pushEvent; dsimp only; split <;> simp

@[simp] theorem State.pushEvent_lanes (s : State) (e : Event) : (s.pushEvent e).lanes = s.lanes := by
  unfold State.pushEvent; dsimp only; split <;> simp

@[simp] theorem State.pushEvent_trig (s : State) (e : Event) : (s.pushEvent e).trig = s.trig := by
  unfold State.pushEvent; dsimp only; split <;> simp

@[simp] theorem State.pushEvent_hive (s : State) (e : Event) : (s.pushEvent e).hive = s.hive := by
  unfold State.pushEvent; dsimp only; split <;> simp

@[simp] theorem State.pushEvent_comb (s : State) (e : Event) : (s.pushEvent e).comb = s.comb := by
  unfold State.pushEvent; dsimp only; split <;> simp

@[simp] theorem State.pushEvent_pair (s : State) (e : Event) : (s.pushEvent e).pair = s.pair := by
  unfold State.pushEvent; dsimp only; split <;> simp

@[simp] theorem State.pushEvent_clk (s : State) (e : Event) : (s.pushEvent e).clk = s.clk := by
  unfold State.pushEvent; dsimp only; split <;> simp

@[simp] theorem State.pushEvent_wire (s : State) (e : Event) : (s.pushEvent e).wire = s.wire := by
  unfold State.pushEvent; dsimp only; split <;> simp

@[simp] theorem State.pushEvent_returned (s : State) (e : Event) : (s.pushEvent e).returned = s.returned := by
  unfold State.pushEvent; dsimp only; split <;> simp

@[simp] theorem State.pushEvent_plOut (s : State) (e : Event) : (s.pushEvent e).plOut = s.plOut := by
  unfold State.pushEvent; dsimp only; split <;> simp

@[simp] theorem State.pushEvent_free (s : State) (e : Event) : (s.pushEvent e).free = s.free := by
  unfold State.pushEvent; dsimp only; split <;> simp

@[simp] theorem State.pushEvent_pending (s : State) (e : Event) : (s.pushEvent e).pending = s.pending := by
  unfold State.pushEvent; dsimp only; split <;> simp

@[simp] theorem State.sendEvt_sys (s : State) (e : Event) : (s.sendEvt e).sys = s.sys := by
  unfold State.sendEvt; split; · rfl
  · split <;> simp

@[simp] theorem State.sendEvt_time (s : State) (e : Event) : (s.sendEvt e).time = s.time := by
  unfold State.sendEvt; split; · rfl
  · split <;> simp

@[simp] theorem State.sendEvt_cfg (s : State) (e : Event) : (s.sendEvt e).cfg = s.cfg := by
  unfold State.sendEvt; split; · rfl
  · split <;> simp

@[simp] theorem State.sendEvt_ports (s : State) (e : Event) : (s.sendEvt e).ports = s.ports := by
  unfold State.sendEvt; split; · rfl
  · split <;> simp

@[simp] theorem State.sendEvt_ev (s : State) (e : Event) : (s.sendEvt e).ev = s.ev := by
  unfold State.sendEvt; split; · rfl
  · split <;> simp

@[simp] theorem State.sendEvt_drip (s : State) (e : Event) : (s.sendEvt e).drip = s.drip := by
  unfold State.sendEvt; split; · rfl
  · split <;> simp

@[simp] theorem State.sendEvt_streams (s : State) (e : Event) : (s.sendEvt e).streams = s.streams := by
  unfold State.sendEvt; split; · rfl
  · split <;> simp

@[simp] theorem State.sendEvt_field (s : State) (e : Event) : (s.sendEvt e).field = s.field := by
  unfold State.sendEvt; split; · rfl
  · split <;> simp

@[simp] theorem State.sendEvt_pods (s : State) (e : Event) : (s.sendEvt e).pods = s.pods := by
  unfold State.sendEvt; split; · rfl
  · split <;> simp

@[simp] theorem State.sendEvt_chains (s : State) (e : Event) : (s.sendEvt e).chains = s.chains := by
  unfold State.sendEvt; split; · rfl
  · split <;> simp

@[simp] theorem State.sendEvt_nx (s : State) (e : Event) : (s.sendEvt e).nx = s.nx := by
  unfold State.sendEvt; split; · rfl
  · split <;> simp

@[simp] theorem State.sendEvt_lanes (s : State) (e : Event) : (s.sendEvt e).lanes = s.lanes := by
  unfold State.sendEvt; split; · rfl
  · split <;> simp

@[simp] theorem State.sendEvt_trig (s : State) (e : Event) : (s.sendEvt e).trig = s.trig := by
  unfold State.sendEvt; split; · rfl
  · split <;> simp

@[simp] theorem State.sendEvt_hive (s : State) (e : Event) : (s.sendEvt e).hive = s.hive := by
  unfold State.sendEvt; split; · rfl
  · split <;> simp

@[simp] theorem State.sendEvt_comb (s : State) (e : Event) : (s.sendEvt e).comb = s.comb := by
  unfold State.sendEvt; split; · rfl
  · split <;> simp

@[simp] theorem State.sendEvt_pair (s : State) (e : Event) : (s.sendEvt e).pair = s.pair := by
  unfold State.sendEvt; split; · rfl
  · split <;> simp

@[simp] theorem State.sendEvt_clk (s : State) (e : Event) : (s.sendEvt e).clk = s.clk := by
  unfold State.sendEvt; split; · rfl
  · split <;> simp

@[simp] theorem State.sendEvt_wire (s : State) (e : Event) : (s.sendEvt e).wire = s.wire := by
  unfold State.sendEvt; split; · rfl
  · split <;> simp

@[simp] theorem State.sendEvt_returned (s : State) (e : Event) : (s.sendEvt e).returned = s.returned := by
  unfold State.sendEvt; split; · rfl
  · split <;> simp

@[simp] theorem State.sendEvt_plOut (s : State) (e : Event) : (s.sendEvt e).plOut = s.plOut := by
  unfold State.sendEvt; split; · rfl
  · split <;> simp

@[simp] theorem State.sendEvt_free (s : State) (e : Event) : (s.sendEvt e).free = s.free := by
  unfold State.sendEvt; split; · rfl
  · split <;> simp

@[simp] theorem State.sendEvt_pending (s : State) (e : Event) : (s.sendEvt e).pending = s.pending := by
  unfold State.sendEvt; split; · rfl
  · split <;> simp

@[simp] theorem State.queueI2c_sys (s : State) (e : Event) : (s.queueI2c e).sys = s.sys := by
  unfold State.queueI2c; split <;> simp

@[simp] theorem State.queueI2c_time (s : State) (e : Event) : (s.queueI2c e).time = s.time := by
  unfold State.queueI2c; split <;> simp

@[simp] theorem State.queueI2c_cfg (s : State) (e : Event) : (s.queueI2c e).cfg = s.cfg := by
  unfold State.queueI2c; split <;> simp

@[simp] theorem State.queueI2c_ev (s : State) (e : Event) : (s.queueI2c e).ev = s.ev := by
  unfold State.queueI2c; split <;> simp

@[simp] theorem State.queueI2c_host (s : State) (e : Event) : (s.queueI2c e).host = s.host := by
  unfold State.queueI2c; split <;> simp

@[simp] theorem State.queueI2c_drip (s : State) (e : Event) : (s.queueI2c e).drip = s.drip := by
  unfold State.queueI2c; split <;> simp

@[simp] theorem State.queueI2c_streams (s : State) (e : Event) : (s.queueI2c e).streams = s.streams := by
  unfold State.queueI2c; split <;> simp

@[simp] theorem State.queueI2c_field (s : State) (e : Event) : (s.queueI2c e).field = s.field := by
  unfold State.queueI2c; split <;> simp

@[simp] theorem State.queueI2c_pods (s : State) (e : Event) : (s.queueI2c e).pods = s.pods := by
  unfold State.queueI2c; split <;> simp

@[simp] theorem State.queueI2c_chains (s : State) (e : Event) : (s.queueI2c e).chains = s.chains := by
  unfold State.queueI2c; split <;> simp

@[simp] theorem State.queueI2c_nx (s : State) (e : Event) : (s.queueI2c e).nx = s.nx := by
  unfold State.queueI2c; split <;> simp

@[simp] theorem State.queueI2c_lanes (s : State) (e : Event) : (s.queueI2c e).lanes = s.lanes := by
  unfold State.queueI2c; split <;> simp

@[simp] theorem State.queueI2c_trig (s : State) (e : Event) : (s.queueI2c e).trig = s.trig := by
  unfold State.queueI2c; split <;> simp

@[simp] theorem State.queueI2c_hive (s : State) (e : Event) : (s.queueI2c e).hive = s.hive := by
  unfold State.queueI2c; split <;> simp

@[simp] theorem State.queueI2c_comb (s : State) (e : Event) : (s.queueI2c e).comb = s.comb := by
  unfold State.queueI2c; split <;> simp

@[simp] theorem State.queueI2c_pair (s : State) (e : Event) : (s.queueI2c e).pair = s.pair := by
  unfold State.queueI2c; split <;> simp

@[simp] theorem State.queueI2c_clk (s : State) (e : Event) : (s.queueI2c e).clk = s.clk := by
  unfold State.queueI2c; split <;> simp

@[simp] theorem State.queueI2c_wire (s : State) (e : Event) : (s.queueI2c e).wire = s.wire := by
  unfold State.queueI2c; split <;> simp

@[simp] theorem State.queueI2c_returned (s : State) (e : Event) : (s.queueI2c e).returned = s.returned := by
  unfold State.queueI2c; split <;> simp

@[simp] theorem State.queueI2c_plOut (s : State) (e : Event) : (s.queueI2c e).plOut = s.plOut := by
  unfold State.queueI2c; split <;> simp

@[simp] theorem State.queueI2c_free (s : State) (e : Event) : (s.queueI2c e).free = s.free := by
  unfold State.queueI2c; split <;> simp

@[simp] theorem State.queueI2c_pending (s : State) (e : Event) : (s.queueI2c e).pending = s.pending := by
  unfold State.queueI2c; split <;> simp

@[simp] theorem State.place_sys (s : State) (c u : Nat) (a : List Word) : (s.place c u a).sys = s.sys := by
  unfold State.place; dsimp only; repeat' split
  all_goals simp

@[simp] theorem State.place_time (s : State) (c u : Nat) (a : List Word) : (s.place c u a).time = s.time := by
  unfold State.place; dsimp only; repeat' split
  all_goals simp

@[simp] theorem State.place_cfg (s : State) (c u : Nat) (a : List Word) : (s.place c u a).cfg = s.cfg := by
  unfold State.place; dsimp only; repeat' split
  all_goals simp

@[simp] theorem State.place_drip (s : State) (c u : Nat) (a : List Word) : (s.place c u a).drip = s.drip := by
  unfold State.place; dsimp only; repeat' split
  all_goals simp

@[simp] theorem State.place_streams (s : State) (c u : Nat) (a : List Word) : (s.place c u a).streams = s.streams := by
  unfold State.place; dsimp only; repeat' split
  all_goals simp

@[simp] theorem State.place_field (s : State) (c u : Nat) (a : List Word) : (s.place c u a).field = s.field := by
  unfold State.place; dsimp only; repeat' split
  all_goals simp

@[simp] theorem State.place_pods (s : State) (c u : Nat) (a : List Word) : (s.place c u a).pods = s.pods := by
  unfold State.place; dsimp only; repeat' split
  all_goals simp

@[simp] theorem State.place_chains (s : State) (c u : Nat) (a : List Word) : (s.place c u a).chains = s.chains := by
  unfold State.place; dsimp only; repeat' split
  all_goals simp

@[simp] theorem State.place_nx (s : State) (c u : Nat) (a : List Word) : (s.place c u a).nx = s.nx := by
  unfold State.place; dsimp only; repeat' split
  all_goals simp

@[simp] theorem State.place_lanes (s : State) (c u : Nat) (a : List Word) : (s.place c u a).lanes = s.lanes := by
  unfold State.place; dsimp only; repeat' split
  all_goals simp

@[simp] theorem State.place_trig (s : State) (c u : Nat) (a : List Word) : (s.place c u a).trig = s.trig := by
  unfold State.place; dsimp only; repeat' split
  all_goals simp

@[simp] theorem State.place_hive (s : State) (c u : Nat) (a : List Word) : (s.place c u a).hive = s.hive := by
  unfold State.place; dsimp only; repeat' split
  all_goals simp

@[simp] theorem State.place_comb (s : State) (c u : Nat) (a : List Word) : (s.place c u a).comb = s.comb := by
  unfold State.place; dsimp only; repeat' split
  all_goals simp

@[simp] theorem State.place_pair (s : State) (c u : Nat) (a : List Word) : (s.place c u a).pair = s.pair := by
  unfold State.place; dsimp only; repeat' split
  all_goals simp

@[simp] theorem State.place_clk (s : State) (c u : Nat) (a : List Word) : (s.place c u a).clk = s.clk := by
  unfold State.place; dsimp only; repeat' split
  all_goals simp

@[simp] theorem State.place_wire (s : State) (c u : Nat) (a : List Word) : (s.place c u a).wire = s.wire := by
  unfold State.place; dsimp only; repeat' split
  all_goals simp

@[simp] theorem State.place_returned (s : State) (c u : Nat) (a : List Word) : (s.place c u a).returned = s.returned := by
  unfold State.place; dsimp only; repeat' split
  all_goals simp

@[simp] theorem State.place_plOut (s : State) (c u : Nat) (a : List Word) : (s.place c u a).plOut = s.plOut := by
  unfold State.place; dsimp only; repeat' split
  all_goals simp

@[simp] theorem State.place_free (s : State) (c u : Nat) (a : List Word) : (s.place c u a).free = s.free := by
  unfold State.place; dsimp only; repeat' split
  all_goals simp

@[simp] theorem State.place_pending (s : State) (c u : Nat) (a : List Word) : (s.place c u a).pending = s.pending := by
  unfold State.place; dsimp only; repeat' split
  all_goals simp

@[simp] theorem State.overflowOf_sys (o s : State) (a : Nat) : (State.overflowOf o s a).sys = s.sys := by
  unfold State.overflowOf; split <;> simp

@[simp] theorem State.overflowOf_time (o s : State) (a : Nat) : (State.overflowOf o s a).time = s.time := by
  unfold State.overflowOf; split <;> simp

@[simp] theorem State.overflowOf_cfg (o s : State) (a : Nat) : (State.overflowOf o s a).cfg = s.cfg := by
  unfold State.overflowOf; split <;> simp

@[simp] theorem State.overflowOf_drip (o s : State) (a : Nat) : (State.overflowOf o s a).drip = s.drip := by
  unfold State.overflowOf; split <;> simp

@[simp] theorem State.overflowOf_streams (o s : State) (a : Nat) : (State.overflowOf o s a).streams = s.streams := by
  unfold State.overflowOf; split <;> simp

@[simp] theorem State.overflowOf_field (o s : State) (a : Nat) : (State.overflowOf o s a).field = s.field := by
  unfold State.overflowOf; split <;> simp

@[simp] theorem State.overflowOf_pods (o s : State) (a : Nat) : (State.overflowOf o s a).pods = s.pods := by
  unfold State.overflowOf; split <;> simp

@[simp] theorem State.overflowOf_chains (o s : State) (a : Nat) : (State.overflowOf o s a).chains = s.chains := by
  unfold State.overflowOf; split <;> simp

@[simp] theorem State.overflowOf_nx (o s : State) (a : Nat) : (State.overflowOf o s a).nx = s.nx := by
  unfold State.overflowOf; split <;> simp

@[simp] theorem State.overflowOf_lanes (o s : State) (a : Nat) : (State.overflowOf o s a).lanes = s.lanes := by
  unfold State.overflowOf; split <;> simp

@[simp] theorem State.overflowOf_trig (o s : State) (a : Nat) : (State.overflowOf o s a).trig = s.trig := by
  unfold State.overflowOf; split <;> simp

@[simp] theorem State.overflowOf_hive (o s : State) (a : Nat) : (State.overflowOf o s a).hive = s.hive := by
  unfold State.overflowOf; split <;> simp

@[simp] theorem State.overflowOf_comb (o s : State) (a : Nat) : (State.overflowOf o s a).comb = s.comb := by
  unfold State.overflowOf; split <;> simp

@[simp] theorem State.overflowOf_pair (o s : State) (a : Nat) : (State.overflowOf o s a).pair = s.pair := by
  unfold State.overflowOf; split <;> simp

@[simp] theorem State.overflowOf_clk (o s : State) (a : Nat) : (State.overflowOf o s a).clk = s.clk := by
  unfold State.overflowOf; split <;> simp

@[simp] theorem State.overflowOf_wire (o s : State) (a : Nat) : (State.overflowOf o s a).wire = s.wire := by
  unfold State.overflowOf; split <;> simp

@[simp] theorem State.overflowOf_returned (o s : State) (a : Nat) : (State.overflowOf o s a).returned = s.returned := by
  unfold State.overflowOf; split <;> simp

@[simp] theorem State.overflowOf_plOut (o s : State) (a : Nat) : (State.overflowOf o s a).plOut = s.plOut := by
  unfold State.overflowOf; split <;> simp

@[simp] theorem State.overflowOf_free (o s : State) (a : Nat) : (State.overflowOf o s a).free = s.free := by
  unfold State.overflowOf; split <;> simp

@[simp] theorem State.overflowOf_pending (o s : State) (a : Nat) : (State.overflowOf o s a).pending = s.pending := by
  unfold State.overflowOf; split <;> simp

@[simp] theorem State.raise_sys (s : State) (c u : Nat) (a : List Word) : (s.raise c u a).sys = s.sys := by
  simp [State.raise]

@[simp] theorem State.raise_time (s : State) (c u : Nat) (a : List Word) : (s.raise c u a).time = s.time := by
  simp [State.raise]

@[simp] theorem State.raise_cfg (s : State) (c u : Nat) (a : List Word) : (s.raise c u a).cfg = s.cfg := by
  simp [State.raise]

@[simp] theorem State.raise_drip (s : State) (c u : Nat) (a : List Word) : (s.raise c u a).drip = s.drip := by
  simp [State.raise]

@[simp] theorem State.raise_streams (s : State) (c u : Nat) (a : List Word) : (s.raise c u a).streams = s.streams := by
  simp [State.raise]

@[simp] theorem State.raise_field (s : State) (c u : Nat) (a : List Word) : (s.raise c u a).field = s.field := by
  simp [State.raise]

@[simp] theorem State.raise_pods (s : State) (c u : Nat) (a : List Word) : (s.raise c u a).pods = s.pods := by
  simp [State.raise]

@[simp] theorem State.raise_chains (s : State) (c u : Nat) (a : List Word) : (s.raise c u a).chains = s.chains := by
  simp [State.raise]

@[simp] theorem State.raise_nx (s : State) (c u : Nat) (a : List Word) : (s.raise c u a).nx = s.nx := by
  simp [State.raise]

@[simp] theorem State.raise_lanes (s : State) (c u : Nat) (a : List Word) : (s.raise c u a).lanes = s.lanes := by
  simp [State.raise]

@[simp] theorem State.raise_trig (s : State) (c u : Nat) (a : List Word) : (s.raise c u a).trig = s.trig := by
  simp [State.raise]

@[simp] theorem State.raise_hive (s : State) (c u : Nat) (a : List Word) : (s.raise c u a).hive = s.hive := by
  simp [State.raise]

@[simp] theorem State.raise_comb (s : State) (c u : Nat) (a : List Word) : (s.raise c u a).comb = s.comb := by
  simp [State.raise]

@[simp] theorem State.raise_pair (s : State) (c u : Nat) (a : List Word) : (s.raise c u a).pair = s.pair := by
  simp [State.raise]

@[simp] theorem State.raise_clk (s : State) (c u : Nat) (a : List Word) : (s.raise c u a).clk = s.clk := by
  simp [State.raise]

@[simp] theorem State.raise_wire (s : State) (c u : Nat) (a : List Word) : (s.raise c u a).wire = s.wire := by
  simp [State.raise]

@[simp] theorem State.raise_returned (s : State) (c u : Nat) (a : List Word) : (s.raise c u a).returned = s.returned := by
  simp [State.raise]

@[simp] theorem State.raise_plOut (s : State) (c u : Nat) (a : List Word) : (s.raise c u a).plOut = s.plOut := by
  simp [State.raise]

@[simp] theorem State.raise_free (s : State) (c u : Nat) (a : List Word) : (s.raise c u a).free = s.free := by
  simp [State.raise]

@[simp] theorem State.raise_pending (s : State) (c u : Nat) (a : List Word) : (s.raise c u a).pending = s.pending := by
  simp [State.raise]

@[simp] theorem State.bump_sys (s : State) (a : Nat) : (s.bump a).sys = s.sys := by
  unfold State.bump; dsimp only; split <;> simp

@[simp] theorem State.bump_time (s : State) (a : Nat) : (s.bump a).time = s.time := by
  unfold State.bump; dsimp only; split <;> simp

@[simp] theorem State.bump_cfg (s : State) (a : Nat) : (s.bump a).cfg = s.cfg := by
  unfold State.bump; dsimp only; split <;> simp

@[simp] theorem State.bump_drip (s : State) (a : Nat) : (s.bump a).drip = s.drip := by
  unfold State.bump; dsimp only; split <;> simp

@[simp] theorem State.bump_streams (s : State) (a : Nat) : (s.bump a).streams = s.streams := by
  unfold State.bump; dsimp only; split <;> simp

@[simp] theorem State.bump_field (s : State) (a : Nat) : (s.bump a).field = s.field := by
  unfold State.bump; dsimp only; split <;> simp

@[simp] theorem State.bump_pods (s : State) (a : Nat) : (s.bump a).pods = s.pods := by
  unfold State.bump; dsimp only; split <;> simp

@[simp] theorem State.bump_chains (s : State) (a : Nat) : (s.bump a).chains = s.chains := by
  unfold State.bump; dsimp only; split <;> simp

@[simp] theorem State.bump_nx (s : State) (a : Nat) : (s.bump a).nx = s.nx := by
  unfold State.bump; dsimp only; split <;> simp

@[simp] theorem State.bump_lanes (s : State) (a : Nat) : (s.bump a).lanes = s.lanes := by
  unfold State.bump; dsimp only; split <;> simp

@[simp] theorem State.bump_trig (s : State) (a : Nat) : (s.bump a).trig = s.trig := by
  unfold State.bump; dsimp only; split <;> simp

@[simp] theorem State.bump_hive (s : State) (a : Nat) : (s.bump a).hive = s.hive := by
  unfold State.bump; dsimp only; split <;> simp

@[simp] theorem State.bump_comb (s : State) (a : Nat) : (s.bump a).comb = s.comb := by
  unfold State.bump; dsimp only; split <;> simp

@[simp] theorem State.bump_pair (s : State) (a : Nat) : (s.bump a).pair = s.pair := by
  unfold State.bump; dsimp only; split <;> simp

@[simp] theorem State.bump_clk (s : State) (a : Nat) : (s.bump a).clk = s.clk := by
  unfold State.bump; dsimp only; split <;> simp

@[simp] theorem State.bump_wire (s : State) (a : Nat) : (s.bump a).wire = s.wire := by
  unfold State.bump; dsimp only; split <;> simp

@[simp] theorem State.bump_returned (s : State) (a : Nat) : (s.bump a).returned = s.returned := by
  unfold State.bump; dsimp only; split <;> simp

@[simp] theorem State.bump_plOut (s : State) (a : Nat) : (s.bump a).plOut = s.plOut := by
  unfold State.bump; dsimp only; split <;> simp

@[simp] theorem State.bump_free (s : State) (a : Nat) : (s.bump a).free = s.free := by
  unfold State.bump; dsimp only; split <;> simp

@[simp] theorem State.bump_pending (s : State) (a : Nat) : (s.bump a).pending = s.pending := by
  unfold State.bump; dsimp only; split <;> simp

@[simp] theorem State.bumpBy_sys (s : State) (a n : Nat) : (s.bumpBy a n).sys = s.sys := by
  unfold State.bumpBy; dsimp only; split <;> simp

@[simp] theorem State.bumpBy_time (s : State) (a n : Nat) : (s.bumpBy a n).time = s.time := by
  unfold State.bumpBy; dsimp only; split <;> simp

@[simp] theorem State.bumpBy_cfg (s : State) (a n : Nat) : (s.bumpBy a n).cfg = s.cfg := by
  unfold State.bumpBy; dsimp only; split <;> simp

@[simp] theorem State.bumpBy_drip (s : State) (a n : Nat) : (s.bumpBy a n).drip = s.drip := by
  unfold State.bumpBy; dsimp only; split <;> simp

@[simp] theorem State.bumpBy_streams (s : State) (a n : Nat) : (s.bumpBy a n).streams = s.streams := by
  unfold State.bumpBy; dsimp only; split <;> simp

@[simp] theorem State.bumpBy_field (s : State) (a n : Nat) : (s.bumpBy a n).field = s.field := by
  unfold State.bumpBy; dsimp only; split <;> simp

@[simp] theorem State.bumpBy_pods (s : State) (a n : Nat) : (s.bumpBy a n).pods = s.pods := by
  unfold State.bumpBy; dsimp only; split <;> simp

@[simp] theorem State.bumpBy_chains (s : State) (a n : Nat) : (s.bumpBy a n).chains = s.chains := by
  unfold State.bumpBy; dsimp only; split <;> simp

@[simp] theorem State.bumpBy_nx (s : State) (a n : Nat) : (s.bumpBy a n).nx = s.nx := by
  unfold State.bumpBy; dsimp only; split <;> simp

@[simp] theorem State.bumpBy_lanes (s : State) (a n : Nat) : (s.bumpBy a n).lanes = s.lanes := by
  unfold State.bumpBy; dsimp only; split <;> simp

@[simp] theorem State.bumpBy_trig (s : State) (a n : Nat) : (s.bumpBy a n).trig = s.trig := by
  unfold State.bumpBy; dsimp only; split <;> simp

@[simp] theorem State.bumpBy_hive (s : State) (a n : Nat) : (s.bumpBy a n).hive = s.hive := by
  unfold State.bumpBy; dsimp only; split <;> simp

@[simp] theorem State.bumpBy_comb (s : State) (a n : Nat) : (s.bumpBy a n).comb = s.comb := by
  unfold State.bumpBy; dsimp only; split <;> simp

@[simp] theorem State.bumpBy_pair (s : State) (a n : Nat) : (s.bumpBy a n).pair = s.pair := by
  unfold State.bumpBy; dsimp only; split <;> simp

@[simp] theorem State.bumpBy_clk (s : State) (a n : Nat) : (s.bumpBy a n).clk = s.clk := by
  unfold State.bumpBy; dsimp only; split <;> simp

@[simp] theorem State.bumpBy_wire (s : State) (a n : Nat) : (s.bumpBy a n).wire = s.wire := by
  unfold State.bumpBy; dsimp only; split <;> simp

@[simp] theorem State.bumpBy_returned (s : State) (a n : Nat) : (s.bumpBy a n).returned = s.returned := by
  unfold State.bumpBy; dsimp only; split <;> simp

@[simp] theorem State.bumpBy_plOut (s : State) (a n : Nat) : (s.bumpBy a n).plOut = s.plOut := by
  unfold State.bumpBy; dsimp only; split <;> simp

@[simp] theorem State.bumpBy_free (s : State) (a n : Nat) : (s.bumpBy a n).free = s.free := by
  unfold State.bumpBy; dsimp only; split <;> simp

@[simp] theorem State.bumpBy_pending (s : State) (a n : Nat) : (s.bumpBy a n).pending = s.pending := by
  unfold State.bumpBy; dsimp only; split <;> simp

@[simp] theorem State.send_sys (s : State) (l : Nat) (m : List Byte) : (s.send l m).sys = s.sys := by
  unfold State.send; split
  · rfl
  · split <;> rfl

@[simp] theorem State.send_time (s : State) (l : Nat) (m : List Byte) : (s.send l m).time = s.time := by
  unfold State.send; split
  · rfl
  · split <;> rfl

@[simp] theorem State.send_cfg (s : State) (l : Nat) (m : List Byte) : (s.send l m).cfg = s.cfg := by
  unfold State.send; split
  · rfl
  · split <;> rfl

@[simp] theorem State.send_ports (s : State) (l : Nat) (m : List Byte) : (s.send l m).ports = s.ports := by
  unfold State.send; split
  · rfl
  · split <;> rfl

@[simp] theorem State.send_ev (s : State) (l : Nat) (m : List Byte) : (s.send l m).ev = s.ev := by
  unfold State.send; split
  · rfl
  · split <;> rfl

@[simp] theorem State.send_host (s : State) (l : Nat) (m : List Byte) : (s.send l m).host = s.host := by
  unfold State.send; split
  · rfl
  · split <;> rfl

@[simp] theorem State.send_drip (s : State) (l : Nat) (m : List Byte) : (s.send l m).drip = s.drip := by
  unfold State.send; split
  · rfl
  · split <;> rfl

@[simp] theorem State.send_streams (s : State) (l : Nat) (m : List Byte) : (s.send l m).streams = s.streams := by
  unfold State.send; split
  · rfl
  · split <;> rfl

@[simp] theorem State.send_regs (s : State) (l : Nat) (m : List Byte) : (s.send l m).regs = s.regs := by
  unfold State.send; split
  · rfl
  · split <;> rfl

@[simp] theorem State.send_field (s : State) (l : Nat) (m : List Byte) : (s.send l m).field = s.field := by
  unfold State.send; split
  · rfl
  · split <;> rfl

@[simp] theorem State.send_pods (s : State) (l : Nat) (m : List Byte) : (s.send l m).pods = s.pods := by
  unfold State.send; split
  · rfl
  · split <;> rfl

@[simp] theorem State.send_chains (s : State) (l : Nat) (m : List Byte) : (s.send l m).chains = s.chains := by
  unfold State.send; split
  · rfl
  · split <;> rfl

@[simp] theorem State.send_nx (s : State) (l : Nat) (m : List Byte) : (s.send l m).nx = s.nx := by
  unfold State.send; split
  · rfl
  · split <;> rfl

@[simp] theorem State.send_lanes (s : State) (l : Nat) (m : List Byte) : (s.send l m).lanes = s.lanes := by
  unfold State.send; split
  · rfl
  · split <;> rfl

@[simp] theorem State.send_trig (s : State) (l : Nat) (m : List Byte) : (s.send l m).trig = s.trig := by
  unfold State.send; split
  · rfl
  · split <;> rfl

@[simp] theorem State.send_hive (s : State) (l : Nat) (m : List Byte) : (s.send l m).hive = s.hive := by
  unfold State.send; split
  · rfl
  · split <;> rfl

@[simp] theorem State.send_comb (s : State) (l : Nat) (m : List Byte) : (s.send l m).comb = s.comb := by
  unfold State.send; split
  · rfl
  · split <;> rfl

@[simp] theorem State.send_pair (s : State) (l : Nat) (m : List Byte) : (s.send l m).pair = s.pair := by
  unfold State.send; split
  · rfl
  · split <;> rfl

@[simp] theorem State.send_clk (s : State) (l : Nat) (m : List Byte) : (s.send l m).clk = s.clk := by
  unfold State.send; split
  · rfl
  · split <;> rfl

@[simp] theorem State.send_plOut (s : State) (l : Nat) (m : List Byte) : (s.send l m).plOut = s.plOut := by
  unfold State.send; split
  · rfl
  · split <;> rfl

@[simp] theorem State.send_free (s : State) (l : Nat) (m : List Byte) : (s.send l m).free = s.free := by
  unfold State.send; split
  · rfl
  · split <;> rfl

@[simp] theorem State.send_pending (s : State) (l : Nat) (m : List Byte) : (s.send l m).pending = s.pending := by
  unfold State.send; split
  · rfl
  · split <;> rfl

@[simp] theorem State.plSend_sys (s : State) (m : PlMsg) : (s.plSend m).sys = s.sys := by
  unfold State.plSend; split <;> rfl

@[simp] theorem State.plSend_time (s : State) (m : PlMsg) : (s.plSend m).time = s.time := by
  unfold State.plSend; split <;> rfl

@[simp] theorem State.plSend_cfg (s : State) (m : PlMsg) : (s.plSend m).cfg = s.cfg := by
  unfold State.plSend; split <;> rfl

@[simp] theorem State.plSend_ports (s : State) (m : PlMsg) : (s.plSend m).ports = s.ports := by
  unfold State.plSend; split <;> rfl

@[simp] theorem State.plSend_ev (s : State) (m : PlMsg) : (s.plSend m).ev = s.ev := by
  unfold State.plSend; split <;> rfl

@[simp] theorem State.plSend_host (s : State) (m : PlMsg) : (s.plSend m).host = s.host := by
  unfold State.plSend; split <;> rfl

@[simp] theorem State.plSend_drip (s : State) (m : PlMsg) : (s.plSend m).drip = s.drip := by
  unfold State.plSend; split <;> rfl

@[simp] theorem State.plSend_streams (s : State) (m : PlMsg) : (s.plSend m).streams = s.streams := by
  unfold State.plSend; split <;> rfl

@[simp] theorem State.plSend_regs (s : State) (m : PlMsg) : (s.plSend m).regs = s.regs := by
  unfold State.plSend; split <;> rfl

@[simp] theorem State.plSend_field (s : State) (m : PlMsg) : (s.plSend m).field = s.field := by
  unfold State.plSend; split <;> rfl

@[simp] theorem State.plSend_pods (s : State) (m : PlMsg) : (s.plSend m).pods = s.pods := by
  unfold State.plSend; split <;> rfl

@[simp] theorem State.plSend_chains (s : State) (m : PlMsg) : (s.plSend m).chains = s.chains := by
  unfold State.plSend; split <;> rfl

@[simp] theorem State.plSend_nx (s : State) (m : PlMsg) : (s.plSend m).nx = s.nx := by
  unfold State.plSend; split <;> rfl

@[simp] theorem State.plSend_lanes (s : State) (m : PlMsg) : (s.plSend m).lanes = s.lanes := by
  unfold State.plSend; split <;> rfl

@[simp] theorem State.plSend_trig (s : State) (m : PlMsg) : (s.plSend m).trig = s.trig := by
  unfold State.plSend; split <;> rfl

@[simp] theorem State.plSend_hive (s : State) (m : PlMsg) : (s.plSend m).hive = s.hive := by
  unfold State.plSend; split <;> rfl

@[simp] theorem State.plSend_comb (s : State) (m : PlMsg) : (s.plSend m).comb = s.comb := by
  unfold State.plSend; split <;> rfl

@[simp] theorem State.plSend_clk (s : State) (m : PlMsg) : (s.plSend m).clk = s.clk := by
  unfold State.plSend; split <;> rfl

@[simp] theorem State.plSend_wire (s : State) (m : PlMsg) : (s.plSend m).wire = s.wire := by
  unfold State.plSend; split <;> rfl

@[simp] theorem State.plSend_returned (s : State) (m : PlMsg) : (s.plSend m).returned = s.returned := by
  unfold State.plSend; split <;> rfl

@[simp] theorem State.plSend_free (s : State) (m : PlMsg) : (s.plSend m).free = s.free := by
  unfold State.plSend; split <;> rfl

@[simp] theorem State.plSend_pending (s : State) (m : PlMsg) : (s.plSend m).pending = s.pending := by
  unfold State.plSend; split <;> rfl

@[simp] theorem State.noteCheck_sys (s : State) (b : Nat) : (s.noteCheck b).sys = s.sys := by
  rfl

@[simp] theorem State.noteCheck_time (s : State) (b : Nat) : (s.noteCheck b).time = s.time := by
  rfl

@[simp] theorem State.noteCheck_cfg (s : State) (b : Nat) : (s.noteCheck b).cfg = s.cfg := by
  rfl

@[simp] theorem State.noteCheck_ports (s : State) (b : Nat) : (s.noteCheck b).ports = s.ports := by
  rfl

@[simp] theorem State.noteCheck_ev (s : State) (b : Nat) : (s.noteCheck b).ev = s.ev := by
  rfl

@[simp] theorem State.noteCheck_host (s : State) (b : Nat) : (s.noteCheck b).host = s.host := by
  rfl

@[simp] theorem State.noteCheck_drip (s : State) (b : Nat) : (s.noteCheck b).drip = s.drip := by
  rfl

@[simp] theorem State.noteCheck_streams (s : State) (b : Nat) : (s.noteCheck b).streams = s.streams := by
  rfl

@[simp] theorem State.noteCheck_regs (s : State) (b : Nat) : (s.noteCheck b).regs = s.regs := by
  rfl

@[simp] theorem State.noteCheck_field (s : State) (b : Nat) : (s.noteCheck b).field = s.field := by
  rfl

@[simp] theorem State.noteCheck_pods (s : State) (b : Nat) : (s.noteCheck b).pods = s.pods := by
  rfl

@[simp] theorem State.noteCheck_chains (s : State) (b : Nat) : (s.noteCheck b).chains = s.chains := by
  rfl

@[simp] theorem State.noteCheck_nx (s : State) (b : Nat) : (s.noteCheck b).nx = s.nx := by
  rfl

@[simp] theorem State.noteCheck_lanes (s : State) (b : Nat) : (s.noteCheck b).lanes = s.lanes := by
  rfl

@[simp] theorem State.noteCheck_trig (s : State) (b : Nat) : (s.noteCheck b).trig = s.trig := by
  rfl

@[simp] theorem State.noteCheck_hive (s : State) (b : Nat) : (s.noteCheck b).hive = s.hive := by
  rfl

@[simp] theorem State.noteCheck_comb (s : State) (b : Nat) : (s.noteCheck b).comb = s.comb := by
  rfl

@[simp] theorem State.noteCheck_clk (s : State) (b : Nat) : (s.noteCheck b).clk = s.clk := by
  rfl

@[simp] theorem State.noteCheck_wire (s : State) (b : Nat) : (s.noteCheck b).wire = s.wire := by
  rfl

@[simp] theorem State.noteCheck_returned (s : State) (b : Nat) : (s.noteCheck b).returned = s.returned := by
  rfl

@[simp] theorem State.noteCheck_plOut (s : State) (b : Nat) : (s.noteCheck b).plOut = s.plOut := by
  rfl

@[simp] theorem State.noteCheck_free (s : State) (b : Nat) : (s.noteCheck b).free = s.free := by
  rfl

@[simp] theorem State.noteCheck_pending (s : State) (b : Nat) : (s.noteCheck b).pending = s.pending := by
  rfl

@[simp] theorem State.elapse_sys (s : State) (t : Nat) : (s.elapse t).sys = s.sys := by
  rfl

@[simp] theorem State.elapse_cfg (s : State) (t : Nat) : (s.elapse t).cfg = s.cfg := by
  rfl

@[simp] theorem State.elapse_ports (s : State) (t : Nat) : (s.elapse t).ports = s.ports := by
  rfl

@[simp] theorem State.elapse_ev (s : State) (t : Nat) : (s.elapse t).ev = s.ev := by
  rfl

@[simp] theorem State.elapse_host (s : State) (t : Nat) : (s.elapse t).host = s.host := by
  rfl

@[simp] theorem State.elapse_drip (s : State) (t : Nat) : (s.elapse t).drip = s.drip := by
  rfl

@[simp] theorem State.elapse_streams (s : State) (t : Nat) : (s.elapse t).streams = s.streams := by
  rfl

@[simp] theorem State.elapse_regs (s : State) (t : Nat) : (s.elapse t).regs = s.regs := by
  rfl

@[simp] theorem State.elapse_field (s : State) (t : Nat) : (s.elapse t).field = s.field := by
  rfl

@[simp] theorem State.elapse_pods (s : State) (t : Nat) : (s.elapse t).pods = s.pods := by
  rfl

@[simp] theorem State.elapse_chains (s : State) (t : Nat) : (s.elapse t).chains = s.chains := by
  rfl

@[simp] theorem State.elapse_nx (s : State) (t : Nat) : (s.elapse t).nx = s.nx := by
  rfl

@[simp] theorem State.elapse_lanes (s : State) (t : Nat) : (s.elapse t).lanes = s.lanes := by
  rfl

@[simp] theorem State.elapse_trig (s : State) (t : Nat) : (s.elapse t).trig = s.trig := by
  rfl

@[simp] theorem State.elapse_hive (s : State) (t : Nat) : (s.elapse t).hive = s.hive := by
  rfl

@[simp] theorem State.elapse_comb (s : State) (t : Nat) : (s.elapse t).comb = s.comb := by
  rfl

@[simp] theorem State.elapse_pair (s : State) (t : Nat) : (s.elapse t).pair = s.pair := by
  rfl

@[simp] theorem State.elapse_clk (s : State) (t : Nat) : (s.elapse t).clk = s.clk := by
  rfl

@[simp] theorem State.elapse_free (s : State) (t : Nat) : (s.elapse t).free = s.free := by
  rfl

@[simp] theorem State.elapse_pending (s : State) (t : Nat) : (s.elapse t).pending = s.pending := by
  rfl

@[simp] theorem State.updPort_sys (s : State) (p : Port) (f : PortState → PortState) : (s.updPort p f).sys = s.sys := by
  rfl

@[simp] theorem State.updPort_time (s : State) (p : Port) (f : PortState → PortState) : (s.updPort p f).time = s.time := by
  rfl

@[simp] theorem State.updPort_cfg (s : State) (p : Port) (f : PortState → PortState) : (s.updPort p f).cfg = s.cfg := by
  rfl

@[simp] theorem State.updPort_ev (s : State) (p : Port) (f : PortState → PortState) : (s.updPort p f).ev = s.ev := by
  rfl

@[simp] theorem State.updPort_host (s : State) (p : Port) (f : PortState → PortState) : (s.updPort p f).host = s.host := by
  rfl

@[simp] theorem State.updPort_drip (s : State) (p : Port) (f : PortState → PortState) : (s.updPort p f).drip = s.drip := by
  rfl

@[simp] theorem State.updPort_streams (s : State) (p : Port) (f : PortState → PortState) : (s.updPort p f).streams = s.streams := by
  rfl

@[simp] theorem State.updPort_regs (s : State) (p : Port) (f : PortState → PortState) : (s.updPort p f).regs = s.regs := by
  rfl

@[simp] theorem State.updPort_field (s : State) (p : Port) (f : PortState → PortState) : (s.updPort p f).field = s.field := by
  rfl

@[simp] theorem State.updPort_pods (s : State) (p : Port) (f : PortState → PortState) : (s.updPort p f).pods = s.pods := by
  rfl

@[simp] theorem State.updPort_chains (s : State) (p : Port) (f : PortState → PortState) : (s.updPort p f).chains = s.chains := by
  rfl

@[simp] theorem State.updPort_nx (s : State) (p : Port) (f : PortState → PortState) : (s.updPort p f).nx = s.nx := by
  rfl

@[simp] theorem State.updPort_lanes (s : State) (p : Port) (f : PortState → PortState) : (s.updPort p f).lanes = s.lanes := by
  rfl

@[simp] theorem State.updPort_trig (s : State) (p : Port) (f : PortState → PortState) : (s.updPort p f).trig = s.trig := by
  rfl

@[simp] theorem State.updPort_hive (s : State) (p : Port) (f : PortState → PortState) : (s.updPort p f).hive = s.hive := by
  rfl

@[simp] theorem State.updPort_comb (s : State) (p : Port) (f : PortState → PortState) : (s.updPort p f).comb = s.comb := by
  rfl

@[simp] theorem State.updPort_pair (s : State) (p : Port) (f : PortState → PortState) : (s.updPort p f).pair = s.pair := by
  rfl

@[simp] theorem State.updPort_clk (s : State) (p : Port) (f : PortState → PortState) : (s.updPort p f).clk = s.clk := by
  rfl

@[simp] theorem State.updPort_wire (s : State) (p : Port) (f : PortState → PortState) : (s.updPort p f).wire = s.wire := by
  rfl

@[simp] theorem State.updPort_returned (s : State) (p : Port) (f : PortState → PortState) : (s.updPort p f).returned = s.returned := by
  rfl

@[simp] theorem State.updPort_plOut (s : State) (p : Port) (f : PortState → PortState) : (s.updPort p f).plOut = s.plOut := by
  rfl

@[simp] theorem State.updPort_free (s : State) (p : Port) (f : PortState → PortState) : (s.updPort p f).free = s.free := by
  rfl

@[simp] theorem State.updPort_pending (s : State) (p : Port) (f : PortState → PortState) : (s.updPort p f).pending = s.pending := by
  rfl

@[simp] theorem State.putHost_sys (s : State) (p : OutPkt) : (s.putHost p).sys = s.sys := by
  rfl

@[simp] theorem State.putHost_time (s : State) (p : OutPkt) : (s.putHost p).time = s.time := by
  rfl

@[simp] theorem State.putHost_cfg (s : State) (p : OutPkt) : (s.putHost p).cfg = s.cfg := by
  rfl

@[simp] theorem State.putHost_ports (s : State) (p : OutPkt) : (s.putHost p).ports = s.ports := by
  rfl

@[simp] theorem State.putHost_ev (s : State) (p : OutPkt) : (s.putHost p).ev = s.ev := by
  rfl

@[simp] theorem State.putHost_drip (s : State) (p : OutPkt) : (s.putHost p).drip = s.drip := by
  rfl

@[simp] theorem State.putHost_streams (s : State) (p : OutPkt) : (s.putHost p).streams = s.streams := by
  rfl

@[simp] theorem State.putHost_regs (s : State) (p : OutPkt) : (s.putHost p).regs = s.regs := by
  rfl

@[simp] theorem State.putHost_field (s : State) (p : OutPkt) : (s.putHost p).field = s.field := by
  rfl

@[simp] theorem State.putHost_pods (s : State) (p : OutPkt) : (s.putHost p).pods = s.pods := by
  rfl

@[simp] theorem State.putHost_chains (s : State) (p : OutPkt) : (s.putHost p).chains = s.chains := by
  rfl

@[simp] theorem State.putHost_nx (s : State) (p : OutPkt) : (s.putHost p).nx = s.nx := by
  rfl

@[simp] theorem State.putHost_lanes (s : State) (p : OutPkt) : (s.putHost p).lanes = s.lanes := by
  rfl

@[simp] theorem State.putHost_trig (s : State) (p : OutPkt) : (s.putHost p).trig = s.trig := by
  rfl

@[simp] theorem State.putHost_hive (s : State) (p : OutPkt) : (s.putHost p).hive = s.hive := by
  rfl

@[simp] theorem State.putHost_comb (s : State) (p : OutPkt) : (s.putHost p).comb = s.comb := by
  rfl

@[simp] theorem State.putHost_pair (s : State) (p : OutPkt) : (s.putHost p).pair = s.pair := by
  rfl

@[simp] theorem State.putHost_clk (s : State) (p : OutPkt) : (s.putHost p).clk = s.clk := by
  rfl

@[simp] theorem State.putHost_wire (s : State) (p : OutPkt) : (s.putHost p).wire = s.wire := by
  rfl

@[simp] theorem State.putHost_returned (s : State) (p : OutPkt) : (s.putHost p).returned = s.returned := by
  rfl

@[simp] theorem State.putHost_plOut (s : State) (p : OutPkt) : (s.putHost p).plOut = s.plOut := by
  rfl

@[simp] theorem State.putHost_free (s : State) (p : OutPkt) : (s.putHost p).free = s.free := by
  rfl

@[simp] theorem State.putHost_pending (s : State) (p : OutPkt) : (s.putHost p).pending = s.pending := by
  rfl

@[simp] theorem State.complete_sys (s : State) (p : Packet) (st : Nat) (b : List Byte) : (s.complete p st b).sys = s.sys := by
  unfold State.complete; dsimp only; split; · rfl
  · split <;> rfl

@[simp] theorem State.complete_time (s : State) (p : Packet) (st : Nat) (b : List Byte) : (s.complete p st b).time = s.time := by
  unfold State.complete; dsimp only; split; · rfl
  · split <;> rfl

@[simp] theorem State.complete_cfg (s : State) (p : Packet) (st : Nat) (b : List Byte) : (s.complete p st b).cfg = s.cfg := by
  unfold State.complete; dsimp only; split; · rfl
  · split <;> rfl

@[simp] theorem State.complete_ev (s : State) (p : Packet) (st : Nat) (b : List Byte) : (s.complete p st b).ev = s.ev := by
  unfold State.complete; dsimp only; split; · rfl
  · split <;> rfl

@[simp] theorem State.complete_streams (s : State) (p : Packet) (st : Nat) (b : List Byte) : (s.complete p st b).streams = s.streams := by
  unfold State.complete; dsimp only; split; · rfl
  · split <;> rfl

@[simp] theorem State.complete_regs (s : State) (p : Packet) (st : Nat) (b : List Byte) : (s.complete p st b).regs = s.regs := by
  unfold State.complete; dsimp only; split; · rfl
  · split <;> rfl

@[simp] theorem State.complete_field (s : State) (p : Packet) (st : Nat) (b : List Byte) : (s.complete p st b).field = s.field := by
  unfold State.complete; dsimp only; split; · rfl
  · split <;> rfl

@[simp] theorem State.complete_pods (s : State) (p : Packet) (st : Nat) (b : List Byte) : (s.complete p st b).pods = s.pods := by
  unfold State.complete; dsimp only; split; · rfl
  · split <;> rfl

@[simp] theorem State.complete_chains (s : State) (p : Packet) (st : Nat) (b : List Byte) : (s.complete p st b).chains = s.chains := by
  unfold State.complete; dsimp only; split; · rfl
  · split <;> rfl

@[simp] theorem State.complete_nx (s : State) (p : Packet) (st : Nat) (b : List Byte) : (s.complete p st b).nx = s.nx := by
  unfold State.complete; dsimp only; split; · rfl
  · split <;> rfl

@[simp] theorem State.complete_lanes (s : State) (p : Packet) (st : Nat) (b : List Byte) : (s.complete p st b).lanes = s.lanes := by
  unfold State.complete; dsimp only; split; · rfl
  · split <;> rfl

@[simp] theorem State.complete_trig (s : State) (p : Packet) (st : Nat) (b : List Byte) : (s.complete p st b).trig = s.trig := by
  unfold State.complete; dsimp only; split; · rfl
  · split <;> rfl

@[simp] theorem State.complete_hive (s : State) (p : Packet) (st : Nat) (b : List Byte) : (s.complete p st b).hive = s.hive := by
  unfold State.complete; dsimp only; split; · rfl
  · split <;> rfl

@[simp] theorem State.complete_comb (s : State) (p : Packet) (st : Nat) (b : List Byte) : (s.complete p st b).comb = s.comb := by
  unfold State.complete; dsimp only; split; · rfl
  · split <;> rfl

@[simp] theorem State.complete_pair (s : State) (p : Packet) (st : Nat) (b : List Byte) : (s.complete p st b).pair = s.pair := by
  unfold State.complete; dsimp only; split; · rfl
  · split <;> rfl

@[simp] theorem State.complete_clk (s : State) (p : Packet) (st : Nat) (b : List Byte) : (s.complete p st b).clk = s.clk := by
  unfold State.complete; dsimp only; split; · rfl
  · split <;> rfl

@[simp] theorem State.complete_wire (s : State) (p : Packet) (st : Nat) (b : List Byte) : (s.complete p st b).wire = s.wire := by
  unfold State.complete; dsimp only; split; · rfl
  · split <;> rfl

@[simp] theorem State.complete_returned (s : State) (p : Packet) (st : Nat) (b : List Byte) : (s.complete p st b).returned = s.returned := by
  unfold State.complete; dsimp only; split; · rfl
  · split <;> rfl

@[simp] theorem State.complete_plOut (s : State) (p : Packet) (st : Nat) (b : List Byte) : (s.complete p st b).plOut = s.plOut := by
  unfold State.complete; dsimp only; split; · rfl
  · split <;> rfl

@[simp] theorem State.complete_free (s : State) (p : Packet) (st : Nat) (b : List Byte) : (s.complete p st b).free = s.free := by
  unfold State.complete; dsimp only; split; · rfl
  · split <;> rfl

@[simp] theorem State.complete_pending (s : State) (p : Packet) (st : Nat) (b : List Byte) : (s.complete p st b).pending = s.pending := by
  unfold State.complete; dsimp only; split; · rfl
  · split <;> rfl

@[simp] theorem State.updStream_sys (s : State) (i : Nat) (f : Stream → Stream) : (s.updStream i f).sys = s.sys := by
  rfl

@[simp] theorem State.updStream_time (s : State) (i : Nat) (f : Stream → Stream) : (s.updStream i f).time = s.time := by
  rfl

@[simp] theorem State.updStream_cfg (s : State) (i : Nat) (f : Stream → Stream) : (s.updStream i f).cfg = s.cfg := by
  rfl

@[simp] theorem State.updStream_ports (s : State) (i : Nat) (f : Stream → Stream) : (s.updStream i f).ports = s.ports := by
  rfl

@[simp] theorem State.updStream_ev (s : State) (i : Nat) (f : Stream → Stream) : (s.updStream i f).ev = s.ev := by
  rfl

@[simp] theorem State.updStream_host (s : State) (i : Nat) (f : Stream → Stream) : (s.updStream i f).host = s.host := by
  rfl

@[simp] theorem State.updStream_drip (s : State) (i : Nat) (f : Stream → Stream) : (s.updStream i f).drip = s.drip := by
  rfl

@[simp] theorem State.updStream_regs (s : State) (i : Nat) (f : Stream → Stream) : (s.updStream i f).regs = s.regs := by
  rfl

@[simp] theorem State.updStream_field (s : State) (i : Nat) (f : Stream → Stream) : (s.updStream i f).field = s.field := by
  rfl

@[simp] theorem State.updStream_pods (s : State) (i : Nat) (f : Stream → Stream) : (s.updStream i f).pods = s.pods := by
  rfl

@[simp] theorem State.updStream_chains (s : State) (i : Nat) (f : Stream → Stream) : (s.updStream i f).chains = s.chains := by
  rfl

@[simp] theorem State.updStream_nx (s : State) (i : Nat) (f : Stream → Stream) : (s.updStream i f).nx = s.nx := by
  rfl

@[simp] theorem State.updStream_lanes (s : State) (i : Nat) (f : Stream → Stream) : (s.updStream i f).lanes = s.lanes := by
  rfl

@[simp] theorem State.updStream_trig (s : State) (i : Nat) (f : Stream → Stream) : (s.updStream i f).trig = s.trig := by
  rfl

@[simp] theorem State.updStream_hive (s : State) (i : Nat) (f : Stream → Stream) : (s.updStream i f).hive = s.hive := by
  rfl

@[simp] theorem State.updStream_comb (s : State) (i : Nat) (f : Stream → Stream) : (s.updStream i f).comb = s.comb := by
  rfl

@[simp] theorem State.updStream_pair (s : State) (i : Nat) (f : Stream → Stream) : (s.updStream i f).pair = s.pair := by
  rfl

@[simp] theorem State.updStream_clk (s : State) (i : Nat) (f : Stream → Stream) : (s.updStream i f).clk = s.clk := by
  rfl

@[simp] theorem State.updStream_wire (s : State) (i : Nat) (f : Stream → Stream) : (s.updStream i f).wire = s.wire := by
  rfl

@[simp] theorem State.updStream_returned (s : State) (i : Nat) (f : Stream → Stream) : (s.updStream i f).returned = s.returned := by
  rfl

@[simp] theorem State.updStream_plOut (s : State) (i : Nat) (f : Stream → Stream) : (s.updStream i f).plOut = s.plOut := by
  rfl

@[simp] theorem State.updStream_free (s : State) (i : Nat) (f : Stream → Stream) : (s.updStream i f).free = s.free := by
  rfl

@[simp] theorem State.updStream_pending (s : State) (i : Nat) (f : Stream → Stream) : (s.updStream i f).pending = s.pending := by
  rfl

end Sys2Proof.Machine
end

