-- ==== Sys2Proof/Laws/Tab.lean ====
section
/-! SUPPORT. Laws of sparse tables: a read after a write, and that every operation keeps the canonical form. -/

namespace Sys2Proof.Machine

variable {α : Type} {d : Nat → α}

@[simp] theorem Tab.get_nil (k : Nat) : Tab.get d [] k = d k := rfl

theorem Tab.get_cons (k k' : Nat) (v : α) (m : Tab α) :
    Tab.get d ((k', v) :: m) k = if k' = k then v else Tab.get d m k := rfl

theorem Tab.get_put (m : Tab α) (k k' : Nat) (v : α) :
    Tab.get d (Tab.put m k v) k' = if k' = k then v else Tab.get d m k' := by
  induction m with
  | nil => simp [Tab.put, Tab.get, eq_comm]
  | cons e m ih =>
    obtain ⟨a, b⟩ := e
    unfold Tab.put
    split
    · simp only [Tab.get_cons, eq_comm (a := k)]
    · split
      · subst_vars; simp only [Tab.get_cons, eq_comm (a := k')]; split <;> simp_all
      · simp only [Tab.get_cons, ih]; split <;> simp_all [eq_comm]

theorem Tab.get_of_lt {k : Nat} {m : Tab α} (h : ∀ e ∈ m, k < e.1) : Tab.get d m k = d k := by
  induction m with
  | nil => rfl
  | cons e m ih =>
    obtain ⟨a, b⟩ := e
    have : k < a := h (a, b) (by simp)
    rw [Tab.get_cons, if_neg (by omega)]
    exact ih fun e he => h e (by simp [he])

/-- A read after the removal of an entry. -/
theorem Tab.get_erase (m : Tab α) (k k' : Nat) :
    Tab.get d (Tab.erase m k) k' = if k' = k then d k else Tab.get d m k' := by
  induction m with
  | nil => simp only [Tab.erase, Tab.get_nil]; split <;> simp_all
  | cons e m ih =>
    obtain ⟨a, b⟩ := e
    unfold Tab.erase
    split
    · next h => subst h; rw [ih, Tab.get_cons]; split <;> simp_all [eq_comm]
    · next h => rw [Tab.get_cons, Tab.get_cons, ih]; split <;> simp_all

theorem Tab.mem_erase {m : Tab α} {k : Nat} {e : Nat × α} (h : e ∈ Tab.erase m k) : e ∈ m := by
  induction m with
  | nil => exact h
  | cons x m ih =>
    obtain ⟨a, b⟩ := x
    unfold Tab.erase at h
    split at h
    · exact List.mem_cons_of_mem _ (ih h)
    · rcases List.mem_cons.1 h with rfl | h
      · simp
      · exact List.mem_cons_of_mem _ (ih h)

theorem Tab.mem_put {m : Tab α} {k : Nat} {v : α} {e : Nat × α} (h : e ∈ Tab.put m k v) : e = (k, v) ∨ e ∈ m := by
  induction m with
  | nil => simpa [Tab.put] using h
  | cons x m ih =>
    obtain ⟨a, b⟩ := x
    unfold Tab.put at h
    split at h
    · simpa using h
    · split at h
      · rcases List.mem_cons.1 h with rfl | h
        · exact .inl rfl
        · exact .inr (List.mem_cons_of_mem _ h)
      · rcases List.mem_cons.1 h with rfl | h
        · simp
        · rcases ih h with h | h
          · exact .inl h
          · exact .inr (List.mem_cons_of_mem _ h)

variable [DecidableEq α]

/-- A read after a write: the value written at its key, what was there at any other. -/
theorem Tab.get_set (m : Tab α) (k k' : Nat) (v : α) :
    Tab.get d (Tab.set d m k v) k' = if k' = k then v else Tab.get d m k' := by
  unfold Tab.set
  split
  · next hv => rw [Tab.get_erase, hv]
  · rw [Tab.get_put]

@[simp] theorem Tab.get_set_self (m : Tab α) (k : Nat) (v : α) : Tab.get d (Tab.set d m k v) k = v := by
  simp [Tab.get_set]

theorem Tab.get_set_ne (m : Tab α) {k k' : Nat} (v : α) (h : k' ≠ k) :
    Tab.get d (Tab.set d m k v) k' = Tab.get d m k' := by simp [Tab.get_set, h]

/-- A read after an update. -/
theorem Tab.get_upd (m : Tab α) (k k' : Nat) (f : α → α) :
    Tab.get d (Tab.upd d m k f) k' = if k' = k then f (Tab.get d m k) else Tab.get d m k' :=
  Tab.get_set m k k' _

@[simp] theorem Tab.get_upd_self (m : Tab α) (k : Nat) (f : α → α) :
    Tab.get d (Tab.upd d m k f) k = f (Tab.get d m k) := Tab.get_set_self m k _

theorem Tab.wf_cons {k : Nat} {v : α} {m : Tab α} :
    Tab.wf d ((k, v) :: m) = true ↔ v ≠ d k ∧ (∀ e ∈ m.head?, k < e.1) ∧ Tab.wf d m = true := by
  cases m with
  | nil => simp [Tab.wf]
  | cons e m => obtain ⟨a, b⟩ := e; simp [Tab.wf, and_assoc]

theorem Tab.wf_lt {k : Nat} {v : α} {m : Tab α} (h : Tab.wf d ((k, v) :: m) = true) : ∀ e ∈ m, k < e.1 := by
  induction m generalizing k v with
  | nil => simp
  | cons e m ih =>
    obtain ⟨a, b⟩ := e
    obtain ⟨-, hlt, hw⟩ := Tab.wf_cons.1 h
    have hka : k < a := hlt (a, b) (by simp)
    intro x hx
    rcases List.mem_cons.1 hx with rfl | hx
    · exact hka
    · exact hka.trans (ih hw x hx)

theorem Tab.wf_of_lt {k : Nat} {v : α} {m : Tab α} (hv : v ≠ d k) (hlt : ∀ e ∈ m, k < e.1) (hw : Tab.wf d m = true) :
    Tab.wf d ((k, v) :: m) = true :=
  Tab.wf_cons.2 ⟨hv, fun e he => hlt e (List.mem_of_mem_head? he), hw⟩

/-- The removal of an entry keeps the canonical form. -/
theorem Tab.wf_erase {m : Tab α} (h : Tab.wf d m = true) (k : Nat) : Tab.wf d (Tab.erase m k) = true := by
  induction m with
  | nil => exact h
  | cons e m ih =>
    obtain ⟨a, b⟩ := e
    obtain ⟨hv, -, hw⟩ := Tab.wf_cons.1 h
    unfold Tab.erase
    split
    · exact ih hw
    · exact Tab.wf_of_lt hv (fun e he => Tab.wf_lt h e (Tab.mem_erase he)) (ih hw)

/-- Putting an entry that is not the default keeps the canonical form. -/
theorem Tab.wf_put {m : Tab α} (h : Tab.wf d m = true) (k : Nat) {v : α} (hv : v ≠ d k) :
    Tab.wf d (Tab.put m k v) = true := by
  induction m with
  | nil => simpa [Tab.put, Tab.wf] using hv
  | cons e m ih =>
    obtain ⟨a, b⟩ := e
    obtain ⟨hb, -, hw⟩ := Tab.wf_cons.1 h
    have hlt := Tab.wf_lt h
    unfold Tab.put
    split
    · next hk =>
      refine Tab.wf_of_lt hv (fun e he => ?_) h
      rcases List.mem_cons.1 he with rfl | he
      · exact hk
      · exact hk.trans (hlt e he)
    · split
      · next hk => subst hk; exact Tab.wf_of_lt hv hlt hw
      · refine Tab.wf_of_lt hb (fun e he => ?_) (ih hw)
        rcases Tab.mem_put he with rfl | he
        · show a < k; omega
        · exact hlt e he

/-- A write keeps the canonical form. -/
theorem Tab.wf_set {m : Tab α} (h : Tab.wf d m = true) (k : Nat) (v : α) : Tab.wf d (Tab.set d m k v) = true := by
  unfold Tab.set
  split
  · exact Tab.wf_erase h k
  · next hv => exact Tab.wf_put h k hv

theorem Tab.wf_upd {m : Tab α} (h : Tab.wf d m = true) (k : Nat) (f : α → α) : Tab.wf d (Tab.upd d m k f) = true :=
  Tab.wf_set h k _

end Sys2Proof.Machine
end

