-- ==== Sys2Proof/Laws/State.lean ====
section
/-! SUPPORT. State updates: what each update leaves as it was, one lemma per field, and what a read after an update gives. -/

namespace Sys2Proof.Machine

@[simp] theorem State.updTime_sys (s : State) (f : Time → Time) : (s.updTime f).sys = s.sys := rfl

@[simp] theorem State.updTime_cfg (s : State) (f : Time → Time) : (s.updTime f).cfg = s.cfg := rfl

@[simp] theorem State.updTime_ports (s : State) (f : Time → Time) : (s.updTime f).ports = s.ports := rfl

@[simp] theorem State.updTime_ev (s : State) (f : Time → Time) : (s.updTime f).ev = s.ev := rfl

@[simp] theorem State.updTime_host (s : State) (f : Time → Time) : (s.updTime f).host = s.host := rfl

@[simp] theorem State.updTime_drip (s : State) (f : Time → Time) : (s.updTime f).drip = s.drip := rfl

@[simp] theorem State.updTime_streams (s : State) (f : Time → Time) : (s.updTime f).streams = s.streams := rfl

@[simp] theorem State.updTime_regs (s : State) (f : Time → Time) : (s.updTime f).regs = s.regs := rfl

@[simp] theorem State.updTime_field (s : State) (f : Time → Time) : (s.updTime f).field = s.field := rfl

@[simp] theorem State.updTime_pods (s : State) (f : Time → Time) : (s.updTime f).pods = s.pods := rfl

@[simp] theorem State.updTime_chains (s : State) (f : Time → Time) : (s.updTime f).chains = s.chains := rfl

@[simp] theorem State.updTime_nx (s : State) (f : Time → Time) : (s.updTime f).nx = s.nx := rfl

@[simp] theorem State.updTime_lanes (s : State) (f : Time → Time) : (s.updTime f).lanes = s.lanes := rfl

@[simp] theorem State.updTime_trig (s : State) (f : Time → Time) : (s.updTime f).trig = s.trig := rfl

@[simp] theorem State.updTime_hive (s : State) (f : Time → Time) : (s.updTime f).hive = s.hive := rfl

@[simp] theorem State.updTime_comb (s : State) (f : Time → Time) : (s.updTime f).comb = s.comb := rfl

@[simp] theorem State.updTime_pair (s : State) (f : Time → Time) : (s.updTime f).pair = s.pair := rfl

@[simp] theorem State.updTime_clk (s : State) (f : Time → Time) : (s.updTime f).clk = s.clk := rfl

@[simp] theorem State.updTime_wire (s : State) (f : Time → Time) : (s.updTime f).wire = s.wire := rfl
@[simp] theorem State.updTime_returned (s : State) (f : Time → Time) : (s.updTime f).returned = s.returned := rfl

@[simp] theorem State.updTime_plOut (s : State) (f : Time → Time) : (s.updTime f).plOut = s.plOut := rfl

@[simp] theorem State.updTime_free (s : State) (f : Time → Time) : (s.updTime f).free = s.free := rfl

@[simp] theorem State.updTime_pending (s : State) (f : Time → Time) : (s.updTime f).pending = s.pending := rfl

@[simp] theorem State.updTime_time (s : State) (f : Time → Time) : (s.updTime f).time = f s.time := rfl

@[simp] theorem State.updField_sys (s : State) (f : Field → Field) : (s.updField f).sys = s.sys := rfl

@[simp] theorem State.updField_time (s : State) (f : Field → Field) : (s.updField f).time = s.time := rfl

@[simp] theorem State.updField_cfg (s : State) (f : Field → Field) : (s.updField f).cfg = s.cfg := rfl

@[simp] theorem State.updField_ports (s : State) (f : Field → Field) : (s.updField f).ports = s.ports := rfl

@[simp] theorem State.updField_ev (s : State) (f : Field → Field) : (s.updField f).ev = s.ev := rfl

@[simp] theorem State.updField_host (s : State) (f : Field → Field) : (s.updField f).host = s.host := rfl

@[simp] theorem State.updField_drip (s : State) (f : Field → Field) : (s.updField f).drip = s.drip := rfl

@[simp] theorem State.updField_streams (s : State) (f : Field → Field) : (s.updField f).streams = s.streams := rfl

@[simp] theorem State.updField_regs (s : State) (f : Field → Field) : (s.updField f).regs = s.regs := rfl

@[simp] theorem State.updField_pods (s : State) (f : Field → Field) : (s.updField f).pods = s.pods := rfl

@[simp] theorem State.updField_chains (s : State) (f : Field → Field) : (s.updField f).chains = s.chains := rfl

@[simp] theorem State.updField_nx (s : State) (f : Field → Field) : (s.updField f).nx = s.nx := rfl

@[simp] theorem State.updField_lanes (s : State) (f : Field → Field) : (s.updField f).lanes = s.lanes := rfl

@[simp] theorem State.updField_trig (s : State) (f : Field → Field) : (s.updField f).trig = s.trig := rfl

@[simp] theorem State.updField_hive (s : State) (f : Field → Field) : (s.updField f).hive = s.hive := rfl

@[simp] theorem State.updField_comb (s : State) (f : Field → Field) : (s.updField f).comb = s.comb := rfl

@[simp] theorem State.updField_pair (s : State) (f : Field → Field) : (s.updField f).pair = s.pair := rfl

@[simp] theorem State.updField_clk (s : State) (f : Field → Field) : (s.updField f).clk = s.clk := rfl

@[simp] theorem State.updField_wire (s : State) (f : Field → Field) : (s.updField f).wire = s.wire := rfl
@[simp] theorem State.updField_returned (s : State) (f : Field → Field) : (s.updField f).returned = s.returned := rfl

@[simp] theorem State.updField_plOut (s : State) (f : Field → Field) : (s.updField f).plOut = s.plOut := rfl

@[simp] theorem State.updField_free (s : State) (f : Field → Field) : (s.updField f).free = s.free := rfl

@[simp] theorem State.updField_pending (s : State) (f : Field → Field) : (s.updField f).pending = s.pending := rfl

@[simp] theorem State.updField_field (s : State) (f : Field → Field) : (s.updField f).field = f s.field := rfl

@[simp] theorem State.updPair_sys (s : State) (f : Pair → Pair) : (s.updPair f).sys = s.sys := rfl

@[simp] theorem State.updPair_time (s : State) (f : Pair → Pair) : (s.updPair f).time = s.time := rfl

@[simp] theorem State.updPair_cfg (s : State) (f : Pair → Pair) : (s.updPair f).cfg = s.cfg := rfl

@[simp] theorem State.updPair_ports (s : State) (f : Pair → Pair) : (s.updPair f).ports = s.ports := rfl

@[simp] theorem State.updPair_ev (s : State) (f : Pair → Pair) : (s.updPair f).ev = s.ev := rfl

@[simp] theorem State.updPair_host (s : State) (f : Pair → Pair) : (s.updPair f).host = s.host := rfl

@[simp] theorem State.updPair_drip (s : State) (f : Pair → Pair) : (s.updPair f).drip = s.drip := rfl

@[simp] theorem State.updPair_streams (s : State) (f : Pair → Pair) : (s.updPair f).streams = s.streams := rfl

@[simp] theorem State.updPair_regs (s : State) (f : Pair → Pair) : (s.updPair f).regs = s.regs := rfl

@[simp] theorem State.updPair_field (s : State) (f : Pair → Pair) : (s.updPair f).field = s.field := rfl

@[simp] theorem State.updPair_pods (s : State) (f : Pair → Pair) : (s.updPair f).pods = s.pods := rfl

@[simp] theorem State.updPair_chains (s : State) (f : Pair → Pair) : (s.updPair f).chains = s.chains := rfl

@[simp] theorem State.updPair_nx (s : State) (f : Pair → Pair) : (s.updPair f).nx = s.nx := rfl

@[simp] theorem State.updPair_lanes (s : State) (f : Pair → Pair) : (s.updPair f).lanes = s.lanes := rfl

@[simp] theorem State.updPair_trig (s : State) (f : Pair → Pair) : (s.updPair f).trig = s.trig := rfl

@[simp] theorem State.updPair_hive (s : State) (f : Pair → Pair) : (s.updPair f).hive = s.hive := rfl

@[simp] theorem State.updPair_comb (s : State) (f : Pair → Pair) : (s.updPair f).comb = s.comb := rfl

@[simp] theorem State.updPair_clk (s : State) (f : Pair → Pair) : (s.updPair f).clk = s.clk := rfl

@[simp] theorem State.updPair_wire (s : State) (f : Pair → Pair) : (s.updPair f).wire = s.wire := rfl
@[simp] theorem State.updPair_returned (s : State) (f : Pair → Pair) : (s.updPair f).returned = s.returned := rfl

@[simp] theorem State.updPair_plOut (s : State) (f : Pair → Pair) : (s.updPair f).plOut = s.plOut := rfl

@[simp] theorem State.updPair_free (s : State) (f : Pair → Pair) : (s.updPair f).free = s.free := rfl

@[simp] theorem State.updPair_pending (s : State) (f : Pair → Pair) : (s.updPair f).pending = s.pending := rfl

@[simp] theorem State.updPair_pair (s : State) (f : Pair → Pair) : (s.updPair f).pair = f s.pair := rfl

@[simp] theorem State.updClk_sys (s : State) (f : Clock → Clock) : (s.updClk f).sys = s.sys := rfl

@[simp] theorem State.updClk_time (s : State) (f : Clock → Clock) : (s.updClk f).time = s.time := rfl

@[simp] theorem State.updClk_cfg (s : State) (f : Clock → Clock) : (s.updClk f).cfg = s.cfg := rfl

@[simp] theorem State.updClk_ports (s : State) (f : Clock → Clock) : (s.updClk f).ports = s.ports := rfl

@[simp] theorem State.updClk_ev (s : State) (f : Clock → Clock) : (s.updClk f).ev = s.ev := rfl

@[simp] theorem State.updClk_host (s : State) (f : Clock → Clock) : (s.updClk f).host = s.host := rfl

@[simp] theorem State.updClk_drip (s : State) (f : Clock → Clock) : (s.updClk f).drip = s.drip := rfl

@[simp] theorem State.updClk_streams (s : State) (f : Clock → Clock) : (s.updClk f).streams = s.streams := rfl

@[simp] theorem State.updClk_regs (s : State) (f : Clock → Clock) : (s.updClk f).regs = s.regs := rfl

@[simp] theorem State.updClk_field (s : State) (f : Clock → Clock) : (s.updClk f).field = s.field := rfl

@[simp] theorem State.updClk_pods (s : State) (f : Clock → Clock) : (s.updClk f).pods = s.pods := rfl

@[simp] theorem State.updClk_chains (s : State) (f : Clock → Clock) : (s.updClk f).chains = s.chains := rfl

@[simp] theorem State.updClk_nx (s : State) (f : Clock → Clock) : (s.updClk f).nx = s.nx := rfl

@[simp] theorem State.updClk_lanes (s : State) (f : Clock → Clock) : (s.updClk f).lanes = s.lanes := rfl

@[simp] theorem State.updClk_trig (s : State) (f : Clock → Clock) : (s.updClk f).trig = s.trig := rfl

@[simp] theorem State.updClk_hive (s : State) (f : Clock → Clock) : (s.updClk f).hive = s.hive := rfl

@[simp] theorem State.updClk_comb (s : State) (f : Clock → Clock) : (s.updClk f).comb = s.comb := rfl

@[simp] theorem State.updClk_pair (s : State) (f : Clock → Clock) : (s.updClk f).pair = s.pair := rfl

@[simp] theorem State.updClk_wire (s : State) (f : Clock → Clock) : (s.updClk f).wire = s.wire := rfl
@[simp] theorem State.updClk_returned (s : State) (f : Clock → Clock) : (s.updClk f).returned = s.returned := rfl

@[simp] theorem State.updClk_plOut (s : State) (f : Clock → Clock) : (s.updClk f).plOut = s.plOut := rfl

@[simp] theorem State.updClk_free (s : State) (f : Clock → Clock) : (s.updClk f).free = s.free := rfl

@[simp] theorem State.updClk_pending (s : State) (f : Clock → Clock) : (s.updClk f).pending = s.pending := rfl

@[simp] theorem State.updClk_clk (s : State) (f : Clock → Clock) : (s.updClk f).clk = f s.clk := rfl

@[simp] theorem State.guardFail_sys (s : State) (p : Port) : (s.guardFail p).sys = s.sys := by
  unfold State.guardFail; split <;> simp

@[simp] theorem State.guardFail_time (s : State) (p : Port) : (s.guardFail p).time = s.time := by
  unfold State.guardFail; split <;> simp

@[simp] theorem State.guardFail_cfg (s : State) (p : Port) : (s.guardFail p).cfg = s.cfg := by
  unfold State.guardFail; split <;> simp

@[simp] theorem State.guardFail_drip (s : State) (p : Port) : (s.guardFail p).drip = s.drip := by
  unfold State.guardFail; split <;> simp

@[simp] theorem State.guardFail_streams (s : State) (p : Port) : (s.guardFail p).streams = s.streams := by
  unfold State.guardFail; split <;> simp

@[simp] theorem State.guardFail_field (s : State) (p : Port) : (s.guardFail p).field = s.field := by
  unfold State.guardFail; split <;> simp

@[simp] theorem State.guardFail_pods (s : State) (p : Port) : (s.guardFail p).pods = s.pods := by
  unfold State.guardFail; split <;> simp

@[simp] theorem State.guardFail_chains (s : State) (p : Port) : (s.guardFail p).chains = s.chains := by
  unfold State.guardFail; split <;> simp

@[simp] theorem State.guardFail_nx (s : State) (p : Port) : (s.guardFail p).nx = s.nx := by
  unfold State.guardFail; split <;> simp

@[simp] theorem State.guardFail_lanes (s : State) (p : Port) : (s.guardFail p).lanes = s.lanes := by
  unfold State.guardFail; split <;> simp

@[simp] theorem State.guardFail_trig (s : State) (p : Port) : (s.guardFail p).trig = s.trig := by
  unfold State.guardFail; split <;> simp

@[simp] theorem State.guardFail_hive (s : State) (p : Port) : (s.guardFail p).hive = s.hive := by
  unfold State.guardFail; split <;> simp

@[simp] theorem State.guardFail_comb (s : State) (p : Port) : (s.guardFail p).comb = s.comb := by
  unfold State.guardFail; split <;> simp

@[simp] theorem State.guardFail_pair (s : State) (p : Port) : (s.guardFail p).pair = s.pair := by
  unfold State.guardFail; split <;> simp

@[simp] theorem State.guardFail_clk (s : State) (p : Port) : (s.guardFail p).clk = s.clk := by
  unfold State.guardFail; split <;> simp

@[simp] theorem State.guardFail_wire (s : State) (p : Port) : (s.guardFail p).wire = s.wire := by
  unfold State.guardFail; split <;> simp

@[simp] theorem State.guardFail_returned (s : State) (p : Port) : (s.guardFail p).returned = s.returned := by
  unfold State.guardFail; split <;> simp

@[simp] theorem State.guardFail_plOut (s : State) (p : Port) : (s.guardFail p).plOut = s.plOut := by
  unfold State.guardFail; split <;> simp

@[simp] theorem State.guardFail_free (s : State) (p : Port) : (s.guardFail p).free = s.free := by
  unfold State.guardFail; split <;> simp

@[simp] theorem State.guardFail_pending (s : State) (p : Port) : (s.guardFail p).pending = s.pending := by
  unfold State.guardFail; split <;> simp

@[simp] theorem State.updPod_sys (s : State) (k : Nat) (f : PodLane → PodLane) : (s.updPod k f).sys = s.sys := rfl

@[simp] theorem State.updPod_time (s : State) (k : Nat) (f : PodLane → PodLane) : (s.updPod k f).time = s.time := rfl

@[simp] theorem State.updPod_cfg (s : State) (k : Nat) (f : PodLane → PodLane) : (s.updPod k f).cfg = s.cfg := rfl

@[simp] theorem State.updPod_ports (s : State) (k : Nat) (f : PodLane → PodLane) : (s.updPod k f).ports = s.ports := rfl

@[simp] theorem State.updPod_ev (s : State) (k : Nat) (f : PodLane → PodLane) : (s.updPod k f).ev = s.ev := rfl

@[simp] theorem State.updPod_host (s : State) (k : Nat) (f : PodLane → PodLane) : (s.updPod k f).host = s.host := rfl

@[simp] theorem State.updPod_drip (s : State) (k : Nat) (f : PodLane → PodLane) : (s.updPod k f).drip = s.drip := rfl

@[simp] theorem State.updPod_streams (s : State) (k : Nat) (f : PodLane → PodLane) : (s.updPod k f).streams = s.streams := rfl

@[simp] theorem State.updPod_regs (s : State) (k : Nat) (f : PodLane → PodLane) : (s.updPod k f).regs = s.regs := rfl

@[simp] theorem State.updPod_field (s : State) (k : Nat) (f : PodLane → PodLane) : (s.updPod k f).field = s.field := rfl

@[simp] theorem State.updPod_chains (s : State) (k : Nat) (f : PodLane → PodLane) : (s.updPod k f).chains = s.chains := rfl

@[simp] theorem State.updPod_nx (s : State) (k : Nat) (f : PodLane → PodLane) : (s.updPod k f).nx = s.nx := rfl

@[simp] theorem State.updPod_lanes (s : State) (k : Nat) (f : PodLane → PodLane) : (s.updPod k f).lanes = s.lanes := rfl

@[simp] theorem State.updPod_trig (s : State) (k : Nat) (f : PodLane → PodLane) : (s.updPod k f).trig = s.trig := rfl

@[simp] theorem State.updPod_hive (s : State) (k : Nat) (f : PodLane → PodLane) : (s.updPod k f).hive = s.hive := rfl

@[simp] theorem State.updPod_comb (s : State) (k : Nat) (f : PodLane → PodLane) : (s.updPod k f).comb = s.comb := rfl

@[simp] theorem State.updPod_pair (s : State) (k : Nat) (f : PodLane → PodLane) : (s.updPod k f).pair = s.pair := rfl

@[simp] theorem State.updPod_clk (s : State) (k : Nat) (f : PodLane → PodLane) : (s.updPod k f).clk = s.clk := rfl

@[simp] theorem State.updPod_wire (s : State) (k : Nat) (f : PodLane → PodLane) : (s.updPod k f).wire = s.wire := rfl
@[simp] theorem State.updPod_returned (s : State) (k : Nat) (f : PodLane → PodLane) : (s.updPod k f).returned = s.returned := rfl

@[simp] theorem State.updPod_plOut (s : State) (k : Nat) (f : PodLane → PodLane) : (s.updPod k f).plOut = s.plOut := rfl

@[simp] theorem State.updPod_free (s : State) (k : Nat) (f : PodLane → PodLane) : (s.updPod k f).free = s.free := rfl

@[simp] theorem State.updPod_pending (s : State) (k : Nat) (f : PodLane → PodLane) : (s.updPod k f).pending = s.pending := rfl

@[simp] theorem State.updPod_self (s : State) (k : Nat) (f : PodLane → PodLane) : (s.updPod k f).pod k = f (s.pod k) :=
  Tab.get_upd_self ..

theorem State.updPod_ne (s : State) {k j : Nat} (f : PodLane → PodLane) (h : j ≠ k) : (s.updPod k f).pod j = s.pod j := by
  simp [State.pod, State.updPod, Tab.get_upd, h]

@[simp] theorem State.updChain_sys (s : State) (k : Nat) (f : Chain → Chain) : (s.updChain k f).sys = s.sys := rfl

@[simp] theorem State.updChain_time (s : State) (k : Nat) (f : Chain → Chain) : (s.updChain k f).time = s.time := rfl

@[simp] theorem State.updChain_cfg (s : State) (k : Nat) (f : Chain → Chain) : (s.updChain k f).cfg = s.cfg := rfl

@[simp] theorem State.updChain_ports (s : State) (k : Nat) (f : Chain → Chain) : (s.updChain k f).ports = s.ports := rfl

@[simp] theorem State.updChain_ev (s : State) (k : Nat) (f : Chain → Chain) : (s.updChain k f).ev = s.ev := rfl

@[simp] theorem State.updChain_host (s : State) (k : Nat) (f : Chain → Chain) : (s.updChain k f).host = s.host := rfl

@[simp] theorem State.updChain_drip (s : State) (k : Nat) (f : Chain → Chain) : (s.updChain k f).drip = s.drip := rfl

@[simp] theorem State.updChain_streams (s : State) (k : Nat) (f : Chain → Chain) : (s.updChain k f).streams = s.streams := rfl

@[simp] theorem State.updChain_regs (s : State) (k : Nat) (f : Chain → Chain) : (s.updChain k f).regs = s.regs := rfl

@[simp] theorem State.updChain_field (s : State) (k : Nat) (f : Chain → Chain) : (s.updChain k f).field = s.field := rfl

@[simp] theorem State.updChain_pods (s : State) (k : Nat) (f : Chain → Chain) : (s.updChain k f).pods = s.pods := rfl

@[simp] theorem State.updChain_nx (s : State) (k : Nat) (f : Chain → Chain) : (s.updChain k f).nx = s.nx := rfl

@[simp] theorem State.updChain_lanes (s : State) (k : Nat) (f : Chain → Chain) : (s.updChain k f).lanes = s.lanes := rfl

@[simp] theorem State.updChain_trig (s : State) (k : Nat) (f : Chain → Chain) : (s.updChain k f).trig = s.trig := rfl

@[simp] theorem State.updChain_hive (s : State) (k : Nat) (f : Chain → Chain) : (s.updChain k f).hive = s.hive := rfl

@[simp] theorem State.updChain_comb (s : State) (k : Nat) (f : Chain → Chain) : (s.updChain k f).comb = s.comb := rfl

@[simp] theorem State.updChain_pair (s : State) (k : Nat) (f : Chain → Chain) : (s.updChain k f).pair = s.pair := rfl

@[simp] theorem State.updChain_clk (s : State) (k : Nat) (f : Chain → Chain) : (s.updChain k f).clk = s.clk := rfl

@[simp] theorem State.updChain_wire (s : State) (k : Nat) (f : Chain → Chain) : (s.updChain k f).wire = s.wire := rfl
@[simp] theorem State.updChain_returned (s : State) (k : Nat) (f : Chain → Chain) : (s.updChain k f).returned = s.returned := rfl

@[simp] theorem State.updChain_plOut (s : State) (k : Nat) (f : Chain → Chain) : (s.updChain k f).plOut = s.plOut := rfl

@[simp] theorem State.updChain_free (s : State) (k : Nat) (f : Chain → Chain) : (s.updChain k f).free = s.free := rfl

@[simp] theorem State.updChain_pending (s : State) (k : Nat) (f : Chain → Chain) : (s.updChain k f).pending = s.pending := rfl

@[simp] theorem State.updChain_self (s : State) (k : Nat) (f : Chain → Chain) : (s.updChain k f).chain k = f (s.chain k) :=
  Tab.get_upd_self ..

theorem State.updChain_ne (s : State) {k j : Nat} (f : Chain → Chain) (h : j ≠ k) : (s.updChain k f).chain j = s.chain j := by
  simp [State.chain, State.updChain, Tab.get_upd, h]

@[simp] theorem State.updLane_sys (s : State) (k : Nat) (f : Lane → Lane) : (s.updLane k f).sys = s.sys := rfl

@[simp] theorem State.updLane_time (s : State) (k : Nat) (f : Lane → Lane) : (s.updLane k f).time = s.time := rfl

@[simp] theorem State.updLane_cfg (s : State) (k : Nat) (f : Lane → Lane) : (s.updLane k f).cfg = s.cfg := rfl

@[simp] theorem State.updLane_ports (s : State) (k : Nat) (f : Lane → Lane) : (s.updLane k f).ports = s.ports := rfl

@[simp] theorem State.updLane_ev (s : State) (k : Nat) (f : Lane → Lane) : (s.updLane k f).ev = s.ev := rfl

@[simp] theorem State.updLane_host (s : State) (k : Nat) (f : Lane → Lane) : (s.updLane k f).host = s.host := rfl

@[simp] theorem State.updLane_drip (s : State) (k : Nat) (f : Lane → Lane) : (s.updLane k f).drip = s.drip := rfl

@[simp] theorem State.updLane_streams (s : State) (k : Nat) (f : Lane → Lane) : (s.updLane k f).streams = s.streams := rfl

@[simp] theorem State.updLane_regs (s : State) (k : Nat) (f : Lane → Lane) : (s.updLane k f).regs = s.regs := rfl

@[simp] theorem State.updLane_field (s : State) (k : Nat) (f : Lane → Lane) : (s.updLane k f).field = s.field := rfl

@[simp] theorem State.updLane_pods (s : State) (k : Nat) (f : Lane → Lane) : (s.updLane k f).pods = s.pods := rfl

@[simp] theorem State.updLane_chains (s : State) (k : Nat) (f : Lane → Lane) : (s.updLane k f).chains = s.chains := rfl

@[simp] theorem State.updLane_nx (s : State) (k : Nat) (f : Lane → Lane) : (s.updLane k f).nx = s.nx := rfl

@[simp] theorem State.updLane_trig (s : State) (k : Nat) (f : Lane → Lane) : (s.updLane k f).trig = s.trig := rfl

@[simp] theorem State.updLane_hive (s : State) (k : Nat) (f : Lane → Lane) : (s.updLane k f).hive = s.hive := rfl

@[simp] theorem State.updLane_comb (s : State) (k : Nat) (f : Lane → Lane) : (s.updLane k f).comb = s.comb := rfl

@[simp] theorem State.updLane_pair (s : State) (k : Nat) (f : Lane → Lane) : (s.updLane k f).pair = s.pair := rfl

@[simp] theorem State.updLane_clk (s : State) (k : Nat) (f : Lane → Lane) : (s.updLane k f).clk = s.clk := rfl

@[simp] theorem State.updLane_wire (s : State) (k : Nat) (f : Lane → Lane) : (s.updLane k f).wire = s.wire := rfl
@[simp] theorem State.updLane_returned (s : State) (k : Nat) (f : Lane → Lane) : (s.updLane k f).returned = s.returned := rfl

@[simp] theorem State.updLane_plOut (s : State) (k : Nat) (f : Lane → Lane) : (s.updLane k f).plOut = s.plOut := rfl

@[simp] theorem State.updLane_free (s : State) (k : Nat) (f : Lane → Lane) : (s.updLane k f).free = s.free := rfl

@[simp] theorem State.updLane_pending (s : State) (k : Nat) (f : Lane → Lane) : (s.updLane k f).pending = s.pending := rfl

@[simp] theorem State.updLane_self (s : State) (k : Nat) (f : Lane → Lane) : (s.updLane k f).lane k = f (s.lane k) :=
  Tab.get_upd_self ..

theorem State.updLane_ne (s : State) {k j : Nat} (f : Lane → Lane) (h : j ≠ k) : (s.updLane k f).lane j = s.lane j := by
  simp [State.lane, State.updLane, Tab.get_upd, h]

@[simp] theorem State.updLocal_sys (s : State) (k : Nat) (f : Local → Local) : (s.updLocal k f).sys = s.sys := rfl

@[simp] theorem State.updLocal_time (s : State) (k : Nat) (f : Local → Local) : (s.updLocal k f).time = s.time := rfl

@[simp] theorem State.updLocal_cfg (s : State) (k : Nat) (f : Local → Local) : (s.updLocal k f).cfg = s.cfg := rfl

@[simp] theorem State.updLocal_ports (s : State) (k : Nat) (f : Local → Local) : (s.updLocal k f).ports = s.ports := rfl

@[simp] theorem State.updLocal_ev (s : State) (k : Nat) (f : Local → Local) : (s.updLocal k f).ev = s.ev := rfl

@[simp] theorem State.updLocal_host (s : State) (k : Nat) (f : Local → Local) : (s.updLocal k f).host = s.host := rfl

@[simp] theorem State.updLocal_drip (s : State) (k : Nat) (f : Local → Local) : (s.updLocal k f).drip = s.drip := rfl

@[simp] theorem State.updLocal_streams (s : State) (k : Nat) (f : Local → Local) : (s.updLocal k f).streams = s.streams := rfl

@[simp] theorem State.updLocal_regs (s : State) (k : Nat) (f : Local → Local) : (s.updLocal k f).regs = s.regs := rfl

@[simp] theorem State.updLocal_pods (s : State) (k : Nat) (f : Local → Local) : (s.updLocal k f).pods = s.pods := rfl

@[simp] theorem State.updLocal_chains (s : State) (k : Nat) (f : Local → Local) : (s.updLocal k f).chains = s.chains := rfl

@[simp] theorem State.updLocal_nx (s : State) (k : Nat) (f : Local → Local) : (s.updLocal k f).nx = s.nx := rfl

@[simp] theorem State.updLocal_lanes (s : State) (k : Nat) (f : Local → Local) : (s.updLocal k f).lanes = s.lanes := rfl

@[simp] theorem State.updLocal_trig (s : State) (k : Nat) (f : Local → Local) : (s.updLocal k f).trig = s.trig := rfl

@[simp] theorem State.updLocal_hive (s : State) (k : Nat) (f : Local → Local) : (s.updLocal k f).hive = s.hive := rfl

@[simp] theorem State.updLocal_comb (s : State) (k : Nat) (f : Local → Local) : (s.updLocal k f).comb = s.comb := rfl

@[simp] theorem State.updLocal_pair (s : State) (k : Nat) (f : Local → Local) : (s.updLocal k f).pair = s.pair := rfl

@[simp] theorem State.updLocal_clk (s : State) (k : Nat) (f : Local → Local) : (s.updLocal k f).clk = s.clk := rfl

@[simp] theorem State.updLocal_wire (s : State) (k : Nat) (f : Local → Local) : (s.updLocal k f).wire = s.wire := rfl
@[simp] theorem State.updLocal_returned (s : State) (k : Nat) (f : Local → Local) : (s.updLocal k f).returned = s.returned := rfl

@[simp] theorem State.updLocal_plOut (s : State) (k : Nat) (f : Local → Local) : (s.updLocal k f).plOut = s.plOut := rfl

@[simp] theorem State.updLocal_free (s : State) (k : Nat) (f : Local → Local) : (s.updLocal k f).free = s.free := rfl

@[simp] theorem State.updLocal_pending (s : State) (k : Nat) (f : Local → Local) : (s.updLocal k f).pending = s.pending := rfl

@[simp] theorem State.updLocal_self (s : State) (k : Nat) (f : Local → Local) : (s.updLocal k f).local' k = f (s.local' k) :=
  Tab.get_upd_self ..

theorem State.updLocal_ne (s : State) {k j : Nat} (f : Local → Local) (h : j ≠ k) : (s.updLocal k f).local' j = s.local' j := by
  simp [State.local', State.updLocal, Tab.get_upd, h]

@[simp] theorem State.updNx_sys (s : State) (k : Nat) (f : NxStream → NxStream) : (s.updNx k f).sys = s.sys := rfl

@[simp] theorem State.updNx_time (s : State) (k : Nat) (f : NxStream → NxStream) : (s.updNx k f).time = s.time := rfl

@[simp] theorem State.updNx_cfg (s : State) (k : Nat) (f : NxStream → NxStream) : (s.updNx k f).cfg = s.cfg := rfl

@[simp] theorem State.updNx_ports (s : State) (k : Nat) (f : NxStream → NxStream) : (s.updNx k f).ports = s.ports := rfl

@[simp] theorem State.updNx_ev (s : State) (k : Nat) (f : NxStream → NxStream) : (s.updNx k f).ev = s.ev := rfl

@[simp] theorem State.updNx_host (s : State) (k : Nat) (f : NxStream → NxStream) : (s.updNx k f).host = s.host := rfl

@[simp] theorem State.updNx_drip (s : State) (k : Nat) (f : NxStream → NxStream) : (s.updNx k f).drip = s.drip := rfl

@[simp] theorem State.updNx_streams (s : State) (k : Nat) (f : NxStream → NxStream) : (s.updNx k f).streams = s.streams := rfl

@[simp] theorem State.updNx_regs (s : State) (k : Nat) (f : NxStream → NxStream) : (s.updNx k f).regs = s.regs := rfl

@[simp] theorem State.updNx_field (s : State) (k : Nat) (f : NxStream → NxStream) : (s.updNx k f).field = s.field := rfl

@[simp] theorem State.updNx_pods (s : State) (k : Nat) (f : NxStream → NxStream) : (s.updNx k f).pods = s.pods := rfl

@[simp] theorem State.updNx_chains (s : State) (k : Nat) (f : NxStream → NxStream) : (s.updNx k f).chains = s.chains := rfl

@[simp] theorem State.updNx_lanes (s : State) (k : Nat) (f : NxStream → NxStream) : (s.updNx k f).lanes = s.lanes := rfl

@[simp] theorem State.updNx_trig (s : State) (k : Nat) (f : NxStream → NxStream) : (s.updNx k f).trig = s.trig := rfl

@[simp] theorem State.updNx_hive (s : State) (k : Nat) (f : NxStream → NxStream) : (s.updNx k f).hive = s.hive := rfl

@[simp] theorem State.updNx_comb (s : State) (k : Nat) (f : NxStream → NxStream) : (s.updNx k f).comb = s.comb := rfl

@[simp] theorem State.updNx_pair (s : State) (k : Nat) (f : NxStream → NxStream) : (s.updNx k f).pair = s.pair := rfl

@[simp] theorem State.updNx_clk (s : State) (k : Nat) (f : NxStream → NxStream) : (s.updNx k f).clk = s.clk := rfl

@[simp] theorem State.updNx_wire (s : State) (k : Nat) (f : NxStream → NxStream) : (s.updNx k f).wire = s.wire := rfl
@[simp] theorem State.updNx_returned (s : State) (k : Nat) (f : NxStream → NxStream) : (s.updNx k f).returned = s.returned := rfl

@[simp] theorem State.updNx_plOut (s : State) (k : Nat) (f : NxStream → NxStream) : (s.updNx k f).plOut = s.plOut := rfl

@[simp] theorem State.updNx_free (s : State) (k : Nat) (f : NxStream → NxStream) : (s.updNx k f).free = s.free := rfl

@[simp] theorem State.updNx_pending (s : State) (k : Nat) (f : NxStream → NxStream) : (s.updNx k f).pending = s.pending := rfl

@[simp] theorem State.updPool_sys (s : State) (k : Nat) (f : NxPool → NxPool) : (s.updPool k f).sys = s.sys := rfl

@[simp] theorem State.updPool_time (s : State) (k : Nat) (f : NxPool → NxPool) : (s.updPool k f).time = s.time := rfl

@[simp] theorem State.updPool_cfg (s : State) (k : Nat) (f : NxPool → NxPool) : (s.updPool k f).cfg = s.cfg := rfl

@[simp] theorem State.updPool_ports (s : State) (k : Nat) (f : NxPool → NxPool) : (s.updPool k f).ports = s.ports := rfl

@[simp] theorem State.updPool_ev (s : State) (k : Nat) (f : NxPool → NxPool) : (s.updPool k f).ev = s.ev := rfl

@[simp] theorem State.updPool_host (s : State) (k : Nat) (f : NxPool → NxPool) : (s.updPool k f).host = s.host := rfl

@[simp] theorem State.updPool_drip (s : State) (k : Nat) (f : NxPool → NxPool) : (s.updPool k f).drip = s.drip := rfl

@[simp] theorem State.updPool_streams (s : State) (k : Nat) (f : NxPool → NxPool) : (s.updPool k f).streams = s.streams := rfl

@[simp] theorem State.updPool_regs (s : State) (k : Nat) (f : NxPool → NxPool) : (s.updPool k f).regs = s.regs := rfl

@[simp] theorem State.updPool_field (s : State) (k : Nat) (f : NxPool → NxPool) : (s.updPool k f).field = s.field := rfl

@[simp] theorem State.updPool_pods (s : State) (k : Nat) (f : NxPool → NxPool) : (s.updPool k f).pods = s.pods := rfl

@[simp] theorem State.updPool_chains (s : State) (k : Nat) (f : NxPool → NxPool) : (s.updPool k f).chains = s.chains := rfl

@[simp] theorem State.updPool_lanes (s : State) (k : Nat) (f : NxPool → NxPool) : (s.updPool k f).lanes = s.lanes := rfl

@[simp] theorem State.updPool_trig (s : State) (k : Nat) (f : NxPool → NxPool) : (s.updPool k f).trig = s.trig := rfl

@[simp] theorem State.updPool_hive (s : State) (k : Nat) (f : NxPool → NxPool) : (s.updPool k f).hive = s.hive := rfl

@[simp] theorem State.updPool_comb (s : State) (k : Nat) (f : NxPool → NxPool) : (s.updPool k f).comb = s.comb := rfl

@[simp] theorem State.updPool_pair (s : State) (k : Nat) (f : NxPool → NxPool) : (s.updPool k f).pair = s.pair := rfl

@[simp] theorem State.updPool_clk (s : State) (k : Nat) (f : NxPool → NxPool) : (s.updPool k f).clk = s.clk := rfl

@[simp] theorem State.updPool_wire (s : State) (k : Nat) (f : NxPool → NxPool) : (s.updPool k f).wire = s.wire := rfl
@[simp] theorem State.updPool_returned (s : State) (k : Nat) (f : NxPool → NxPool) : (s.updPool k f).returned = s.returned := rfl

@[simp] theorem State.updPool_plOut (s : State) (k : Nat) (f : NxPool → NxPool) : (s.updPool k f).plOut = s.plOut := rfl

@[simp] theorem State.updPool_free (s : State) (k : Nat) (f : NxPool → NxPool) : (s.updPool k f).free = s.free := rfl

@[simp] theorem State.updPool_pending (s : State) (k : Nat) (f : NxPool → NxPool) : (s.updPool k f).pending = s.pending := rfl

@[simp] theorem State.updPool_self (s : State) (k : Nat) (f : NxPool → NxPool) : (s.updPool k f).nxPool k = f (s.nxPool k) :=
  Tab.get_upd_self ..

theorem State.updPool_ne (s : State) {k j : Nat} (f : NxPool → NxPool) (h : j ≠ k) : (s.updPool k f).nxPool j = s.nxPool j := by
  simp [State.nxPool, State.updPool, Tab.get_upd, h]

@[simp] theorem State.updEngine_sys (s : State) (k : Nat) (f : Engine → Engine) : (s.updEngine k f).sys = s.sys := rfl

@[simp] theorem State.updEngine_time (s : State) (k : Nat) (f : Engine → Engine) : (s.updEngine k f).time = s.time := rfl

@[simp] theorem State.updEngine_cfg (s : State) (k : Nat) (f : Engine → Engine) : (s.updEngine k f).cfg = s.cfg := rfl

@[simp] theorem State.updEngine_ports (s : State) (k : Nat) (f : Engine → Engine) : (s.updEngine k f).ports = s.ports := rfl

@[simp] theorem State.updEngine_ev (s : State) (k : Nat) (f : Engine → Engine) : (s.updEngine k f).ev = s.ev := rfl

@[simp] theorem State.updEngine_host (s : State) (k : Nat) (f : Engine → Engine) : (s.updEngine k f).host = s.host := rfl

@[simp] theorem State.updEngine_drip (s : State) (k : Nat) (f : Engine → Engine) : (s.updEngine k f).drip = s.drip := rfl

@[simp] theorem State.updEngine_streams (s : State) (k : Nat) (f : Engine → Engine) : (s.updEngine k f).streams = s.streams := rfl

@[simp] theorem State.updEngine_regs (s : State) (k : Nat) (f : Engine → Engine) : (s.updEngine k f).regs = s.regs := rfl

@[simp] theorem State.updEngine_field (s : State) (k : Nat) (f : Engine → Engine) : (s.updEngine k f).field = s.field := rfl

@[simp] theorem State.updEngine_pods (s : State) (k : Nat) (f : Engine → Engine) : (s.updEngine k f).pods = s.pods := rfl

@[simp] theorem State.updEngine_chains (s : State) (k : Nat) (f : Engine → Engine) : (s.updEngine k f).chains = s.chains := rfl

@[simp] theorem State.updEngine_nx (s : State) (k : Nat) (f : Engine → Engine) : (s.updEngine k f).nx = s.nx := rfl

@[simp] theorem State.updEngine_lanes (s : State) (k : Nat) (f : Engine → Engine) : (s.updEngine k f).lanes = s.lanes := rfl

@[simp] theorem State.updEngine_hive (s : State) (k : Nat) (f : Engine → Engine) : (s.updEngine k f).hive = s.hive := rfl

@[simp] theorem State.updEngine_comb (s : State) (k : Nat) (f : Engine → Engine) : (s.updEngine k f).comb = s.comb := rfl

@[simp] theorem State.updEngine_pair (s : State) (k : Nat) (f : Engine → Engine) : (s.updEngine k f).pair = s.pair := rfl

@[simp] theorem State.updEngine_clk (s : State) (k : Nat) (f : Engine → Engine) : (s.updEngine k f).clk = s.clk := rfl

@[simp] theorem State.updEngine_wire (s : State) (k : Nat) (f : Engine → Engine) : (s.updEngine k f).wire = s.wire := rfl
@[simp] theorem State.updEngine_returned (s : State) (k : Nat) (f : Engine → Engine) : (s.updEngine k f).returned = s.returned := rfl

@[simp] theorem State.updEngine_plOut (s : State) (k : Nat) (f : Engine → Engine) : (s.updEngine k f).plOut = s.plOut := rfl

@[simp] theorem State.updEngine_free (s : State) (k : Nat) (f : Engine → Engine) : (s.updEngine k f).free = s.free := rfl

@[simp] theorem State.updEngine_pending (s : State) (k : Nat) (f : Engine → Engine) : (s.updEngine k f).pending = s.pending := rfl

@[simp] theorem State.updEngine_self (s : State) (k : Nat) (f : Engine → Engine) : (s.updEngine k f).engine k = f (s.engine k) :=
  Tab.get_upd_self ..

theorem State.updEngine_ne (s : State) {k j : Nat} (f : Engine → Engine) (h : j ≠ k) : (s.updEngine k f).engine j = s.engine j := by
  simp [State.engine, State.updEngine, Tab.get_upd, h]

@[simp] theorem State.updUnit_sys (s : State) (k : Nat) (f : TrigUnit → TrigUnit) : (s.updUnit k f).sys = s.sys := rfl

@[simp] theorem State.updUnit_time (s : State) (k : Nat) (f : TrigUnit → TrigUnit) : (s.updUnit k f).time = s.time := rfl

@[simp] theorem State.updUnit_cfg (s : State) (k : Nat) (f : TrigUnit → TrigUnit) : (s.updUnit k f).cfg = s.cfg := rfl

@[simp] theorem State.updUnit_ports (s : State) (k : Nat) (f : TrigUnit → TrigUnit) : (s.updUnit k f).ports = s.ports := rfl

@[simp] theorem State.updUnit_ev (s : State) (k : Nat) (f : TrigUnit → TrigUnit) : (s.updUnit k f).ev = s.ev := rfl

@[simp] theorem State.updUnit_host (s : State) (k : Nat) (f : TrigUnit → TrigUnit) : (s.updUnit k f).host = s.host := rfl

@[simp] theorem State.updUnit_drip (s : State) (k : Nat) (f : TrigUnit → TrigUnit) : (s.updUnit k f).drip = s.drip := rfl

@[simp] theorem State.updUnit_streams (s : State) (k : Nat) (f : TrigUnit → TrigUnit) : (s.updUnit k f).streams = s.streams := rfl

@[simp] theorem State.updUnit_regs (s : State) (k : Nat) (f : TrigUnit → TrigUnit) : (s.updUnit k f).regs = s.regs := rfl

@[simp] theorem State.updUnit_field (s : State) (k : Nat) (f : TrigUnit → TrigUnit) : (s.updUnit k f).field = s.field := rfl

@[simp] theorem State.updUnit_pods (s : State) (k : Nat) (f : TrigUnit → TrigUnit) : (s.updUnit k f).pods = s.pods := rfl

@[simp] theorem State.updUnit_chains (s : State) (k : Nat) (f : TrigUnit → TrigUnit) : (s.updUnit k f).chains = s.chains := rfl

@[simp] theorem State.updUnit_nx (s : State) (k : Nat) (f : TrigUnit → TrigUnit) : (s.updUnit k f).nx = s.nx := rfl

@[simp] theorem State.updUnit_lanes (s : State) (k : Nat) (f : TrigUnit → TrigUnit) : (s.updUnit k f).lanes = s.lanes := rfl

@[simp] theorem State.updUnit_hive (s : State) (k : Nat) (f : TrigUnit → TrigUnit) : (s.updUnit k f).hive = s.hive := rfl

@[simp] theorem State.updUnit_comb (s : State) (k : Nat) (f : TrigUnit → TrigUnit) : (s.updUnit k f).comb = s.comb := rfl

@[simp] theorem State.updUnit_pair (s : State) (k : Nat) (f : TrigUnit → TrigUnit) : (s.updUnit k f).pair = s.pair := rfl

@[simp] theorem State.updUnit_clk (s : State) (k : Nat) (f : TrigUnit → TrigUnit) : (s.updUnit k f).clk = s.clk := rfl

@[simp] theorem State.updUnit_wire (s : State) (k : Nat) (f : TrigUnit → TrigUnit) : (s.updUnit k f).wire = s.wire := rfl
@[simp] theorem State.updUnit_returned (s : State) (k : Nat) (f : TrigUnit → TrigUnit) : (s.updUnit k f).returned = s.returned := rfl

@[simp] theorem State.updUnit_plOut (s : State) (k : Nat) (f : TrigUnit → TrigUnit) : (s.updUnit k f).plOut = s.plOut := rfl

@[simp] theorem State.updUnit_free (s : State) (k : Nat) (f : TrigUnit → TrigUnit) : (s.updUnit k f).free = s.free := rfl

@[simp] theorem State.updUnit_pending (s : State) (k : Nat) (f : TrigUnit → TrigUnit) : (s.updUnit k f).pending = s.pending := rfl

@[simp] theorem State.updTport_sys (s : State) (k : Nat) (f : TrunkPort → TrunkPort) : (s.updTport k f).sys = s.sys := rfl

@[simp] theorem State.updTport_cfg (s : State) (k : Nat) (f : TrunkPort → TrunkPort) : (s.updTport k f).cfg = s.cfg := rfl

@[simp] theorem State.updTport_ports (s : State) (k : Nat) (f : TrunkPort → TrunkPort) : (s.updTport k f).ports = s.ports := rfl

@[simp] theorem State.updTport_ev (s : State) (k : Nat) (f : TrunkPort → TrunkPort) : (s.updTport k f).ev = s.ev := rfl

@[simp] theorem State.updTport_host (s : State) (k : Nat) (f : TrunkPort → TrunkPort) : (s.updTport k f).host = s.host := rfl

@[simp] theorem State.updTport_drip (s : State) (k : Nat) (f : TrunkPort → TrunkPort) : (s.updTport k f).drip = s.drip := rfl

@[simp] theorem State.updTport_streams (s : State) (k : Nat) (f : TrunkPort → TrunkPort) : (s.updTport k f).streams = s.streams := rfl

@[simp] theorem State.updTport_regs (s : State) (k : Nat) (f : TrunkPort → TrunkPort) : (s.updTport k f).regs = s.regs := rfl

@[simp] theorem State.updTport_field (s : State) (k : Nat) (f : TrunkPort → TrunkPort) : (s.updTport k f).field = s.field := rfl

@[simp] theorem State.updTport_pods (s : State) (k : Nat) (f : TrunkPort → TrunkPort) : (s.updTport k f).pods = s.pods := rfl

@[simp] theorem State.updTport_chains (s : State) (k : Nat) (f : TrunkPort → TrunkPort) : (s.updTport k f).chains = s.chains := rfl

@[simp] theorem State.updTport_nx (s : State) (k : Nat) (f : TrunkPort → TrunkPort) : (s.updTport k f).nx = s.nx := rfl

@[simp] theorem State.updTport_lanes (s : State) (k : Nat) (f : TrunkPort → TrunkPort) : (s.updTport k f).lanes = s.lanes := rfl

@[simp] theorem State.updTport_trig (s : State) (k : Nat) (f : TrunkPort → TrunkPort) : (s.updTport k f).trig = s.trig := rfl

@[simp] theorem State.updTport_hive (s : State) (k : Nat) (f : TrunkPort → TrunkPort) : (s.updTport k f).hive = s.hive := rfl

@[simp] theorem State.updTport_comb (s : State) (k : Nat) (f : TrunkPort → TrunkPort) : (s.updTport k f).comb = s.comb := rfl

@[simp] theorem State.updTport_pair (s : State) (k : Nat) (f : TrunkPort → TrunkPort) : (s.updTport k f).pair = s.pair := rfl

@[simp] theorem State.updTport_clk (s : State) (k : Nat) (f : TrunkPort → TrunkPort) : (s.updTport k f).clk = s.clk := rfl

@[simp] theorem State.updTport_wire (s : State) (k : Nat) (f : TrunkPort → TrunkPort) : (s.updTport k f).wire = s.wire := rfl
@[simp] theorem State.updTport_returned (s : State) (k : Nat) (f : TrunkPort → TrunkPort) : (s.updTport k f).returned = s.returned := rfl

@[simp] theorem State.updTport_plOut (s : State) (k : Nat) (f : TrunkPort → TrunkPort) : (s.updTport k f).plOut = s.plOut := rfl

@[simp] theorem State.updTport_free (s : State) (k : Nat) (f : TrunkPort → TrunkPort) : (s.updTport k f).free = s.free := rfl

@[simp] theorem State.updTport_pending (s : State) (k : Nat) (f : TrunkPort → TrunkPort) : (s.updTport k f).pending = s.pending := rfl

@[simp] theorem State.updTport_self (s : State) (k : Nat) (f : TrunkPort → TrunkPort) : (s.updTport k f).tport k = f (s.tport k) :=
  Tab.get_upd_self ..

theorem State.updTport_ne (s : State) {k j : Nat} (f : TrunkPort → TrunkPort) (h : j ≠ k) : (s.updTport k f).tport j = s.tport j := by
  simp [State.tport, State.updTport, Tab.get_upd, h, State.updTime]

@[simp] theorem State.updAct_sys (s : State) (k : Nat) (f : TaEntry → TaEntry) : (s.updAct k f).sys = s.sys := rfl

@[simp] theorem State.updAct_cfg (s : State) (k : Nat) (f : TaEntry → TaEntry) : (s.updAct k f).cfg = s.cfg := rfl

@[simp] theorem State.updAct_ports (s : State) (k : Nat) (f : TaEntry → TaEntry) : (s.updAct k f).ports = s.ports := rfl

@[simp] theorem State.updAct_ev (s : State) (k : Nat) (f : TaEntry → TaEntry) : (s.updAct k f).ev = s.ev := rfl

@[simp] theorem State.updAct_host (s : State) (k : Nat) (f : TaEntry → TaEntry) : (s.updAct k f).host = s.host := rfl

@[simp] theorem State.updAct_drip (s : State) (k : Nat) (f : TaEntry → TaEntry) : (s.updAct k f).drip = s.drip := rfl

@[simp] theorem State.updAct_streams (s : State) (k : Nat) (f : TaEntry → TaEntry) : (s.updAct k f).streams = s.streams := rfl

@[simp] theorem State.updAct_regs (s : State) (k : Nat) (f : TaEntry → TaEntry) : (s.updAct k f).regs = s.regs := rfl

@[simp] theorem State.updAct_field (s : State) (k : Nat) (f : TaEntry → TaEntry) : (s.updAct k f).field = s.field := rfl

@[simp] theorem State.updAct_pods (s : State) (k : Nat) (f : TaEntry → TaEntry) : (s.updAct k f).pods = s.pods := rfl

@[simp] theorem State.updAct_chains (s : State) (k : Nat) (f : TaEntry → TaEntry) : (s.updAct k f).chains = s.chains := rfl

@[simp] theorem State.updAct_nx (s : State) (k : Nat) (f : TaEntry → TaEntry) : (s.updAct k f).nx = s.nx := rfl

@[simp] theorem State.updAct_lanes (s : State) (k : Nat) (f : TaEntry → TaEntry) : (s.updAct k f).lanes = s.lanes := rfl

@[simp] theorem State.updAct_trig (s : State) (k : Nat) (f : TaEntry → TaEntry) : (s.updAct k f).trig = s.trig := rfl

@[simp] theorem State.updAct_hive (s : State) (k : Nat) (f : TaEntry → TaEntry) : (s.updAct k f).hive = s.hive := rfl

@[simp] theorem State.updAct_comb (s : State) (k : Nat) (f : TaEntry → TaEntry) : (s.updAct k f).comb = s.comb := rfl

@[simp] theorem State.updAct_pair (s : State) (k : Nat) (f : TaEntry → TaEntry) : (s.updAct k f).pair = s.pair := rfl

@[simp] theorem State.updAct_clk (s : State) (k : Nat) (f : TaEntry → TaEntry) : (s.updAct k f).clk = s.clk := rfl

@[simp] theorem State.updAct_wire (s : State) (k : Nat) (f : TaEntry → TaEntry) : (s.updAct k f).wire = s.wire := rfl
@[simp] theorem State.updAct_returned (s : State) (k : Nat) (f : TaEntry → TaEntry) : (s.updAct k f).returned = s.returned := rfl

@[simp] theorem State.updAct_plOut (s : State) (k : Nat) (f : TaEntry → TaEntry) : (s.updAct k f).plOut = s.plOut := rfl

@[simp] theorem State.updAct_free (s : State) (k : Nat) (f : TaEntry → TaEntry) : (s.updAct k f).free = s.free := rfl

@[simp] theorem State.updAct_pending (s : State) (k : Nat) (f : TaEntry → TaEntry) : (s.updAct k f).pending = s.pending := rfl

@[simp] theorem State.updAct_self (s : State) (k : Nat) (f : TaEntry → TaEntry) : (s.updAct k f).act k = f (s.act k) :=
  Tab.get_upd_self ..

theorem State.updAct_ne (s : State) {k j : Nat} (f : TaEntry → TaEntry) (h : j ≠ k) : (s.updAct k f).act j = s.act j := by
  simp [State.act, State.updAct, Tab.get_upd, h, State.updTime]

@[simp] theorem State.updLock_sys (s : State) (k : Nat) (f : Lock → Lock) : (s.updLock k f).sys = s.sys := rfl

@[simp] theorem State.updLock_time (s : State) (k : Nat) (f : Lock → Lock) : (s.updLock k f).time = s.time := rfl

@[simp] theorem State.updLock_cfg (s : State) (k : Nat) (f : Lock → Lock) : (s.updLock k f).cfg = s.cfg := rfl

@[simp] theorem State.updLock_ev (s : State) (k : Nat) (f : Lock → Lock) : (s.updLock k f).ev = s.ev := rfl

@[simp] theorem State.updLock_host (s : State) (k : Nat) (f : Lock → Lock) : (s.updLock k f).host = s.host := rfl

@[simp] theorem State.updLock_drip (s : State) (k : Nat) (f : Lock → Lock) : (s.updLock k f).drip = s.drip := rfl

@[simp] theorem State.updLock_streams (s : State) (k : Nat) (f : Lock → Lock) : (s.updLock k f).streams = s.streams := rfl

@[simp] theorem State.updLock_regs (s : State) (k : Nat) (f : Lock → Lock) : (s.updLock k f).regs = s.regs := rfl

@[simp] theorem State.updLock_field (s : State) (k : Nat) (f : Lock → Lock) : (s.updLock k f).field = s.field := rfl

@[simp] theorem State.updLock_pods (s : State) (k : Nat) (f : Lock → Lock) : (s.updLock k f).pods = s.pods := rfl

@[simp] theorem State.updLock_chains (s : State) (k : Nat) (f : Lock → Lock) : (s.updLock k f).chains = s.chains := rfl

@[simp] theorem State.updLock_nx (s : State) (k : Nat) (f : Lock → Lock) : (s.updLock k f).nx = s.nx := rfl

@[simp] theorem State.updLock_lanes (s : State) (k : Nat) (f : Lock → Lock) : (s.updLock k f).lanes = s.lanes := rfl

@[simp] theorem State.updLock_trig (s : State) (k : Nat) (f : Lock → Lock) : (s.updLock k f).trig = s.trig := rfl

@[simp] theorem State.updLock_hive (s : State) (k : Nat) (f : Lock → Lock) : (s.updLock k f).hive = s.hive := rfl

@[simp] theorem State.updLock_comb (s : State) (k : Nat) (f : Lock → Lock) : (s.updLock k f).comb = s.comb := rfl

@[simp] theorem State.updLock_pair (s : State) (k : Nat) (f : Lock → Lock) : (s.updLock k f).pair = s.pair := rfl

@[simp] theorem State.updLock_clk (s : State) (k : Nat) (f : Lock → Lock) : (s.updLock k f).clk = s.clk := rfl

@[simp] theorem State.updLock_wire (s : State) (k : Nat) (f : Lock → Lock) : (s.updLock k f).wire = s.wire := rfl
@[simp] theorem State.updLock_returned (s : State) (k : Nat) (f : Lock → Lock) : (s.updLock k f).returned = s.returned := rfl

@[simp] theorem State.updLock_plOut (s : State) (k : Nat) (f : Lock → Lock) : (s.updLock k f).plOut = s.plOut := rfl

@[simp] theorem State.updLock_free (s : State) (k : Nat) (f : Lock → Lock) : (s.updLock k f).free = s.free := rfl

@[simp] theorem State.updLock_pending (s : State) (k : Nat) (f : Lock → Lock) : (s.updLock k f).pending = s.pending := rfl

@[simp] theorem State.updLock_self (s : State) (k : Nat) (f : Lock → Lock) : (s.updLock k f).lockOf k = f (s.lockOf k) :=
  Tab.get_upd_self ..

theorem State.updLock_ne (s : State) {k j : Nat} (f : Lock → Lock) (h : j ≠ k) : (s.updLock k f).lockOf j = s.lockOf j := by
  simp [State.lockOf, State.updLock, Tab.get_upd, h]

@[simp] theorem State.updStream_self (s : State) (k : Nat) (f : Stream → Stream) : (s.updStream k f).stream k = f (s.stream k) :=
  Tab.get_upd_self ..

@[simp] theorem State.updPort_self (s : State) (p : Port) (f : PortState → PortState) : (s.updPort p f).port p = f (s.port p) :=
  Tab.get_upd_self ..

theorem portCode_inj {p q : Port} (h : portCode p = portCode q) : p = q := by
  cases p <;> cases q <;> first | rfl | simp [portCode] at h

theorem State.updPort_ne (s : State) {p q : Port} (f : PortState → PortState) (h : q ≠ p) : (s.updPort p f).port q = s.port q := by
  have : portCode q ≠ portCode p := fun e => h (portCode_inj e)
  simp [State.port, State.updPort, Tab.get_upd, this]

/-- A register reads back what was written to it, and every other register reads as before. -/
theorem State.reg_setReg (s : State) (a b : Nat) (v : Word) : (s.setReg a v).reg b = if b = a then v else s.reg b :=
  Tab.get_set ..

@[simp] theorem State.reg_setReg_self (s : State) (a : Nat) (v : Word) : (s.setReg a v).reg a = v := by simp [State.reg_setReg]

@[simp] theorem State.fresh_fst (s : State) (f : Nat → α) : (s.fresh f).1 = f s.free := rfl
@[simp] theorem State.fresh_snd (s : State) (f : Nat → α) : (s.fresh f).2 = { s with free := s.free + 1 } := rfl

@[simp] theorem State.elapse_time_cyc (s : State) (t : Nat) : (s.elapse t).time.cyc = s.time.cyc + t := rfl
@[simp] theorem State.elapse_time_running (s : State) (t : Nat) : (s.elapse t).time.running = s.time.running := rfl

/-- In HOLD what a command ends with does nothing. -/
theorem State.finish_hold {s : State} (h : s.sys.mode = .hold) (o : State) : s.finish o = s := by simp [State.finish, h]

/-- What a command that acts in every mode answers. -/
theorem State.run_eq (s : State) (t : Nat) (f : State → State) :
    s.run t f = .next ((f (s.elapse t)).finish (s.elapse t)) := rfl

/-- What a command that acts out of HOLD answers there. -/
theorem State.runOn_eq {s : State} (h : s.sys.mode ≠ .hold) (t : Nat) (f : State → State) :
    s.runOn t f = .next ((f (s.elapse t)).finish (s.elapse t)) := by
  simp [State.runOn, State.run, h]

/-- In HOLD such a command only lets the time before it pass. -/
theorem State.runOn_hold {s : State} (h : s.sys.mode = .hold) (t : Nat) (f : State → State) :
    s.runOn t f = .next (s.elapse t) := by
  simp [State.runOn, State.run, h, State.finish]

end Sys2Proof.Machine
end

