-- ==== Sys2Proof/Laws/Port.lean ====
section
/-! SUPPORT. Commands at the host port: one that is admitted has its effect and is answered (R473 to R482). -/

namespace Sys2Proof.Machine

variable {s : State} {p : Packet}

@[simp] theorem State.admitted_sys : (s.admitted p).sys = s.sys := rfl
@[simp] theorem State.admitted_time : (s.admitted p).time = s.time := rfl
@[simp] theorem State.admitted_cfg : (s.admitted p).cfg = s.cfg := rfl
@[simp] theorem State.admitted_ev : (s.admitted p).ev = s.ev := rfl
@[simp] theorem State.admitted_host : (s.admitted p).host = s.host := rfl
@[simp] theorem State.admitted_drip : (s.admitted p).drip = s.drip := rfl
@[simp] theorem State.admitted_streams : (s.admitted p).streams = s.streams := rfl
@[simp] theorem State.admitted_regs : (s.admitted p).regs = s.regs := rfl
@[simp] theorem State.admitted_field : (s.admitted p).field = s.field := rfl
@[simp] theorem State.admitted_pods : (s.admitted p).pods = s.pods := rfl
@[simp] theorem State.admitted_chains : (s.admitted p).chains = s.chains := rfl
@[simp] theorem State.admitted_nx : (s.admitted p).nx = s.nx := rfl
@[simp] theorem State.admitted_lanes : (s.admitted p).lanes = s.lanes := rfl
@[simp] theorem State.admitted_trig : (s.admitted p).trig = s.trig := rfl
@[simp] theorem State.admitted_hive : (s.admitted p).hive = s.hive := rfl
@[simp] theorem State.admitted_comb : (s.admitted p).comb = s.comb := rfl
@[simp] theorem State.admitted_pair : (s.admitted p).pair = s.pair := rfl
@[simp] theorem State.admitted_clk : (s.admitted p).clk = s.clk := rfl
@[simp] theorem State.admitted_wire : (s.admitted p).wire = s.wire := rfl
@[simp] theorem State.admitted_returned : (s.admitted p).returned = s.returned := rfl
@[simp] theorem State.admitted_plOut : (s.admitted p).plOut = s.plOut := rfl
@[simp] theorem State.admitted_pending : (s.admitted p).pending = s.pending := rfl
@[simp] theorem State.admitted_locks : (s.admitted p).ports.locks = s.ports.locks := rfl

/-- A single hub has no standby to forward to. -/
theorem Admits.takes (h : Admits s p) : Takes s p := by
  obtain ⟨hm, hr, hp, hl, hn, hh, hroom, ht, hw, he, hs, hf⟩ := h
  exact ⟨hm, by simp [State.isStandby, hr], by simp [State.forwards, State.isActive, hr], hp, hl, hn, hh, hroom, ht, hw, he, hs, hf⟩

/-- A command taken at once is applied and answered. -/
theorem State.take_takes (h : Takes s p) :
    State.take p s = (s.effect p).2.answer p (s.effect p).1 := by
  obtain ⟨hm, hsb, ha, hp, hl, hn, hh, hroom, ht, hw, he, hs, hf⟩ := h
  have hfw : ((s.admitted p).forwards && p.changesState) = false := ha
  have hd : (p.lseq.toNat + 65536 - s.ports.expect) % 65536 = 0 := by rw [hn]; simp
  have hroom' : ¬ (65536 < s.inboundFill + 20 + p.payload.length) := by omega
  have hserve : (s.admitted p).serve p (Config.avsAnswer s.free) = (s.admitted p).applyNow p (Config.avsAnswer s.free) := by
    have h1 : (s.admitted p).serves p = true := hs
    have h2 : (s.admitted p).isStandby = false := hsb
    have h3 : (s.admitted p).takesApply p = false := hf
    simp [State.serve, h1, h2, h3, hfw]
  have hstart : (s.admitted p).start p (Config.avsAnswer s.free) = (s.admitted p).applyNow p (Config.avsAnswer s.free) := by
    have h1 : (s.admitted p).elsewhere p = false := he
    rw [State.start, h1, if_neg (by simp), hserve]
  have hacc : ({ s with free := s.free + 1, ports := { s.ports with expect := (s.ports.expect + 1) % 65536 } } : State).accept p
      (Config.avsAnswer s.free) = (s.admitted p).applyNow p (Config.avsAnswer s.free) := by
    have h1 : ({ s with free := s.free + 1, ports := { s.ports with expect := (s.ports.expect + 1) % 65536 } } : State).inFlight p
        = false := ht
    have h2 : (s.admitted p).mustWait p = false := hw
    unfold State.accept
    rw [h1, if_neg (by simp)]
    show (if (_ : State).mustWait p then _ else _) = _
    rw [hp]
    rw [← hstart]
    show (if (s.admitted p).mustWait p = true then _ else _) = _
    rw [h2, if_neg (by simp)]
    rfl
  have htake : State.take p s = State.takeHeld (Config.avsAnswer s.free) 0
      (({ s with free := s.free + 1, ports := { s.ports with expect := (s.ports.expect + 1) % 65536 } } : State).accept p
        (Config.avsAnswer s.free)) := by
    have h0 : ({ s with free := s.free + 1 } : State).isStandby = false := hsb
    have h3 : ({ s with free := s.free + 1 } : State).inboundFill = s.inboundFill := rfl
    simp only [State.take, State.fresh, State.receive, hm, if_false, h0, hp, Bool.false_and, Bool.false_eq_true, h3, hroom',
      decide_false, Bool.and_false, if_true, State.inOrder, hd, hh, List.length_nil]
  rw [htake, hacc]
  rfl

/-- An admitted command is applied and answered at once. -/
theorem State.take_admitted (h : Admits s p) : State.take p s = (s.effect p).2.answer p (s.effect p).1 := State.take_takes h.takes

/-- What a row whose command is a packet answers when the packet is taken. -/
theorem State.runOn_takes {t : Nat} {q : Packet} (h : Takes (s.elapse t) q) :
    (s.runOn t fun s => State.take q s)
      = .next ((((s.elapse t).effect q).2.answer q ((s.elapse t).effect q).1).finish (s.elapse t)) := by
  have hm : s.sys.mode ≠ .hold := h.awake
  rw [State.runOn_eq hm, State.take_takes h]

/-- What a row whose command is a packet answers when the packet is admitted. -/
theorem State.runOn_take {t : Nat} {q : Packet} (h : Admits (s.elapse t) q) :
    (s.runOn t fun s => State.take q s)
      = .next ((((s.elapse t).effect q).2.answer q ((s.elapse t).effect q).1).finish (s.elapse t)) := by
  have hm : s.sys.mode ≠ .hold := h.awake
  rw [State.runOn_eq hm, State.take_admitted h]

end Sys2Proof.Machine
end

