-- ==== Sys2Proof/Laws/Access.lean ====
section
/-! SUPPORT. What one register access of the host port comes to: a guarded write (R544), a write of one word (R483) and a read of one
register (R486), each as the operation on the register it reaches. -/

namespace Sys2Proof.Machine

variable {s : State} {p : Packet}

theorem ofNat32_toNat {a : Nat} (h : a < 2 ^ 32) : (BitVec.ofNat 32 a).toNat = a := by simpa using h

/-- A payload of one word, as a list of words. -/
theorem words_toLE {v : Nat} (hv : v < 2 ^ 32) (q : Packet) (hq : q.payload = toLE 4 v) :
    q.words = some [BitVec.ofNat 32 v] := by
  have hl : (toLE 4 v).length = 4 := length_toLE 4 v
  have h4 : toLE 4 v ≠ [] := by intro h; rw [h] at hl; simp at hl
  have ht : (toLE 4 v).take 4 = toLE 4 v := List.take_of_length_le (by omega)
  have hd : (toLE 4 v).drop 4 = [] := List.drop_of_length_le (by omega)
  obtain ⟨b, bs, hbs⟩ := List.exists_cons_of_ne_nil h4
  have hc : chunks 4 4 (toLE 4 v) = [toLE 4 v] := by
    rw [hbs] at ht hd ⊢
    simp only [chunks, ht, hd]
  unfold Packet.words
  rw [hq, hl, hc]
  simp only [List.map_cons, List.map_nil, fromLE_toLE]
  rw [Nat.mod_eq_of_lt (show v < 256 ^ 4 by omega)]
  rfl

/-- No guarded register lies in an absent unit. -/
theorem State.absentAt_isGw {a : Nat} (ha : isGw a = true) : s.absentAt a = false := by
  simp only [isGw, List.contains_eq_mem, List.mem_cons, List.not_mem_nil, or_false, decide_eq_true_eq] at ha
  rcases ha with rfl | rfl | rfl | rfl | rfl | rfl | rfl | rfl <;> rfl

/-- A `GWR` of a guarded register: what waits on the port's guard is cancelled, and the write takes effect. -/
theorem State.effect_gwr (h5 : p.opcode = 5) (hp : p.port = .host) (ha : isGw p.addr.toNat = true) (hl : p.payload.length = 4) :
    s.effect p = ((s.admitted p).guardFail .host).guardedWrite p p.addr.toNat p.word := by
  unfold State.effect State.applyPacket
  have : p.opcode.toNat = 5 := by rw [h5]; rfl
  rw [this]
  show State.opGwr _ _ = _
  unfold State.opGwr
  simp [hl, hp, ha, State.absentAt_isGw (s := s.admitted p) ha]

/-- The same for a row that writes a value of its own. -/
theorem State.effect_guarding {a v : Nat} (hp : p.port = .host) (ha : isGw a = true) (hv : v < 2 ^ 32) :
    s.effect (p.guarding a v)
      = ((s.admitted (p.guarding a v)).guardFail .host).guardedWrite (p.guarding a v) a (BitVec.ofNat 32 v) := by
  have ha' : a < 2 ^ 32 := by
    simp only [isGw, List.contains_eq_mem, List.mem_cons, List.not_mem_nil, or_false, decide_eq_true_eq] at ha
    omega
  have h1 : (p.guarding a v).addr.toNat = a := ofNat32_toNat ha'
  have h2 : (p.guarding a v).word = BitVec.ofNat 32 v := by
    show BitVec.ofNat 32 (leAt (toLE 4 v) 0 4) = _
    rw [leAt_toLE_self]
    congr 1
    exact Nat.mod_eq_of_lt (by omega)
  rw [State.effect_gwr (p := p.guarding a v) rfl hp (by rw [h1]; exact ha) (length_toLE 4 v), h1, h2]

/-- A `WR` of one word reaches one register. -/
theorem State.effect_wr {v : Word} (h2 : p.opcode = 2) (hp : p.port = .host) (hw : p.words = some [v])
    (hb : (s.admitted p).badAddr p.addr.toNat = none) (hn : (s.admitted p).namesAbsent p.addr.toNat v.toNat = none) (hg : isGw p.addr.toNat = false) (hg' : isGw (p.addr.toNat - 4) = false) :
    s.effect p
      = match ((s.admitted p).guardFail .host).writePlain .host p.addr.toNat v (Config.avsAnswer s.free) with
        | (.later, s') => (.later, s')
        | (.done 0 _, s') => (Reply.ok, s')
        | (r, s') => (r, s') := by
  unfold State.effect State.applyPacket
  have : p.opcode.toNat = 2 := by rw [h2]; rfl
  rw [this]
  show State.opWr _ _ _ = _
  unfold State.opWr
  rw [hw]
  simp only [State.writeRegs, State.writeReg, hb, hn, hg, hg', hp, Bool.false_eq_true, if_false]
  rcases ((s.admitted p).guardFail .host).writePlain .host p.addr.toNat v (Config.avsAnswer s.free) with ⟨r, s'⟩
  cases r with
  | later => simp
  | done st b => cases st <;> simp

/-- The same for a row that writes a value of its own. -/
theorem State.effect_writing {a v : Nat} (hp : p.port = .host) (ha : a < 2 ^ 32) (hv : v < 2 ^ 32)
    (hb : (s.admitted (p.writing a v)).badAddr a = none) (hn : (s.admitted (p.writing a v)).namesAbsent a v = none) (hg : isGw a = false) (hg' : isGw (a - 4) = false) :
    s.effect (p.writing a v)
      = match ((s.admitted (p.writing a v)).guardFail .host).writePlain .host a (BitVec.ofNat 32 v) (Config.avsAnswer s.free) with
        | (.later, s') => (.later, s')
        | (.done 0 _, s') => (Reply.ok, s')
        | (r, s') => (r, s') := by
  have h1 : (p.writing a v).addr.toNat = a := ofNat32_toNat ha
  have h := State.effect_wr (s := s) (p := p.writing a v) (v := BitVec.ofNat 32 v) rfl hp (words_toLE hv _ rfl)
    (by rw [h1]; exact hb) (by rw [h1, ofNat32_toNat hv]; exact hn) (by rw [h1]; exact hg) (by rw [h1]; exact hg')
  rw [h1] at h
  exact h

/-- An `RD` of one register. -/
theorem State.effect_reading {a : Nat} (hp : p.port = .host) (ha : a < 2 ^ 32) :
    s.effect (p.reading a)
      = match (s.admitted (p.reading a)).readReg .host a true with
        | (.done 0 _, v, s') => (.done stOk (bytesOf [v]), s')
        | (r, _, s') => (r, s') := by
  have h1 : (p.reading a).addr.toNat = a := ofNat32_toNat ha
  have h2 : (p.reading a).count = some 1 := by
    show (if (toLE 4 1).length = 4 && 1 ≤ leAt (toLE 4 1) 0 4 % 2048 && leAt (toLE 4 1) 0 4 % 2048 ≤ 1024 then
      some (leAt (toLE 4 1) 0 4 % 2048) else none) = _
    simp [leAt_toLE_self]
  have h3 : (p.reading a).port = .host := hp
  show (s.admitted (p.reading a)).opRd (p.reading a) = _
  unfold State.opRd
  rw [h2]
  simp only [h1, h3, State.readRegs]
  rcases (s.admitted (p.reading a)).readReg .host a true with ⟨r, v, s'⟩
  cases r with
  | later => simp
  | done st b => cases st <;> simp [bytesOf, Reply.ok, stOk]

end Sys2Proof.Machine
end

