-- ==== Sys2Proof/Laws/Counters.lean ====
section
/-! SUPPORT. Counters (R543): each counts up by one, saturates and sticks; raising an event changes no register but the two counters of
events dropped and lost. -/

namespace Sys2Proof.Machine

variable {s : State} {a b : Nat}

theorem State.countQuiet_reg : (s.countQuiet a).reg a = if s.reg a = 0xFFFF_FFFF then s.reg a else s.reg a + 1 := by
  unfold State.countQuiet
  split <;> simp_all

theorem State.countQuiet_reg_ne (h : b ≠ a) : (s.countQuiet a).reg b = s.reg b := by
  unfold State.countQuiet
  split
  · rfl
  · rw [State.reg_setReg, if_neg h]

theorem State.closeEvents_reg : s.closeEvents.reg b = s.reg b := by
  show Tab.get regReset s.closeEvents.regs b = _; rw [State.closeEvents_regs]; rfl

theorem State.pushEvent_reg (e : Event) : (s.pushEvent e).reg b = s.reg b := by
  show Tab.get regReset (s.pushEvent e).regs b = _; rw [State.pushEvent_regs]; rfl

theorem State.sendEvt_reg (e : Event) (h : b ≠ aEvtDrop) : (s.sendEvt e).reg b = s.reg b := by
  unfold State.sendEvt
  split
  · rfl
  · split
    · rfl
    · exact State.countQuiet_reg_ne h

theorem State.queueI2c_reg (e : Event) (h : b ≠ aEvtDrop) : (s.queueI2c e).reg b = s.reg b := by
  unfold State.queueI2c
  split
  · rfl
  · exact State.countQuiet_reg_ne h

theorem State.place_reg (c u : Nat) (x : List Word) (h : b ≠ aEvtDrop) (h' : b ≠ aEvtLost) : (s.place c u x).reg b = s.reg b := by
  unfold State.place
  dsimp only
  repeat' split
  all_goals first
    | rfl
    | (simp only [State.queueI2c_reg _ h, State.sendEvt_reg _ h, State.pushEvent_reg, State.countQuiet_reg_ne h']; rfl)

theorem State.overflowOf_reg (o : State) (h : b ≠ aEvtDrop) (h' : b ≠ aEvtLost) :
    (State.overflowOf o s a).reg b = s.reg b := by
  unfold State.overflowOf
  split
  · exact State.place_reg _ _ _ h h'
  · rfl

theorem State.raise_reg (c u : Nat) (x : List Word) (h : b ≠ aEvtDrop) (h' : b ≠ aEvtLost) : (s.raise c u x).reg b = s.reg b := by
  unfold State.raise
  rw [State.overflowOf_reg _ h h', State.overflowOf_reg _ h h', State.place_reg _ _ _ h h']

/-- A counter after it has counted once. -/
theorem State.bump_reg (h : a ≠ aEvtDrop) (h' : a ≠ aEvtLost) :
    (s.bump a).reg a = if s.reg a = 0xFFFF_FFFF then s.reg a else s.reg a + 1 := by
  unfold State.bump
  dsimp only
  split
  · rw [State.raise_reg _ _ _ h h', State.countQuiet_reg]
  · rw [State.countQuiet_reg]

/-- Counting changes no other register, but for the counters of events dropped and lost. -/
theorem State.bump_reg_ne (hb : b ≠ a) (h : b ≠ aEvtDrop) (h' : b ≠ aEvtLost) : (s.bump a).reg b = s.reg b := by
  unfold State.bump
  dsimp only
  split
  · rw [State.raise_reg _ _ _ h h', State.countQuiet_reg_ne hb]
  · rw [State.countQuiet_reg_ne hb]

end Sys2Proof.Machine
end

