-- ==== Sys2Proof/Laws/Exec.lean ====
section
/-! SUPPORT. What each command runs: one equation per constructor, `exec` as `run` or `runOn` of the operation that is its effect. -/

namespace Sys2Proof.Machine

theorem exec_powerOnReset (t : Nat) (s : State) :
    exec (.powerOnReset t) s =
      s.run t fun s => s.reborn := rfl

theorem exec_pinReset (t : Nat) (s : State) :
    exec (.pinReset t) s =
      s.run t fun s => s.reborn := rfl

theorem exec_resetRelease (t : Nat) (pairId : Bool) (addr : BitVec 3) (boot : BitVec 2) (s : State) :
    exec (.resetRelease t pairId addr boot) s =
      s.run t fun s => s.resetRelease pairId addr boot := rfl

theorem exec_aonFeedsLost (t : Nat) (s : State) :
    exec (.aonFeedsLost t) s =
      s.run t fun s => s.aonLost := rfl

theorem exec_aonFeedChange (t : Nat) (feedB : Bool) (present : Bool) (s : State) :
    exec (.aonFeedChange t feedB present) s =
      s.run t fun s => s.aonChange feedB present := rfl

theorem exec_holdExit (t : Nat) (avs : AvsAnswer) (s : State) :
    exec (.holdExit t avs) s =
      s.run t fun s => s.holdExit avs := rfl

theorem exec_flashCopyReadDone (t : Nat) (header : List Byte) (image : List Byte) (s : State) :
    exec (.flashCopyReadDone t header image) s =
      s.runOn t fun s => s.flashRead header image := rfl

theorem exec_hiveInitDone (t : Nat) (s : State) :
    exec (.hiveInitDone t) s =
      s.runOn t fun s => s.hiveInitDone := rfl

theorem exec_trainEnd (t : Nat) (s : State) :
    exec (.trainEnd t) s =
      s.runOn t fun s => s.trainEnd := rfl

theorem exec_epochGridStart (t : Nat) (s : State) :
    exec (.epochGridStart t) s =
      s.runOn t fun s =>
        let (avs, s) := s.fresh Config.avsAnswer
        s.epochGridStart avs := rfl

theorem exec_modeReqQuiesce (t : Nat) (p : Packet) (s : State) :
    exec (.modeReqQuiesce t p) s =
      s.runOn t fun s => State.take (p.guarding 0x10 11) s := rfl

theorem exec_modeReqTest (t : Nat) (p : Packet) (s : State) :
    exec (.modeReqTest t p) s =
      s.runOn t fun s => State.take (p.guarding 0x10 10) s := rfl

theorem exec_modeReqLeaveTest (t : Nat) (p : Packet) (s : State) :
    exec (.modeReqLeaveTest t p) s =
      s.runOn t fun s => State.take (p.guarding 0x10 (modeCode s.sys.prev)) s := rfl

theorem exec_modeReqSafe (t : Nat) (p : Packet) (s : State) :
    exec (.modeReqSafe t p) s =
      s.runOn t fun s => State.take (p.guarding 0x10 9) s := rfl

theorem exec_fieldLinkTimeout (t : Nat) (s : State) :
    exec (.fieldLinkTimeout t) s =
      s.runOn t fun s => s.fieldLinkTimeout := rfl

theorem exec_overtemp (t : Nat) (temp : Int) (s : State) :
    exec (.overtemp t temp) s =
      s.runOn t fun s => s.overtemp temp := rfl

theorem exec_quiescePoint (t : Nat) (s : State) :
    exec (.quiescePoint t) s =
      s.runOn t fun s => s.quiescePoint := rfl

theorem exec_quiesced (t : Nat) (s : State) :
    exec (.quiesced t) s =
      s.runOn t fun s => s.quiescedNow := rfl

theorem exec_surgeDetect (t : Nat) (cause : SurgeCause) (ch : Nat) (s : State) :
    exec (.surgeDetect t cause ch) s =
      s.runOn t fun s => s.surgeDetect cause ch := rfl

theorem exec_surgeQuiet (t : Nat) (s : State) :
    exec (.surgeQuiet t) s =
      s.runOn t fun s => s.surgeQuiet := rfl

theorem exec_leadTestEnd (t : Nat) (loops : List LeadMeasure) (s : State) :
    exec (.leadTestEnd t loops) s =
      s.runOn t fun s => s.leadTestEnd loops := rfl

theorem exec_surgeChainRestart (t : Nat) (s : State) :
    exec (.surgeChainRestart t) s =
      s.runOn t fun s => s.surgeChainRestart := rfl

theorem exec_coreReset (t : Nat) (p : Packet) (s : State) :
    exec (.coreReset t p) s =
      s.runOn t fun s => State.take (p.guarding 0x20 1) s := rfl

theorem exec_coreResetStart (t : Nat) (s : State) :
    exec (.coreResetStart t) s =
      s.runOn t fun s => s.coreResetStart := rfl

theorem exec_fieldDieReset (t : Nat) (p : Packet) (s : State) :
    exec (.fieldDieReset t p) s =
      s.runOn t fun s => State.take (p.guarding 0x20 2) s := rfl

theorem exec_fieldDieReady (t : Nat) (s : State) :
    exec (.fieldDieReady t) s =
      s.run t fun s => s.fieldDieReady := rfl

theorem exec_refWindowEnd (t : Nat) (w : RefWindow) (s : State) :
    exec (.refWindowEnd t w) s =
      s.run t fun s => s.refWindowEnd w := rfl

theorem exec_refLossOfSignal (t : Nat) (c : Cand) (s : State) :
    exec (.refLossOfSignal t c) s =
      s.run t fun s => s.refLos (candCode c) := rfl

theorem exec_pllLock (t : Nat) (s : State) :
    exec (.pllLock t) s =
      s.run t fun s => s.pllLock := rfl

theorem exec_pllNoLock (t : Nat) (s : State) :
    exec (.pllNoLock t) s =
      s.run t fun s => s.pllNoLock := rfl

theorem exec_refGraceExpiry (t : Nat) (s : State) :
    exec (.refGraceExpiry t) s =
      s.runOn t fun s => s.graceExpiry := rfl

theorem exec_clkCoastEnd (t : Nat) (s : State) :
    exec (.clkCoastEnd t) s =
      s.runOn t fun s => s.coastEnd := rfl

theorem exec_marginEvaluation (t : Nat) (minima : List Nat) (avs : AvsAnswer) (s : State) :
    exec (.marginEvaluation t minima avs) s =
      s.runOn t fun s => s.marginEvaluation minima avs := rfl

theorem exec_clkPlanNow (t : Nat) (p : Packet) (avs : AvsAnswer) (s : State) :
    exec (.clkPlanNow t p avs) s =
      s.runOn t fun s => s.receive (p.writing 0x0003_0050 1) avs := rfl

theorem exec_marginAlarm (t : Nat) (sensor : Nat) (slack : Nat) (avs : AvsAnswer) (s : State) :
    exec (.marginAlarm t sensor slack avs) s =
      s.runOn t fun s => s.marginAlarm sensor slack avs := rfl

theorem exec_hourlyEyeScans (t : Nat) (s : State) :
    exec (.hourlyEyeScans t) s =
      s.runOn t fun s => s.hourlyScans := rfl

theorem exec_avsRetryTimer (t : Nat) (avs : AvsAnswer) (s : State) :
    exec (.avsRetryTimer t avs) s =
      s.runOn t fun s => s.avsRetryTimer avs := rfl

theorem exec_avsRetry (t : Nat) (p : Packet) (avs : AvsAnswer) (s : State) :
    exec (.avsRetry t p avs) s =
      s.runOn t fun s => s.receive (p.writing 0x0003_0050 2) avs := rfl

theorem exec_clkRefCfgWrite (t : Nat) (p : Packet) (s : State) :
    exec (.clkRefCfgWrite t p) s =
      s.runOn t fun s => State.take (p.asWrite 0x0003_0004) s := rfl

theorem exec_clkVlimitWrite (t : Nat) (p : Packet) (avs : AvsAnswer) (s : State) :
    exec (.clkVlimitWrite t p avs) s =
      s.runOn t fun s => s.receive (p.asWrite 0x0003_0048) avs := rfl

theorem exec_excitationPulseOn (t : Nat) (k : Nat) (s : State) :
    exec (.excitationPulseOn t k) s =
      s.runOn t fun s => s.pulseOn k := rfl

theorem exec_windowStart (t : Nat) (k : Nat) (s : State) :
    exec (.windowStart t k) s =
      s.runOn t fun s => s.windowStart k := rfl

theorem exec_windowEnd (t : Nat) (k : Nat) (c : Conversion) (s : State) :
    exec (.windowEnd t k c) s =
      s.runOn t fun s => s.windowEnd k c := rfl

theorem exec_housekeepingEnd (t : Nat) (k : Nat) (reading : Rat) (s : State) :
    exec (.housekeepingEnd t k reading) s =
      s.runOn t fun s => s.housekeepingEnd k reading := rfl

theorem exec_witnessUpdate (t : Nat) (k : Nat) (s : State) :
    exec (.witnessUpdate t k) s =
      s.runOn t fun s => s.witnessUpdate k := rfl

theorem exec_witnessStartupDone (t : Nat) (means : List (Nat × Rat)) (s : State) :
    exec (.witnessStartupDone t means) s =
      s.runOn t fun s => s.witnessStartup means := rfl

theorem exec_mainsCycle (t : Nat) (period : Nat) (peak : Nat) (s : State) :
    exec (.mainsCycle t period peak) s =
      s.run t fun s => s.mainsCycle period peak := rfl

theorem exec_excLimitEngage (t : Nat) (k : Nat) (s : State) :
    exec (.excLimitEngage t k) s =
      s.runOn t fun s => s.limitEngages k := rfl

theorem exec_complianceLoss (t : Nat) (k : Nat) (s : State) :
    exec (.complianceLoss t k) s =
      s.runOn t fun s => s.complianceLost k := rfl

theorem exec_excEnable (t : Nat) (p : Packet) (s : State) :
    exec (.excEnable t p) s =
      s.runOn t fun s => State.take (p.guarding 0x18 1) s := rfl

theorem exec_excDisable (t : Nat) (p : Packet) (s : State) :
    exec (.excDisable t p) s =
      s.runOn t fun s => State.take (p.guarding 0x18 0) s := rfl

theorem exec_spot (t : Nat) (p : Packet) (s : State) :
    exec (.spot t p) s =
      s.runOn t fun s => State.take (p.withOp 0x30) s := rfl

theorem exec_spotEnd (t : Nat) (k : Nat) (c : Conversion) (s : State) :
    exec (.spotEnd t k c) s =
      s.runOn t fun s => s.spotEnd k c := rfl

theorem exec_calZero (t : Nat) (p : Packet) (s : State) :
    exec (.calZero t p) s =
      s.runOn t fun s => State.take (p.operating 0x31 0) s := rfl

theorem exec_calSpan (t : Nat) (p : Packet) (s : State) :
    exec (.calSpan t p) s =
      s.runOn t fun s => State.take (p.operating 0x31 1) s := rfl

theorem exec_calAbort (t : Nat) (p : Packet) (s : State) :
    exec (.calAbort t p) s =
      s.runOn t fun s => State.take (p.operating 0x31 2) s := rfl

theorem exec_calStepEnd (t : Nat) (k : Nat) (s : State) :
    exec (.calStepEnd t k) s =
      s.runOn t fun s => s.calStepEnd k := rfl

theorem exec_calStepTimeout (t : Nat) (k : Nat) (s : State) :
    exec (.calStepTimeout t k) s =
      s.runOn t fun s => s.calTimeout k := rfl

theorem exec_podTick (t : Nat) (s : State) :
    exec (.podTick t) s =
      s.runOn t fun s => s.sendTicks := rfl

theorem exec_frame (t : Nat) (lane : Nat) (m : List Byte) (s : State) :
    exec (.frame t lane m) s =
      s.runOn t fun s => s.podFrame lane 0 m := rfl

theorem exec_tickFrame (t : Nat) (lane : Nat) (m : List Byte) (s : State) :
    exec (.tickFrame t lane m) s =
      s.runOn t fun s => s.podFrame lane 1 m := rfl

theorem exec_resendFrame (t : Nat) (lane : Nat) (m : List Byte) (s : State) :
    exec (.resendFrame t lane m) s =
      s.runOn t fun s => s.podFrame lane 2 m := rfl

theorem exec_podCaps (t : Nat) (lane : Nat) (m : List Byte) (s : State) :
    exec (.podCaps t lane m) s =
      s.runOn t fun s => s.podCaps lane m := rfl

theorem exec_range (t : Nat) (lane : Nat) (m : List Byte) (s : State) :
    exec (.range t lane m) s =
      s.runOn t fun s => s.podRange lane m := rfl

theorem exec_cmdResp (t : Nat) (lane : Nat) (m : List Byte) (s : State) :
    exec (.cmdResp t lane m) s =
      s.runOn t fun s => s.podCmdResp lane m := rfl

theorem exec_echoResp (t : Nat) (lane : Nat) (m : List Byte) (rtt : Nat) (s : State) :
    exec (.echoResp t lane m rtt) s =
      s.runOn t fun s => s.echoResp lane m rtt := rfl

theorem exec_ingestLagExpiry (t : Nat) (lane : Nat) (s : State) :
    exec (.ingestLagExpiry t lane) s =
      s.runOn t fun s => s.lagDeadline lane := rfl

theorem exec_tickOutstanding (t : Nat) (lane : Nat) (tick : Nat) (s : State) :
    exec (.tickOutstanding t lane tick) s =
      s.runOn t fun s => s.tickOutstanding lane tick := rfl

theorem exec_resendReqRepeat (t : Nat) (lane : Nat) (tick : Nat) (s : State) :
    exec (.resendReqRepeat t lane tick) s =
      s.runOn t fun s => s.resendRepeat lane tick := rfl

theorem exec_podNop (t : Nat) (p : Packet) (s : State) :
    exec (.podNop t p) s =
      s.runOn t fun s => State.take (p.podCmd 0) s := rfl

theorem exec_podStop (t : Nat) (p : Packet) (s : State) :
    exec (.podStop t p) s =
      s.runOn t fun s => State.take (p.podCmd 1) s := rfl

theorem exec_podReset (t : Nat) (p : Packet) (s : State) :
    exec (.podReset t p) s =
      s.runOn t fun s => State.take (p.podCmd 2) s := rfl

theorem exec_podIdentify (t : Nat) (p : Packet) (s : State) :
    exec (.podIdentify t p) s =
      s.runOn t fun s => State.take (p.podCmd 3) s := rfl

theorem exec_podVendorCmd (t : Nat) (p : Packet) (s : State) :
    exec (.podVendorCmd t p) s =
      s.runOn t fun s => State.take (p.podCmd (max 0x40 (leAt p.payload 0 1))) s := rfl

theorem exec_podCmdTimeout (t : Nat) (lane : Nat) (s : State) :
    exec (.podCmdTimeout t lane) s =
      s.runOn t fun s => s.podCmdTimeout lane := rfl

theorem exec_podQuarRelease (t : Nat) (p : Packet) (s : State) :
    exec (.podQuarRelease t p) s =
      s.runOn t fun s => State.take (p.asWrite 0x0005_000C) s := rfl

theorem exec_laneDetect (t : Nat) (lane : Nat) (term : Bool) (energy : Bool) (s : State) :
    exec (.laneDetect t lane term energy) s =
      s.runOn t fun s => s.laneDetected lane term energy := rfl

theorem exec_laneStateTimeout (t : Nat) (lane : Nat) (s : State) :
    exec (.laneStateTimeout t lane) s =
      s.runOn t fun s => s.laneDeadline lane := rfl

theorem exec_trainingBlock (t : Nat) (lane : Nat) (tcw : Word) (s : State) :
    exec (.trainingBlock t lane tcw) s =
      s.runOn t fun s => s.trainingBlock lane tcw.toNat := rfl

theorem exec_tcwTimeout (t : Nat) (lane : Nat) (s : State) :
    exec (.tcwTimeout t lane) s =
      s.runOn t fun s => s.tcwDeadline lane := rfl

theorem exec_presetSearchStep (t : Nat) (lane : Nat) (opening : Nat) (s : State) :
    exec (.presetSearchStep t lane opening) s =
      s.runOn t fun s => s.presetStep lane opening := rfl

theorem exec_rxAdaptDone (t : Nat) (lane : Nat) (ctle : Nat) (dfe : Word) (s : State) :
    exec (.rxAdaptDone t lane ctle dfe) s =
      s.runOn t fun s => s.rxAdapted lane ctle dfe := rfl

theorem exec_trainHandshakeDone (t : Nat) (lane : Nat) (s : State) :
    exec (.trainHandshakeDone t lane) s =
      s.runOn t fun s => s.handshakeDone lane := rfl

theorem exec_bitLock (t : Nat) (lane : Nat) (s : State) :
    exec (.bitLock t lane) s =
      s.runOn t fun s => s.bitLocked lane := rfl

theorem exec_symlockAcquired (t : Nat) (lane : Nat) (s : State) :
    exec (.symlockAcquired t lane) s =
      s.runOn t fun s => s.symlocked lane := rfl

theorem exec_symlockLost (t : Nat) (lane : Nat) (s : State) :
    exec (.symlockLost t lane) s =
      s.runOn t fun s => s.symlockLost lane := rfl

theorem exec_laneBackoffEnd (t : Nat) (lane : Nat) (s : State) :
    exec (.laneBackoffEnd t lane) s =
      s.runOn t fun s => s.backoffEnd lane := rfl

theorem exec_laneRetrain (t : Nat) (p : Packet) (s : State) :
    exec (.laneRetrain t p) s =
      s.runOn t fun s => State.take (p.asWrite 0x0004_000C) s := rfl

theorem exec_laneGenSet (t : Nat) (p : Packet) (s : State) :
    exec (.laneGenSet t p) s =
      s.runOn t fun s => State.take (p.asWrite (laneReg p.onLane 0x10)) s := rfl

theorem exec_laneChkSet (t : Nat) (p : Packet) (s : State) :
    exec (.laneChkSet t p) s =
      s.runOn t fun s => State.take (p.asWrite (laneReg p.onLane 0x10)) s := rfl

theorem exec_laneLoopSet (t : Nat) (p : Packet) (s : State) :
    exec (.laneLoopSet t p) s =
      s.runOn t fun s => State.take (p.asWrite (laneReg p.onLane 0x10)) s := rfl

theorem exec_checkerSync (t : Nat) (lane : Nat) (s : State) :
    exec (.checkerSync t lane) s =
      s.runOn t fun s => s.checkerSync lane := rfl

theorem exec_checkerSyncLoss (t : Nat) (lane : Nat) (errors : Nat) (bitsMi : Nat) (s : State) :
    exec (.checkerSyncLoss t lane errors bitsMi) s =
      s.runOn t fun s => s.checkerLost lane errors bitsMi := rfl

theorem exec_laneInjGo (t : Nat) (p : Packet) (s : State) :
    exec (.laneInjGo t p) s =
      s.runOn t fun s => State.take (p.writing (laneReg p.onLane 0x24) 1) s := rfl

theorem exec_laneInjStop (t : Nat) (p : Packet) (s : State) :
    exec (.laneInjStop t p) s =
      s.runOn t fun s => State.take (p.writing (laneReg p.onLane 0x24) 2) s := rfl

theorem exec_eyeScanStart (t : Nat) (p : Packet) (s : State) :
    exec (.eyeScanStart t p) s =
      s.runOn t fun s => State.take (p.asWrite (laneReg p.onLane 0x28)) s := rfl

theorem exec_eyeScanStep (t : Nat) (lane : Nat) (disagree : Bool) (s : State) :
    exec (.eyeScanStep t lane disagree) s =
      s.runOn t fun s => s.eyeStep lane disagree := rfl

theorem exec_epochBoundary (t : Nat) (s : State) :
    exec (.epochBoundary t) s =
      s.runOn t fun s =>
        let (avs, s) := s.fresh Config.avsAnswer
        s.epochBoundary avs := rfl

theorem exec_combBlock (t : Nat) (prog : Nat) (hits : List ParityHit) (s : State) :
    exec (.combBlock t prog hits) s =
      s.runOn t fun s => s.combWork false prog hits := rfl

theorem exec_spectralFrame (t : Nat) (prog : Nat) (hits : List ParityHit) (s : State) :
    exec (.spectralFrame t prog hits) s =
      s.runOn t fun s => s.combWork true prog hits := rfl

theorem exec_svdDone (t : Nat) (prog : Nat) (s : State) :
    exec (.svdDone t prog) s =
      s.runOn t fun s => s.svdDone prog := rfl

theorem exec_productEmit (t : Nat) (prog : Nat) (s : State) :
    exec (.productEmit t prog) s =
      s.runOn t fun s => s.productEmit prog := rfl

theorem exec_matchWindowEnd (t : Nat) (prog : Nat) (chan : Nat) (template : MatchRead) (s : State) :
    exec (.matchWindowEnd t prog chan template) s =
      s.runOn t fun s => s.matchWindow prog chan template.templ template.hits := rfl

theorem exec_matchIntervalEnd (t : Nat) (prog : Nat) (s : State) :
    exec (.matchIntervalEnd t prog) s =
      s.runOn t fun s => s.matchInterval prog := rfl

theorem exec_rebuildDone (t : Nat) (s : State) :
    exec (.rebuildDone t) s =
      s.runOn t fun s => s.rebuildDone := rfl

theorem exec_foreign (t : Nat) (lane : Nat) (m : List Byte) (s : State) :
    exec (.foreign t lane m) s =
      s.runOn t fun s => s.foreignIn lane m := rfl

theorem exec_fmap (t : Nat) (lane : Nat) (m : List Byte) (s : State) :
    exec (.fmap t lane m) s =
      s.runOn t fun s => s.fmapIn lane m := rfl

theorem exec_fmapSend (t : Nat) (down : Bool) (s : State) :
    exec (.fmapSend t down) s =
      s.runOn t fun s => s.fmapTick down := rfl

theorem exec_trigEventArrival (t : Nat) (src : Nat) (stamp : Nat) (s : State) :
    exec (.trigEventArrival t src stamp) s =
      s.runOn t fun s => s.trigEventArrival src stamp := rfl

theorem exec_unitTakeEvent (t : Nat) (u : Nat) (s : State) :
    exec (.unitTakeEvent t u) s =
      s.runOn t fun s => s.takeEvent u := rfl

theorem exec_trigInEdge (t : Nat) (edge : TrigEdge) (s : State) :
    exec (.trigInEdge t edge) s =
      s.runOn t fun s => s.trigInEdge edge := rfl

theorem exec_trigOutPulseEnd (t : Nat) (ball : Nat) (s : State) :
    exec (.trigOutPulseEnd t ball) s =
      s.runOn t fun s => s.trigOutEnd ball := rfl

theorem exec_engineArmed (t : Nat) (e : Nat) (s : State) :
    exec (.engineArmed t e) s =
      s.runOn t fun s => s.armDue e := rfl

theorem exec_engineRearm (t : Nat) (e : Nat) (s : State) :
    exec (.engineRearm t e) s =
      s.runOn t fun s => s.armDue e := rfl

theorem exec_captureClose (t : Nat) (e : Nat) (s : State) :
    exec (.captureClose t e) s =
      s.runOn t fun s => s.recordCloses e false := rfl

theorem exec_captureCopyDone (t : Nat) (e : Nat) (s : State) :
    exec (.captureCopyDone t e) s =
      s.runOn t fun s => s.copyDone e := rfl

theorem exec_segmentClose (t : Nat) (e : Nat) (s : State) :
    exec (.segmentClose t e) s =
      s.runOn t fun s => s.recordCloses e true := rfl

theorem exec_segmentRearm (t : Nat) (e : Nat) (s : State) :
    exec (.segmentRearm t e) s =
      s.runOn t fun s => s.segmentRearm e := rfl

theorem exec_segQuietDecision (t : Nat) (e : Nat) (s : State) :
    exec (.segQuietDecision t e) s =
      s.runOn t fun s => s.segQuietDecision e := rfl

theorem exec_arm (t : Nat) (p : Packet) (s : State) :
    exec (.arm t p) s =
      s.runOn t fun s => State.take (p.withOp 0x32) s := rfl

theorem exec_fire (t : Nat) (p : Packet) (s : State) :
    exec (.fire t p) s =
      s.runOn t fun s => State.take (p.withOp 0x33) s := rfl

theorem exec_swarmArm (t : Nat) (lane : Nat) (m : List Byte) (s : State) :
    exec (.swarmArm t lane m) s =
      s.runOn t fun s => s.swarmArmIn lane m := rfl

theorem exec_armResult (t : Nat) (lane : Nat) (m : List Byte) (s : State) :
    exec (.armResult t lane m) s =
      s.runOn t fun s => s.armResultIn lane m := rfl

theorem exec_armedMaskFixed (t : Nat) (s : State) :
    exec (.armedMaskFixed t) s =
      s.runOn t fun s => s.fixMask := rfl

theorem exec_swarmFire (t : Nat) (lane : Nat) (m : List Byte) (s : State) :
    exec (.swarmFire t lane m) s =
      s.runOn t fun s => s.swarmFireIn lane m := rfl

theorem exec_scrubRead (t : Nat) (bank : Nat) (found : BeatFinding) (s : State) :
    exec (.scrubRead t bank found) s =
      s.runOn t fun s => s.scrubRead bank found := rfl

theorem exec_hiveArbCommitArb (t : Nat) (p : Packet) (s : State) :
    exec (.hiveArbCommitArb t p) s =
      s.runOn t fun s => State.take (p.writing 0x0008_000C 1) s := rfl

theorem exec_hiveArbCommitEgr (t : Nat) (p : Packet) (s : State) :
    exec (.hiveArbCommitEgr t p) s =
      s.runOn t fun s => State.take (p.writing 0x0008_000C 2) s := rfl

theorem exec_hiveEccInjWrite (t : Nat) (p : Packet) (s : State) :
    exec (.hiveEccInjWrite t p) s =
      s.runOn t fun s => State.take (p.asWrite 0x0008_0064) s := rfl

theorem exec_secondBeacon (t : Nat) (s : State) :
    exec (.secondBeacon t) s =
      s.runOn t fun s => s.secondBeacon := rfl

theorem exec_ppsEdge (t : Nat) (resid : Int) (s : State) :
    exec (.ppsEdge t resid) s =
      s.runOn t fun s => s.ppsEdge resid := rfl

theorem exec_ppsMissing (t : Nat) (s : State) :
    exec (.ppsMissing t) s =
      s.runOn t fun s => s.ppsMissing := rfl

theorem exec_timeTod (t : Nat) (p : Packet) (s : State) :
    exec (.timeTod t p) s =
      s.runOn t fun s => State.take (p.operating 0x38 2) s := rfl

theorem exec_timeSet (t : Nat) (p : Packet) (s : State) :
    exec (.timeSet t p) s =
      s.runOn t fun s => State.take (p.operating 0x38 1) s := rfl

theorem exec_timeRead (t : Nat) (p : Packet) (s : State) :
    exec (.timeRead t p) s =
      s.runOn t fun s => State.take (p.operating 0x38 0) s := rfl

theorem exec_hostSourceExpiry (t : Nat) (s : State) :
    exec (.hostSourceExpiry t) s =
      s.runOn t fun s => s.hostExpiry := rfl

theorem exec_tsyncSend (t : Nat) (lane : Nat) (s : State) :
    exec (.tsyncSend t lane) s =
      s.runOn t fun s => s.tsyncSend lane := rfl

theorem exec_tsync (t : Nat) (lane : Nat) (m : List Byte) (arrival : Int) (s : State) :
    exec (.tsync t lane m arrival) s =
      s.runOn t fun s => s.tsync lane m arrival := rfl

theorem exec_tdreq (t : Nat) (lane : Nat) (m : List Byte) (arrival : Int) (s : State) :
    exec (.tdreq t lane m arrival) s =
      s.runOn t fun s => s.tdreq lane m arrival := rfl

theorem exec_tdresp (t : Nat) (lane : Nat) (m : List Byte) (s : State) :
    exec (.tdresp t lane m) s =
      s.runOn t fun s => s.tdresp lane m := rfl

theorem exec_exchangeTimeout (t : Nat) (lane : Nat) (s : State) :
    exec (.exchangeTimeout t lane) s =
      s.runOn t fun s => s.exchTimeout lane := rfl

theorem exec_announceSend (t : Nat) (s : State) :
    exec (.announceSend t) s =
      s.runOn t fun s => s.announceSend := rfl

theorem exec_announce (t : Nat) (lane : Nat) (m : List Byte) (s : State) :
    exec (.announce t lane m) s =
      s.runOn t fun s => s.announceIn lane m := rfl

theorem exec_activeNeighbourExpiry (t : Nat) (_down : Bool) (s : State) :
    exec (.activeNeighbourExpiry t _down) s =
      s.runOn t fun s => s.followNeighbours := rfl

theorem exec_tcaps (t : Nat) (lane : Nat) (m : List Byte) (s : State) :
    exec (.tcaps t lane m) s =
      s.runOn t fun s => s.tcapsIn lane m := rfl

theorem exec_tcapsAck (t : Nat) (lane : Nat) (m : List Byte) (s : State) :
    exec (.tcapsAck t lane m) s =
      s.runOn t fun s => s.tcapsAckIn lane m := rfl

theorem exec_requalExpiry (t : Nat) (s : State) :
    exec (.requalExpiry t) s =
      s.runOn t fun s => s.requalTake := rfl

theorem exec_slewEnd (t : Nat) (s : State) :
    exec (.slewEnd t) s =
      s.runOn t fun s => s.slewEnd := rfl

theorem exec_timeAccept (t : Nat) (p : Packet) (s : State) :
    exec (.timeAccept t p) s =
      s.runOn t fun s => State.take (p.guarding 0x0002_0020 1) s := rfl

theorem exec_timeStep (t : Nat) (s : State) :
    exec (.timeStep t) s =
      s.runOn t fun s => s.timeStep := rfl

theorem exec_timedActionRun (t : Nat) (e : Nat) (s : State) :
    exec (.timedActionRun t e) s =
      s.runOn t fun s => s.runTimed e := rfl

theorem exec_taWriteEntry (t : Nat) (p : Packet) (s : State) :
    exec (.taWriteEntry t p) s =
      s.runOn t fun s => State.take (p.writing 0x0002_0218 1) s := rfl

theorem exec_taLoadEntry (t : Nat) (p : Packet) (s : State) :
    exec (.taLoadEntry t p) s =
      s.runOn t fun s => State.take (p.writing 0x0002_0218 2) s := rfl

theorem exec_taCancelEntry (t : Nat) (p : Packet) (s : State) :
    exec (.taCancelEntry t p) s =
      s.runOn t fun s => State.take (p.writing 0x0002_0218 3) s := rfl

theorem exec_ppsOutEdge (t : Nat) (s : State) :
    exec (.ppsOutEdge t) s =
      s.runOn t fun s => s.ppsOutEdge := rfl

theorem exec_ppsOutPulseEnd (t : Nat) (s : State) :
    exec (.ppsOutPulseEnd t) s =
      s.runOn t fun s => s.ppsOutEnd := rfl

theorem exec_relay (t : Nat) (lane : Nat) (m : List Byte) (s : State) :
    exec (.relay t lane m) s =
      s.runOn t fun s => s.relayIn lane m := rfl

theorem exec_relayRewindTimeout (t : Nat) (s : State) :
    exec (.relayRewindTimeout t) s =
      s.runOn t fun s => s.relayRetry := rfl

theorem exec_nectarRecordIn (t : Nat) (stream : Nat) (s : State) :
    exec (.nectarRecordIn t stream) s =
      s.runOn t fun s => s.nectarRecordIn stream := rfl

theorem exec_flushLagExpiry (t : Nat) (stream : Nat) (s : State) :
    exec (.flushLagExpiry t stream) s =
      s.runOn t fun s => s.flushExpired stream := rfl

theorem exec_eventsRecordTimeout (t : Nat) (s : State) :
    exec (.eventsRecordTimeout t) s =
      s.runOn t fun s => s.eventsTimeout := rfl

theorem exec_eventsLost (t : Nat) (s : State) :
    exec (.eventsLost t) s =
      s.runOn t fun s => s.eventsLost := rfl

theorem exec_overflowGapWrite (t : Nat) (stream : Nat) (s : State) :
    exec (.overflowGapWrite t stream) s =
      s.runOn t fun s => s.overflowGaps stream := rfl

theorem exec_packetHdrBad (t : Nat) (port : Port) (s : State) :
    exec (.packetHdrBad t port) s =
      s.runOn t fun s => s.headerBad port := rfl

theorem exec_packetTrailerBad (t : Nat) (p : Packet) (s : State) :
    exec (.packetTrailerBad t p) s =
      s.runOn t fun s => s.trailerBad p := rfl

theorem exec_linkSkip (t : Nat) (lane : Nat) (received : Nat) (s : State) :
    exec (.linkSkip t lane received) s =
      s.runOn t fun s => s.linkSkip lane received := rfl

theorem exec_badOpcode (t : Nat) (p : Packet) (s : State) :
    exec (.badOpcode t p) s =
      s.runOn t fun s => State.take p.unlisted s := rfl

theorem exec_rd (t : Nat) (p : Packet) (s : State) :
    exec (.rd t p) s =
      s.runOn t fun s => State.take (p.withOp 0x01) s := rfl

theorem exec_wr (t : Nat) (p : Packet) (s : State) :
    exec (.wr t p) s =
      s.runOn t fun s => State.take (p.withOp 0x02) s := rfl

theorem exec_ixrd (t : Nat) (p : Packet) (s : State) :
    exec (.ixrd t p) s =
      s.runOn t fun s => State.take (p.withOp 0x03) s := rfl

theorem exec_ixwr (t : Nat) (p : Packet) (s : State) :
    exec (.ixwr t p) s =
      s.runOn t fun s => State.take (p.withOp 0x04) s := rfl

theorem exec_gwr (t : Nat) (p : Packet) (s : State) :
    exec (.gwr t p) s =
      s.runOn t fun s => State.take (p.withOp 0x05) s := rfl

theorem exec_rdb (t : Nat) (p : Packet) (s : State) :
    exec (.rdb t p) s =
      s.runOn t fun s => State.take (p.withOp 0x10) s := rfl

theorem exec_wrb (t : Nat) (p : Packet) (s : State) :
    exec (.wrb t p) s =
      s.runOn t fun s => State.take (p.withOp 0x11) s := rfl

theorem exec_img (t : Nat) (p : Packet) (s : State) :
    exec (.img t p) s =
      s.runOn t fun s => State.take (p.withOp 0x20) s := rfl

theorem exec_commit (t : Nat) (p : Packet) (s : State) :
    exec (.commit t p) s =
      s.runOn t fun s => State.take (p.withOp 0x21) s := rfl

theorem exec_cfgCommitWrite (t : Nat) (p : Packet) (s : State) :
    exec (.cfgCommitWrite t p) s =
      s.runOn t fun s => State.take (p.asGuarded 0x0001_0008) s := rfl

theorem exec_imageApply (t : Nat) (s : State) :
    exec (.imageApply t) s =
      s.runOn t fun s =>
        let (avs, s) := s.fresh Config.avsAnswer
        s.imageApply avs := rfl

theorem exec_partialApplyTick (t : Nat) (s : State) :
    exec (.partialApplyTick t) s =
      s.runOn t fun s =>
        let (avs, s) := s.fresh Config.avsAnswer
        s.partialApplyTick avs := rfl

theorem exec_configCrcPass (t : Nat) (upset : Word) (s : State) :
    exec (.configCrcPass t upset) s =
      s.runOn t fun s => s.configCrcPass upset := rfl

theorem exec_cfgRefWrite (t : Nat) (p : Packet) (s : State) :
    exec (.cfgRefWrite t p) s =
      s.runOn t fun s => State.take (p.asGuarded 0x0001_0010) s := rfl

theorem exec_otpProgram (t : Nat) (p : Packet) (s : State) :
    exec (.otpProgram t p) s =
      s.runOn t fun s => State.take (p.asGuarded 0x0000_0028) s := rfl

theorem exec_otpProgramDone (t : Nat) (s : State) :
    exec (.otpProgramDone t) s =
      s.runOn t fun s => s.otpDone := rfl

theorem exec_guardFirstWrite (t : Nat) (p : Packet) (s : State) :
    exec (.guardFirstWrite t p) s =
      s.runOn t fun s => State.take (p.withOp 0x02) s := rfl

theorem exec_guardTimeout (t : Nat) (port : Port) (s : State) :
    exec (.guardTimeout t port) s =
      s.runOn t fun s => s.guardTimeout port := rfl

theorem exec_lock (t : Nat) (p : Packet) (s : State) :
    exec (.lock t p) s =
      s.runOn t fun s => State.take (p.withOp 0x28) s := rfl

theorem exec_unlock (t : Nat) (p : Packet) (s : State) :
    exec (.unlock t p) s =
      s.runOn t fun s => State.take (p.withOp 0x29) s := rfl

theorem exec_lockReqTake (t : Nat) (p : Packet) (s : State) :
    exec (.lockReqTake t p) s =
      s.runOn t fun s => State.take (p.writing 0x000E_0004 (leAt p.payload 0 4 % 16 + 256)) s := rfl

theorem exec_lockReqRelease (t : Nat) (p : Packet) (s : State) :
    exec (.lockReqRelease t p) s =
      s.runOn t fun s => State.take (p.writing 0x000E_0004 (leAt p.payload 0 4 % 16)) s := rfl

theorem exec_lockLeaseExpiry (t : Nat) (n : Nat) (s : State) :
    exec (.lockLeaseExpiry t n) s =
      s.runOn t fun s => s.lockExpiry n := rfl

theorem exec_ixAddrWrite (t : Nat) (p : Packet) (s : State) :
    exec (.ixAddrWrite t p) s =
      s.runOn t fun s => State.take (p.asWrite 0x000D_0000) s := rfl

theorem exec_ixDataRead (t : Nat) (p : Packet) (s : State) :
    exec (.ixDataRead t p) s =
      s.runOn t fun s => State.take (p.reading 0x000D_0004) s := rfl

theorem exec_ixDataWrite (t : Nat) (p : Packet) (s : State) :
    exec (.ixDataWrite t p) s =
      s.runOn t fun s => State.take (p.asWrite 0x000D_0004) s := rfl

theorem exec_timeNowLatchRead (t : Nat) (p : Packet) (s : State) :
    exec (.timeNowLatchRead t p) s =
      s.runOn t fun s => State.take (p.reading 0x0002_0004) s := rfl

theorem exec_readClear (t : Nat) (p : Packet) (s : State) :
    exec (.readClear t p) s =
      s.runOn t fun s => State.take (p.withOp 0x01) s := rfl

theorem exec_registerWrite (t : Nat) (p : Packet) (s : State) :
    exec (.registerWrite t p) s =
      s.runOn t fun s => State.take (p.withOp 0x02) s := rfl

theorem exec_drCfgEnWrite (t : Nat) (p : Packet) (s : State) :
    exec (.drCfgEnWrite t p) s =
      s.runOn t fun s => State.take (p.writing 0x000B_0080 (leAt p.payload 0 4 ||| 1)) s := rfl

theorem exec_streamOpen (t : Nat) (p : Packet) (s : State) :
    exec (.streamOpen t p) s =
      s.runOn t fun s => State.take (p.withOp 0x48) s := rfl

theorem exec_streamClose (t : Nat) (p : Packet) (s : State) :
    exec (.streamClose t p) s =
      s.runOn t fun s => State.take (p.withOp 0x49) s := rfl

theorem exec_ack (t : Nat) (p : Packet) (s : State) :
    exec (.ack t p) s =
      s.runOn t fun s => State.take (p.withOp 0x4A) s := rfl

theorem exec_unitResetLane (t : Nat) (p : Packet) (s : State) :
    exec (.unitResetLane t p) s =
      s.runOn t fun s => State.take (p.resetting 0x04) s := rfl

theorem exec_unitResetPod (t : Nat) (p : Packet) (s : State) :
    exec (.unitResetPod t p) s =
      s.runOn t fun s => State.take (p.resetting 0x05) s := rfl

theorem exec_unitResetTrig (t : Nat) (p : Packet) (s : State) :
    exec (.unitResetTrig t p) s =
      s.runOn t fun s => State.take (p.resetting 0x07) s := rfl

theorem exec_unitResetHostp (t : Nat) (p : Packet) (s : State) :
    exec (.unitResetHostp t p) s =
      s.runOn t fun s => State.take (p.resetting 0x0B) s := rfl

theorem exec_dripFrame (t : Nat) (stopOk : Bool) (bs : List Byte) (s : State) :
    exec (.dripFrame t stopOk bs) s =
      s.runOn t fun s => s.dripFrame stopOk bs := rfl

theorem exec_dripRetryTimeout (t : Nat) (s : State) :
    exec (.dripRetryTimeout t) s =
      s.runOn t fun s => s.dripRetry := rfl

theorem exec_dripPortReset (t : Nat) (s : State) :
    exec (.dripPortReset t) s =
      s.runOn t fun s => s.portReset .drip := rfl

theorem exec_i2cCommandStop (t : Nat) (bs : List Byte) (s : State) :
    exec (.i2cCommandStop t bs) s =
      s.runOn t fun s => s.i2cCommand bs := rfl

theorem exec_i2cResponseRead (t : Nat) (s : State) :
    exec (.i2cResponseRead t) s =
      s.runOn t fun s => s.i2cResponseRead := rfl

theorem exec_i2cEventRead (t : Nat) (s : State) :
    exec (.i2cEventRead t) s =
      s.runOn t fun s => s.i2cEventRead := rfl

theorem exec_i2cPortReset (t : Nat) (s : State) :
    exec (.i2cPortReset t) s =
      s.runOn t fun s => s.i2cReset := rfl

theorem exec_dapRead (t : Nat) (addr : Word) (s : State) :
    exec (.dapRead t addr) s =
      s.run t fun s => s.dapRead addr false := rfl

theorem exec_dapReadClear (t : Nat) (addr : Word) (s : State) :
    exec (.dapReadClear t addr) s =
      s.run t fun s => s.dapRead addr true := rfl

theorem exec_dapWrite (t : Nat) (addr : Word) (data : Word) (s : State) :
    exec (.dapWrite t addr data) s =
      s.run t fun s => s.dapWrite addr data := rfl

theorem exec_tapReset (t : Nat) (s : State) :
    exec (.tapReset t) s =
      s.run t fun s => s.tapReset := rfl

theorem exec_plHbSend (t : Nat) (s : State) :
    exec (.plHbSend t) s =
      s.runOn t fun s => s.plHbSend := rfl

theorem exec_plHb (t : Nat) (plseq : Nat) (hb : Heartbeat) (s : State) :
    exec (.plHb t plseq hb) s =
      s.runOn t fun s => s.plHb plseq hb := rfl

theorem exec_plFwd (t : Nat) (plseq : Nat) (fseq : Nat) (tick : Nat) (p : Packet) (s : State) :
    exec (.plFwd t plseq fseq tick p) s =
      s.runOn t fun s => s.plFwd plseq fseq tick p := rfl

theorem exec_forwardApply (t : Nat) (s : State) :
    exec (.forwardApply t) s =
      s.runOn t fun s => s.forwardApply := rfl

theorem exec_applyTimeReached (t : Nat) (s : State) :
    exec (.applyTimeReached t) s =
      s.runOn t fun s => s.timedApply := rfl

theorem exec_plAck (t : Nat) (plseq : Nat) (entries : List (Nat × Nat)) (s : State) :
    exec (.plAck t plseq entries) s =
      s.runOn t fun s => s.plAck plseq entries := rfl

theorem exec_plDigest (t : Nat) (plseq : Nat) (stream : Nat) (rseq : Nat) (frag : Nat) (digest : Nat) (s : State) :
    exec (.plDigest t plseq stream rseq frag digest) s =
      s.runOn t fun s => s.plDigest plseq stream rseq frag digest := rfl

theorem exec_cmpWaitExpiry (t : Nat) (s : State) :
    exec (.cmpWaitExpiry t) s =
      s.runOn t fun s => s.cmpExpiry := rfl

theorem exec_plMark (t : Nat) (plseq : Nat) (mark : Mark) (s : State) :
    exec (.plMark t plseq mark) s =
      s.runOn t fun s => s.plMark plseq mark := rfl

theorem exec_plLocal (t : Nat) (plseq : Nat) (ch : Nat) (slot : Nat) (word : Word48) (stamp : Word48) (s : State) :
    exec (.plLocal t plseq ch slot word stamp) s =
      s.runOn t fun s => s.plLocal plseq ch slot word stamp := rfl

theorem exec_plTicks (t : Nat) (plseq : Nat) (lane : Nat) (ticks : List Nat) (s : State) :
    exec (.plTicks t plseq lane ticks) s =
      s.runOn t fun s => s.plTicks plseq lane ticks := rfl

theorem exec_plJoin (t : Nat) (plseq : Nat) (boundary : Nat) (entries : List JoinEntry) (s : State) :
    exec (.plJoin t plseq boundary entries) s =
      s.runOn t fun s => s.plJoin plseq boundary entries := rfl

theorem exec_plLease (t : Nat) (plseq : Nat) (msg : LeaseMsg) (s : State) :
    exec (.plLease t plseq msg) s =
      s.runOn t fun s => s.plLease plseq msg := rfl

theorem exec_plFault (t : Nat) (plseq : Nat) (fault : Nat) (selfCheck : Nat) (s : State) :
    exec (.plFault t plseq fault selfCheck) s =
      s.runOn t fun s => s.plFault plseq fault selfCheck := rfl

theorem exec_pairJoinRequest (t : Nat) (s : State) :
    exec (.pairJoinRequest t) s =
      s.runOn t fun s => s.joinRequest := rfl

theorem exec_hbTimeout (t : Nat) (s : State) :
    exec (.hbTimeout t) s =
      s.runOn t fun s => s.hbTimedOut := rfl

theorem exec_takeoverLive (t : Nat) (s : State) :
    exec (.takeoverLive t) s =
      s.runOn t fun s => s.takeoverLive := rfl

theorem exec_partnerActiveRise (t : Nat) (s : State) :
    exec (.partnerActiveRise t) s =
      s.runOn t fun s => s.partnerActiveRise := rfl

theorem exec_pairLinkUp (t : Nat) (s : State) :
    exec (.pairLinkUp t) s =
      s.runOn t fun s => s.pairLinkUp := rfl

theorem exec_leaseRead (t : Nat) (p : Packet) (s : State) :
    exec (.leaseRead t p) s =
      s.runOn t fun s => State.take (p.operating 0x40 0) s := rfl

theorem exec_leaseGrantPrimary (t : Nat) (p : Packet) (s : State) :
    exec (.leaseGrantPrimary t p) s =
      s.runOn t fun s => State.take (p.operating 0x40 1) s := rfl

theorem exec_leaseGrantSuccession (t : Nat) (p : Packet) (s : State) :
    exec (.leaseGrantSuccession t p) s =
      s.runOn t fun s => State.take (p.operating 0x40 2) s := rfl

theorem exec_leaseRevoke (t : Nat) (p : Packet) (s : State) :
    exec (.leaseRevoke t p) s =
      s.runOn t fun s => State.take (p.operating 0x40 3) s := rfl

theorem exec_leaseRelayTimeout (t : Nat) (s : State) :
    exec (.leaseRelayTimeout t) s =
      s.runOn t fun s => s.leaseRelayTimeout := rfl

theorem exec_leaseExpired (t : Nat) (succession : Bool) (s : State) :
    exec (.leaseExpired t succession) s =
      s.runOn t fun s => s.leaseExpired succession := rfl

theorem exec_pairHandover (t : Nat) (p : Packet) (s : State) :
    exec (.pairHandover t p) s =
      s.runOn t fun s => State.take (p.guarding 0x000C_001C 1) s := rfl

theorem exec_pairRejoin (t : Nat) (p : Packet) (s : State) :
    exec (.pairRejoin t p) s =
      s.runOn t fun s => State.take (p.guarding 0x000C_001C 2) s := rfl

theorem exec_pairDeclareFault (t : Nat) (p : Packet) (s : State) :
    exec (.pairDeclareFault t p) s =
      s.runOn t fun s => State.take (p.guarding 0x000C_001C 3) s := rfl

theorem exec_limitingEnd (t : Nat) (k : Nat) (s : State) :
    exec (.limitingEnd t k) s =
      s.runOn t fun s => s.limitEnds k := rfl

theorem exec_complianceRestored (t : Nat) (k : Nat) (s : State) :
    exec (.complianceRestored t k) s =
      s.runOn t fun s => s.complianceBack k := rfl

theorem exec_mainsSignalLoss (t : Nat) (s : State) :
    exec (.mainsSignalLoss t) s =
      s.run t fun s => s.mainsLost := rfl

theorem exec_fieldOtpCheckDone (t : Nat) (good : Bool) (s : State) :
    exec (.fieldOtpCheckDone t good) s =
      s.run t fun s => s.otpChecked good := rfl

theorem exec_unknownMessageType (t : Nat) (lane : Nat) (s : State) :
    exec (.unknownMessageType t lane) s =
      s.runOn t fun s => s.unknownMessage lane := rfl

theorem exec_stuffErr (t : Nat) (lane : Nat) (s : State) :
    exec (.stuffErr t lane) s =
      s.runOn t fun s => s.stuffErr lane := rfl

theorem exec_syncMiss (t : Nat) (lane : Nat) (s : State) :
    exec (.syncMiss t lane) s =
      s.runOn t fun s => s.syncMiss lane := rfl

theorem exec_farTrainingEnd (t : Nat) (lane : Nat) (s : State) :
    exec (.farTrainingEnd t lane) s =
      s.runOn t fun s => s.farTrainingEnd lane := rfl

theorem exec_holdLimitCrossed (t : Nat) (s : State) :
    exec (.holdLimitCrossed t) s =
      s.runOn t id := rfl

theorem exec_hostStop (t : Nat) (on : Bool) (s : State) :
    exec (.hostStop t on) s =
      s.runOn t fun s => { s with ports := { s.ports with hostStop := on } } := rfl

theorem exec_packetSent (t : Nat) (port : Port) (s : State) :
    exec (.packetSent t port) s =
      s.runOn t fun s => s.packetSent port := rfl

theorem exec_ctsNChange (t : Nat) (low : Bool) (s : State) :
    exec (.ctsNChange t low) s =
      s.runOn t fun s => { s with ports := { s.ports with ctsLow := low } } := rfl

theorem exec_extest (t : Nat) (ir : Byte) (boundary : List Bool) (s : State) :
    exec (.extest t ir boundary) s =
      s.run t fun s => s.setIr ir boundary := rfl

theorem exec_markWaitExpiry (t : Nat) (s : State) :
    exec (.markWaitExpiry t) s =
      s.runOn t fun s => s.markExpiry := rfl

theorem exec_selfCheckExpiry (t : Nat) (bitNo : Nat) (s : State) :
    exec (.selfCheckExpiry t bitNo) s =
      s.runOn t fun s => s.checkExpires bitNo := rfl

theorem exec_fieldLinkLoss (t : Nat) (s : State) :
    exec (.fieldLinkLoss t) s =
      s.run t fun s => s.fieldLinkLoss := rfl

theorem exec_fieldLinkReturn (t : Nat) (s : State) :
    exec (.fieldLinkReturn t) s =
      s.run t fun s => s.fieldLinkReturn := rfl

end Sys2Proof.Machine
end

