-- ==== Sys2Proof/Laws/Hive.lean ====
section
/-! SUPPORT. Laws of Hive's bytes: every operation on the memory keeps its canonical form, and a read after a write. -/

namespace Sys2Proof.Machine

@[simp] theorem Memory.wf_nil : Memory.wf [] = true := rfl

/-- Bytes written one after another keep the canonical form. -/
theorem memPut_wf {m : List Host.Cell} (h : Memory.wf m = true) (a : Nat) (bs : List Byte) : Memory.wf (memPut m a bs) = true := by
  induction bs generalizing m a with
  | nil => exact h
  | cons b bs ih => exact ih (m := Tab.set hiveDefault m a b) (Tab.wf_set (d := hiveDefault) h a b) (a + 1)

/-- A byte outside those written reads as before. -/
theorem memPut_outside {m : List Host.Cell} {a k : Nat} {bs : List Byte} (h : k < a ∨ a + bs.length ≤ k) :
    Tab.get hiveDefault (memPut m a bs) k = Tab.get hiveDefault m k := by
  induction bs generalizing m a with
  | nil => rfl
  | cons b bs ih =>
    simp only [List.length_cons] at h
    rw [memPut, ih (by omega), Tab.get_set_ne (d := hiveDefault) m b (by omega)]

/-- A byte written reads back. -/
theorem memPut_inside {m : List Host.Cell} {a i : Nat} {bs : List Byte} {v : Byte} (h : bs[i]? = some v) :
    Tab.get hiveDefault (memPut m a bs) (a + i) = v := by
  induction bs generalizing m a i with
  | nil => simp at h
  | cons b bs ih =>
    cases i with
    | zero =>
      rw [memPut, memPut_outside (by omega)]
      simpa using h
    | succ i =>
      rw [memPut, show a + (i + 1) = a + 1 + i by omega]
      exact ih (by simpa using h)

end Sys2Proof.Machine
end

