-- ==== Sys2Proof/Laws/Streams.lean ====
section
/-! SUPPORT. What the stream operations leave as it was: emitting, closing and assembling records touch streams, buffers, FIFOs,
events and counters only, and in Hive the arbiters and check bits: no byte of its memory. -/

namespace Sys2Proof.Machine

/-- The parts of the state no stream operation touches. -/
def State.still (s : State) :=
  (s.sys, s.time, s.cfg, s.field, s.pods, s.chains, s.lanes, s.trig, s.hive.mem, s.comb, s.pair, s.clk, s.wire, s.plOut, s.free,
    s.pending)

/-- A fold of operations that each leave something as it was leaves it so. -/
theorem foldl_keeps {α β : Type} {g : State → β} {f : State → α → State} (h : ∀ s x, g (f s x) = g s) (l : List α) (s : State) :
    g (l.foldl f s) = g s := by
  induction l generalizing s with
  | nil => rfl
  | cons x l ih => rw [List.foldl_cons, ih, h]

@[simp] theorem State.raise_still (s : State) (c u : Nat) (a : List Word) : (s.raise c u a).still = s.still := by
  simp [State.still]
@[simp] theorem State.bump_still (s : State) (a : Nat) : (s.bump a).still = s.still := by simp [State.still]
@[simp] theorem State.setReg_still (s : State) (a : Nat) (v : Word) : (s.setReg a v).still = s.still := rfl
@[simp] theorem State.updStream_still (s : State) (i : Nat) (f : Stream → Stream) : (s.updStream i f).still = s.still := rfl
@[simp] theorem State.complete_still (s : State) (p : Packet) (st : Nat) (b : List Byte) : (s.complete p st b).still = s.still := by
  simp [State.still]
@[simp] theorem State.enqueue_still (s : State) (r : Route) (x : Record) : (s.enqueue r x).still = s.still := by
  unfold State.enqueue; split; · rfl
  · split <;> rfl
@[simp] theorem State.countGrant_still (s : State) (g : Grant) : (s.countGrant g).still = s.still := by
  unfold State.countGrant; dsimp only; split <;> simp
@[simp] theorem State.setBank_still (s : State) (b : Nat) (a : Arbiter) : (s.setBank b a).still = s.still := rfl
@[simp] theorem State.runBank_still (s : State) (b : Nat) : (s.runBank b).still = s.still := by
  unfold State.runBank; dsimp only; split; · rfl
  · rw [foldl_keeps State.countGrant_still, State.setBank_still]
@[simp] theorem State.grant_still (s : State) (b r n : Nat) : (s.grant b r n).still = s.still := by
  unfold State.grant; dsimp only
  split <;> simp
@[simp] theorem State.grants_still (s : State) (q a n : Nat) : (s.grants q a n).still = s.still := by
  unfold State.grants
  exact foldl_keeps (g := State.still) (fun s b => State.grant_still ..) _ _
@[simp] theorem State.wordGrants_still (s : State) (q : Nat) (ws : List Nat) : (s.wordGrants q ws).still = s.still := by
  unfold State.wordGrants
  exact foldl_keeps (g := State.still) (fun s r => State.grants_still ..) _ _
@[simp] theorem State.strike_still (s : State) (ws : List Nat) : (s.strike ws).still = s.still := by
  unfold State.strike; split
  · split <;> rfl
  · rfl
@[simp] theorem State.unitWrite_still (s : State) (q : Nat) (r : Option Region) (n k : Nat) :
    (s.unitWrite q r n k).still = s.still := by
  unfold State.unitWrite; split; · rfl
  · rw [State.strike_still]; exact State.wordGrants_still ..
@[simp] theorem State.writeRecord_still (s : State) (r : Route) (x : Record) : (s.writeRecord r x).still = s.still := by
  simp [State.writeRecord]
@[simp] theorem State.overflow_still (s : State) (r : Route) : (s.overflow r).still = s.still := by
  simp [State.overflow]
@[simp] theorem State.emit_still (s : State) (r : Route) (x : Record) : (s.emit r x).still = s.still := by
  unfold State.emit; split
  · split <;> simp
  · rfl
@[simp] theorem State.writeGaps_still (r : Route) (gs : List Record) (s : State) : (s.writeGaps r gs).still = s.still := by
  induction gs generalizing s with
  | nil => rfl
  | cons g gs ih => unfold State.writeGaps; split <;> simp [ih]
@[simp] theorem State.endOpening_still (s : State) (r : Route) : (s.endOpening r).still = s.still := by
  unfold State.endOpening; dsimp only; split <;> simp
@[simp] theorem State.closeRecord_still (s : State) (r : Route) : (s.closeRecord r).still = s.still := by
  unfold State.closeRecord; dsimp only; split; · rfl
  · split
    · split <;> simp
    · simp
@[simp] theorem State.stopStreams_still (s : State) : s.stopStreams.still = s.still :=
  foldl_keeps (fun s r => by simp) _ _
@[simp] theorem State.updCols_still (s : State) (r : Route) (f : Nat → Column → Column) : (s.updCols r f).still = s.still := rfl
@[simp] theorem State.emits_still (s : State) (r : Route) (xs : List Record) :
    (xs.foldl (fun s y => s.emit r y) s).still = s.still := foldl_keeps (fun s x => State.emit_still s r x) _ _
@[simp] theorem State.emitParts_still (s : State) (r : Route) (g : Gap) (chs : List Nat) (ps : List (Nat × Nat)) :
    (s.emitParts r g chs ps).still = s.still := by
  unfold State.emitParts
  refine foldl_keeps (g := State.still) (fun s p => ?_) _ _
  simp only [apply_ite State.still, State.updStream_still, State.updCols_still, State.emit_still, ite_self]
/-- What the emission of parts and a change of columns keep, the end of a span keeps. -/
theorem State.emitSpan_keeps {P : State → Prop} {s : State} {r : Route} {g : Gap} {n : Nat} {chs : List Nat}
    (h1 : ∀ ps, P (s.emitParts r g chs ps)) (h2 : ∀ s f, P s → P (s.updCols r f)) : P (s.emitSpan r g n chs) := by
  unfold State.emitSpan
  extract_lets t
  split
  · exact h2 _ _ (h1 _)
  · exact h1 _
@[simp] theorem State.emitSpan_still (s : State) (r : Route) (g : Gap) (n : Nat) (chs : List Nat) :
    (s.emitSpan r g n chs).still = s.still :=
  State.emitSpan_keeps (P := fun t => t.still = s.still) (fun _ => State.emitParts_still ..) fun _ _ h => h
@[simp] theorem State.emitLate_still (s : State) (r : Route) (m : Nat) : (s.emitLate r m).still = s.still := by
  unfold State.emitLate
  extract_lets due u
  split
  · rfl
  · refine (foldl_keeps (fun t x => ?_) _ _).trans (State.closeRecord_still ..)
    extract_lets v
    split
    · rw [State.updStream_still, State.updCols_still]; exact State.emits_still ..
    · exact State.emits_still ..
theorem State.itemStep_still {s s' : State} {r : Route} (h : s.itemStep r = some s') : s'.still = s.still := by
  unfold State.itemStep at h
  simp only at h
  repeat' split at h
  all_goals simp only [reduceCtorEq, Option.some.injEq] at h
  all_goals subst h
  all_goals simp
theorem State.takeItems_still (r : Route) (n : Nat) (s : State) : (State.takeItems r n s).still = s.still := by
  induction n generalizing s with
  | zero => rfl
  | succ n ih =>
    unfold State.takeItems; split
    · next h => rw [ih, State.itemStep_still h]
    · rfl
@[simp] theorem State.items_still (s : State) (r : Route) : (s.items r).still = s.still := State.takeItems_still ..
@[simp] theorem State.placeSpans_still (s : State) (r : Route) (chs : List Nat) (f : Nat → Nat) (c u : Nat) (e : Bool) :
    (s.placeSpans r chs f c u e).still = s.still := by simp [State.placeSpans]
@[simp] theorem State.deliver_still (s : State) (ch : Nat) (w : SlotWord) : (s.deliver ch w).still = s.still := by
  unfold State.deliver
  refine foldl_keeps (fun s r => ?_) _ _
  dsimp only
  split <;> simp
@[simp] theorem State.openSpans_still (s : State) (chs : List Nat) (f : Nat → Nat) (c u : Nat) (e : Bool) :
    (s.openSpans chs f c u e).still = s.still := by
  unfold State.openSpans
  refine foldl_keeps (fun s r => ?_) _ _
  dsimp only
  split <;> simp
@[simp] theorem State.resumeSpans_still (s : State) (chs : List Nat) (f : Nat → Nat) (c u : Nat) (e : Bool) :
    (s.resumeSpans chs f c u e).still = s.still := by
  unfold State.resumeSpans
  refine foldl_keeps (fun s r => ?_) _ _
  split <;> simp
@[simp] theorem State.closeSpans_still (s : State) (chs : List Nat) (f : Nat → Nat) : (s.closeSpans chs f).still = s.still := by
  unfold State.closeSpans
  refine foldl_keeps (fun s r => ?_) _ _
  dsimp only
  rw [State.items_still]
  exact foldl_keeps (fun s k => by split <;> simp) _ _
@[simp] theorem State.wholeSpan_still (s : State) (ch a n c u : Nat) : (s.wholeSpan ch a n c u).still = s.still := by
  simp [State.wholeSpan]

/-- What an operation that leaves those parts leaves of each. -/
theorem State.still_parts {s t : State} (h : t.still = s.still) :
    t.sys = s.sys ∧ t.time = s.time ∧ t.cfg = s.cfg ∧ t.field = s.field ∧ t.pods = s.pods ∧ t.chains = s.chains
      ∧ t.lanes = s.lanes ∧ t.trig = s.trig ∧ t.hive.mem = s.hive.mem ∧ t.comb = s.comb ∧ t.pair = s.pair ∧ t.clk = s.clk
      ∧ t.wire = s.wire ∧ t.plOut = s.plOut ∧ t.free = s.free ∧ t.pending = s.pending := by
  simpa [State.still] using h

end Sys2Proof.Machine
end

