-- ==== Sys2Proof/Tests/Slice0.lean ====
section
/-! SUPPORT. Tests of the definitions. Witnesses: for each statement with hypotheses, states and operands that meet them, clause by
clause; then the well-formedness checks, and single steps and values worked out by hand from the rules. -/

namespace Sys2Proof.Tests

open Sys2Proof Machine

set_option Elab.async false

/-- A hub in RUN with its time locked, 20 s after it left HOLD. -/
def base : State :=
  { sys := { mode := .run, rstHigh := true, fdLink := true },
    time := { running := true, state := 1, cyc := 16_000_000_000, now := 20_000_000_000 * unitsPerNs } }

/-- The same in another mode. -/
def inMode (m : Mode) : State := { base with sys := { base.sys with mode := m } }

/-- A member of a pair with its link up. -/
def member (role : Nat) : State := { base with lanes := [(30, { st := 6 })], pair := { role := role } }

/-- A lane in a state. -/
def laneIn (l st : Nat) : State := { base with lanes := [(l, { st := st })] }

/-- A local channel. -/
def chan (k : Nat) (x : Local) : State := { base with field := { otpOk := true, ch := [(k, x)] } }

/-- A front end in use. -/
def fe : FrontEnd := { inUse := true, exc := 0x1001, conv := 0x50 }

/-- A channel whose `SPOT` ends now. -/
def spotting : State :=
  chan 0 { witnessed := true
           spot := some { pkt := {}, ready := 19_980_000_000, startAt := 19_980_000_000, len := 20_000_000, aborted := none, drove := false }
           window := some { spot := true, slot := 4, start := 19_980_000_000, len := 20_000_000, code := 0, fe := fe } }

/-- A pod lane in `ACTIVE`. -/
def podUp (l : Nat) (x : PodLane) : State := { laneIn l 6 with pods := [(l, x)] }

/-- The capability block of a pod with 16 channels. -/
def caps16 : List Byte := [1, 16, 0, 0, 0, 0, 0, 0, 0xFF, 0xFF] ++ List.replicate 22 0

/-- A program's record up to its first frame: fields from byte 8 on, and the feed of slot 0. -/
def progCfg (typ : Nat) (fields feed : List Byte) : List Byte :=
  toLE 2 (typ * 256) ++ [0, 0, 0, 0, 0, 0] ++ fields ++ List.replicate (56 - fields.length) 0 ++ feed ++ List.replicate 22 0xFF
    ++ List.replicate 24 0

/-- An epoch's work from 10 s to 20 s. -/
def work0 : Work := { num := 10, start := 10_000_000_000, stop := 20_000_000_000 }

/-- An `SRP` program with one epoch's work. -/
def srpInst (w : Work) : ProgInst := { cfg := progCfg 0 [] [0xFF, 0xFF], born := 0, works := [w] }

/-- An `XSPEC` program with one epoch's work. -/
def xsInst (w : Work) : ProgInst := { cfg := progCfg 1 [] [0xFF, 0xFF], born := 0, works := [w] }

/-- Work that waits for its products. -/
def doneWork : Work := { work0 with next := 20_000, svdAt := some 0 }

/-- A program instance. -/
def inst (i : ProgInst) : State := { base with comb := { insts := [i], state := [(0, 1)] } }

/-- A `MATCH` program: one template of one tap, threshold 1, on channel 800. -/
def matchInst : ProgInst :=
  { cfg := progCfg 2 [1, 0, 1, 0, 0, 0, 1, 0] [0x20, 3] ++ [1, 0, 1, 0, 0, 0, 0, 0, 0, 0], born := 0, spans := [{ base := 7_999_992 }]
    hist := [(0, [(7_999_992, { val := -5 })])] }

/-- A rebuild under way, with a `CAPS` section's body staged. -/
def rebuilding (secs : Tab (List Byte)) : State :=
  { base with
    comb := { rebuild := some { pkt := {}, startAt := 0, compressed := false, frames := [] } }
    cfg := { staged := some { isFull := false, imageId := 0, epochDs := 10, sections := secs, port := .host, acceptedAt := 0, tc := 0 } } }

/-- A capture engine. -/
def eng (x : Engine) : State := { base with trig := { engines := [(0, x)] } }

/-- A `ROUTES` body of one stream, number 1, with its `NX_MODE`. -/
def routeBody (nx : Byte) : List Byte := [1, 0, 0, 0, 0, 0, 0, 0, nx] ++ List.replicate 23 0

/-- A region record. -/
def regionRec (typ owner : Byte) : List Byte := [0, typ, owner, 0, 0, 0, 0, 0, 0, 0, 0, 0, 0, 0, 16, 0]

/-- A hub with that stream, its buffer and a pool. -/
def routed (nx : Byte) (x : Stream) : State :=
  { base with streams := [(1, x)], cfg := { body := [(9, regionRec 3 1 ++ regionRec 4 0), (0xB, routeBody nx)] } }

/-- A record stamped 19 s. -/
def rec1 : Record :=
  { typ := 1, stream := 1, rseq := 0, stamp := stampOfSub (subNs 19_000_000_000), rate := 0xFE, hflags := 0, items := 0, fmt := 0
    typeWord := 0, hub := 0, payload := [] }

/-- A packet of a stream's data, sent and not released. -/
def dataPkt : OutPkt := { kind := .data 1 0, opcode := 0x80, pflags := 2, payload := [], sent := true }

theorem active_two {s : State} {a b : Nat} {x y : Lane} {P : Nat → Prop} (h : s.lanes = [(a, x), (b, y)]) (ha : P a) (hb : P b) :
    ∀ l, s.laneActive l = true → P l := by
  intro l e
  unfold State.laneActive at e
  rw [h] at e
  by_cases h1 : a = l
  · exact h1 ▸ ha
  · by_cases h2 : b = l
    · exact h2 ▸ hb
    · simp [Tab.get, h1, h2] at e

/-- A hub with its drip port enabled. -/
def dripOn : State := { base with regs := [(0x000B_0080, 1)] }

/-- A read of `SYS_ID` from a port. -/
def readPkt (port : Port) : Packet := { port := port, opcode := 1, tag := 1, payload := [1, 0, 0, 0] }

/-- A command's effect once its tag is in flight. -/
def served (s : State) (p : Packet) : Reply × State :=
  (s.updPort p.port fun k => { k with inflight := k.inflight ++ [(p.hub.toNat, p.tag.toNat)] }).applyPacket p (Config.avsAnswer 0)

/-- Bytes with their CRC-16 after them. -/
def withCrc (bs : List Byte) : List Byte := bs ++ toLE 2 (crc16 bs).toNat

/-- A hub whose host port has written 0 to a guarded register once. -/
def guarding (a : Nat) : State := { base with ports := { st := [(1, { guard := some (a, 0, 16_000_000_000) })] } }

/-- A host port's window at an address. -/
def window (a : Word) : State := { base with ports := { st := [(1, { ixAddr := a })] } }

/-- A hub with a lock held by the host port. -/
def locked (n : Nat) : State := { base with ports := { locks := [(n, { owner := 1 })] } }

theorem one_word {w : Word} {P : Nat → Word → Prop} (h : P 0 w) : ∀ (i : Nat) (y : Word), ([w] : List Word)[i]? = some y → P i y := by
  intro i y e
  match i, e with
  | 0, e => simp at e; exact e ▸ h
  | _ + 1, e => simp at e

/-- The conditions of `Admits`, as a test. -/
def admitsB (s : State) (p : Packet) : Bool :=
  decide (s.sys.mode ≠ .hold) && decide (s.pair.role = 0) && decide (p.port = .host) && decide (p.lane ≠ 30)
    && decide (p.lseq.toNat = s.ports.expect) && decide (s.ports.held = []) && decide (s.inboundFill + 20 + p.payload.length ≤ 65536)
    && decide (s.inFlight p = false) && decide (s.mustWait p = false) && decide (s.elsewhere p = false)
    && decide (s.serves p = true) && decide (s.takesApply p = false)

theorem admits_of {s : State} {p : Packet} (h : admitsB s p = true) : Admits s p := by
  simp only [admitsB, Bool.and_eq_true, decide_eq_true_eq] at h
  obtain ⟨⟨⟨⟨⟨⟨⟨⟨⟨⟨⟨a, b⟩, c⟩, d⟩, e⟩, f⟩, g⟩, h⟩, i⟩, j⟩, k⟩, l⟩ := h
  exact ⟨a, b, c, d, e, f, g, h, i, j, k, l⟩

theorem takes_of {s : State} {p : Packet}
    (h : (decide (s.isStandby = false) && decide ((s.forwards && p.changesState) = false)
      && admitsB { s with pair := { s.pair with role := 0 } } p) = true)
    (hw : s.mustWait p = State.mustWait { s with pair := { s.pair with role := 0 } } p := by rfl) : Takes s p := by
  simp only [Bool.and_eq_true, decide_eq_true_eq] at h
  obtain ⟨⟨a, b⟩, c⟩ := h
  have c := admits_of c
  exact ⟨c.awake, a, b, c.port, c.direct, c.next, c.none, c.room, c.tag, hw.trans c.free, c.here, c.served, c.now⟩

/-! ## The block as a whole -/

theorem witness_StepTakesTheFront : ∃ s : State, s.pending = [] := ⟨base, rfl⟩

/-- A hub in HOLD with a command that does not end it. -/
def resting : State := { State.reset with clk := { selected := 0 }, pending := [.pllLock 8] }

theorem resting_atRest : AtRest resting := by
  constructor
  case queue => intro t avs h; simp [resting] at h
  all_goals decide +kernel

theorem witness_HoldKeepsAtRest : ∃ s s' : State, AtRest s ∧ step s = .next s' ∧ s'.clk.lock = true :=
  ⟨resting, _, resting_atRest, rfl, by decide +kernel⟩

theorem witness_OnlyHoldExitLeavesHold : ∃ (c : Instr) (s s' : State), s.sys.mode = .hold ∧ exec c s = .next s' ∧
    s'.sys.mode ≠ .hold :=
  ⟨.holdExit 0 {}, { State.reset with sys := { rstHigh := true }, clk := { lock := true } }, _, rfl, rfl, by decide +kernel⟩

theorem witness_SampleWordsSaturate : (∃ (v : Int) (f : WordFlags), f.absent = false ∧ 2 ^ 31 - 1 < v) ∧
    (∃ (v : Int) (f : WordFlags), f.absent = false ∧ v < -2 ^ 31 + 1) ∧ (∃ f : WordFlags, f.absent = true) :=
  ⟨⟨2 ^ 31, {}, rfl, by decide⟩, ⟨-2 ^ 31, {}, rfl, by decide⟩, ⟨{ absent := true }, rfl⟩⟩

/-- A record one byte too long for one packet. -/
def longRec : Record := { rec1 with payload := List.replicate 4065 0 }

theorem witness_RecordsNumberedAndSplit : (∃ r : Route, r.nxMode = 0 ∧ r.port = 1) ∧ (∃ r : Route, r.nxMode = 0 ∧ r.port ≠ 1) ∧
    (∃ r : Route, r.nxMode ≠ 0) ∧
    (∃ (hub : Nat) (r : Record) (i : Nat) (p : OutPkt), (recordPkts hub r)[i]? = some p ∧ i + 1 < (recordPkts hub r).length) ∧
    (∃ (hub : Nat) (r : Record) (i : Nat) (p : OutPkt), (recordPkts hub r)[i]? = some p ∧ i + 1 = (recordPkts hub r).length) := by
  have h : (recordPkts 0 longRec).length = 2 := by decide +kernel
  exact ⟨⟨{ (default : Route) with port := 1 }, rfl, rfl⟩, ⟨default, rfl, by decide⟩, ⟨{ (default : Route) with nxMode := 1 },
    by decide⟩,
    ⟨0, longRec, 0, _, List.getElem?_eq_getElem (by omega), by omega⟩, ⟨0, longRec, 1, _, List.getElem?_eq_getElem (by omega),
      by omega⟩⟩

theorem witness_LotteryByTickets : ∃ (a b : Arbiter) (cs pre post : List Nat) (w r : Nat), cs ≠ [] ∧ cs.Pairwise (· < ·) ∧
    (∀ f ∈ a.forced, f ∉ cs) ∧ cs = (if cs.any (isClassS false) then cs.filter (isClassS false) else cs) ∧
    r = (lfsrStep a.lfsr).toNat ∧ 0 < (cs.map fun x => a.tickets.getD x 0).sum ∧ cs = pre ++ w :: post ∧
    (pre.map fun x => a.tickets.getD x 0).sum ≤ r % (cs.map fun x => a.tickets.getD x 0).sum ∧
    r % (cs.map fun x => a.tickets.getD x 0).sum < (pre.map fun x => a.tickets.getD x 0).sum + a.tickets.getD w 0 ∧
    b.forced = [] ∧ (cs.map fun x => b.tickets.getD x 0).sum = 0 ∧ b.waits.getD 3 0 = b.waits.getD (b.arbitrate false cs).1 0 :=
  ⟨{ lfsr := 0xACE1, forced := [4], tickets := [0, 0, 0, 1, 0, 3, 0, 0] }, {}, [3, 5], [3], [], 5, 0x59C3, by decide +kernel⟩

theorem witness_HiveAndRegistersHold : ∃ (s : State) (bs : List Byte) (i : Nat) (v : Byte) (a b : Nat), State.wf s = true ∧
    bs[i]? = some v ∧ (b < a ∨ a + bs.length ≤ b) := ⟨base.hiveWrite 5 0 [7], [1, 2], 1, 2, 0, 2, by decide +kernel⟩

/-! ## System and clocks -/

theorem witness_ResetsComplete :
    (∃ (s u r : State) (t : Nat), u = s.elapse t ∧
      r = { State.reset with sys := { State.reset.sys with variant := s.sys.variant },
                             field := { State.reset.field with userOtp := s.field.userOtp },
                             pair := { State.reset.pair with aonA := s.pair.aonA, aonB := s.pair.aonB }, pending := s.pending,
                             free := s.free } ∧ (s.pair.aonA = false ∧ s.pair.aonB = false) ∧ (∃ (p : Packet),
      Admits u (p.guarding 0x20 1)) ∧ (∃ (p : Packet), Admits u (p.guarding 0x20 2) ∧ s.sys.mode ≠ .surge ∧
      s.field.surgeAt = none)) ∧
    (∃ (s u r : State) (t : Nat), u = s.elapse t ∧
      r = { State.reset with sys := { State.reset.sys with variant := s.sys.variant },
                             field := { State.reset.field with userOtp := s.field.userOtp },
                             pair := { State.reset.pair with aonA := s.pair.aonA, aonB := s.pair.aonB }, pending := s.pending,
                             free := s.free } ∧ (s.sys.mode = .hold ∧ s.sys.rstHigh = false)) ∧
    (∃ (s u r : State) (t : Nat), u = s.elapse t ∧
      r = { State.reset with sys := { State.reset.sys with variant := s.sys.variant },
                             field := { State.reset.field with userOtp := s.field.userOtp },
                             pair := { State.reset.pair with aonA := s.pair.aonA, aonB := s.pair.aonB }, pending := s.pending,
                             free := s.free } ∧ (∃ (c : _), s.sys.mode ≠ .hold ∧ s.sys.resetAt = some c ∧ c ≤ u.time.cyc)) := by
  refine ⟨⟨base, _, _, 0, rfl, rfl, ⟨?_, ?_⟩, ⟨{}, ?_⟩, ⟨{}, ?_, ?_, ?_⟩⟩,
    ⟨State.reset, _, _, 0, rfl, rfl, ⟨?_, ?_⟩⟩,
    ⟨{ base with sys := { base.sys with resetAt := some 8_000 } }, _, _, 0, rfl, rfl, ⟨_, ?_, rfl, ?_⟩⟩⟩
  all_goals first | decide +kernel | exact admits_of (by decide +kernel)

theorem witness_BringUpComplete :
    (∃ (s u : State) (t : Nat), u = s.elapse t ∧ (s.sys.mode = .hold ∧ s.sys.rstHigh = true ∧ s.clk.lock = true ∧
      s.sys.holdUntil ≤ u.time.cyc)) ∧
    (∃ (s u : State) (t : Nat), u = s.elapse t ∧ (∃ (good : Bool), good = decide (otpRead 0xFFC = crc32c ((List.range
      0x3FF).flatMap fun i => toLE 4 (otpRead (4 * i)).toNat))) ∧ (s.field.resetting = true) ∧ (s.sys.fdLink = true) ∧ (True) ∧
      (∃ (header : List Byte), s.sys.mode ≠ .hold ∧ s.ports.bootRunning = true ∧ bootHeaderOk header = false) ∧
      (s.sys.mode ≠ .hold ∧ s.hive.initDone = false ∧ s.hive.initAt + 131072 ≤ u.time.cyc)) ∧
    (∃ (s u : State) (t : Nat), u = s.elapse t ∧ (s.sys.mode ≠ .hold ∧ s.sys.mode = .train ∧ (u.lanesReached = true ∨
      s.sys.trainAt + 5 * cycPerS ≤ u.time.cyc))) := by
  refine ⟨⟨{ State.reset with sys := { rstHigh := true }, clk := { lock := true } }, _, 0, rfl, ⟨?_, ?_, ?_, ?_⟩⟩,
    ⟨{ base with field := { resetting := true }, ports := { bootRunning := true } }, _, 0, rfl, ⟨_, rfl⟩, ?_, ?_, trivial, ⟨[],
      ?_, ?_, ?_⟩, ⟨?_, ?_, ?_⟩⟩,
    ⟨inMode .train, _, 0, rfl, ⟨?_, ?_, ?_⟩⟩⟩
  all_goals decide +kernel

theorem witness_ModeRequestsComplete :
    (∃ (s u : State) (t : Nat) (p : Packet), u = s.elapse t ∧ (Admits u (p.guarding 0x10 11) ∧ (s.sys.mode = .train ∨ s.sys.mode =
      .run ∨ s.sys.mode = .holdover ∨ s.sys.mode = .shadow)) ∧ (Admits u (p.guarding 0x10 9) ∧ s.sys.mode ≠ .safe)) ∧
    (∃ (s u : State) (t : Nat) (p : Packet), u = s.elapse t ∧ (Admits u (p.guarding 0x10 10) ∧ (s.sys.mode = .load ∨ s.sys.mode =
      .safe ∨ (s.sys.mode = .quiesce ∧ s.sys.quiesced = true)))) ∧
    (∃ (s u : State) (t : Nat) (p : Packet), u = s.elapse t ∧ (Admits u (p.guarding 0x10 (modeCode s.sys.prev)) ∧
      s.sys.mode = .test ∧ s.sys.prev ≠ .test ∧ s.sys.prev ≠ .safe)) := by
  refine ⟨⟨inMode .run, _, 0, {}, rfl, ⟨?_, ?_⟩, ⟨?_, ?_⟩⟩,
    ⟨inMode .load, _, 0, {}, rfl, ⟨?_, ?_⟩⟩,
    ⟨{ inMode .test with sys := { base.sys with mode := .test, prev := .load } }, _, 0, {}, rfl, ⟨?_, ?_, ?_, ?_⟩⟩⟩
  all_goals first | decide +kernel | exact admits_of (by decide +kernel)

theorem witness_StopsComplete :
    (∃ (s u : State) (t : Nat), u = s.elapse t ∧ s.sys.mode ≠ .hold ∧ (∃ (c : _), s.sys.fdDownAt = some c ∧
      c + 10 * cycPerMs ≤ u.time.cyc ∧ s.field.feApplied = true ∧ s.sys.mode ≠ .safe) ∧ (∃ (temp : Int), 125_000 < temp ∧
      s.sys.mode ≠ .safe)) ∧
    (∃ (s u : State) (t : Nat), u = s.elapse t ∧ s.sys.mode ≠ .hold ∧ (∃ (q : _), s.sys.mode = .quiesce ∧ s.sys.quiesceAt = some q
      ∧ q ≤ u.ns) ∧ (∃ (w : _), s.sys.mode = .quiesce ∧ s.sys.quiesceStamp = some w ∧ s.sys.quiesced = false ∧
      s.host.holdsData = false ∧ s.drip.holdsData = false ∧ s.nx.inq = [] ∧ (∀ i, i < 16 → s.poolEmpty i = true))) := by
  refine ⟨⟨{ base with sys := { base.sys with fdDownAt := some 0 }, field := { feApplied := true } }, _, 0, rfl, ?_, ⟨_, rfl, ?_,
    ?_, ?_⟩, ⟨125_001, ?_, ?_⟩⟩,
    ⟨{ base with sys := { base.sys with mode := .quiesce, quiesceAt := some 20_000_000_000, quiesceStamp := some 0 } }, _, 0, rfl,
      ?_, ⟨_, ?_, rfl, ?_⟩, ⟨_, ?_, rfl, ?_, ?_, ?_, ?_, ?_⟩⟩⟩
  all_goals decide +kernel

theorem witness_SurgesComplete :
    (∃ (s u : State) (t : Nat), u = s.elapse t ∧ s.sys.mode ≠ .hold ∧ (s.field.surgeAt = none ∧ surgeable s.sys.mode = true)) ∧
    (∃ (s u : State) (t : Nat), u = s.elapse t ∧ s.sys.mode ≠ .hold ∧ (s.field.surgeAt = none ∧ surgeable s.sys.mode = false)) ∧
    (∃ (s u : State) (t : Nat), u = s.elapse t ∧ s.sys.mode ≠ .hold ∧ (s.field.surgeAt.isSome = true) ∧
      (∃ (q : _), s.field.surgeAt.isSome = true ∧ s.field.quietAt = some q ∧ s.field.leadTest = false ∧
      q + 50 * cycPerMs ≤ u.time.cyc)) ∧
    (∃ (s u : State) (t : Nat), u = s.elapse t ∧ s.sys.mode ≠ .hold ∧ (∃ (q : _) (loops : List LeadMeasure),
      s.field.surgeAt.isSome = true ∧ s.field.quietAt = some q ∧ s.field.leadTest = true ∧ q + 4 * cycPerMs ≤ u.time.cyc ∧
      (loops.map (·.ch)).Nodup) ∧ (∃ (n : _), s.sys.surgeChains = some n ∧ tickTime n ≤ u.time.now)) := by
  refine ⟨⟨base, _, 0, rfl, ?_, ⟨?_, ?_⟩⟩,
    ⟨inMode .load, _, 0, rfl, ?_, ⟨?_, ?_⟩⟩,
    ⟨{ inMode .surge with field := { surgeAt := some 0, quietAt := some 15_960_000_000 } }, _, 0, rfl, ?_, ?_, ⟨_, ?_, rfl, ?_,
      ?_⟩⟩,
    ⟨{ inMode .surge with sys := { base.sys with mode := .surge, surgeChains := some 0 },
                          field := { surgeAt := some 0, quietAt := some 15_996_800_000, leadTest := true } }, _, 0, rfl, ?_, ⟨_,
      [⟨0, 0, false, 0, false⟩, ⟨31, 9_999, true, 0, false⟩], ?_, rfl, ?_, ?_, ?_⟩, ⟨_, rfl, ?_⟩⟩⟩
  all_goals decide +kernel

theorem witness_EpochsComplete :
    (∃ (s u : State) (t st k : Nat), u = s.elapse t ∧ s.sys.mode ≠ .hold ∧ s.cfg.gridStart = some st ∧ s.acquiring = true ∧
      s.sys.quiesceAt = none ∧ s.cfg.staged = none ∧ st * 1_000_000_000 ≤ u.ns ∧ k = (u.ns - st * 1_000_000_000) / max 1
      (s.cfg.epochDs * 100_000_000) ∧ (s.cfg.gridOn = false ∧ s.cfg.epochFrom ≤ st * 1_000_000_000 + k * (s.cfg.epochDs *
      100_000_000))) ∧
    (∃ (s u : State) (t st k : Nat), u = s.elapse t ∧ s.sys.mode ≠ .hold ∧ s.cfg.gridStart = some st ∧ s.acquiring = true ∧
      s.sys.quiesceAt = none ∧ s.cfg.staged = none ∧ st * 1_000_000_000 ≤ u.ns ∧ k = (u.ns - st * 1_000_000_000) / max 1
      (s.cfg.epochDs * 100_000_000) ∧ (s.cfg.gridOn = true ∧ (∀ j, s.cfg.epoch = some j → j < k) ∧
      (s.cfg.epoch = none → s.cfg.epochFrom ≤ st * 1_000_000_000 + k * (s.cfg.epochDs * 100_000_000)))) := by
  refine ⟨⟨{ base with cfg := { gridStart := some 20 } }, _, 0, 20, 0, rfl, ?_, ?_, ?_, ?_, ?_, ?_, ?_, ⟨?_, ?_⟩⟩,
    ⟨{ base with cfg := { gridStart := some 10, gridOn := true, epoch := some 9 } }, _, 0, 10, 10, rfl, ?_, ?_, ?_, ?_, ?_, ?_,
      ?_, ⟨?_, ?_, ?_⟩⟩⟩
  all_goals decide +kernel

theorem witness_ReferencesComplete :
    (∃ (s u : State) (t : Nat), u = s.elapse t ∧ (s.clk.lock = false ∧ s.clk.selected ≠ 3 ∧ s.clk.coast = false) ∧
      (∃ (c : _), s.clk.unlockAt = some c ∧ s.clk.lock = false ∧ s.clk.selected ≠ 3 ∧ c + cycPerMs ≤ u.time.cyc) ∧
      (∃ (p : Packet) (v0 : Word), Admits u (p.asWrite 0x0003_0004) ∧ (p.asWrite 0x0003_0004).words = some [v0] ∧
      bits v0.toNat 8 8 ≠ 0 ∧ bits v0.toNat 16 7 ≠ 0 ∧ bits v0.toNat 16 7 ≤ 100)) := by
  refine ⟨{ base with clk := { selected := 0, unlockAt := some 15_999_200_000 } }, _, 0, rfl, ⟨?_, ?_, ?_⟩, ⟨_, rfl, ?_, ?_, ?_⟩,
    ⟨{ payload := [0x0E, 0x14, 0x0A, 0] }, 0x000A_140E, ?_, ?_, ?_, ?_, ?_⟩⟩
  all_goals first | decide +kernel | exact admits_of (by decide +kernel)

theorem witness_CoastComplete :
    (∃ (s u : State) (t : Nat), u = s.elapse t ∧ s.sys.mode ≠ .hold ∧ (∃ (c old : _), s.clk.grace = some (c, old) ∧
      s.clk.coast = false ∧ c + s.refGrace * cycPerMs ≤ u.time.cyc)) ∧
    (∃ (s u : State) (t : Nat), u = s.elapse t ∧ s.sys.mode ≠ .hold ∧ (s.clk.coast = true ∧ s.clk.ramping = true)) := by
  refine ⟨⟨{ base with clk := { grace := some (0, 1) } }, _, 0, rfl, ?_, ⟨_, _, rfl, ?_, ?_⟩⟩,
    ⟨{ inMode .coast with clk := { coast := true, ramping := true } }, _, 0, rfl, ?_, ⟨?_, ?_⟩⟩⟩
  all_goals decide +kernel

theorem witness_MarginsComplete :
    (∃ (s u : State) (t : Nat) (p : Packet), u = s.elapse t ∧ s.sys.mode ≠ .hold ∧ (s.mayPlan = true ∧ s.clk.hour ≠ some (u.ns /
      3_600_000_000_000) ∧ s.clk.alarmAt ≠ some u.time.cyc) ∧ (Admits u (p.writing 0x0003_0050 1) ∧ s.mayPlan = true) ∧
      (∃ (slack : Nat), bit (s.regN 0x0003_0040) 0 = true ∧ slack < bits (s.regN 0x0003_0044) 16 8) ∧ (bit (s.regN 0x0003_0040) 1
      = true ∧ (∀ l, (s.lane l).scan.any (·.planner) = false)) ∧ (∃ (v0 : Word), Admits u (p.asWrite 0x0003_0048) ∧
      (p.asWrite 0x0003_0048).words = some [v0] ∧ 650 ≤ v0.toNat % 1024 ∧ v0.toNat % 1024 ≤ 850 ∧ 650 ≤ bits v0.toNat 16 10 ∧
      bits v0.toNat 16 10 ≤ v0.toNat % 1024)) ∧
    (∃ (s u : State) (t : Nat) (p : Packet) (avs : AvsAnswer), u = s.elapse t ∧ s.sys.mode ≠ .hold ∧ (∃ (c : _), s.clk.avsAt =
      some c ∧ c ≤ u.time.cyc) ∧ (Admits u (p.writing 0x0003_0050 2) ∧ s.clk.request ≠ 0 ∧ avs.good = true ∧
      ((avs.readback : Int) - s.clk.request).natAbs ≤ 15)) := by
  refine ⟨⟨base, _, 0, { payload := [0x20, 0x03, 0xEE, 0x02] }, rfl, ?_, ⟨?_, ?_, ?_⟩, ⟨?_, ?_⟩, ⟨29, ?_, ?_⟩, ⟨?_, ?_⟩,
    ⟨0x02EE_0320, ?_, ?_, ?_, ?_, ?_, ?_⟩⟩,
    ⟨{ base with clk := { avsAt := some 16_000_000_000, request := 800 } }, _, 0, {}, { readback := 815 }, rfl, ?_, ⟨_, rfl, ?_⟩,
      ⟨?_, ?_, ?_, ?_⟩⟩⟩
  all_goals first | decide +kernel | exact admits_of (by decide +kernel) | exact fun _ => rfl

/-! ## The front end -/

theorem witness_DrivesComplete :
    (∃ (s u : State) (t k : Nat), u = s.elapse t ∧ s.sys.mode ≠ .hold ∧ (u.driveAllowed k = true ∧ u.localsRun = true ∧
      (u.local' k).origin.isSome = true ∧ u.localSlotNs k (u.local' k).next ≤ u.ns + (u.local' k).fe.preNs) ∧
      ((u.local' k).excOn = true ∧ (u.local' k).fe.mode = 1) ∧ (∃ (p : Packet), Admits u (p.guarding 0x18 1) ∧
      s.field.otpOk = true)) ∧
    (∃ (s u : State) (t k : Nat), u = s.elapse t ∧ s.sys.mode ≠ .hold ∧ ((u.local' k).excOn = true ∧ (u.local' k).fe.mode = 2) ∧
      (∃ (p : Packet), Admits u (p.guarding 0x18 0))) := by
  refine ⟨⟨{ chan 3 { fe := fe, isolated := false, origin := some 0,
                      excOn := true } with sys := { base.sys with excEn := true } }, _, 0, 3, rfl, ?_, ⟨?_, ?_, ?_, ?_⟩, ⟨?_, ?_⟩,
    ⟨{}, ?_, ?_⟩⟩,
    ⟨chan 3 { fe := { fe with exc := 2 }, excOn := true }, _, 0, 3, rfl, ?_, ⟨?_, ?_⟩, ⟨{}, ?_⟩⟩⟩
  all_goals first | decide +kernel | exact admits_of (by decide +kernel)

theorem witness_WindowsComplete :
    (∃ (s u : State) (t k : Nat), u = s.elapse t ∧ s.sys.mode ≠ .hold ∧ (∃ (start : _), (s.local' k).fe.inUse = true ∧
      (s.local' k).origin.isSome = true ∧ u.localsRun = true ∧ (s.local' k).window = none ∧ (s.local' k).spot = none ∧
      (s.local' k).witnessed = true ∧ start = quantised (u.localSlotNs k (s.local' k).next) ∧ start ≤ u.ns)) ∧
    (∃ (s u : State) (t k : Nat), u = s.elapse t ∧ s.sys.mode ≠ .hold ∧ (∃ (w w' : Window) (age : Int), (s.local' k).window = some
      w ∧ w.spot = false ∧ w.start + w.len ≤ u.ns ∧ w' = (if w.slot < (s.local' k).absentTo then { w with noDrive := true } else
      w) ∧ age = slewAge (s.local' k).age (s.local' k).ageTarget s.field.slewStep)) := by
  refine ⟨⟨chan 31 { fe := fe, origin := some 20_000_000_000, witnessed := true }, _, 0, 31, rfl, ?_, ⟨_, ?_, ?_, ?_, ?_, ?_, ?_,
    rfl, ?_⟩⟩,
    ⟨chan 0 { fe := fe, window := some { spot := false, slot := 4, start := 19_980_000_000, len := 20_000_000, code := 0,
                                         fe := fe } }, _, 0, 0, rfl, ?_, ⟨_, _, _, rfl, ?_, ?_, rfl, rfl⟩⟩⟩
  all_goals decide +kernel

theorem witness_HousekeepingComplete :
    (∃ (s u : State) (t k : Nat), u = s.elapse t ∧ (∃ (code : _), s.sys.mode ≠ .hold ∧ (s.local' k).taskNow u.ns = some (0,
      code))) ∧
    (∃ (s u : State) (t k : Nat) (x : Rat), u = s.elapse t ∧ (∃ (code : _), s.sys.mode ≠ .hold ∧ (s.local' k).taskNow u.ns = some
      (1, code) ∧ 1 / 2000 < x ∧ 2 ≤ (s.local' k).refBad)) ∧
    (∃ (s u : State) (t k : Nat), u = s.elapse t ∧ (∃ (code : _), s.sys.mode ≠ .hold ∧ (s.local' k).taskNow u.ns = some (2,
      code)) ∧ (7 ≤ s.field.periods.length) ∧ (s.sys.mode ≠ .hold ∧ 64 ≤ (s.local' k).ratios.length) ∧ (s.sys.mode ≠ .hold ∧
      k ∈ s.localsUsed ∧ s.field.feApplied = true ∧ (s.local' k).witnessed = false)) := by
  refine ⟨⟨chan 0 { task := some (0, 8) }, _, 0, 0, rfl, ⟨8, ?_, ?_⟩⟩,
    ⟨chan 0 { task := some (1, 0), refBad := 2 }, _, 0, 0, 1 / 1999, rfl, ⟨0, ?_, ?_, ?_, ?_⟩⟩,
    ⟨{ base with field := { feApplied := true, periods := List.replicate 7 0, ch := [(0,
                            { fe := fe, task := some (2, 0), ratios := List.replicate 64 1 })] } }, _, 0, 0, rfl, ⟨0, ?_, ?_⟩, ?_,
      ⟨?_, ?_⟩, ⟨?_, ?_, ?_, ?_⟩⟩⟩
  all_goals decide +kernel

theorem witness_SpotsComplete :
    (∃ (s u : State) (t : Nat), u = s.elapse t ∧ s.sys.mode ≠ .hold ∧ (∃ (p : Packet) (start len : Nat), Admits u (p.withOp 0x30)
      ∧ p.addr.toNat < s.localChs ∧ p.payload.length = 4 ∧ (s.local' p.addr.toNat).fe.inUse = true ∧ byteAt p.payload 0 ≤ bits
      (s.local' p.addr.toNat).fe.conv.toNat 0 3 ∧ (s.local' p.addr.toNat).spot = none ∧ (s.local' p.addr.toNat).cal = none ∧
      s.field.surgeAt = none ∧ u.localsRun = true ∧ s.sys.mode ≠ .quiesce ∧ start = quantised (u.ns + (if (s.local'
      p.addr.toNat).fe.mode ≠ 0 ∧ (s.local' p.addr.toNat).excOn = false then (s.local' p.addr.toNat).fe.preNs else 0)) + (if
      (s.local' p.addr.toNat).witnessed then 0 else 16_000_000) ∧ len = u.field.windowNs (s.local' p.addr.toNat).fe (2 ^ byteAt
      p.payload 0) start ∧ u.spotTotal p.addr.toNat start len (u.spotDisplaces p.addr.toNat start len) ≤ 400_000 ∧
      (∀ j, u.spotDisplaces p.addr.toNat start len = some j → start + len + 100_000 + u.field.windowNs (s.local' p.addr.toNat).fe
      (s.local' p.addr.toNat).fe.nplc (start + len) + 2_000_000 ≤ u.localSlotNs p.addr.toNat (j + 2)))) ∧
    (∃ (s u : State) (t : Nat), u = s.elapse t ∧ s.sys.mode ≠ .hold ∧ (∃ (k : Nat) (sp : Spot) (w : Window), (s.local' k).spot =
      some sp ∧ (s.local' k).window = some w ∧ (s.local' k).witnessed = true ∧ sp.startAt + sp.len ≤ u.ns)) := by
  refine ⟨⟨chan 0 { fe := { fe with exc := 0 } }, _, 0, rfl, ?_, ⟨{ payload := [0, 0, 0, 0] }, _, _, ?_, ?_, ?_, ?_, ?_, ?_, ?_,
    ?_, ?_, ?_, rfl, rfl, ?_, ?_⟩⟩,
    ⟨spotting, _, 0, rfl, ?_, ⟨0, _, _, rfl, rfl, ?_, ?_⟩⟩⟩
  all_goals first | decide +kernel | exact admits_of (by decide +kernel)

theorem witness_CalibrationComplete :
    (∃ (s u : State) (t : Nat), u = s.elapse t ∧ s.sys.mode ≠ .hold ∧ (∃ (p : Packet), Admits u (p.operating 0x31 0) ∧
      p.addr.toNat < s.localChs ∧ p.payload.length = 8 ∧ (s.local' p.addr.toNat).fe.inUse = true ∧ leAt p.payload 2 2 ≤ 256 ∧
      (s.local' p.addr.toNat).cal = none ∧ u.localsRun = true ∧ s.sys.mode ≠ .quiesce) ∧ (∃ (p : Packet), Admits u (p.operating
      0x31 1) ∧ p.addr.toNat < s.localChs ∧ p.payload.length = 8 ∧ (s.local' p.addr.toNat).fe.inUse = true ∧
      leAt p.payload 2 2 ≤ 256 ∧ (s.local' p.addr.toNat).cal = none ∧ u.localsRun = true ∧ s.sys.mode ≠ .quiesce ∧
      fullScale (s.local' p.addr.toNat).code / 10 ≤ ((sleAt p.payload 4 4).natAbs : Rat) / 100_000_000) ∧ (∃ (p : Packet),
      Admits u (p.operating 0x31 2) ∧ p.addr.toNat < s.localChs ∧ p.payload.length = 8 ∧ (s.local' p.addr.toNat).fe.inUse = true ∧
      leAt p.payload 2 2 ≤ 256)) ∧
    (∃ (s u : State) (t : Nat), u = s.elapse t ∧ s.sys.mode ≠ .hold ∧ (∃ (k : Nat) (c : CalStep) (m : Rat), (s.local' k).cal =
      some c ∧ c.isSpan = false ∧ c.n ≤ c.volts.length ∧ c.clip = false ∧ (∀ x ∈ c.codes, x = c.codes.headD 0) ∧
      m = c.volts.sum / c.volts.length ∧ (if m < 0 then -m else m) ≤ fullScale (c.codes.headD 0) / 20 ∧ variance c.volts m ≤ 8 *
      noiseVolts (c.codes.headD 0) (bits (s.local' k).fe.conv.toNat 0 3) * (8 * noiseVolts (c.codes.headD 0) (bits (s.local'
      k).fe.conv.toNat 0 3)))) ∧
    (∃ (s u : State) (t : Nat), u = s.elapse t ∧ s.sys.mode ≠ .hold ∧ (∃ (k : Nat) (c : CalStep), (s.local' k).cal = some c ∧
      4 * c.n + 16 ≤ c.slots ∧ c.volts.length < c.n)) := by
  refine ⟨⟨chan 0 { fe := fe }, _, 0, rfl, ?_, ⟨{ payload := [0, 0, 0, 1, 0, 0, 0, 0] }, ?_, ?_, ?_, ?_, ?_, ?_, ?_, ?_⟩,
    ⟨{ payload := [0, 0, 0, 1, 0, 0xE1, 0xF5, 5] }, ?_, ?_, ?_, ?_, ?_, ?_, ?_, ?_, ?_⟩, ⟨{ payload := [0, 0, 0, 1, 0, 0, 0, 0] },
    ?_, ?_, ?_, ?_, ?_⟩⟩,
    ⟨chan 0 { cal := some { pkt := {}, isSpan := false, n := 1, fromSlot := 0, volts := [1 / 2], codes := [0] } }, _, 0, rfl, ?_,
      ⟨0, _, _, rfl, ?_, ?_, ?_, ?_, rfl, ?_, ?_⟩⟩,
    ⟨chan 0 { cal := some { pkt := {}, isSpan := true, n := 1, fromSlot := 0, slots := 20 } }, _, 0, rfl, ?_, ⟨0, _, rfl, ?_,
      ?_⟩⟩⟩
  all_goals first | decide +kernel | exact admits_of (by decide +kernel)

/-! ## Pods and lanes -/

theorem witness_PodFramesComplete :
    (∃ (s u : State) (t l n t0 : Nat) (m : List Byte), u = s.elapse t ∧ s.sys.mode ≠ .hold ∧ u.podHears l = true ∧
      crcGood m = true ∧ (s.pod l).startTick = some t0 ∧ t0 ≤ n ∧ u.lagExpired l n = false ∧ (m.length = 3 * (s.pod l).count + 6 ∧
      n = u.resolveTick (leAt m (1 + 3 * (s.pod l).count) 2) 16 ∧ (s.pod l).running = true ∧ (s.pod l).drained = false ∧
      n % 64 ≠ 0 ∧ (∀ h ∈ (s.pod l).held, h.1 ≠ n) ∧ u.tick ≤ n + 64 ∧ (s.pod l).lagDue = false)) ∧
    (∃ (s u : State) (t l n t0 : Nat) (m : List Byte), u = s.elapse t ∧ s.sys.mode ≠ .hold ∧ u.podHears l = true ∧
      crcGood m = true ∧ (s.pod l).startTick = some t0 ∧ t0 ≤ n ∧ u.lagExpired l n = false ∧ (m.length = 3 * (s.pod l).count + 10
      ∧ n = u.resolveTick (leAt m (1 + 3 * (s.pod l).count) 2) 16 ∧ n % 64 = 0 ∧ leAt m (1 + 3 * (s.pod l).count + 3) 4 = n % 2 ^
      32 ∧ (s.pod l).running = true ∧ (s.pod l).drained = false ∧ (∀ h ∈ (s.pod l).held, h.1 ≠ n) ∧ u.tick ≤ n + 64 ∧
      (s.pod l).lagDue = false)) ∧
    (∃ (s u : State) (t l n t0 : Nat) (m : List Byte), u = s.elapse t ∧ s.sys.mode ≠ .hold ∧ u.podHears l = true ∧
      crcGood m = true ∧ (s.pod l).startTick = some t0 ∧ t0 ≤ n ∧ u.lagExpired l n = false ∧ (m.length = 3 * (s.pod l).count + 10
      ∧ n = u.resolveTick (leAt m (1 + 3 * (s.pod l).count) 2) 16 ∧ n % 64 = 0 ∧ leAt m (1 + 3 * (s.pod l).count + 3) 4 = n % 2 ^
      32 ∧ (s.pod l).drained = true ∧ (s.pod l).lagDue = false)) ∧
    (∃ (s u : State) (t l n t0 : Nat) (m : List Byte), u = s.elapse t ∧ s.sys.mode ≠ .hold ∧ u.podHears l = true ∧
      crcGood m = true ∧ (s.pod l).startTick = some t0 ∧ t0 ≤ n ∧ u.lagExpired l n = false ∧ (m.length = 3 * (s.pod l).count + 10
      ∧ n = u.nearestTick (leAt m 1 4) ∧ (s.pod l).running = true ∧ (s.pod l).drained = false ∧ (∀ h ∈ (s.pod l).held, h.1 ≠ n) ∧
      ((s.pod l).outstanding.any fun o => o.1 == n) = true ∧ (s.pod l).lagDue = false)) ∧
    (∃ (s u : State) (t l n t0 : Nat) (m : List Byte), u = s.elapse t ∧ s.sys.mode ≠ .hold ∧ u.podHears l = true ∧
      crcGood m = true ∧ (s.pod l).startTick = some t0 ∧ t0 ≤ n ∧ u.lagExpired l n = false ∧ (m.length = 3 * (s.pod l).count + 10
      ∧ n = u.nearestTick (leAt m 1 4) ∧ (s.pod l).running = true ∧ (s.pod l).drained = false ∧ (∀ h ∈ (s.pod l).held, h.1 ≠ n) ∧
      ((s.pod l).outstanding.any fun o => o.1 == n) = true ∧ (s.pod l).lagDue = true ∧ n = (s.pod l).nextTick ∧
      u.lagExpiry l n ≤ u.time.now ∧ s.hive.inject = none)) := by
  refine ⟨⟨podUp 3 { caps := caps16, running := true, started := true, startTick := some 0 }, _, 0, 3, 15_999_999, 0, message 0x10
    (List.replicate 48 0 ++ toLE 2 15_999_999 ++ [0]), rfl, ?_, ?_, ?_, ?_, ?_, ?_, ⟨?_, ?_, ?_, ?_, ?_, ?_, ?_, ?_⟩⟩,
    ⟨podUp 3 { caps := caps16, running := true, started := true, startTick := some 0 }, _, 0, 3, 16_000_000, 0, message 0x11
      (List.replicate 48 0 ++ toLE 2 16_000_000 ++ [0] ++ toLE 4 16_000_000), rfl, ?_, ?_, ?_, ?_, ?_, ?_, ⟨?_, ?_, ?_, ?_, ?_,
      ?_, ?_, ?_, ?_⟩⟩,
    ⟨podUp 3 { caps := caps16, drained := true, started := true, startTick := some 0 }, _, 0, 3, 16_000_000, 0, message 0x11
      (List.replicate 48 0 ++ toLE 2 16_000_000 ++ [0] ++ toLE 4 16_000_000), rfl, ?_, ?_, ?_, ?_, ?_, ?_, ⟨?_, ?_, ?_, ?_, ?_,
      ?_⟩⟩,
    ⟨podUp 3 { caps := caps16, running := true, started := true, startTick := some 0, outstanding := [(15_999_999, 0)] }, _, 0, 3,
      15_999_999, 0, message 0x12 (toLE 4 15_999_999 ++ List.replicate 48 0 ++ toLE 2 15_999_999 ++ [0]), rfl, ?_, ?_, ?_, ?_, ?_,
      ?_, ⟨?_, ?_, ?_, ?_, ?_, ?_, ?_⟩⟩,
    ⟨podUp 3 { caps := caps16, running := true, started := true, startTick := some 0, nextTick := 15_998_400,
               outstanding := [(15_998_400, 0)], lagDue := true }, _, 0, 3, 15_998_400, 0, message 0x12 (toLE 4 15_998_400 ++
      List.replicate 48 0 ++ toLE 2 15_998_400 ++ [0]), rfl, ?_, ?_, ?_, ?_, ?_, ?_, ⟨?_, ?_, ?_, ?_, ?_, ?_, ?_, ?_, ?_, ?_⟩⟩⟩
  all_goals decide +kernel

theorem witness_PodMessagesComplete :
    (∃ (s u : State) (t : Nat), u = s.elapse t ∧ s.sys.mode ≠ .hold ∧ (s.isStandby = false ∧ s.time.tickSent ≠ some u.tick)) ∧
    (∃ (s u : State) (t l : Nat) (m : List Byte), u = s.elapse t ∧ s.sys.mode ≠ .hold ∧ (u.capsHears l = true ∧ crcGood m = true ∧
      m.length = 35 ∧ u.podCapsResult l (slice m 1 32) = 0 ∧ s.laneLoop l = 0)) ∧
    (∃ (s u : State) (t l : Nat) (m : List Byte), u = s.elapse t ∧ s.sys.mode ≠ .hold ∧ (u.podHears l = true ∧ crcGood m = true ∧
      m.length = 23 ∧ byteAt (s.pod l).caps 24 ≠ 0)) ∧
    (∃ (s u : State) (t l : Nat) (m : List Byte), u = s.elapse t ∧ s.sys.mode ≠ .hold ∧ (∃ (c : _), u.podHears l = true ∧
      crcGood m = true ∧ m.length = 9 ∧ (s.pod l).cmd = some (byteAt m 1, c)) ∧ (∃ (tag : Nat) (c : _), (s.pod l).cmd = some (tag,
      c) ∧ c + 10 * cycPerMs ≤ u.time.cyc) ∧ (l < 24 ∧ u.podHears l = true)) ∧
    (∃ (s u : State) (t l : Nat) (m : List Byte), u = s.elapse t ∧ s.sys.mode ≠ .hold ∧ ((u.podHears l = true ∨ u.capsHears l =
      true) ∧ crcGood m = true ∧ m.length = 4 ∧ byteAt m 1 < 16 ∧ (s.pod l).echoes.length < 16)) ∧
    (∃ (s u : State) (t l : Nat), u = s.elapse t ∧ s.sys.mode ≠ .hold ∧ (∃ (f : _), (s.pod l).running = true ∧
      u.lagExpiry l (s.pod l).nextTick ≤ u.time.now ∧ (s.pod l).held.find? (fun h => h.1 == (s.pod l).nextTick) = some ((s.pod
      l).nextTick, f) ∧ u.poisoned (u.region 0x01 l) (u.ringSlot l (s.pod l).nextTick) 104 = []) ∧ (∃ (n : _), (s.pod l).running =
      true ∧ n * 1250 + 80_000 ≤ u.ns) ∧ (∃ (n ns : _), n ∈ u.repeatsDue l ∧ s.isStandby = false ∧ s.carries l = true ∧
      (s.pod l).quarantined = false ∧ ns = (u.repeatsDue l).filter (fun k => u.time.now + 10000 * unitsPerNs < u.lagExpiry l k) ∧
      ns ≠ [])) ∧
    (∃ (s u : State) (t l : Nat), u = s.elapse t ∧ s.sys.mode ≠ .hold ∧ ((s.pod l).running = true ∧
      u.lagExpiry l (s.pod l).nextTick + u.time.increment ≤ u.time.now ∧ (s.pod l).held.find? (fun h => h.1 == (s.pod l).nextTick)
      = none)) ∧
    (∃ (s u : State) (t l : Nat), u = s.elapse t ∧ s.sys.mode ≠ .hold ∧ (∃ (n ns : _), n ∈ u.repeatsDue l ∧ s.isStandby = true ∧
      s.linkUp = true ∧ (s.pod l).quarantined = false ∧ ns = (u.repeatsDue l).filter (fun k => u.time.now + 10000 * unitsPerNs <
      u.lagExpiry l k) ∧ ns ≠ [])) ∧
    (∃ (s u : State) (t l : Nat), u = s.elapse t ∧ s.sys.mode ≠ .hold ∧ (24 ≤ l ∧ l < 28 ∧ 5 ≤ (s.lane l).st ∧
      (s.lane l).st ≤ 6)) := by
  refine ⟨⟨base, _, 0, rfl, ?_, ⟨?_, ?_⟩⟩,
    ⟨{ laneIn 3 5 with pods := [(3, { inCaps := true })] }, _, 0, 3, message 1 caps16, rfl, ?_, ⟨?_, ?_, ?_, ?_, ?_⟩⟩,
    ⟨podUp 3 { caps := [1, 16, 0, 0, 0, 0, 0, 0, 0xFF, 0xFF] ++ List.replicate 14 0 ++ [1] ++ List.replicate 7 0 }, _, 0, 3,
      message 2 (List.replicate 20 0), rfl, ?_, ⟨?_, ?_, ?_, ?_⟩⟩,
    ⟨podUp 3 { cmd := some (5, 0) }, _, 0, 3, message 3 [5, 0, 0, 0, 0, 0], rfl, ?_, ⟨_, ?_, ?_, ?_, rfl⟩, ⟨_, _, rfl, ?_⟩, ⟨?_,
      ?_⟩⟩,
    ⟨podUp 3 {}, _, 0, 3, message 4 [15], rfl, ?_, ⟨?_, ?_, ?_, ?_, ?_⟩⟩,
    ⟨podUp 3 { running := true, nextTick := 9, held := [(9, { status := 0, body := [] })], outstanding := [(15_999_990,
               15_999_000_000)] }, _, 0, 3, rfl, ?_, ⟨{ status := 0, body := [] }, ?_, ?_, ?_, ?_⟩, ⟨15_999_936, ?_, ?_⟩,
      ⟨15_999_990, _, ?_, ?_, ?_, ?_, rfl, ?_⟩⟩,
    ⟨podUp 3 { running := true, nextTick := 9 }, _, 0, 3, rfl, ?_, ⟨?_, ?_, ?_⟩⟩,
    ⟨{ member 2 with lanes := [(31, { st := 6 })], pods := [(3,
                     { running := true, outstanding := [(15_999_990, 15_999_000_000)] })] }, _, 0, 3, rfl, ?_, ⟨15_999_990, _, ?_,
      ?_, ?_, ?_, rfl, ?_⟩⟩,
    ⟨laneIn 24 6, _, 0, 24, rfl, ?_, ⟨?_, ?_, ?_, ?_⟩⟩⟩
  all_goals decide +kernel

theorem witness_PodCommandsComplete :
    (∃ (s u : State) (t : Nat) (p : Packet), u = s.elapse t ∧ s.sys.mode ≠ .hold ∧ (∃ (l : _) (tag : Nat) (c : _), l = p.onLane %
      24 ∧ tag = leAt p.payload 1 1 ∧ l < s.podLanes ∧ (s.pod l).cmd = none ∧ c ∈ [(Instr.podNop t p, 0), (Instr.podStop t p, 1),
      (Instr.podReset t p, 2), (Instr.podIdentify t p, 3), (Instr.podVendorCmd t p, max 0x40 (leAt p.payload 0 1))] ∧
      Admits u (p.podCmd c.2)) ∧ (∃ (v0 : Word), Admits u (p.asWrite 0x0005_000C) ∧ (p.asWrite 0x0005_000C).words = some [v0] ∧
      (∀ l, l < 24 → bit v0.toNat l = true → l < s.podLanes))) ∧
    (∃ (s u : State) (t : Nat) (p : Packet), u = s.elapse t ∧ s.sys.mode ≠ .hold ∧ (∃ (v0 : Word) (l : Nat), Admits u (p.asWrite
      0x0005_000C) ∧ (p.asWrite 0x0005_000C).words = some [v0] ∧ l < 24 ∧ bit v0.toNat l = true ∧ s.podLanes ≤ l)) := by
  refine ⟨⟨base, _, 0, { payload := [0, 0, 0, 0] }, rfl, ?_, ⟨0, 0, (.podNop 0 { payload := [0, 0, 0, 0] }, 0), ?_, ?_, ?_, ?_,
    ?_, ?_⟩, ⟨0, ?_, ?_, ?_⟩⟩,
    ⟨{ base with sys := { base.sys with variant := 3 } }, _, 0, { payload := [0, 0x10, 0, 0] }, rfl, ?_, ⟨0x1000, 12, ?_, ?_, ?_,
      ?_, ?_⟩⟩⟩
  all_goals first | decide +kernel | exact admits_of (by decide +kernel)

theorem witness_LaneBringUpComplete :
    (∃ (s u : State) (t l : Nat), u = s.elapse t ∧ s.sys.mode ≠ .hold ∧ ((s.lane l).st = 1) ∧ (∃ (us code : _), laneTimeout
      (s.lane l).st = some (us, code) ∧ (s.lane l).entered + us * cycPerUs ≤ u.time.cyc ∧ ((s.lane l).entered + us * cycPerUs =
      u.time.cyc → u.successComes l = false))) ∧
    (∃ (s u : State) (t l : Nat), u = s.elapse t ∧ s.sys.mode ≠ .hold ∧ (∃ (w : Word), (s.lane l).st = 2 ∧
      tcwValid w.toNat = true ∧ bits w.toNat 9 2 = laneClass l) ∧ ((s.lane l).st = 2 ∧ (s.lane l).tcwAt + 1000 * cycPerUs ≤
      u.time.cyc ∧ ((s.lane l).tcwAt + 1000 * cycPerUs = u.time.cyc → u.successComes l = false)) ∧ ((s.lane l).st = 2 ∧
      (s.lane l).searching = true ∧ (s.lane l).entered + ((s.lane l).rxPreset + 1) * 1000 * cycPerUs ≤ u.time.cyc)) ∧
    (∃ (s u : State) (t l : Nat), u = s.elapse t ∧ s.sys.mode ≠ .hold ∧ ((s.lane l).st = 2 ∧ (s.lane l).searching = false ∧
      (s.lane l).rxReady = false ∧ (s.lane l).entered + (if (s.lane l).best.isSome then 12 else 1) * 1000 * cycPerUs ≤
      u.time.cyc)) ∧
    (∃ (s u : State) (t l : Nat), u = s.elapse t ∧ s.sys.mode ≠ .hold ∧ (∃ (c : _), (s.lane l).st = 2 ∧ (s.lane l).readyAt = some
      c ∧ c + lineCycles l (16 * 1024) ≤ u.time.cyc ∧ s.silent l = false)) ∧
    (∃ (s u : State) (t l : Nat), u = s.elapse t ∧ s.sys.mode ≠ .hold ∧ ((s.lane l).st = 2 ∧ s.silent l = true)) ∧
    (∃ (s u : State) (t l : Nat), u = s.elapse t ∧ s.sys.mode ≠ .hold ∧ ((s.lane l).st = 3 ∧ (s.lane l).cleanFrom + lineCycles l
      2048 ≤ u.time.cyc)) ∧
    (∃ (s u : State) (t l : Nat), u = s.elapse t ∧ s.sys.mode ≠ .hold ∧ ((s.lane l).st = 4 ∧ (s.lane l).huntFrom + lineCycles l (3
      * 1024 + 32) ≤ u.time.cyc)) := by
  refine ⟨⟨laneIn 5 1, _, 0, 5, rfl, ?_, ?_, ⟨_, _, rfl, ?_, ?_⟩⟩,
    ⟨{ base with lanes := [(5, { st := 2, searching := true })] }, _, 0, 5, rfl, ?_, ⟨0xFEFF_0100, ?_, ?_, ?_⟩, ⟨?_, ?_, ?_⟩, ⟨?_,
      ?_, ?_⟩⟩,
    ⟨{ base with lanes := [(5, { st := 2, best := some (17, 3) })] }, _, 0, 5, rfl, ?_, ⟨?_, ?_, ?_, ?_⟩⟩,
    ⟨{ base with lanes := [(5, { st := 2, rxReady := true, readyAt := some 0 })] }, _, 0, 5, rfl, ?_, ⟨_, ?_, rfl, ?_, ?_⟩⟩,
    ⟨{ member 2 with lanes := [(5, { st := 2 })] }, _, 0, 5, rfl, ?_, ⟨?_, ?_⟩⟩,
    ⟨laneIn 5 3, _, 0, 5, rfl, ?_, ⟨?_, ?_⟩⟩,
    ⟨laneIn 5 4, _, 0, 5, rfl, ?_, ⟨?_, ?_⟩⟩⟩
  all_goals decide +kernel

theorem witness_LaneServiceComplete :
    (∃ (s u : State) (t l : Nat), u = s.elapse t ∧ s.sys.mode ≠ .hold ∧ ((s.lane l).st = 6)) ∧
    (∃ (s u : State) (t l : Nat), u = s.elapse t ∧ s.sys.mode ≠ .hold ∧ ((s.lane l).st = 7 ∧ (s.lane l).entered + 1000 * cycPerMs
      ≤ u.time.cyc)) ∧
    (∃ (s u : State) (t l : Nat), u = s.elapse t ∧ s.sys.mode ≠ .hold ∧ ((s.lane l).locked = true) ∧ (s.sys.mode = .test ∧
      s.chkCode l ≠ 0 ∧ (s.lane l).chkSync = false ∧ (s.lane l).chkFrom + lineCycles l (checkerSeed (s.chkCode l) + 64) ≤
      u.time.cyc ∧ u.checkerClean l = true)) ∧
    (∃ (s u : State) (t l : Nat), u = s.elapse t ∧ s.sys.mode ≠ .hold ∧ (∃ (errs : Nat), (s.lane l).chkSync = true ∧ 256 ≤ errs) ∧
      (∃ (e : EyeScan), (s.lane l).scan = some e ∧ e.from' + lineCycles l (10 ^ (6 + e.dwell)) ≤ u.time.cyc ∧ e.steps + 1 < 32) ∧
      (∃ (e : EyeScan) (dis : Bool) (n : Nat), (s.lane l).scan = some e ∧ e.from' + lineCycles l (10 ^ (6 + e.dwell)) ≤ u.time.cyc
      ∧ e.dir < 3 ∧ (dis = true ∨ 31 ≤ e.steps) ∧ n = (if dis then e.steps else e.steps + 1))) ∧
    (∃ (s u : State) (t l : Nat), u = s.elapse t ∧ s.sys.mode ≠ .hold ∧ (∃ (e : EyeScan) (dis : Bool) (n : Nat), (s.lane l).scan =
      some e ∧ e.from' + lineCycles l (10 ^ (6 + e.dwell)) ≤ u.time.cyc ∧ e.dir = 3 ∧ (dis = true ∨ 31 ≤ e.steps) ∧
      n = (if dis then e.steps else e.steps + 1))) := by
  refine ⟨⟨laneIn 31 6, _, 0, 31, rfl, ?_, ?_⟩,
    ⟨laneIn 0 7, _, 0, 0, rfl, ?_, ⟨?_, ?_⟩⟩,
    ⟨{ inMode .test with lanes := [(0, { locked := true })], regs := [(laneReg 0 0x10, 8)] }, _, 0, 0, rfl, ?_, ?_, ⟨?_, ?_, ?_,
      ?_, ?_⟩⟩,
    ⟨{ base with lanes := [(0, { chkSync := true, scan := some { dir := 0, steps := 30, dwell := 3 } })] }, _, 0, 0, rfl, ?_,
      ⟨256, ?_, ?_⟩, ⟨_, rfl, ?_, ?_⟩, ⟨_, true, _, rfl, ?_, ?_, ?_, rfl⟩⟩,
    ⟨{ base with lanes := [(0, { scan := some { dir := 3, steps := 31 } })] }, _, 0, 0, rfl, ?_, ⟨_, false, _, rfl, ?_, ?_, ?_,
      rfl⟩⟩⟩
  all_goals decide +kernel

theorem witness_LaneCommandsComplete :
    (∃ (s u : State) (t : Nat) (p : Packet) (v0 : Word), u = s.elapse t ∧ s.sys.mode ≠ .hold ∧ (Admits u (p.asWrite 0x0004_000C) ∧
      (p.asWrite 0x0004_000C).words = some [v0] ∧ (∀ l, l < 32 → bit v0.toNat l = true → s.lanePresent l = true)) ∧
      (∃ (l : _), l = p.onLane ∧ s.lanePresent l = true ∧ Admits u (p.writing (laneReg l 0x24) 2))) ∧
    (∃ (s u : State) (t : Nat) (p : Packet) (v0 : Word), u = s.elapse t ∧ s.sys.mode ≠ .hold ∧ (∃ (l c : _), l = p.onLane ∧
      s.lanePresent l = true ∧ Admits u (p.asWrite (laneReg l 0x10)) ∧ (p.asWrite (laneReg l 0x10)).words = some [v0] ∧
      s.sys.mode = .test ∧ v0.toNat % 8 ≠ 7 ∧ v0.toNat / 8 % 8 ≠ 7 ∧ v0.toNat % 256 / 64 ≠ 3 ∧ (v0.toNat % 8 = 6 → patternOk
      (s.regN (laneReg l 0x18) * 2 ^ 32 + s.regN (laneReg l 0x14)) = true) ∧ c ∈ [Instr.laneGenSet t p, .laneChkSet t p,
      .laneLoopSet t p]) ∧ (∃ (l : _), l = p.onLane ∧ s.lanePresent l = true ∧ Admits u (p.writing (laneReg l 0x24) 1) ∧
      s.sys.mode = .test ∧ (s.regN (laneReg l 0x1C) % 4 = 2 → 2 ≤ s.regN (laneReg l 0x20)) ∧ (s.regN (laneReg l 0x1C) % 4 = 3 →
      s.regN (laneReg l 0x1C) / 4 % 65536 ≠ 0)) ∧ (∃ (l : _), l = p.onLane ∧ s.lanePresent l = true ∧ Admits u (p.asWrite (laneReg
      l 0x28)) ∧ (p.asWrite (laneReg l 0x28)).words = some [v0] ∧ bit v0.toNat 0 = true ∧ (s.lane l).scan = none ∧
      ((s.lane l).st = 6 ∨ (s.lane l).st = 8))) ∧
    (∃ (s u : State) (t : Nat) (p : Packet) (v0 : Word), u = s.elapse t ∧ s.sys.mode ≠ .hold ∧ (∃ (l : _), Admits u (p.asWrite
      0x0004_000C) ∧ (p.asWrite 0x0004_000C).words = some [v0] ∧ l < 32 ∧ bit v0.toNat l = true ∧ s.lanePresent l = false)) := by
  refine ⟨⟨base, _, 0, { payload := [1, 0, 0, 0] }, 1, rfl, ?_, ⟨?_, ?_, ?_⟩, ⟨_, rfl, ?_, ?_⟩⟩,
    ⟨{ inMode .test with lanes := [(31, { st := 6 })] }, _, 0, { addr := 31, payload := [1, 0, 0, 0] }, 1, rfl, ?_, ⟨31,
      .laneChkSet 0 { addr := 31, payload := [1, 0, 0, 0] }, ?_, ?_, ?_, ?_, ?_, ?_, ?_, ?_, ?_, ?_⟩, ⟨31, ?_, ?_, ?_, ?_, ?_,
      ?_⟩, ⟨31, ?_, ?_, ?_, ?_, ?_, ?_, ?_⟩⟩,
    ⟨{ base with sys := { base.sys with variant := 3 } }, _, 0, { payload := [0, 0, 0x80, 0] }, 0x0080_0000, rfl, ?_, ⟨23, ?_, ?_,
      ?_, ?_, ?_⟩⟩⟩
  all_goals first | decide +kernel | exact admits_of (by decide +kernel)

/-! ## Comb, triggers and Hive -/

theorem witness_CombWorkComplete :
    (∃ (s u : State) (t p : Nat), u = s.elapse t ∧ s.sys.mode ≠ .hold ∧ (∃ (ii wi : Nat) (i : ProgInst) (w : Work), u.nextWork p =
      some (ii, i, wi, w) ∧ recType i.cfg = 0 ∧ workNext i.cfg w + u.workLag i w ≤ u.sub)) ∧
    (∃ (s u : State) (t p : Nat), u = s.elapse t ∧ s.sys.mode ≠ .hold ∧ (∃ (ii wi : Nat) (i : ProgInst) (w : Work), u.nextWork p =
      some (ii, i, wi, w) ∧ recType i.cfg ≠ 0 ∧ workNext i.cfg w + u.workLag i w ≤ u.sub)) ∧
    (∃ (s u : State) (t p : Nat), u = s.elapse t ∧ s.sys.mode ≠ .hold ∧ (∃ (ii : Nat) (i : ProgInst) (w : Work), u.oldestWork p =
      some (ii, i, w) ∧ w.emitted = false ∧ workTotal i.cfg w ≤ w.next ∧ (w.closed = true ∨ w.stop ≤ u.ns)) ∧
      (∃ (ii c : Nat) (i : ProgInst) (w : Work), u.oldestWork p = some (ii, i, w) ∧ w.svdAt = some c ∧ c ≤ u.time.cyc)) := by
  refine ⟨⟨inst (srpInst work0), _, 0, 0, rfl, ?_, ⟨0, 0, srpInst work0, work0, ?_, ?_, ?_⟩⟩,
    ⟨inst (xsInst work0), _, 0, 0, rfl, ?_, ⟨0, 0, xsInst work0, work0, ?_, ?_, ?_⟩⟩,
    ⟨inst (srpInst doneWork), _, 0, 0, rfl, ?_, ⟨0, srpInst doneWork, doneWork, ?_, ?_, ?_, ?_⟩, ⟨0, 0, srpInst doneWork,
      doneWork, ?_, ?_, ?_⟩⟩⟩
  all_goals decide +kernel

theorem witness_MatchComplete :
    (∃ (s u : State) (t p : Nat), u = s.elapse t ∧ s.sys.mode ≠ .hold ∧ (∃ (hits : List ParityHit) (chan tm ii si next : Nat) (i :
      ProgInst) (sp : MatchSpan) (det : Detection), u.matchEnded p chan tm hits = some (ii, si, next, det) ∧
      s.comb.insts[ii]? = some i ∧ i.spans[si]? = some sp) ∧ (∃ (ii : Nat) (i : ProgInst) (rest : List (ProgInst × Nat)) (t1 :
      Int), s.matchInsts p = (i, ii) :: rest ∧ t1 = subNs ((i.interval + 1) * 100_000_000) ∧ t1 + subNs ((matchL i.cfg - 1 +
      matchWin i.cfg) * i.period) + u.instLag i ≤ u.sub)) := by
  refine ⟨inst matchInst, _, 0, 0, rfl, ?_, ⟨[], 800, 0, 0, 0, 7_999_993, matchInst, { base := 7_999_992 },
    { idx := 7_999_992, stamp := 1_310_718_689_280_000, chan := 800, templ := 0, settling := false, score := 5, norm := 0 }, ?_,
    ?_, ?_⟩, ⟨0, matchInst, [], _, ?_, rfl, ?_⟩⟩
  all_goals decide +kernel

theorem witness_ForeignComplete :
    (∃ (s u : State) (t : Nat), u = s.elapse t ∧ s.sys.mode ≠ .hold ∧ (∃ (b : Rebuild) (g : Staged) (y : State) (i : Image) (bad :
      Option Refuse), s.comb.rebuild = some b ∧ s.cfg.staged = some g ∧ b.finished = false ∧ y = u.extendLeases b.pkt.port ((u.ns
      - b.startAt) * 4 / 5) ∧ i = { isFull := false, imageId := g.imageId, epochDs := g.epochDs, compressed := b.compressed,
                                    secs := g.sections, anchorsNx := b.compressed } ∧ bad = (if b.poisoned then some (refused 0x08
      0x0012 0) else y.imageChecks i) ∧ bad = none) ∧ (∃ (down : Bool), (if down then s.time.fmapDownAt else s.time.fmapUpAt) ≠
      some (u.ns / 100_000_000))) ∧
    (∃ (s u : State) (t : Nat), u = s.elapse t ∧ s.sys.mode ≠ .hold ∧ (∃ (b : Rebuild) (g : Staged) (y : State) (i : Image) (bad :
      Option Refuse) (r : Refuse) (st : Nat) (body : List Byte), s.comb.rebuild = some b ∧ s.cfg.staged = some g ∧
      b.finished = false ∧ y = u.extendLeases b.pkt.port ((u.ns - b.startAt) * 4 / 5) ∧
      i = { isFull := false, imageId := g.imageId, epochDs := g.epochDs, compressed := b.compressed, secs := g.sections,
            anchorsNx := b.compressed } ∧ bad = (if b.poisoned then some (refused 0x08 0x0012 0) else y.imageChecks i) ∧
      bad = some r ∧ r.reply = .done st body)) ∧
    (∃ (s u : State) (t : Nat), u = s.elapse t ∧ s.sys.mode ≠ .hold ∧ (∃ (lane : Nat) (m : List Byte), 24 ≤ lane ∧ lane < 28 ∧
      s.laneActive lane = true ∧ crcGood m = true ∧ s.fromNeighbour lane = true)) := by
  refine ⟨⟨rebuilding [], _, 0, rfl, ?_, ⟨_, _, _, _, _, rfl, rfl, ?_, rfl, rfl, rfl, ?_⟩, ⟨true, ?_⟩⟩,
    ⟨rebuilding [(2, [])], _, 0, rfl, ?_, ⟨_, _, _, _, _, { status := 12, runit := 1, reason := 10, detail := 2 }, _, _, rfl, rfl,
      ?_, rfl, rfl, rfl, ?_, rfl⟩⟩,
    ⟨{ laneIn 24 6 with time := { base.time with upActive := some 0 } }, _, 0, rfl, ?_, ⟨24, message 0x40 [], ?_, ?_, ?_, ?_,
      ?_⟩⟩⟩
  all_goals decide +kernel

theorem witness_UnitsComplete :
    (∃ (s u : State) (t : Nat), u = s.elapse t ∧ s.sys.mode ≠ .hold ∧ (∃ (src stamp : Nat) (e : TrigEvent), (s.trig.transit.find?
      fun e => e.src == src && (stampOfSub e.t).toNat == stamp % 2 ^ 48) = some e) ∧ (∃ (ball : Nat) (low high : _), (1 < ball ∨
      low < 16 ∨ high < 16 ∨ (∃ c, (if ball = 0 then s.trig.lastIn0 else s.trig.lastIn1) = some c ∧ u.time.cyc ≤ c + 80))) ∧
      (∃ (ball : Nat) (low high : _), ball ≤ 1 ∧ 16 ≤ low ∧ 16 ≤ high ∧ (∀ c, (if ball = 0 then s.trig.lastIn0 else
      s.trig.lastIn1) = some c → c + 80 < u.time.cyc))) ∧
    (∃ (s u : State) (t : Nat), u = s.elapse t ∧ s.sys.mode ≠ .hold ∧ (∃ (k : Nat) (e : TrigEvent) (rest win : List TrigEvent) (w
      : Int), (s.tunit k).queue = e :: rest ∧ unitOn (s.unitRec k) = true ∧ e.t + (s.tunit k).horizon ≤ u.sub ∧
      w = subUs (leAt (s.unitRec k) 2 2) ∧ win = (insertEvent e (s.tunit k).taken).filter (fun x => e.t - w < x.t && x.t ≤ e.t)) ∧
      (∃ (c : _), s.trig.out0 = some c ∧ c ≤ u.time.cyc) ∧ (∃ (c : _), s.trig.out1 = some c ∧ c ≤ u.time.cyc)) := by
  refine ⟨⟨{ base with trig := { transit := [{ t := 0, src := 7 }] } }, _, 0, rfl, ?_, ⟨7, 0, { t := 0, src := 7 }, ?_⟩, ⟨0, 15,
    16, ?_⟩, ⟨1, 16, 16, ?_, ?_, ?_, ?_⟩⟩,
    ⟨{ base with trig := { units := [(0, { queue := [{ t := 0, src := 7 }] })], out0 := some 0, out1 := some 16_000_000_000 },
                 cfg := { body := [(6, List.replicate 32 0 ++ [1])] } }, _, 0, rfl, ?_, ⟨0, _, _, _, _, rfl, ?_, ?_, rfl, rfl⟩,
      ⟨_, rfl, ?_⟩, ⟨_, rfl, ?_⟩⟩⟩
  all_goals decide +kernel

theorem witness_EnginesComplete :
    (∃ (s u : State) (t e : Nat), u = s.elapse t ∧ s.sys.mode ≠ .hold ∧ (∃ (c : _), c ∈ [Instr.engineArmed t e, Instr.engineRearm
      t e])) ∧
    (∃ (s u : State) (t e : Nat), u = s.elapse t ∧ s.sys.mode ≠ .hold ∧ (∃ (c : _), (s.engine e).coll = some c ∧
      (s.engine e).seg = false ∧ u.collectDone e = true)) ∧
    (∃ (s u : State) (t e : Nat), u = s.elapse t ∧ s.sys.mode ≠ .hold ∧ (∃ (c : _), (s.engine e).coll = some c ∧
      (s.engine e).seg = true ∧ u.collectDone e = true)) ∧
    (∃ (s u : State) (t e : Nat), u = s.elapse t ∧ s.sys.mode ≠ .hold ∧ (∃ (parts first c rest : _), (s.engine e).copies = (parts,
      first, c) :: rest ∧ c ≤ u.time.cyc ∧ (∀ r, s.engineRoute e = some r → (s.stream r.id).st = 1 → u.bufTakes r ((parts.map
      Record.size).sum) = true)) ∧ ((s.engine e).seg = true ∧ (s.engine e).coll = none ∧ (s.engine e).segEnd + subUs 1 ≤ u.sub) ∧
      ((s.engine e).seg = true ∧ (s.engine e).coll = none ∧ (s.engine e).segEnd + subUs (engSegQuiet (s.engineRec e) * 1000) +
      u.engHorizon (fun k => (s.tunit k).horizon) e ≤ u.sub)) := by
  refine ⟨⟨eng { arms := [{ time := 0, source := .host }] }, _, 0, 0, rfl, ?_, ⟨.engineRearm 0 0, ?_⟩⟩,
    ⟨eng { coll := some { fire := 0, trig := 0, latency := 0, kind := 0, num := 0 } }, _, 0, 0, rfl, ?_, ⟨_, rfl, ?_, ?_⟩⟩,
    ⟨eng { coll := some { fire := 0, trig := 0, latency := 0, kind := 0, num := 0 }, seg := true }, _, 0, 0, rfl, ?_, ⟨_, rfl, ?_,
      ?_⟩⟩,
    ⟨eng { copies := [([], 0, 0)], seg := true }, _, 0, 0, rfl, ?_, ⟨_, _, _, _, rfl, ?_, ?_⟩, ⟨?_, ?_, ?_⟩, ⟨?_, ?_, ?_⟩⟩⟩
  all_goals decide +kernel

theorem witness_ArmFireComplete :
    (∃ (s u : State) (t : Nat) (p : Packet), u = s.elapse t ∧ s.acquiring = true ∧ (Admits u (p.withOp 0x32) ∧
      p.payload.length = 4 ∧ p.pflag 2 = false ∧ p.pflag 1 = false) ∧ (Admits u (p.withOp 0x33) ∧ p.payload.length = 4)) ∧
    (∃ (s u : State) (t : Nat) (p : Packet), u = s.elapse t ∧ s.acquiring = true ∧ (Admits u (p.withOp 0x32) ∧
      p.payload.length = 16 ∧ p.pflag 2 = true ∧ p.pflag 1 = false ∧ u.sub < subOfBytes (slice p.payload 4 12))) ∧
    (∃ (s u : State) (t : Nat) (p : Packet), u = s.elapse t ∧ s.acquiring = true ∧ (Admits u (p.withOp 0x32) ∧
      p.payload.length = 4 ∧ p.pflag 2 = false ∧ p.pflag 1 = true ∧ s.swarmMaster = true)) := by
  refine ⟨⟨{ base with cfg := { body := [(6, [1])] } }, _, 0, { payload := [0, 0, 0, 0] }, rfl, ?_, ⟨?_, ?_, ?_, ?_⟩, ⟨?_, ?_⟩⟩,
    ⟨{ base with cfg := { body := [(6, [1])] } }, _, 0, { pflags := 4, payload := List.replicate 15 0 ++ [1] }, rfl, ?_, ⟨?_, ?_,
      ?_, ?_, ?_⟩⟩,
    ⟨{ base with cfg := { body := [(6, [1])] } }, _, 0, { pflags := 2, payload := [0, 0, 0, 0] }, rfl, ?_, ⟨?_, ?_, ?_, ?_, ?_⟩⟩⟩
  all_goals first | decide +kernel | exact admits_of (by decide +kernel)

theorem witness_SwarmComplete :
    (∃ (s u : State) (t lane : Nat) (m : List Byte), u = s.elapse t ∧ s.sys.mode ≠ .hold ∧ ((s.exchPort lane).isSome = true ∧
      s.laneActive lane = true ∧ crcGood m = true ∧ u.wasSeen 0 (byteAt m 1) (leAt m 2 2) = false)) ∧
    (∃ (s u : State) (t lane : Nat) (m : List Byte), u = s.elapse t ∧ s.sys.mode ≠ .hold ∧ ((s.exchPort lane).isSome = true ∧
      s.laneActive lane = true ∧ crcGood m = true ∧ u.wasSeen 1 (leAt m 1 2) (byteAt m 3) = false ∧ s.swarmEn = true ∧
      leAt m 1 2 = s.trig.swarmSeq ∧ s.trig.maskFixed = false ∧ byteAt m 3 ∉ s.trig.answered ∧ (∃ a set, s.trig.swarmArm = some
      (a, set) ∧ u.sub ≤ a + subUs 1000))) ∧
    (∃ (s u : State) (t lane : Nat) (m : List Byte), u = s.elapse t ∧ s.sys.mode ≠ .hold ∧ ((s.exchPort lane).isSome = true ∧
      s.laneActive lane = true ∧ crcGood m = true ∧ u.wasSeen 2 (byteAt m 1) (leAt m 2 2) = false ∧ s.isStandby = false) ∧
      (∃ (a set : _), s.trig.swarmArm = some (a, set) ∧ s.trig.maskFixed = false ∧ a + subUs 1000 ≤ u.sub)) := by
  refine ⟨⟨laneIn 24 6, _, 0, 24, message 0x30 (List.replicate 12 0), rfl, ?_, ⟨?_, ?_, ?_, ?_⟩⟩,
    ⟨{ laneIn 24 6 with trig := { swarmArm := some (1_310_720_000_000_000, 0), maskFixed := false },
                        cfg := { body := [(6, [2])] } }, _, 0, 24, message 0x31 [0, 0, 5, 0], rfl, ?_, ⟨?_, ?_, ?_, ?_, ?_, ?_,
      ?_, ?_, ?_⟩⟩,
    ⟨{ laneIn 27 6 with trig := { swarmArm := some (0, 0), maskFixed := false } }, _, 0, 27, message 0x32 (List.replicate 10 0),
      rfl, ?_, ⟨?_, ?_, ?_, ?_, ?_⟩, ⟨_, _, rfl, ?_, ?_⟩⟩⟩
  all_goals first | decide +kernel | exact ⟨_, _, rfl, by decide +kernel⟩

theorem witness_HiveComplete :
    (∃ (s u : State) (t : Nat) (p : Packet), u = s.elapse t ∧ s.sys.mode ≠ .hold ∧ (∃ (bank : Nat) (k : Scrub), k = Tab.get (fun _
      => {}) s.hive.scrubs bank ∧ (s.hive.initDone = false ∨ u.time.cyc < k.dueAt (s.scrubCycles bank))) ∧
      (Admits u (p.writing 0x0008_000C 1) ∧ (∀ b, b < 32 → (u.runBanks.bank b).pend = false) ∧ s.regN 0x0008_0010 % 65536 ≠ 0 ∧
      scrubStarves ((s.writtenArb false).limits.getD 7 0) (s.regN 0x0008_002C % 4096) = false) ∧ (Admits u (p.writing 0x0008_000C
      2) ∧ (∀ b, b < 4 → ((u.runLanes u.time.cyc).egressArb (24 + b)).pend = false) ∧ s.regN 0x0008_0010 % 65536 ≠ 0)) ∧
    (∃ (s u : State) (t : Nat), u = s.elapse t ∧ s.sys.mode ≠ .hold ∧ (∃ (bank : Nat) (k : Scrub), k = Tab.get (fun _ => {})
      s.hive.scrubs bank ∧ s.hive.initDone = true ∧ k.dueAt (s.scrubCycles bank) ≤ u.time.cyc)) ∧
    (∃ (s u : State) (t : Nat) (p : Packet), u = s.elapse t ∧ s.sys.mode ≠ .hold ∧ (∃ (v0 : Word), Admits u (p.asWrite
      0x0008_0064) ∧ (p.asWrite 0x0008_0064).words = some [v0] ∧ s.sys.mode = .test ∧ bits v0.toNat 26 2 ≠ 3)) ∧
    (∃ (s u : State) (t : Nat) (p : Packet), u = s.elapse t ∧ s.sys.mode ≠ .hold ∧ (∃ (a n : _), Admits u (p.withOp 0x10) ∧
      s.hive.initDone = true ∧ p.payload.length = 4 ∧ a = p.addr.toNat ∧ n = leAt p.payload 0 4 ∧ a % 16 = 0 ∧ n % 16 = 0 ∧
      16 ≤ n ∧ n ≤ 4096 ∧ (inStaging a n = true ∨ ∃ r, s.regionOf a n = some r ∧ bit r.rflags 0 = true ∧ ∀ i, i < n → s.laidOut r
      (a + i) = true) ∧ (∀ x ∈ wordsIn a n, Tab.get (fun _ => 0) s.hive.errs x ≠ 2))) ∧
    (∃ (s u : State) (t : Nat) (p : Packet), u = s.elapse t ∧ s.sys.mode ≠ .hold ∧ (∃ (a n : _), Admits u (p.withOp 0x10) ∧
      s.hive.initDone = true ∧ p.payload.length = 4 ∧ a = p.addr.toNat ∧ n = leAt p.payload 0 4 ∧ a % 16 = 0 ∧ n % 16 = 0 ∧
      16 ≤ n ∧ n ≤ 4096 ∧ (inStaging a n = true ∨ ∃ r, s.regionOf a n = some r ∧ bit r.rflags 0 = true ∧ ∀ i, i < n → s.laidOut r
      (a + i) = true) ∧ (∃ x ∈ wordsIn a n, Tab.get (fun _ => 0) s.hive.errs x = 2))) ∧
    (∃ (s u : State) (t : Nat) (p : Packet), u = s.elapse t ∧ s.sys.mode ≠ .hold ∧ (∃ (a r : _), Admits u (p.withOp 0x11) ∧
      s.hive.initDone = true ∧ a = p.addr.toNat ∧ a % 16 = 0 ∧ p.payload.length % 16 = 0 ∧ p.payload ≠ [] ∧
      s.regionOf a p.payload.length = some r ∧ bit r.rflags 1 = true ∧ inStaging a p.payload.length = false)) ∧
    (∃ (s u : State) (t : Nat), u = s.elapse t ∧ s.sys.mode ≠ .hold ∧ (∃ (l : Nat) (x : Xfer), l ∈ [24, 25, 26, 27] ∧
      s.sameCycle = [] ∧ s.carries l = true ∧ (∀ j ∈ [24, 25, 26, 27], j ≠ l → (s.egressArb j).wants = []) ∧
      (s.egressArb l).owner = none ∧ x.since = s.time.cyc ∧ (s.egressArb l).wants = [x] ∧ x.req < 4)) ∧
    (∃ (s u : State) (t : Nat), u = s.elapse t ∧ s.sys.mode ≠ .hold ∧ (∃ (l : Nat) (x y : Xfer), l ∈ [24, 25, 26, 27] ∧
      s.sameCycle = [] ∧ s.carries l = true ∧ (∀ j ∈ [24, 25, 26, 27], j ≠ l → (s.egressArb j).wants = []) ∧
      (s.egressArb l).owner = none ∧ x.since = s.time.cyc ∧ (s.egressArb l).wants = [y, x] ∧ y.since = s.time.cyc ∧ x.req < 3 ∧
      3 ≤ y.req ∧ y.req < 8 ∧ (s.egressArb l).pend = false ∧ (s.egressArb l).forced = [])) := by
  refine ⟨⟨base, _, 0, {}, rfl, ?_, ⟨31, _, rfl, ?_⟩, ⟨?_, ?_, ?_, ?_⟩, ⟨?_, ?_, ?_⟩⟩,
    ⟨{ base with hive := { initDone := true } }, _, 0, rfl, ?_, ⟨31, _, rfl, ?_, ?_⟩⟩,
    ⟨inMode .test, _, 0, { payload := [0, 0, 0, 0] }, rfl, ?_, ⟨0, ?_, ?_, ?_, ?_⟩⟩,
    ⟨{ base with hive := { initDone := true } }, _, 0, { addr := 0x0380_0000, payload := [0, 16, 0, 0] }, rfl, ?_, ⟨_, _, ?_, ?_,
      ?_, rfl, rfl, ?_, ?_, ?_, ?_, ?_, ?_⟩⟩,
    ⟨{ base with hive := { initDone := true, errs := [(0x0380_0FF8, 2)] } }, _, 0,
      { addr := 0x0380_0000, payload := [0, 16, 0, 0] }, rfl, ?_, ⟨_, _, ?_, ?_, ?_, rfl, rfl, ?_, ?_, ?_, ?_, ?_, ?_⟩⟩,
    ⟨{ base with hive := { initDone := true }, cfg := { body := [(9, [0, 6, 0, 0, 2, 0, 0, 0, 0, 0, 0, 0, 0, 0, 1, 0])] } }, _, 0,
      { addr := 0xFFF0, payload := List.replicate 16 7 }, rfl, ?_, ⟨_,
      { num := 0, typ := 6, owner := 0, rflags := 2, base := 0, size := 65_536 }, ?_, ?_, rfl, ?_, ?_, ?_, ?_, ?_, ?_⟩⟩,
    ⟨{ laneIn 24 6 with hive := { egress := [(24, { wants := [{ req := 0, beats := 1, since := 16_000_000_000 }] })] } }, _, 0,
      rfl, ?_, ⟨24, _, ?_, ?_, ?_, ?_, ?_, ?_, rfl, ?_⟩⟩,
    ⟨{ laneIn 27 6 with hive := { egress := [(27, { wants := [{ req := 5, beats := 1, since := 16_000_000_000 },
                                                    { req := 2, beats := 1, since := 16_000_000_000 }] })] } }, _, 0, rfl, ?_,
      ⟨27, _, _, ?_, ?_, ?_, ?_, ?_, ?_, rfl, ?_, ?_, ?_, ?_, ?_, ?_⟩⟩⟩
  all_goals first | decide +kernel | exact admits_of (by decide +kernel)

/-! ## Time and trunk -/

theorem witness_SourcesComplete :
    (∃ (s u : State) (t : Nat), u = s.elapse t ∧ s.sys.mode ≠ .hold ∧ (s.time.beacon < u.ns / 1_000_000_000) ∧
      ((∀ e, s.time.lastEdge = some e → e + 2 * (psPerS : Int) + 1_000_000 ≤ u.ps)) ∧ (s.time.hostQ = true ∧ s.time.source ≠ 2 ∧
      s.time.hostAt + 10 * cycPerS ≤ u.time.cyc) ∧ (∃ (p : Packet), Admits u (p.operating 0x38 2) ∧ p.payload.length = 20) ∧
      (∃ (p : Packet), Admits u (p.operating 0x38 1) ∧ p.payload.length = 20 ∧ leAt p.payload 4 12 / 2 ^ 16 % 2 ^ 32 <
      1_000_000_000 ∧ 1 ≤ leAt p.payload 16 4 ∧ leAt p.payload 16 4 ≤ 1_000_000_000) ∧ (∃ (p : Packet), Admits u (p.operating 0x38
      0) ∧ p.payload.length = 4) ∧ (∃ (p : Packet), Admits u (p.reading 0x0002_0004))) := by
  refine ⟨{ base with time := { base.time with hostQ := true } }, _, 0, rfl, ?_, ?_, ?_, ⟨?_, ?_, ?_⟩,
    ⟨{ payload := List.replicate 20 0 }, ?_, ?_⟩, ⟨{ payload := List.replicate 16 0 ++ [1, 0, 0, 0] }, ?_, ?_, ?_, ?_, ?_⟩,
    ⟨{ payload := [0, 0, 0, 0] }, ?_, ?_⟩, ⟨{}, ?_⟩⟩
  all_goals first | decide +kernel | exact admits_of (by decide +kernel)

theorem witness_ExchangesComplete :
    (∃ (s u : State) (t lane i : Nat), u = s.elapse t ∧ s.sys.mode ≠ .hold ∧ s.exchPort lane = some i ∧ (s.exchUp i = false ∧
      s.laneActive lane = true ∧ s.time.state ≠ 4 ∧ (s.tport i).syncMs ≠ some u.msNow)) ∧
    (∃ (s u : State) (t lane i : Nat) (m : List Byte), u = s.elapse t ∧ s.sys.mode ≠ .hold ∧ s.exchPort lane = some i ∧
      (s.exchUp i = true ∧ s.laneActive lane = true ∧ crcGood m = true ∧ s.time.state ≠ 4)) ∧
    (∃ (s u : State) (t lane i : Nat) (m : List Byte), u = s.elapse t ∧ s.sys.mode ≠ .hold ∧ s.exchPort lane = some i ∧
      (∃ (e : _), s.exchUp i = false ∧ s.laneActive lane = true ∧ crcGood m = true ∧ (s.tport i).exch = some e ∧
      (e.seq ≠ leAt m 1 2 ∨ e.startAt + 500 * cycPerUs < u.time.cyc)) ∧ (∃ (e : _), (s.tport i).exch = some e ∧
      e.startAt + 500 * cycPerUs ≤ u.time.cyc)) ∧
    (∃ (s u : State) (t lane i : Nat) (m : List Byte), u = s.elapse t ∧ s.sys.mode ≠ .hold ∧ s.exchPort lane = some i ∧
      (∃ (e : _), s.exchUp i = true ∧ s.laneActive lane = true ∧ crcGood m = true ∧ (s.tport i).exch = some e ∧
      (e.seq ≠ leAt m 1 2 ∨ e.startAt + 500 * cycPerUs < u.time.cyc))) ∧
    (∃ (s u : State) (t lane i : Nat) (m : List Byte), u = s.elapse t ∧ s.sys.mode ≠ .hold ∧ s.exchPort lane = some i ∧
      (∃ (e : _), s.exchUp i = false ∧ s.laneActive lane = true ∧ crcGood m = true ∧ (s.tport i).exch = some e ∧
      e.seq = leAt m 1 2 ∧ u.time.cyc ≤ e.startAt + 500 * cycPerUs)) ∧
    (∃ (s u : State) (t lane i : Nat) (m : List Byte), u = s.elapse t ∧ s.sys.mode ≠ .hold ∧ s.exchPort lane = some i ∧
      (∃ (e rtt : _), s.exchUp i = true ∧ s.laneActive lane = true ∧ crcGood m = true ∧ (s.tport i).exch = some e ∧
      e.seq = leAt m 1 2 ∧ u.time.cyc ≤ e.startAt + 500 * cycPerUs ∧ rtt = psOfSub ((e.t2 - e.t1) + (subOfFull (leAt m 3 12) -
      e.t3)))) := by
  refine ⟨⟨laneIn 26 6, _, 0, 26, 2, rfl, ?_, ?_, ⟨?_, ?_, ?_, ?_⟩⟩,
    ⟨laneIn 24 6, _, 0, 24, 0, message 0x20 [7, 0], rfl, ?_, ?_, ⟨?_, ?_, ?_, ?_⟩⟩,
    ⟨{ laneIn 26 6 with time := { base.time with ports := [(2,
                                                 { exch := some { seq := 7, t1 := 0, t2 := 0, t3 := 0, startAt := 0 } })] } }, _,
      0, 26, 2, message 0x21 [7, 0], rfl, ?_, ?_, ⟨_, ?_, ?_, ?_, rfl, ?_⟩, ⟨_, rfl, ?_⟩⟩,
    ⟨{ laneIn 24 6 with time := { base.time with ports := [(0,
                                                 { exch := some { seq := 7, t1 := 0, t2 := 0, t3 := 0, startAt := 0 } })] } }, _,
      0, 24, 0, message 0x22 [7, 0], rfl, ?_, ?_, ⟨_, ?_, ?_, ?_, rfl, ?_⟩⟩,
    ⟨{ laneIn 26 6 with time := { base.time with ports := [(2,
                                                 { exch := some { seq := 7, t1 := 0, t2 := 0, t3 := 0,
                                                                  startAt := 16_000_000_000 } })] } }, _, 0, 26, 2, message 0x21
      [7, 0], rfl, ?_, ?_, ⟨_, ?_, ?_, ?_, rfl, ?_, ?_⟩⟩,
    ⟨{ laneIn 24 6 with time := { base.time with ports := [(0,
                                                 { exch := some { seq := 7, t1 := 0, t2 := 0, t3 := 0,
                                                                  startAt := 16_000_000_000 } })] } }, _, 0, 24, 0, message 0x22
      [7, 0], rfl, ?_, ?_, ⟨_, _, ?_, ?_, ?_, rfl, ?_, ?_, rfl⟩⟩⟩
  all_goals decide +kernel

theorem witness_NeighboursComplete :
    (∃ (s u : State) (t lane i : Nat) (m : List Byte), u = s.elapse t ∧ s.sys.mode ≠ .hold ∧ 24 ≤ lane ∧ lane < 28 ∧
      i = lane - 24 ∧ (s.time.announceMs ≠ some u.msNow) ∧ (s.laneActive lane = true ∧ crcGood m = true)) ∧
    (∃ (s u : State) (t lane i : Nat) (m : List Byte), u = s.elapse t ∧ s.sys.mode ≠ .hold ∧ 24 ≤ lane ∧ lane < 28 ∧
      i = lane - 24 ∧ ((s.lane lane).st = 5 ∧ crcGood m = true)) := by
  refine ⟨⟨laneIn 27 6, _, 0, 27, _, message 0x23 [], rfl, ?_, ?_, ?_, rfl, ?_, ⟨?_, ?_⟩⟩,
    ⟨laneIn 24 5, _, 0, 24, _, message 0x24 [], rfl, ?_, ?_, ?_, rfl, ⟨?_, ?_⟩⟩⟩
  all_goals decide +kernel

theorem witness_StepsComplete :
    (∃ (s u : State) (t : Nat), u = s.elapse t ∧ s.sys.mode ≠ .hold ∧ (∃ (k : _), s.time.state ≠ 2 ∧ ([0, 1, 2].find? fun k =>
      u.mayTake k && u.requalAt k ≤ u.time.cyc) = some k) ∧ (∃ (p : Packet), Admits u (p.guarding 0x0002_0020 1) ∧
      p.delta = none ∧ s.time.stepPend = none)) ∧
    (∃ (s u : State) (t : Nat), u = s.elapse t ∧ s.sys.mode ≠ .hold ∧ (∃ (d stop : _), s.time.slew = some (d, stop) ∧
      s.time.state = 2 ∧ stop ≤ u.time.cyc) ∧ (∃ (p : Packet) (src d : _), Admits u (p.guarding 0x0002_0020 1) ∧ p.delta = none ∧
      s.time.stepAt = none ∧ s.time.stepPend = some (src, d))) ∧
    (∃ (s u : State) (t : Nat), u = s.elapse t ∧ s.sys.mode ≠ .hold ∧ (∃ (tick src fixed d : _), s.time.stepAt = some (tick, src,
      fixed) ∧ tickTime tick ≤ u.time.now ∧ d = fixed.getD (u.offsetOf src))) := by
  refine ⟨⟨{ base with time := { base.time with state := 3, ppsQ := true },
                       cfg := { body := [(0xC, List.replicate 16 0 ++ [1, 0])] } }, _, 0, rfl, ?_, ⟨0, ?_, ?_⟩, ⟨{}, ?_, ?_, ?_⟩⟩,
    ⟨{ base with time := { base.time with state := 2, slew := some (5, 0), stepPend := some (0, 5) } }, _, 0, rfl, ?_, ⟨_, _, rfl,
      ?_, ?_⟩, ⟨{}, _, _, ?_, ?_, ?_, rfl⟩⟩,
    ⟨{ base with time := { base.time with stepAt := some (0, 0, some 5) } }, _, 0, rfl, ?_, ⟨_, _, _, _, rfl, ?_, rfl⟩⟩⟩
  all_goals first | decide +kernel | exact admits_of (by decide +kernel)

theorem witness_TimedActionsComplete :
    (∃ (s u : State) (t : Nat), u = s.elapse t ∧ s.sys.mode ≠ .hold ∧ (∃ (e : _), u.actDue e = true ∧ (∀ j, j < e → u.actDue j =
      false ∨ (s.act j).action ≠ 6)) ∧ (∃ (e : _), (s.act e).pending = true ∧ s.sys.mode ≠ .safe ∧ (∀ j, j < e → u.actDue j =
      false) ∧ (match (s.act e).lateAt with | some n => tickTime n ≤ u.time.now | none => (s.act e).time * unitsPerNs ≤
      u.time.now)) ∧ (∃ (p : Packet) (e sec nsec c : Nat) (a : TaEntry), Admits u (p.writing 0x0002_0218 1) ∧
      e = s.regN 0x0002_0200 % 64 ∧ sec = s.regN 0x0002_0204 + s.regN 0x0002_0208 % 65536 * 2 ^ 32 ∧ nsec = s.regN 0x0002_020C ∧
      c = s.regN 0x0002_0210 ∧ a = { time := sec * 1_000_000_000 + nsec, action := c % 16, arg := s.regN 0x0002_0214,
                                     en := bit c 4, runLate := bit c 5, period := c / 65536 } ∧ u.actAbsent a.action a.arg = none
      ∧ u.actCheck a.action a.arg sec nsec = none ∧ ¬ (a.en = true ∧ a.action = 5 ∧ a.arg % 4 = 2 ∧ s.tflag 5 = true) ∧
      (a.en = false ∨ u.isLate a.time = false ∨ a.runLate = true)) ∧ (∃ (p : Packet) (e : Nat), Admits u (p.writing 0x0002_0218 2)
      ∧ e = s.regN 0x0002_0200 % 64) ∧ (∃ (p : Packet) (e : Nat), Admits u (p.writing 0x0002_0218 3) ∧ e = s.regN 0x0002_0200 %
      64) ∧ ((s.tflag 4 = true ∨ s.tflag 5 = true) ∧ s.time.ppsMark < u.ppsSecond u.ns ∧ (s.tflag 6 = false ∨ u.suspectAt u.ns =
      false)) ∧ (∃ (c : _), s.time.ppsOut = some c ∧ c ≤ u.time.cyc)) := by
  refine ⟨{ base with time := { base.time with acts := [(63, { pending := true })], ppsOut := some 0 },
                      cfg := { body := [(0xC, [16, 0])] } }, _, 0, rfl, ?_, ⟨63, ?_, ?_⟩, ⟨63, ?_, ?_, ?_, ?_⟩, ⟨{}, _, _, _, _,
    _, ?_, rfl, rfl, rfl, rfl, rfl, ?_, ?_, ?_, ?_⟩, ⟨{}, _, ?_, rfl⟩, ⟨{}, _, ?_, rfl⟩, ⟨?_, ?_, ?_⟩, ⟨_, rfl, ?_⟩⟩
  all_goals first | decide +kernel | exact admits_of (by decide +kernel) | exact Nat.le_of_ble_eq_true (by decide +kernel)

theorem witness_RelayComplete :
    (∃ (s u : State) (t lane : Nat) (m : List Byte), u = s.elapse t ∧ s.sys.mode ≠ .hold ∧ (24 ≤ lane ∧ lane < 28 ∧
      s.laneActive lane = true ∧ crcGood m = true ∧ s.fromNeighbour lane = true ∧ s.isStandby = false ∧ byteAt m 1 ≠ s.hubId ∧
      s.dirUp (decide (lane < 26)) = true ∧ (∀ l, s.laneActive l = true → (u.runEgress u.time.cyc l).relayFill l + m.length ≤
      s.regionSize 0x07 (l - 24)))) ∧
    (∃ (s u : State) (t lane : Nat) (m : List Byte), u = s.elapse t ∧ s.sys.mode ≠ .hold ∧ (∃ (j : _), 24 ≤ lane ∧ lane < 28 ∧
      s.laneActive lane = true ∧ crcGood m = true ∧ s.fromNeighbour lane = true ∧ s.isStandby = false ∧ byteAt m 1 ≠ s.hubId ∧
      s.dirUp (decide (lane < 26)) = false ∧ j = (if lane < 26 then 2 else 0))) ∧
    (∃ (s u : State) (t lane : Nat) (m : List Byte), u = s.elapse t ∧ s.sys.mode ≠ .hold ∧ (∃ (r : Reasm), 24 ≤ lane ∧ lane < 28 ∧
      s.laneActive lane = true ∧ crcGood m = true ∧ s.fromNeighbour lane = true ∧ s.isStandby = false ∧ byteAt m 1 = s.hubId ∧
      bit (byteAt m 3) 2 = false ∧ (Tab.get (fun _ => ({} : Reasm)) s.time.reasm (byteAt m 2)).step (byteAt m 3) (leAt m 5 2)
      (slice m 7 (byteAt m 4)) = (r, none, none))) ∧
    (∃ (s u : State) (t lane : Nat) (m : List Byte), u = s.elapse t ∧ s.sys.mode ≠ .hold ∧ (24 ≤ lane ∧ lane < 28 ∧
      s.laneActive lane = true ∧ crcGood m = true ∧ s.fromNeighbour lane = true ∧ s.isStandby = false ∧ byteAt m 1 = s.hubId ∧
      bit (byteAt m 3) 2 = true)) ∧
    (∃ (s u : State) (t : Nat), u = s.elapse t ∧ s.sys.mode ≠ .hold ∧ (∃ (c : _), s.time.relayHeld = some c ∧
      s.host.unreleased = true ∧ c + cycPerS ≤ u.time.cyc)) := by
  refine ⟨⟨{ base with lanes := [(24, { st := 6 }), (26, { st := 6 })], time := { base.time with upActive := some 0 },
                       cfg := { body := [(9, regionRec 7 0 ++ regionRec 7 2)] } }, _, 0, 24, message 0x41 [0, 0, 0, 0, 0, 0], rfl,
    ?_, ⟨?_, ?_, ?_, ?_, ?_, ?_, ?_, ?_, ?_⟩⟩,
    ⟨{ laneIn 24 6 with time := { base.time with upActive := some 0 } }, _, 0, 24, message 0x41 [0, 0, 0, 0, 0, 0], rfl, ?_, ⟨_,
      ?_, ?_, ?_, ?_, ?_, ?_, ?_, ?_, rfl⟩⟩,
    ⟨{ base with lanes := [(24, { st := 6 }), (26, { st := 6 })], time := { base.time with upActive := some 0 },
                 cfg := { body := [(9, regionRec 7 0 ++ regionRec 7 2)] } }, _, 0, 24, message 0x41 [0xFF, 0, 1, 0, 0, 0], rfl,
      ?_, ⟨{ isOpen := true }, ?_, ?_, ?_, ?_, ?_, ?_, ?_, ?_, ?_⟩⟩,
    ⟨{ base with lanes := [(24, { st := 6 }), (26, { st := 6 })], time := { base.time with upActive := some 0 },
                 cfg := { body := [(9, regionRec 7 0 ++ regionRec 7 2)] } }, _, 0, 24, message 0x41 [0xFF, 0, 4, 0, 0, 0], rfl,
      ?_, ⟨?_, ?_, ?_, ?_, ?_, ?_, ?_, ?_⟩⟩,
    ⟨{ base with time := { base.time with relayHeld := some 0 }, host := { q := [dataPkt] } }, _, 0, rfl, ?_, ⟨_, rfl, ?_, ?_⟩⟩⟩
  all_goals first | decide +kernel | exact active_two rfl (by decide +kernel) (by decide +kernel)

/-! ## Outbound flow and ports -/

theorem witness_CompressorComplete :
    (∃ (s u : State) (t id : Nat) (rt : Route), u = s.elapse t ∧ s.sys.mode ≠ .hold ∧ s.route id = some rt ∧
      (s.nxPool rt.nxPool).stalledAt = none ∧ (∃ (r x : Record), s.nx.inq.find? (fun x => x.stream == id) = some r ∧
      rt.nxMode ≠ 0 ∧ u.blockEnds rt (s.nxStream id) r = false ∧ x = (u.recordRead 3 r).1)) := by
  refine ⟨{ routed 1 {} with nx := { inq := [rec1] } }, _, 0, 1, _, rfl, ?_, rfl, ?_, ⟨_, _, rfl, ?_, ?_, rfl⟩⟩
  all_goals decide +kernel

theorem witness_WaitingRecordsComplete :
    (∃ (s u : State) (t : Nat), u = s.elapse t ∧ s.sys.mode ≠ .hold ∧ (∃ (e es : _), s.ev.items = e :: es ∧
      s.ev.openAt + cycPerMs ≤ u.time.cyc) ∧ (s.ev.lost ≠ 0 ∧ s.evRoom 64 = true ∧ s.isStandby = false ∧ s.ev.items.length < 61) ∧
      (∃ (id r g gs : _), s.route id = some r ∧ r.id = id ∧ (s.stream id).pendingGaps = g :: gs ∧ s.bufTakes r g.size = true)) :=
      by
  refine ⟨{ routed 0 { pendingGaps := [rec1] } with ev := { items := [{ code := 1, stamp := 0, eseq := 0, subject := 0,
                                                                        args := [] }], lost := 1 } }, _, 0, rfl, ?_, ⟨_, _, rfl,
    ?_⟩, ⟨?_, ?_, ?_, ?_⟩, ⟨1, _, _, _, rfl, ?_, rfl, ?_⟩⟩
  all_goals decide +kernel

theorem witness_PacketsComplete :
    (∃ (s u : State) (t : Nat), u = s.elapse t ∧ s.sys.mode ≠ .hold ∧ (∃ (p : Packet), p.port = .host ∧ p.lane ≠ 30 ∧
      s.isStandby = false ∧ p.lseq.toNat = s.ports.expect ∧ s.inFlight p = false) ∧ (∃ (q : Packet), s.ports.held = [q] ∧
      s.ports.expect < 65536 ∧ s.ports.gapFrom + 50 * cycPerUs ≤ u.time.cyc) ∧ (∃ (x l bs : _), s.host.q[s.host.nextIdx]? = some x
      ∧ s.pair.role = 0 ∧ s.gwDir = 0 ∧ s.ports.hostStop = false ∧ (s.laneActive 28 || s.laneActive 29) = true ∧
      l = (if s.laneActive 28 then 28 else 29) ∧ bs = hostBlocks s.ports.cmdStop (122 * (s.lane l).blocks % 4) (x.bytes
      s.host.seq)) ∧ (∃ (x : _), s.drip.q[s.drip.nextIdx]? = some x ∧ s.pair.role = 0 ∧ bit (s.regN 0x000B_0080) 0 = true ∧
      (bit (s.regN 0x000B_0080) 1 = true → s.ports.ctsLow = true))) := by
  refine ⟨{ base with lanes := [(28, { st := 6 })], host := { q := [dataPkt] }, drip := { q := [dataPkt] },
                      ports := { held := [{ lseq := 1 }] }, regs := [(0x000B_0080, 1)] }, _, 0, rfl, ?_, ⟨{}, ?_, ?_, ?_, ?_, ?_⟩,
    ⟨_, rfl, ?_, ?_⟩, ⟨_, _, _, rfl, ?_, ?_, ?_, ?_, rfl, rfl⟩, ⟨_, rfl, ?_, ?_, ?_⟩⟩
  all_goals decide +kernel

theorem witness_StreamsComplete :
    (∃ (s u : State) (t id : Nat) (p q : Packet) (r : Route), u = s.elapse t ∧ s.route id = some r ∧ r.id = id ∧
      (q = p.withOp 0x48 ∧ Admits u q ∧ p.addr.toNat = id ∧ (s.stream id).st ≠ 1 ∧ (s.stream id).closing = none ∧
      (s.stream id).pendingGaps = [] ∧ s.streamHeld id = false ∧ s.routeChanges r = false ∧ s.acquiring = true)) ∧
    (∃ (s u : State) (t id : Nat) (p q : Packet) (r : Route), u = s.elapse t ∧ s.route id = some r ∧ r.id = id ∧
      (q = p.withOp 0x49 ∧ Admits u q ∧ p.addr.toNat = id ∧ (s.stream id).st = 1 ∧ (s.stream id).closing = none ∧
      (s.stream id).recItems ≠ [])) ∧
    (∃ (s u : State) (t id : Nat) (p q : Packet) (r : Route), u = s.elapse t ∧ s.route id = some r ∧ r.id = id ∧
      (q = p.withOp 0x49 ∧ Admits u q ∧ p.addr.toNat = id ∧ (s.stream id).st = 1 ∧ (s.stream id).closing = none ∧
      (s.stream id).recItems = [])) ∧
    (∃ (s u : State) (t id : Nat) (p q : Packet) (r : Route), u = s.elapse t ∧ s.route id = some r ∧ r.id = id ∧
      (q = p.withOp 0x49 ∧ Admits u q ∧ p.addr.toNat = id ∧ (s.stream id).st ≠ 1 ∧ (s.stream id).pendingGaps = [])) ∧
    (∃ (s u : State) (t id : Nat) (p q : Packet) (r : Route), u = s.elapse t ∧ s.route id = some r ∧ r.id = id ∧
      (∃ (k : _), q = p.withOp 0x4A ∧ Admits u q ∧ p.payload.length = 8 ∧ leAt p.payload 0 2 = id ∧ leAt p.payload 4 4 = k ∧
      id ≠ 0 ∧ (s.stream id).rseq ≠ 0 ∧ (k + 2 ^ 32 - (s.stream id).acked) % 2 ^ 32 ≤ (((s.stream id).rseq + 2 ^ 32 - 1) % 2 ^ 32
      + 2 ^ 32 - (s.stream id).acked) % 2 ^ 32)) ∧
    (∃ (s u : State) (t id : Nat) (p q : Packet) (r : Route), u = s.elapse t ∧ s.route id = some r ∧ r.id = id ∧
      (q = p.writing 0x000B_0080 (leAt p.payload 0 4 ||| 1) ∧ Admits u q ∧ s.ports.bootRunning = false)) := by
  refine ⟨⟨routed 0 {}, _, 0, 1, { addr := 1 }, _, _, rfl, rfl, ?_, ⟨rfl, ?_, ?_, ?_, ?_, ?_, ?_, ?_, ?_⟩⟩,
    ⟨routed 0 { st := 1, recItems := [[]] }, _, 0, 1, { addr := 1 }, _, _, rfl, rfl, ?_, ⟨rfl, ?_, ?_, ?_, ?_, ?_⟩⟩,
    ⟨routed 0 { st := 1 }, _, 0, 1, { addr := 1 }, _, _, rfl, rfl, ?_, ⟨rfl, ?_, ?_, ?_, ?_, ?_⟩⟩,
    ⟨routed 0 {}, _, 0, 1, { addr := 1 }, _, _, rfl, rfl, ?_, ⟨rfl, ?_, ?_, ?_, ?_⟩⟩,
    ⟨routed 0 { st := 1, rseq := 3 }, _, 0, 1, { payload := [1, 0, 0, 0, 1, 0, 0, 0] }, _, _, rfl, rfl, ?_, ⟨1, rfl, ?_, ?_, ?_,
      ?_, ?_, ?_, ?_⟩⟩,
    ⟨routed 0 {}, _, 0, 1, {}, _, _, rfl, rfl, ?_, ⟨rfl, ?_, ?_⟩⟩⟩
  all_goals first | decide +kernel | exact admits_of (by decide +kernel)

theorem witness_UnitResetsComplete :
    (∃ (s u : State) (t a : Nat) (p q : Packet), u = s.elapse t ∧ a = p.addr.toNat ∧ (q = p.resetting 4 ∧ Admits u q ∧
      s.lanePresent a = true ∧ (s.lane a).enable = true ∧ (s.lane a).st ≠ 8)) ∧
    (∃ (s u : State) (t a : Nat) (p q : Packet), u = s.elapse t ∧ a = p.addr.toNat ∧ (q = p.resetting 5 ∧ Admits u q ∧
      a < s.podLanes ∧ (s.pod a).running = true)) ∧
    (∃ (s u : State) (t a : Nat) (p q : Packet), u = s.elapse t ∧ a = p.addr.toNat ∧ (q = p.resetting 7 ∧ Admits u q ∧ a < 8)) ∧
    (∃ (s u : State) (t a : Nat) (p q : Packet), u = s.elapse t ∧ a = p.addr.toNat ∧ (q = p.resetting 11 ∧ Admits u q)) := by
  refine ⟨⟨{ base with lanes := [(0, { st := 6, enable := true })], pods := [(0, { running := true })] }, _, 0, _, {}, _, rfl,
    rfl, ⟨rfl, ?_, ?_, ?_, ?_⟩⟩,
    ⟨podUp 0 { running := true }, _, 0, _, {}, _, rfl, rfl, ⟨rfl, ?_, ?_, ?_⟩⟩,
    ⟨base, _, 0, _, {}, _, rfl, rfl, ⟨rfl, ?_, ?_⟩⟩,
    ⟨base, _, 0, _, {}, _, rfl, rfl, ⟨rfl, ?_⟩⟩⟩
  all_goals first | decide +kernel | exact admits_of (by decide +kernel)

theorem witness_OtherPortsComplete :
    (∃ (s u x : State) (t : Nat) (bs : List Byte), u = s.elapse t ∧ s.sys.mode ≠ .hold ∧ (∃ (p : Packet) (st : Nat) (body : List
      Byte), p.port = .drip ∧ bit (s.regN 0x000B_0080) 0 = true ∧ 2 ≤ (unescape bs).length ∧ (crc16 ((unescape bs).take ((unescape
      bs).length - 2))).toNat = leAt (unescape bs) ((unescape bs).length - 2) 2 ∧ packetOf .drip ((unescape bs).take ((unescape
      bs).length - 2)) = some p ∧ s.pair.role = 0 ∧ p.pflag 2 = false ∧ s.inboundFill + 20 + p.payload.length ≤ 65536 ∧
      s.inFlight p = false ∧ s.mustWait p = false ∧ s.elsewhere p = false ∧ s.serves p = true ∧ (({ u with free := s.free + 1 } :
      State).updPort .drip fun k => { k with inflight := k.inflight ++ [(p.hub.toNat, p.tag.toNat)] }).applyPacket p
      (Config.avsAnswer s.free) = (.done st body, x))) ∧
    (∃ (s u : State) (t : Nat), u = s.elapse t ∧ s.sys.mode ≠ .hold ∧ (∃ (c : _), s.ports.dripHeld = some c ∧
      s.drip.unreleased = true ∧ c + orDefault (bits (s.regN 0x000B_0080) 8 8) 30 * cycPerS ≤ u.time.cyc) ∧
      (s.ports.rspValid = true)) ∧
    (∃ (s u x : State) (t : Nat) (bs : List Byte), u = s.elapse t ∧ s.sys.mode ≠ .hold ∧ (∃ (p : Packet) (st : Nat) (body : List
      Byte), p.port = .i2c ∧ s.ports.cmdFree = true ∧ packetOf .i2c bs = some p ∧ s.pair.role = 0 ∧ p.pflag 2 = false ∧
      s.inFlight p = false ∧ s.mustWait p = false ∧ s.elsewhere p = false ∧ s.serves p = true ∧
      (({ u with free := s.free + 1, ports := { s.ports with cmdFree := false } } : State).updPort .i2c fun k =>
      { k with inflight := k.inflight ++ [(p.hub.toNat, p.tag.toNat)] }).applyPacket p (Config.avsAnswer s.free) = (.done st body,
      x))) := by
  refine ⟨⟨dripOn, _, (served { dripOn.elapse 0 with free := 1 } (readPkt .drip)).2, 0, withCrc (readPkt .drip).bytes, rfl, ?_,
    ⟨readPkt .drip, 0, [0x80, 0x76, 1, 0], ?_, ?_, ?_, ?_, ?_, ?_, ?_, ?_, ?_, ?_, ?_, ?_, ?_⟩⟩,
    ⟨{ base with ports := { dripHeld := some 0, rspValid := true }, drip := { q := [dataPkt] }, regs := [(0x000B_0080, 0x101)] },
      _, 0, rfl, ?_, ⟨0, ?_, ?_, ?_⟩, ?_⟩,
    ⟨base, _, (served { base.elapse 0 with free := 1, ports := { base.ports with cmdFree := false } } (readPkt .i2c)).2, 0,
      (readPkt .i2c).bytes, rfl, ?_, ⟨readPkt .i2c, 0, [0x80, 0x76, 1, 0], ?_, ?_, ?_, ?_, ?_, ?_, ?_, ?_, ?_, ?_⟩⟩⟩
  all_goals decide +kernel

theorem witness_DebugComplete :
    (∃ (s u : State) (t : Nat), u = s.elapse t ∧ (s.sys.mode = .hold) ∧ (s.sys.mode = .hold)) ∧
    (∃ (s u : State) (t : Nat), u = s.elapse t ∧ (∃ (a : Word) (y : State), s.sys.mode ≠ .hold ∧ u.badAddr a.toNat = none ∧
      a ≠ 0x000D_0004 ∧ a ≠ 0x0002_0004 ∧ y = u.refresh a.toNat) ∧ (s.sys.mode ≠ .hold) ∧ (∃ (a : Word) (r : Reply), s.sys.mode ≠
      .hold ∧ u.badAddr a.toNat = some r) ∧ (∃ (a : Word) (m : Nat), s.sys.mode ≠ .hold ∧ s.pair.role = 0 ∧
      s.badAddr a.toNat = none ∧ isGw a.toNat = false ∧ isGw (a.toNat - 4) = false ∧ heldMask a.toNat = some m ∧
      (s.port .debug).guard = none)) := by
  refine ⟨⟨State.reset, _, 0, rfl, ?_, ?_⟩,
    ⟨base, _, 0, rfl, ⟨0x0008_0170, _, ?_, ?_, ?_, ?_, rfl⟩, ?_, ⟨2, _, ?_, rfl⟩, ⟨0x30, _, ?_, ?_, ?_, ?_, ?_, rfl, ?_⟩⟩⟩
  all_goals decide +kernel

/-! ## Registers -/

theorem witness_RegistersComplete :
    (∃ (s u x : State) (t a : Nat) (p q : Packet), u = s.elapse t ∧ a = p.addr.toNat ∧ x = u.admitted q ∧ (q = p.unlisted ∧
      Admits u q)) ∧
    (∃ (s u x : State) (t a : Nat) (p q : Packet), u = s.elapse t ∧ a = p.addr.toNat ∧ x = u.admitted q ∧ (∃ (n : _), q = p.withOp
      1 ∧ Admits u q ∧ p.count = some n ∧ (∀ i, i < n → s.badAddr (a + 4 * i) = none ∧ isRc (a + 4 * i) = false ∧
      a + 4 * i ≠ 0x0002_0004 ∧ a + 4 * i ≠ 0x000D_0004 ∧ x.refresh (a + 4 * i) = x))) ∧
    (∃ (s u x : State) (t a : Nat) (p q : Packet), u = s.elapse t ∧ a = p.addr.toNat ∧ x = u.admitted q ∧ (∃ (c y : _),
      c ∈ [Instr.rd t p, Instr.readClear t p] ∧ q = p.withOp 1 ∧ Admits u q ∧ p.count = some 1 ∧ s.badAddr a = none ∧
      isRc a = true ∧ y = x.refresh a)) ∧
    (∃ (s u x : State) (t a : Nat) (p q : Packet), u = s.elapse t ∧ a = p.addr.toNat ∧ x = u.admitted q ∧ (q = p.withOp 1 ∧
      Admits u q ∧ p.count = some 1 ∧ a = 0x0002_0004)) ∧
    (∃ (s u x : State) (t a : Nat) (p q : Packet), u = s.elapse t ∧ a = p.addr.toNat ∧ x = u.admitted q ∧ (∃ (y : _), q = p.withOp
      1 ∧ Admits u q ∧ p.count = some 1 ∧ s.badAddr a = none ∧ isRc a = false ∧ a ≠ 0x0002_0004 ∧ a ≠ 0x000D_0004 ∧
      y = x.refresh a)) ∧
    (∃ (s u x : State) (t a : Nat) (p q : Packet), u = s.elapse t ∧ a = p.addr.toNat ∧ x = u.admitted q ∧
      (∃ (c : _) (ws : List Word), c ∈ [Instr.wr t p, Instr.registerWrite t p] ∧ q = p.withOp 2 ∧ Admits u q ∧ p.words = some ws ∧
      (s.port .host).guard = none ∧ (∀ i, i < ws.length → s.badAddr (a + 4 * i) = none ∧ isGw (a + 4 * i) = false ∧
      isGw (a + 4 * i - 4) = false ∧ (heldMask (a + 4 * i)).isSome = true)) ∧ (∃ (c : _) (v : Word) (body : List Byte) (y :
      State), c ∈ [Instr.wr t p, Instr.registerWrite t p] ∧ q = p.withOp 2 ∧ Admits u q ∧ p.words = some [v] ∧
      s.badAddr a = none ∧ x.namesAbsent a v.toNat = none ∧ isGw a = false ∧ isGw (a - 4) = false ∧ (x.guardFail .host).writePlain
      .host a v (Config.avsAnswer u.free) = (.done 0 body, y))) := by
  refine ⟨⟨base, _, _, 0, _, {}, _, rfl, rfl, rfl, ⟨rfl, ?_⟩⟩,
    ⟨base, _, _, 0, _, { addr := 0x30, payload := [2, 0, 0, 0] }, _, rfl, rfl, rfl, ⟨2, rfl, ?_, ?_, ?_⟩⟩,
    ⟨base, _, _, 0, _, { addr := 0x40, payload := [1, 0, 0, 0] }, _, rfl, rfl, rfl, ⟨.readClear 0
      { addr := 0x40, payload := [1, 0, 0, 0] }, _, ?_, rfl, ?_, ?_, ?_, ?_, rfl⟩⟩,
    ⟨base, _, _, 0, _, { addr := 0x0002_0004, payload := [1, 0, 0, 0] }, _, rfl, rfl, rfl, ⟨rfl, ?_, ?_, rfl⟩⟩,
    ⟨base, _, _, 0, _, { addr := 0x0008_0000, payload := [1, 0, 0, 0] }, _, rfl, rfl, rfl, ⟨_, rfl, ?_, ?_, ?_, ?_, ?_, ?_, rfl⟩⟩,
    ⟨base, _, _, 0, _, { addr := 0x30, payload := [1, 0, 0, 0] }, _, rfl, rfl, rfl,
      ⟨.wr 0 { addr := 0x30, payload := [1, 0, 0, 0] }, _, ?_, rfl, ?_, rfl, ?_, ?_⟩, ⟨.registerWrite 0
      { addr := 0x30, payload := [1, 0, 0, 0] }, 1, [], ((((base.elapse 0).admitted (({ addr := 0x30, payload := [1, 0, 0, 0] } :
      Packet).withOp 2)).guardFail .host).writePlain .host 0x30 1 (Config.avsAnswer 0)).2, ?_, rfl, ?_, ?_, ?_, ?_, ?_, ?_, ?_⟩⟩⟩
  all_goals first | decide +kernel | exact admits_of (by decide +kernel)

theorem witness_GuardsComplete :
    (∃ (s u x : State) (t a : Nat) (p q : Packet) (v : Word), u = s.elapse t ∧ x = u.admitted q ∧ (q = p.withOp 2 ∧ Admits u q ∧
      isGw a = true ∧ p.addr.toNat = a ∧ p.words = some [v] ∧ (s.port .host).guard = none)) ∧
    (∃ (s u x : State) (t a : Nat) (p q : Packet) (v : Word), u = s.elapse t ∧ x = u.admitted q ∧ (∃ (stop body y : _),
      q = p.withOp 2 ∧ Admits u q ∧ isGw a = true ∧ p.addr.toNat = a + 4 ∧ p.words = some [~~~v] ∧ (s.port .host).guard = some (a,
      v, stop) ∧ u.time.cyc ≤ stop ∧ (x.updPort .host fun k => { k with guard := none }).guardedAct q a v = (.done 0 body, y))) ∧
    (∃ (s u x : State) (t a : Nat) (p q : Packet), u = s.elapse t ∧ x = u.admitted q ∧ (∃ (body y : _), q = p.withOp 5 ∧
      Admits u q ∧ isGw a = true ∧ p.addr.toNat = a ∧ p.payload.length = 4 ∧ (x.guardFail .host).guardedAct q a p.word = (.done 0
      body, y)) ∧ (q = p.asGuarded 0x0001_0010 ∧ Admits u q ∧ p.payload.length = 4)) ∧
    (∃ (s u x : State) (t a : Nat) (q : Packet) (v : Word), u = s.elapse t ∧ x = u.admitted q ∧ (∃ (port stop : _), s.sys.mode ≠
      .hold ∧ (s.port port).guard = some (a, v, stop) ∧ stop < u.time.cyc)) ∧
    (∃ (s u x : State) (t : Nat) (p q : Packet), u = s.elapse t ∧ x = u.admitted q ∧ (q = p.asGuarded 0x0000_0028 ∧ Admits u q ∧
      p.payload.length = 4 ∧ bit p.word.toNat 8 = false ∧ s.reg 0x0000_0030 ≠ 0 ∧ s.sys.otpRun = none ∧
      Tab.get (fun _ => 0) s.field.userOtp (p.word.toNat % 64) = 0)) ∧
    (∃ (s u x : State) (t : Nat) (q : Packet) (v : Word), u = s.elapse t ∧ x = u.admitted q ∧ (∃ (i : _), s.sys.mode ≠ .hold ∧
      s.sys.otpRun = some (i, v))) := by
  refine ⟨⟨base, _, _, 0, 0x18, { addr := 0x18, payload := [0, 0, 0, 0] }, _, 0, rfl, rfl, ⟨rfl, ?_, ?_, ?_, ?_, ?_⟩⟩,
    ⟨guarding 0x0001_0010, _, _, 0, 0x0001_0010, { addr := 0x0001_0014, payload := [0xFF, 0xFF, 0xFF, 0xFF] }, _, 0, rfl, rfl,
      ⟨16_000_000_000, [], ((((guarding 0x0001_0010).elapse 0).admitted
      (({ addr := 0x0001_0014, payload := [0xFF, 0xFF, 0xFF, 0xFF] } : Packet).withOp 2)).updPort .host fun k =>
      { k with guard := none }).guardedAct (({ addr := 0x0001_0014, payload := [0xFF, 0xFF, 0xFF, 0xFF] } : Packet).withOp 2)
      0x0001_0010 0 |>.2, rfl, ?_, ?_, ?_, ?_, ?_, ?_, ?_⟩⟩,
    ⟨base, _, _, 0, 0x0001_0010, { addr := 0x0001_0010, payload := [7, 0, 0, 0] }, _, rfl, rfl, ⟨[], (((base.elapse 0).admitted
      (({ addr := 0x0001_0010, payload := [7, 0, 0, 0] } : Packet).withOp 5)).guardFail .host).guardedAct
      (({ addr := 0x0001_0010, payload := [7, 0, 0, 0] } : Packet).withOp 5) 0x0001_0010 7 |>.2, rfl, ?_, ?_, ?_, ?_, ?_⟩, ⟨rfl,
      ?_, ?_⟩⟩,
    ⟨{ guarding 0x18 with time := { base.time with cyc := 16_000_000_001 } }, _, _, 0, 0x18, {}, 0, rfl, rfl, ⟨.host, _, ?_, rfl,
      ?_⟩⟩,
    ⟨{ base with regs := [(0x30, 1)] }, _, _, 0, { addr := 0, payload := [5, 0, 0, 0] }, _, rfl, rfl, ⟨rfl, ?_, ?_, ?_, ?_, ?_,
      ?_⟩⟩,
    ⟨{ base with sys := { base.sys with otpRun := some (5, 1) } }, _, _, 0, {}, 1, rfl, rfl, ⟨_, ?_, rfl⟩⟩⟩
  all_goals first | decide +kernel | exact admits_of (by decide +kernel)

theorem witness_WindowComplete :
    (∃ (s u x : State) (t : Nat) (p q : Packet) (v : Word), u = s.elapse t ∧ x = u.admitted q ∧ (s.port .host).guard = none ∧
      (q = p.asWrite 0x000D_0000 ∧ Admits u q ∧ p.words = some [v])) ∧
    (∃ (s u x : State) (t : Nat) (p q : Packet) (v : Word), u = s.elapse t ∧ x = u.admitted q ∧ (s.port .host).guard = none ∧
      (∃ (body y : _), q = p.reading 0x000D_0004 ∧ Admits u q ∧ x.ixAt (s.port .host).ixAddr.toNat none true = (.done 0 body, v,
      y))) ∧
    (∃ (s u x : State) (t : Nat) (p q : Packet) (v : Word), u = s.elapse t ∧ x = u.admitted q ∧ (s.port .host).guard = none ∧
      (∃ (body r y : _), q = p.asWrite 0x000D_0004 ∧ Admits u q ∧ p.words = some [v] ∧ x.ixAt (s.port .host).ixAddr.toNat (some v)
      true = (.done 0 body, r, y))) ∧
    (∃ (s u x : State) (t a : Nat) (p q : Packet), u = s.elapse t ∧ x = u.admitted q ∧ (s.port .host).guard = none ∧
      (∃ (n : Nat) (vs : List Word), q = p.withOp 3 ∧ Admits u q ∧ p.count = some n ∧ a = p.addr.toNat ∧ a % 4 = 0 ∧
      vs.length = n ∧ (∀ i y, vs[i]? = some y → ∃ body, u.ixAt (a + 4 * i) none true = (.done 0 body, y, u)))) ∧
    (∃ (s u x : State) (t a : Nat) (p q : Packet), u = s.elapse t ∧ x = u.admitted q ∧ (s.port .host).guard = none ∧
      (∃ (ws : List Word), q = p.withOp 4 ∧ Admits u q ∧ p.words = some ws ∧ a = p.addr.toNat ∧ a % 4 = 0 ∧ ((0x0100_0000 ≤ a ∧
      a + 4 * ws.length ≤ 0x0100_1000 + 0x40 * s.localChs ∧ s.sys.fdLink = true) ∨ (0x0300_0000 ≤ a ∧
      a + 4 * ws.length ≤ 0x0300_1000 ∧ s.sys.fdLink = true) ∨ (0x0300_1000 ≤ a ∧ a + 4 * ws.length ≤ 0x0300_1100)))) ∧
    (∃ (s u x : State) (t : Nat) (p q : Packet) (v : Word), u = s.elapse t ∧ x = u.admitted q ∧ (s.port .host).guard = none ∧
      (∃ (l k : _), q = p.withOp 4 ∧ Admits u q ∧ p.words = some [v] ∧ s.sys.mode = .test ∧ s.lanePresent l = true ∧
      p.addr.toNat = 0x0200_0000 + 0x1000 * l + k ∧ ((k = 0 ∧ bits v.toNat 1 4 ≤ 10) ∨ k = 4))) := by
  refine ⟨⟨base, _, _, 0, { addr := 0, payload := [0, 0, 0, 3] }, _, _, rfl, rfl, ?_, ⟨rfl, ?_, rfl⟩⟩,
    ⟨window 0x0300_1000, _, _, 0, {}, _, 0, rfl, rfl, ?_, ⟨[], (((window 0x0300_1000).elapse 0).admitted (({} : Packet).reading
      0x000D_0004)), rfl, ?_, ?_⟩⟩,
    ⟨window 0x0100_17C0, _, _, 0, { payload := [1, 0, 0, 0] }, _, 1, rfl, rfl, ?_, ⟨[], 0, (((window 0x0100_17C0).elapse
      0).admitted (({ payload := [1, 0, 0, 0] } : Packet).asWrite 0x000D_0004)), rfl, ?_, ?_, ?_⟩⟩,
    ⟨base, _, _, 0, _, { addr := 0x0300_1000, payload := [1, 0, 0, 0] }, _, rfl, rfl, ?_, ⟨1, [0], rfl, ?_, ?_, rfl, ?_, ?_, ?_⟩⟩,
    ⟨base, _, _, 0, _, { addr := 0x0300_10FC, payload := [1, 0, 0, 0] }, _, rfl, rfl, ?_, ⟨_, rfl, ?_, rfl, rfl, ?_, ?_⟩⟩,
    ⟨inMode .test, _, _, 0, { addr := 0x0201_F004, payload := [1, 0, 0, 0] }, _, 1, rfl, rfl, ?_, ⟨31, 4, rfl, ?_, ?_, ?_, ?_, ?_,
      ?_⟩⟩⟩
  all_goals first | decide +kernel | exact admits_of (by decide +kernel) | exact one_word ⟨[], by decide +kernel⟩

theorem witness_LocksComplete :
    (∃ (s u : State) (t n : Nat) (p q : Packet), u = s.elapse t ∧ n < 16 ∧ (q = p.withOp 0x28 ∧ Admits u q ∧ p.addr.toNat = n ∧
      ((s.lockOf n).owner = 0 ∨ (s.lockOf n).owner = 1))) ∧
    (∃ (s u : State) (t n : Nat) (p q : Packet), u = s.elapse t ∧ n < 16 ∧ (q = p.withOp 0x29 ∧ Admits u q ∧ p.addr.toNat = n ∧
      (s.lockOf n).owner = 1)) ∧
    (∃ (s u : State) (t n : Nat) (p q : Packet), u = s.elapse t ∧ n < 16 ∧ (leAt p.payload 0 4 % 16 = n ∧
      (s.port .host).guard = none ∧ q = p.writing 0x000E_0004 (n + 256) ∧ Admits u q ∧ ((s.lockOf n).owner = 0 ∨ (s.lockOf
      n).owner = 1))) ∧
    (∃ (s u : State) (t n : Nat) (p q : Packet), u = s.elapse t ∧ n < 16 ∧ (leAt p.payload 0 4 % 16 = n ∧
      (s.port .host).guard = none ∧ q = p.writing 0x000E_0004 n ∧ Admits u q ∧ (s.lockOf n).owner = 1) ∧ (s.sys.mode ≠ .hold ∧
      (s.lockOf n).owner ≠ 0 ∧ (s.lockOf n).ends ≤ u.time.cyc ∧ s.commitHolds (s.lockOf n).owner = false)) := by
  refine ⟨⟨locked 15, _, 0, 15, { addr := 15, payload := [15, 0, 0, 0] }, _, rfl, ?_, ⟨rfl, ?_, ?_, ?_⟩⟩,
    ⟨locked 15, _, 0, 15, { addr := 15, payload := [15, 0, 0, 0] }, _, rfl, ?_, ⟨rfl, ?_, ?_, ?_⟩⟩,
    ⟨locked 15, _, 0, 15, { addr := 15, payload := [15, 0, 0, 0] }, _, rfl, ?_, ⟨?_, ?_, rfl, ?_, ?_⟩⟩,
    ⟨locked 15, _, 0, 15, { addr := 15, payload := [15, 0, 0, 0] }, _, rfl, ?_, ⟨?_, ?_, rfl, ?_, ?_⟩, ⟨?_, ?_, ?_, ?_⟩⟩⟩
  all_goals first | decide +kernel | exact admits_of (by decide +kernel)

/-! ## The pair -/

theorem witness_HeartbeatsComplete :
    (∃ (s u : State) (t n : Nat), u = s.elapse t ∧ s.sys.mode ≠ .hold ∧ (s.linkUp = true ∧ s.pair.role ≠ 0 ∧ u.hbDue = true) ∧
      (s.linkUp = true ∧ s.pair.role ≠ 0 ∧ (s.pair.inSeq = none ∨ s.pair.inSeq = some (n % 65536))) ∧ (s.linkUp = true ∧
      s.pair.role ≠ 0 ∧ (s.pair.inSeq = none ∨ s.pair.inSeq = some (n % 65536)))) ∧
    (∃ (s u : State) (t : Nat), u = s.elapse t ∧ s.sys.mode ≠ .hold ∧ (u.succUsable = true ∧ s.linkUp = true ∧
      s.pair.hbAt.isSome = true ∧ u.hbOk = false)) ∧
    (∃ (s u : State) (t : Nat), u = s.elapse t ∧ s.sys.mode ≠ .hold ∧ (s.pair.blind = true ∧ s.linkUp = true) ∧
      (∃ (b : _), Tab.get (fun _ => 0) s.pair.checks b ≠ 0 ∧ Tab.get (fun _ => 0) s.pair.checks b + 2 * cycPerS ≤ u.time.cyc)) :=
      by
  refine ⟨⟨member 1, _, 0, 0, rfl, ?_, ⟨?_, ?_, ?_⟩, ⟨?_, ?_, ?_⟩, ⟨?_, ?_, ?_⟩⟩,
    ⟨{ member 2 with pair := { role := 2, inStep := true, succession := some { id := 1, ends := none }, hbAt := some 0 } }, _, 0,
      rfl, ?_, ⟨?_, ?_, ?_, ?_⟩⟩,
    ⟨{ member 2 with pair := { role := 2, blind := true, checks := [(4, 1)] } }, _, 0, rfl, ?_, ⟨?_, ?_⟩, ⟨4, ?_, ?_⟩⟩⟩
  all_goals decide +kernel

theorem witness_ForwardsComplete :
    (∃ (s u : State) (t n : Nat), u = s.elapse t ∧ s.sys.mode ≠ .hold ∧ (∃ (fseq tick : _), s.isStandby = true ∧ s.linkUp = true ∧
      (s.pair.inSeq = none ∨ s.pair.inSeq = some (n % 65536)) ∧ fseq = nextFseq s.pair.fwdNext ∧ u.time.now ≤ tickTime tick)) ∧
    (∃ (s u : State) (t : Nat), u = s.elapse t ∧ s.sys.mode ≠ .hold ∧ (∃ (f : _), s.pair.queue.find? (fun g => !g.timed &&
      tickTime g.tick ≤ u.time.now) = some f)) ∧
    (∃ (s u : State) (t : Nat), u = s.elapse t ∧ s.sys.mode ≠ .hold ∧ (∃ (f : _), s.pair.role = 0 ∧ s.pair.queue.find? (fun g =>
      g.timed && tickTime g.tick ≤ u.time.now) = some f ∧ f.answers = true)) := by
  refine ⟨⟨member 2, _, 0, 0, rfl, ?_, ⟨_, 16_000_000, ?_, ?_, ?_, rfl, ?_⟩⟩,
    ⟨{ member 2 with pair := { role := 2, queue := [{ fseq := 1, tick := 0, pkt := {}, timed := false, answers := true }] } }, _,
      0, rfl, ?_, ⟨_, rfl⟩⟩,
    ⟨{ base with pair := { queue := [{ fseq := 1, tick := 0, pkt := {}, timed := true, answers := true }] } }, _, 0, rfl, ?_, ⟨_,
      ?_, rfl, ?_⟩⟩⟩
  all_goals decide +kernel

theorem witness_PairMessagesComplete :
    (∃ (s u : State) (t n : Nat), u = s.elapse t ∧ s.sys.mode ≠ .hold ∧ s.linkUp = true ∧ (s.pair.inSeq = none ∨ s.pair.inSeq =
      some (n % 65536)) ∧ (∃ (id k : _), s.isStandby = true ∧ id ≠ 0 ∧ (s.route id).isSome = true ∧ (s.stream id).rseq ≠ 0 ∧
      (k + 2 ^ 32 - (s.stream id).acked) % 2 ^ 32 ≤ (((s.stream id).rseq + 2 ^ 32 - 1) % 2 ^ 32 + 2 ^ 32 - (s.stream id).acked) %
      2 ^ 32) ∧ (s.isStandby = true) ∧ (s.isStandby = true) ∧ (∃ (origin fid : _), s.isStandby = true ∧ (s.pair.swarmWait.any fun
      w => w.1 == origin && w.2.1 == fid) = false) ∧ (∃ (ch : _), s.isStandby = true ∧ ch < s.localChs)) ∧
    (∃ (s u : State) (t n : Nat), u = s.elapse t ∧ s.sys.mode ≠ .hold ∧ s.linkUp = true ∧ (s.pair.inSeq = none ∨ s.pair.inSeq =
      some (n % 65536)) ∧ (∃ (lane : _), s.isActive = true ∧ lane < s.podLanes) ∧ (∃ (id : _), s.pair.role ≠ 0 ∧
      s.pair.primary.any (fun l => l.id == id) = false ∧ s.pair.succession.any (fun l => l.id == id) = true) ∧ (∃ (p : Packet),
      s.pair.role ≠ 0 ∧ byteAt p.payload 0 = 0) ∧ (∃ (tag : BitVec 12) (r : _), s.pair.role ≠ 0 ∧ s.pair.relayed.find? (fun r =>
      r.1.tag == tag) = some r)) ∧
    (∃ (s u : State) (t n : Nat), u = s.elapse t ∧ s.sys.mode ≠ .hold ∧ s.linkUp = true ∧ (s.pair.inSeq = none ∨ s.pair.inSeq =
      some (n % 65536)) ∧ (s.pair.role = 3)) ∧
    (∃ (s u : State) (t n : Nat), u = s.elapse t ∧ s.sys.mode ≠ .hold ∧ s.linkUp = true ∧ (s.pair.inSeq = none ∨ s.pair.inSeq =
      some (n % 65536)) ∧ (∃ (p : Packet), s.pair.role ≠ 0 ∧ s.pair.role = 2 ∧ s.hostless = false ∧ p.payload.length = 12 ∧
      byteAt p.payload 0 = 2 ∧ byteAt p.payload 1 < 2 ∧ leAt p.payload 4 4 ≠ 0 ∧ 1 ≤ leAt p.payload 8 4 ∧
      leAt p.payload 8 4 ≤ 60_000 ∧ s.pair.succession = none)) := by
  refine ⟨⟨{ routed 0 { rseq := 3 } with lanes := [(31, { st := 6 })], pair := { role := 2 } }, _, 0, 0, rfl, ?_, ?_, ?_, ⟨1, 1,
    ?_, ?_, ?_, ?_, ?_⟩, ?_, ?_, ⟨1, 2, ?_, ?_⟩, ⟨31, ?_, ?_⟩⟩,
    ⟨{ member 1 with pair := { role := 1, succession := some { id := 7, ends := none }, relayed := [({ tag := 3 }, 0)] } }, _, 0,
      0, rfl, ?_, ?_, ?_, ⟨23, ?_, ?_⟩, ⟨7, ?_, ?_, ?_⟩, ⟨{}, ?_, ?_⟩, ⟨3, _, ?_, rfl⟩⟩,
    ⟨member 3, _, 0, 0, rfl, ?_, ?_, ?_, ?_⟩,
    ⟨member 2, _, 0, 0, rfl, ?_, ?_, ?_, ⟨{ payload := [2, 1, 0, 0, 1, 0, 0, 0, 0x60, 0xEA, 0, 0] }, ?_, ?_, ?_, ?_, ?_, ?_, ?_,
      ?_, ?_, ?_⟩⟩⟩
  all_goals decide +kernel

theorem witness_ComparisonComplete :
    (∃ (s u : State) (t n : Nat), u = s.elapse t ∧ s.sys.mode ≠ .hold ∧ (∃ (st r fr d : _) (e : DigestEntry), s.linkUp = true ∧
      (s.pair.inSeq = none ∨ s.pair.inSeq = some (n % 65536)) ∧ s.comparing = true ∧ s.pair.mine.find? (fun x => x.stream == st &&
      x.rseq == r && x.frag == fr) = none ∧ e = { stream := st, rseq := r, frag := fr, digest := d, at' := u.time.cyc }) ∧
      (∃ (old : DigestEntry → Bool), (∀ e, old e = decide (e.at' + s.cmpWait * cycPerMs ≤ u.time.cyc)) ∧ s.pair.theirs.filter old
      = [] ∧ s.pair.mine.filter old = []) ∧ ((∀ w ∈ s.pair.swarmWait, u.time.cyc < w.2.2.2.2 + plCycles))) ∧
    (∃ (s u : State) (t n : Nat), u = s.elapse t ∧ s.sys.mode ≠ .hold ∧ (∃ (st r fr d : _) (x : DigestEntry), s.linkUp = true ∧
      (s.pair.inSeq = none ∨ s.pair.inSeq = some (n % 65536)) ∧ s.comparing = true ∧ s.pair.mine.find? (fun x => x.stream == st &&
      x.rseq == r && x.frag == fr) = some x ∧ x.digest = d)) ∧
    (∃ (s u : State) (t : Nat), u = s.elapse t ∧ s.sys.mode ≠ .hold ∧ (∃ (old : DigestEntry → Bool) (e : _), (∀ e, old e = decide
      (e.at' + s.cmpWait * cycPerMs ≤ u.time.cyc)) ∧ s.pair.theirs.filter old = [e] ∧ s.pair.mine.filter old = [] ∧
      s.pair.inStep = true)) ∧
    (∃ (s u : State) (t : Nat), u = s.elapse t ∧ s.sys.mode ≠ .hold ∧ (∃ (c : _), s.linkUp = true ∧ s.pair.role = 3 ∧
      s.pair.joinAsked = false ∧ s.pair.hbAt.isSome = true ∧ s.pair.lockedAt = some c ∧ c + cycPerS ≤ u.time.cyc ∧
      s.cfg.crc = s.pair.partner.cfgCrc)) ∧
    (∃ (s u : State) (t : Nat), u = s.elapse t ∧ s.sys.mode ≠ .hold ∧ (∃ (c : _), s.linkUp = true ∧ s.pair.role = 3 ∧
      s.pair.joinAsked = false ∧ s.pair.hbAt.isSome = true ∧ s.pair.lockedAt = some c ∧ c + cycPerS ≤ u.time.cyc ∧
      s.cfg.crc ≠ s.pair.partner.cfgCrc ∧ s.pair.cfgDiff = false)) ∧
    (∃ (s u : State) (t : Nat), u = s.elapse t ∧ s.sys.mode ≠ .hold ∧ (∃ (g : _), s.linkUp = true ∧ s.pair.role = 1 ∧
      s.cfg.gridStart = some g)) := by
  refine ⟨⟨{ member 2 with pair := { role := 2, inStep := true } }, _, 0, 0, rfl, ?_, ⟨1, 2, 0, 9, _, ?_, ?_, ?_, ?_, rfl⟩, ⟨_,
    fun _ => rfl, ?_, ?_⟩, ?_⟩,
    ⟨{ member 2 with pair := { role := 2, inStep := true, mine := [{ stream := 1, rseq := 2, frag := 0, digest := 9,
                                                                     at' := 0 }] } }, _, 0, 0, rfl, ?_, ⟨1, 2, 0, 9, _, ?_, ?_,
      ?_, rfl, ?_⟩⟩,
    ⟨{ member 2 with pair := { role := 2, inStep := true,
                               theirs := [{ stream := 1, rseq := 2, frag := 0, digest := 9, at' := 0 }] } }, _, 0, rfl, ?_, ⟨_,
      { stream := 1, rseq := 2, frag := 0, digest := 9, at' := 0 }, fun _ => rfl, ?_, ?_, ?_⟩⟩,
    ⟨{ member 3 with pair := { role := 3, hbAt := some 0, lockedAt := some 0 } }, _, 0, rfl, ?_, ⟨_, ?_, ?_, ?_, ?_, rfl, ?_,
      ?_⟩⟩,
    ⟨{ member 3 with pair := { role := 3, hbAt := some 0, lockedAt := some 0 }, cfg := { crc := 1 } }, _, 0, rfl, ?_, ⟨_, ?_, ?_,
      ?_, ?_, rfl, ?_, ?_, ?_⟩⟩,
    ⟨{ member 1 with cfg := { gridStart := some 10 } }, _, 0, rfl, ?_, ⟨_, ?_, ?_, rfl⟩⟩⟩
  all_goals decide +kernel

theorem witness_LeasesComplete :
    (∃ (s u : State) (t : Nat), u = s.elapse t ∧ s.sys.mode ≠ .hold ∧ (s.pair.takeover.isSome = true) ∧ (s.pair.role ≠ 1) ∧
      (∃ (r : _), s.pair.relayed = [r] ∧ r.2 + cycPerMs ≤ u.time.cyc) ∧ (∃ (id c : _), c ≠ 0 ∧ c ≤ u.time.cyc ∧
      s.pair.succession = some { id := id, ends := some c })) ∧
    (∃ (s u : State) (t : Nat) (p q : Packet), u = s.elapse t ∧ s.sys.mode ≠ .hold ∧ (∃ (l : _), s.pair.role = 1 ∧
      s.pair.primary = some l ∧ l.id < max s.pair.partner.primId s.pair.partner.succId) ∧ (∃ (l : _), s.pair.role = 1 ∧
      s.hostless = false ∧ p.payload.length = 12 ∧ byteAt p.payload 1 < 2 ∧ leAt p.payload 4 4 ≠ 0 ∧ 1 ≤ leAt p.payload 8 4 ∧
      leAt p.payload 8 4 ≤ 60_000 ∧ p.addr.toNat ≤ 1 ∧ q = p.operating 0x40 3 ∧ Takes u q ∧ p.addr.toNat = bnat s.sys.pairId ∧
      s.pair.primary = some l ∧ l.id = leAt p.payload 4 4)) ∧
    (∃ (s u : State) (t : Nat) (p q : Packet), u = s.elapse t ∧ s.sys.mode ≠ .hold ∧ (q = p.operating 0x40 0 ∧ Takes u q ∧
      p.payload.length = 12 ∧ p.addr.toNat ≤ 1 ∧ (s.pair.role = 0 ∨ p.addr.toNat = bnat s.sys.pairId))) ∧
    (∃ (s u : State) (t : Nat) (p q : Packet), u = s.elapse t ∧ s.sys.mode ≠ .hold ∧ (s.pair.role = 1 ∧ s.hostless = false ∧
      p.payload.length = 12 ∧ byteAt p.payload 1 < 2 ∧ leAt p.payload 4 4 ≠ 0 ∧ 1 ≤ leAt p.payload 8 4 ∧
      leAt p.payload 8 4 ≤ 60_000 ∧ p.addr.toNat ≤ 1 ∧ q = p.operating 0x40 1 ∧ Takes u q ∧ p.addr.toNat = bnat s.sys.pairId ∧
      s.pair.primary.elim 0 (·.id) ≤ leAt p.payload 4 4) ∧ (∃ (id c : _), c ≠ 0 ∧ c ≤ u.time.cyc ∧
      s.pair.primary = some { id := id, ends := some c })) ∧
    (∃ (s u : State) (t : Nat) (p q : Packet), u = s.elapse t ∧ s.sys.mode ≠ .hold ∧ (s.pair.role = 1 ∧ s.hostless = false ∧
      p.payload.length = 12 ∧ byteAt p.payload 1 < 2 ∧ leAt p.payload 4 4 ≠ 0 ∧ 1 ≤ leAt p.payload 8 4 ∧
      leAt p.payload 8 4 ≤ 60_000 ∧ p.addr.toNat ≤ 1 ∧ q = p.operating 0x40 2 ∧ Takes u q ∧ p.addr.toNat ≠ bnat s.sys.pairId ∧
      s.linkUp = true)) := by
  refine ⟨⟨{ member 2 with pair := { role := 2, takeover := some (1, 0), succession := some { id := 7, ends := some 1 },
                                     relayed := [({}, 0)] } }, _, 0, rfl, ?_, ?_, ?_, ⟨_, rfl, ?_⟩, ⟨_, _, ?_, ?_, rfl⟩⟩,
    ⟨{ member 1 with pair := { role := 1, primary := some { id := 5, ends := some 1 }, partner := { primId := 6 } } }, _, 0,
      { addr := 0, payload := [3, 0, 0, 0, 5, 0, 0, 0, 1, 0, 0, 0] }, _, rfl, ?_, ⟨_, ?_, rfl, ?_⟩, ⟨_, ?_, ?_, ?_, ?_, ?_, ?_,
      ?_, ?_, rfl, ?_, ?_, rfl, ?_⟩⟩,
    ⟨{ member 1 with pair := { role := 1, primary := some { id := 5, ends := some 1 } } }, _, 0,
      { addr := 0, payload := [0, 0, 0, 0, 5, 0, 0, 0, 1, 0, 0, 0] }, _, rfl, ?_, ⟨rfl, ?_, ?_, ?_, ?_⟩⟩,
    ⟨{ member 1 with pair := { role := 1, primary := some { id := 5, ends := some 1 } } }, _, 0,
      { addr := 0, payload := [1, 0, 0, 0, 5, 0, 0, 0, 1, 0, 0, 0] }, _, rfl, ?_, ⟨?_, ?_, ?_, ?_, ?_, ?_, ?_, ?_, rfl, ?_, ?_,
      ?_⟩, ⟨_, _, ?_, ?_, rfl⟩⟩,
    ⟨member 1, _, 0, { addr := 1, payload := [2, 0, 0, 0, 5, 0, 0, 0, 1, 0, 0, 0] }, _, rfl, ?_, ⟨?_, ?_, ?_, ?_, ?_, ?_, ?_, ?_,
      rfl, ?_, ?_, ?_⟩⟩⟩
  all_goals first | decide +kernel | exact takes_of (by decide +kernel)

theorem witness_PairForceComplete :
    (∃ (s u : State) (t : Nat) (p q : Packet), u = s.elapse t ∧ s.sys.mode ≠ .hold ∧ (∃ (c : _), c ∈ [(Instr.pairHandover t p, 1),
      (Instr.pairRejoin t p, 2), (Instr.pairDeclareFault t p, 3)] ∧ q = p.guarding 0x000C_001C c.2 ∧ q.port = .host ∧
      q.lseq.toNat = s.ports.expect ∧ s.ports.held = [] ∧ s.inboundFill + 24 ≤ 65536 ∧ s.inFlight q = false ∧
      s.mustWait q = false ∧ s.elsewhere q = false ∧ s.serves q = true ∧ q.pflag 2 = false ∧ u.forwards = true)) ∧
    (∃ (s u : State) (t : Nat) (p q : Packet), u = s.elapse t ∧ s.sys.mode ≠ .hold ∧ (s.pair.role = 1 ∧ q = p.guarding 0x000C_001C
      1 ∧ Takes u q ∧ u.partnerUsable = true)) ∧
    (∃ (s u : State) (t : Nat) (p q : Packet), u = s.elapse t ∧ s.sys.mode ≠ .hold ∧ (s.pair.role = 1 ∧ q = p.guarding 0x000C_001C
      2 ∧ Takes u q ∧ s.linkUp = true)) ∧
    (∃ (s u : State) (t : Nat) (p q : Packet), u = s.elapse t ∧ s.sys.mode ≠ .hold ∧ (s.pair.role = 1 ∧ q = p.guarding 0x000C_001C
      3 ∧ Takes u q ∧ s.linkUp = true)) ∧
    (∃ (s u : State) (t : Nat) (p q : Packet), u = s.elapse t ∧ s.sys.mode ≠ .hold ∧ (q = p.guarding 0x000C_001C 2 ∧
      p.port = .i2c ∧ p.lane ≠ 30 ∧ s.pair.role = 2 ∧ s.pair.stale = true ∧ s.inFlight q = false ∧ s.mustWait q = false ∧
      s.elsewhere q = false ∧ s.serves q = true ∧ q.pflag 2 = false ∧ (s.port .i2c).guard = none)) := by
  refine ⟨⟨{ member 1 with pair := { role := 1, joinAt := some 0 } }, _, 0, {}, _, rfl, ?_, ⟨(.pairRejoin 0 {}, 2), ?_, rfl, ?_,
    ?_, ?_, ?_, ?_, ?_, ?_, ?_, ?_, ?_⟩⟩,
    ⟨{ member 1 with pair := { role := 1, hbAt := some 15_999_999_999, partner := { role := 2, succId := 9 } } }, _, 0, {}, _,
      rfl, ?_, ⟨?_, rfl, ?_, ?_⟩⟩,
    ⟨member 1, _, 0, {}, _, rfl, ?_, ⟨?_, rfl, ?_, ?_⟩⟩,
    ⟨member 1, _, 0, {}, _, rfl, ?_, ⟨?_, rfl, ?_, ?_⟩⟩,
    ⟨{ member 2 with pair := { role := 2, stale := true } }, _, 0, { port := .i2c }, _, rfl, ?_, ⟨rfl, ?_, ?_, ?_, ?_, ?_, ?_, ?_,
      ?_, ?_, ?_⟩⟩⟩
  all_goals first | decide +kernel | exact takes_of (by decide +kernel)

/-! ## Images and the compressor -/

/-- A section as stored. -/
def sect (typ : Byte) (body : List Byte) : List Byte :=
  let h : List Byte := [typ, 1, 0, 0] ++ toLE 4 body.length ++ toLE 4 body.length
  h ++ toLE 4 (crc32c (h ++ body)).toNat ++ body

/-- A partial image of a `HEADER` and further bytes, its length `len`. -/
def image (len : Nat) (secs : Byte) (rest : List Byte) : List Byte :=
  let b := sect 1 (toLE 4 0x4259_494D ++ [1, 1, 0, secs] ++ toLE 4 len ++ List.replicate 20 0) ++ rest
  b ++ toLE 4 (crc32c b).toNat

/-- The `HEADER` alone, and with an `ANCHORS` section that has no body. -/
def image1 : List Byte := image 56 1 [0, 0, 0, 0]
def image2 : List Byte := image 68 2 (sect 8 [])

/-- A hub with an image in staging, and the staging and commit locks held by the host port. -/
def staged (b : List Byte) : State := { base.hiveWrite 5 stagingBase b with ports := { locks := [(0, { owner := 1 })] } }

/-- A `COMMIT` of a length. -/
def commitOf (len : Nat) : Packet := { payload := toLE 4 len ++ toLE 4 (0xFFFF_FFFF - len) ++ [0, 0, 0, 0] }

theorem reads_of {x : State} {len fl : Nat} {P : Image → State → Prop} (Q : Image → State → Bool)
    (h : (match x.readImage len fl false with | (.ok i, y) => Q i y | (.error _, _) => false) = true)
    (hQ : ∀ i y, Q i y = true → P i y) : ∃ i y, x.readImage len fl false = (.ok i, y) ∧ P i y := by
  rcases hr : x.readImage len fl false with ⟨e, y⟩
  rw [hr] at h
  cases e with
  | error => cases h
  | ok i => exact ⟨i, y, rfl, hQ i y h⟩

theorem witness_ImagesComplete :
    (∃ (s u x : State) (t : Nat) (p q : Packet), u = s.elapse t ∧ x = { u.admitted q with cfg := { s.cfg with stagedLen := 0 } } ∧
      (∃ (a : _), q = p.withOp 0x20 ∧ Admits u q ∧ a = p.addr.toNat ∧ a + p.payload.length ≤ stagingSize ∧
      (s.lockOf 0).owner = 1 ∧ (∀ b, s.comb.rebuild = some b → b.finished = true))) ∧
    (∃ (s u x : State) (t : Nat) (q : Packet), u = s.elapse t ∧ x = { u.admitted q with cfg := { s.cfg with stagedLen := 0 } } ∧
      (∃ (g : _), s.sys.mode ≠ .hold ∧ s.cfg.staged = some g ∧ g.isFull = true ∧ tickTime (g.acceptedAt / 1250 + 1) ≤ u.time.now))
      ∧
    (∃ (s u x : State) (t : Nat) (q : Packet), u = s.elapse t ∧ x = { u.admitted q with cfg := { s.cfg with stagedLen := 0 } } ∧
      (∃ (g : _), s.sys.mode ≠ .hold ∧ s.cfg.staged = some g ∧ g.isFull = false ∧ s.cfg.gridOn = false ∧
      tickTime (ceilDiv (g.acceptedAt + g.tc) 1250) ≤ u.time.now ∧ s.comb.rebuild = none)) ∧
    (∃ (s u x : State) (t : Nat) (q : Packet), u = s.elapse t ∧ x = { u.admitted q with cfg := { s.cfg with stagedLen := 0 } } ∧
      (s.sys.mode ≠ .hold ∧ (∀ c, s.cfg.passAt = some c → c + cycPerMs ≤ u.time.cyc) ∧ s.cfg.passVoid = true)) ∧
    (∃ (s u x : State) (t : Nat) (q : Packet), u = s.elapse t ∧ x = { u.admitted q with cfg := { s.cfg with stagedLen := 0 } } ∧
      (∃ (upset : Word), s.sys.mode ≠ .hold ∧ (∀ c, s.cfg.passAt = some c → c + cycPerMs ≤ u.time.cyc) ∧ s.cfg.passVoid = false ∧
      s.configCrc ^^^ upset = s.cfg.crcRef)) ∧
    (∃ (s u x : State) (t : Nat) (q : Packet), u = s.elapse t ∧ x = { u.admitted q with cfg := { s.cfg with stagedLen := 0 } } ∧
      (∃ (upset : Word), s.sys.mode ≠ .hold ∧ (∀ c, s.cfg.passAt = some c → c + cycPerMs ≤ u.time.cyc) ∧ s.cfg.passVoid = false ∧
      s.configCrc ^^^ upset ≠ s.cfg.crcRef ∧ s.cfg.mismatch = false ∧ bit (s.regN 0x0001_001C) 0 = true)) ∧
    (∃ (s u x : State) (t : Nat) (q : Packet), u = s.elapse t ∧ x = { u.admitted q with cfg := { s.cfg with stagedLen := 0 } } ∧
      (∃ (upset : Word), s.sys.mode ≠ .hold ∧ (∀ c, s.cfg.passAt = some c → c + cycPerMs ≤ u.time.cyc) ∧ s.cfg.passVoid = false ∧
      s.configCrc ^^^ upset ≠ s.cfg.crcRef ∧ (bit (s.regN 0x0001_001C) 0 = false ∨ s.cfg.mismatch = true))) := by
  refine ⟨⟨staged [], _, _, 0, { payload := [1, 2, 3] }, _, rfl, rfl, ⟨_, rfl, ?_, rfl, ?_, ?_, ?_⟩⟩,
    ⟨{ base with cfg := { staged := some { isFull := true, imageId := 7, epochDs := 10, sections := [], port := .host,
                                           acceptedAt := 0, tc := 3_000_000 } } }, _, _, 0, {}, rfl, rfl, ⟨_, ?_, rfl, ?_, ?_⟩⟩,
    ⟨{ base with cfg := { staged := some { isFull := false, imageId := 7, epochDs := 10, sections := [], port := .host,
                                           acceptedAt := 0, tc := 3_000_000 } } }, _, _, 0, {}, rfl, rfl, ⟨_, ?_, rfl, ?_, ?_, ?_,
      ?_⟩⟩,
    ⟨{ base with cfg := { passVoid := true } }, _, _, 0, {}, rfl, rfl, ⟨?_, ?_, ?_⟩⟩,
    ⟨base, _, _, 0, {}, rfl, rfl, ⟨0, ?_, ?_, ?_, ?_⟩⟩,
    ⟨{ base with regs := [(0x0001_001C, 1)] }, _, _, 0, {}, rfl, rfl, ⟨1, ?_, ?_, ?_, ?_, ?_, ?_⟩⟩,
    ⟨{ base with cfg := { mismatch := true } }, _, _, 0, {}, rfl, rfl, ⟨1, ?_, ?_, ?_, ?_, ?_⟩⟩⟩
  all_goals first | decide +kernel | exact admits_of (by decide +kernel)

theorem witness_ImagesComplete_commit : ∃ (s u x y : State) (p q : Packet) (i : Image) (len fl : Nat), u = s.elapse 0 ∧
    x = { u.admitted q with cfg := { s.cfg with stagedLen := 0 } } ∧ (s.lockOf 0).owner = 1 ∧ s.cfg.staged = none ∧
    s.comb.rebuild = none ∧ (s.port .host).guard = none ∧ x.readImage len fl false = (.ok i, y) ∧
    (q = p.withOp 0x21 ∧ p.payload.length = 12 ∧ p.addr = 0 ∧ len = leAt p.payload 0 4 ∧ leAt p.payload 4 4 = 0xFFFF_FFFF - len ∧
      fl = leAt p.payload 8 4) ∧ Admits u q ∧ (fl ≠ 0 ∨ i.isFull = true ∨ ∀ sec ∈ i.secs, sec.1 ≠ 8) ∧ y.imageChecks i = none :=
        by
  obtain ⟨i, y, hr, h1, h2⟩ := reads_of
    (x := { ((staged image1).elapse 0).admitted ((commitOf 56).withOp 0x21)
            with cfg := { (staged image1).cfg with stagedLen := 0 } })
    (len := 56) (fl := 0) (P := fun i y => (∀ sec ∈ i.secs, sec.1 ≠ 8) ∧ y.imageChecks i = none)
    (fun i y => decide ((∀ sec ∈ i.secs, sec.1 ≠ 8) ∧ y.imageChecks i = none)) (by decide +kernel) (fun _ _ h => of_decide_eq_true
      h)
  refine ⟨staged image1, _, _, y, commitOf 56, _, i, 56, 0, rfl, rfl, ?_, ?_, ?_, ?_, hr, ⟨rfl, ?_⟩, ?_, Or.inr (Or.inr h1), h2⟩
  all_goals first | decide +kernel | exact admits_of (by decide +kernel)

theorem witness_ImagesComplete_rebuild : ∃ (s u x y : State) (p q : Packet) (i : Image) (len fl : Nat), u = s.elapse 0 ∧
    x = { u.admitted q with cfg := { s.cfg with stagedLen := 0 } } ∧ (s.lockOf 0).owner = 1 ∧ s.cfg.staged = none ∧
    s.comb.rebuild = none ∧ (s.port .host).guard = none ∧ x.readImage len fl false = (.ok i, y) ∧
    (q = p.asGuarded 0x0001_0008 ∧ p.payload.length = 4 ∧ len = p.word.toNat ∧ fl = s.regN 0x0001_0004) ∧ Admits u q ∧ fl = 0 ∧
    i.isFull = false ∧ (∃ sec ∈ i.secs, sec.1 = 8) ∧ s.sys.fdLink = true := by
  obtain ⟨i, y, hr, h1, h2⟩ := reads_of
    (x := { ((staged image2).elapse 0).admitted (({ payload := toLE 4 68 } : Packet).asGuarded 0x0001_0008) with
            cfg := { (staged image2).cfg with stagedLen := 0 } })
    (len := 68) (fl := 0) (P := fun i _ => i.isFull = false ∧ ∃ sec ∈ i.secs, sec.1 = 8)
    (fun i _ => decide (i.isFull = false ∧ ∃ sec ∈ i.secs, sec.1 = 8)) (by decide +kernel) (fun _ _ h => of_decide_eq_true h)
  refine ⟨staged image2, _, _, y, { payload := toLE 4 68 }, _, i, 68, 0, rfl, rfl, ?_, ?_, ?_, ?_, hr, ⟨rfl, ?_⟩, ?_, rfl, h1, h2,
    rfl⟩
  all_goals first | decide +kernel | exact admits_of (by decide +kernel)

/-- A flash header for image 1. -/
def flashHeader : List Byte :=
  let b : List Byte := toLE 4 0x4259_464C ++ [1] ++ List.replicate 7 0 ++ toLE 4 image1.length ++ List.replicate 12 0
  b ++ toLE 4 (crc32c b).toNat

theorem witness_BringUpComplete_boot : ∃ (s u x y : State) (header image : List Byte) (n : Nat) (i : Image), u = s.elapse 0 ∧
    s.sys.mode ≠ .hold ∧ s.ports.bootRunning = true ∧ bootHeaderOk header = true ∧ s.cfg.staged = none ∧ s.comb.rebuild = none ∧
    n = leAt header (if s.ports.bootCopy = 2 then 20 else 12) 4 ∧ x = u.hiveWrite 5 stagingBase (image.take n) ∧
    ({ x with cfg := { x.cfg with stagedLen := 0 } } : State).readImage (image.take n).length 0 false = (.ok i, y) ∧
    y.imageChecks i = none ∧ (i.isFull = true ∨ ∀ sec ∈ i.secs, sec.1 ≠ 8) := by
  let s : State := { base with ports := { bootRunning := true } }
  let n := leAt flashHeader (if s.ports.bootCopy = 2 then 20 else 12) 4
  let x := (s.elapse 0).hiveWrite 5 stagingBase ((image1 ++ [0xFF]).take n)
  obtain ⟨i, y, hr, h1, h2⟩ := reads_of (x := { x with cfg := { x.cfg with stagedLen := 0 } })
    (len := ((image1 ++ [0xFF]).take n).length) (fl := 0)
    (P := fun i y => (∀ sec ∈ i.secs, sec.1 ≠ 8) ∧ y.imageChecks i = none)
    (fun i y => decide ((∀ sec ∈ i.secs, sec.1 ≠ 8) ∧ y.imageChecks i = none)) (by decide +kernel) (fun _ _ h => of_decide_eq_true
      h)
  refine ⟨s, _, x, y, flashHeader, image1 ++ [0xFF], n, i, rfl, ?_, ?_, ?_, ?_, ?_, rfl, rfl, hr, h2, Or.inr h1⟩
  all_goals decide +kernel

theorem pick_le (b : Bool) (t c : List Byte) : (if decide (t.length ≤ c.length) || b then t else c).length ≤ t.length := by
  split
  · exact le_refl _
  · simp_all only [Bool.or_eq_true, decide_eq_true_eq, not_or]; omega

theorem blockOf_length (rt : Route) (x : NxStream) :
    (blockOf rt x).1.length ≤ 20 + (transformed rt.nxPre x.maps x.recs).1.length := by
  have := pick_le (!rebuilds (if (decide (rt.nxMode = 1) && x.bseq != 0) = true then x.hist else [])
    (transformed rt.nxPre x.maps x.recs).1 (Config.compress (if (decide (rt.nxMode = 1) && x.bseq != 0) = true then x.hist else
      [])
    (transformed rt.nxPre x.maps x.recs).1)) (transformed rt.nxPre x.maps x.recs).1
    (Config.compress (if (decide (rt.nxMode = 1) && x.bseq != 0) = true then x.hist else []) (transformed rt.nxPre x.maps
      x.recs).1)
  simp only [blockOf, blockHeader, List.length_append, length_toLE]
  omega

theorem poolTakes_mono {s : State} {p m n : Nat} (h : n ≤ m) (hm : s.poolTakes p m = true) : s.poolTakes p n = true := by
  simp only [State.poolTakes, decide_eq_true_eq] at hm ⊢
  have := Nat.div_le_div_right (c := 16384) (Nat.add_le_add_left h (s.nxPool p).len)
  omega

theorem witness_CompressorComplete_flush : ∃ (s u : State) (id : Nat) (rt : Route) (r0 : Record) (rs : List Record),
    u = s.elapse 0 ∧ s.sys.mode ≠ .hold ∧ s.route id = some rt ∧ (s.nxPool rt.nxPool).stalledAt = none ∧
    (s.nxStream id).recs = r0 :: rs ∧ (u.recWindow rt r0 + 1) * rt.flushMs * 1_000_000 + rt.flushLag * 1_000_000 ≤ u.ns ∧
    u.poolTakes rt.nxPool (32 + (blockOf rt (s.nxStream id)).1.length) = true := by
  refine ⟨{ routed 1 {} with nx := { streams := [(1, { recs := [rec1] })] } }, _, 1, _, rec1, [], rfl, ?_, rfl, ?_, ?_, ?_,
    poolTakes_mono (Nat.add_le_add_left (blockOf_length _ _) 32) ?_⟩
  all_goals decide +kernel

/-! ## Ill-formed commands: each check of `Instr.wellFormed` refuses a term -/

theorem test_ill_formed : ([.flashCopyReadDone 0 [] (List.replicate 8388609 0)] : List Instr).all (!·.wellFormed) = true := by
  have h : ¬ (List.replicate 8388609 (0 : Byte)).length ≤ 8388608 := by rw [List.length_replicate]; decide
  simp only [List.all_cons, List.all_nil, Instr.wellFormed, h, decide_false, Bool.not_false, Bool.and_self]

theorem test_ill_formed_packets :
    ([.rd 0 { payload := List.replicate 4097 0 }, .rd 0 { delta := some 0 }, .wr 0 { lane := 32 }, .plFwd 0 0 0 0 { lane := 32 }]
      : List Instr).all
      (!·.wellFormed) = true := by decide +kernel

theorem test_ill_formed_lanes :
    ([.bitLock 0 32, .ingestLagExpiry 0 24, .frame 0 24 [], .plTicks 0 0 24 [], .foreign 0 23 [], .foreign 0 28 [], .tsyncSend 0
      29,
      .linkSkip 0 27 0] : List Instr).all (!·.wellFormed) = true := by decide +kernel

theorem test_ill_formed_units :
    ([.windowStart 0 32, .surgeDetect 0 .clamp 32, .marginAlarm 0 64 0 {}, .marginAlarm 0 0 1024 {}, .marginEvaluation 0
      (List.replicate 65 0) {},
      .leadTestEnd 0 [⟨32, 0, false, 0, false⟩], .combBlock 0 8 [], .matchWindowEnd 0 0 1536 ⟨0, []⟩,
      .matchWindowEnd 0 0 0 ⟨256, []⟩, .unitTakeEvent 0 16, .engineArmed 0 8, .trigInEdge 0 ⟨2, 16, 16⟩, .trigEventArrival 0 65536
        0, .scrubRead 0 32 {},
      .timedActionRun 0 64, .lockLeaseExpiry 0 16, .selfCheckExpiry 0 5, .plLocal 0 0 32 0 0 0] : List Instr).all (!·.wellFormed)
        = true := by
  decide +kernel

theorem test_ill_formed_messages :
    ([.frame 0 0 (List.replicate 256 0), .nectarRecordIn 0 65536, .linkSkip 0 28 65536, .packetHdrBad 0 .own, .packetSent 0 .i2c,
      .guardTimeout 0 .own, .plHb 0 65536 {}, .plFwd 0 0 4294967296 0 {}, .plAck 0 0 [(65536, 0)], .plAck 0 0 [(0, 4294967296)],
      .plDigest 0 0 65536 0 0 0, .plJoin 0 0 0 [⟨65536, 0, 0, 0, false⟩]] : List Instr).all (!·.wellFormed) = true := by
        decide +kernel

theorem test_well_formed :
    ([.rd 0 {}, .frame 0 23 [], .tsyncSend 0 31, .windowStart 0 31, .matchWindowEnd 0 7 1535 ⟨255, []⟩, .lockLeaseExpiry 0 15] :
      List Instr).all
      (·.wellFormed) = true := by decide +kernel

/-! ## Values, by the worked examples of the spec and by hand from its rules -/

/-- No row of the command table has bits. -/
theorem test_no_words : decodeTableWord 32 1 = none ∧ base.withFetchWord 32 1 = base := ⟨rfl, rfl⟩

/-- The catalogue's check values of the two CRCs the rules name (R142, R477), over the digits 1 to 9. -/
theorem test_crc_check : crc16 [0x31, 0x32, 0x33, 0x34, 0x35, 0x36, 0x37, 0x38, 0x39] = 0x29B1 ∧
    crc32c [0x31, 0x32, 0x33, 0x34, 0x35, 0x36, 0x37, 0x38, 0x39] = 0xE306_9283 := by decide +kernel

/-- A value of 2^31 at range 3: 0x7FFF_FFFF with `CLIP` (R12, R13). -/
theorem test_word_saturates : sampleWord (2 ^ 31) 3 {} 5 = 0x7FFF_FFFF_3405 := by decide +kernel

/-- Chapter 1: 10 kS/s, 400 kS/s and 1 S/s are coded 0x41, 0x10 and 0x85 (R26). -/
theorem test_rate_codes : [80, 2, 800_000].map rateCode = [0x41, 0x10, 0x85] := by decide +kernel

/-- Chapter 1: `NS` 0x764F_5250 near second 7,200 is 7,200 s + 350,098,000 ns (R20, R21). -/
theorem test_stamp_extends :
    ({ base with time := { base.time with now := 7_200_000_000_000 * unitsPerNs } } : State).extend (0x764F_5250 * 65536)
      = 7_200_350_098_000 * 65536 := by decide +kernel

/-- Chapter 2: readings of 37.5 mV on code 4, of 6.1, 5.9 and 5.5 mV on code 3, and an over-range on code 5 (R78). -/
theorem test_autorange : (autorange 4 [] (375 / 10000) false).1 = 3 ∧
    (autorange 3 [59 / 10000, 61 / 10000] (55 / 10000) false).1 = 5 ∧ (autorange 5 [] (103 / 10000) true).1 = 0 := by
      decide +kernel

/-- Chapter 3: a target 12 ppm below is reached in 6 slots of 2 ppm (R137). -/
theorem test_ageing_slews :
    (List.range 6).foldl (fun a _ => slewAge a (-1200) 20) 0 = -1200 ∧ (List.range 5).foldl (fun a _ => slewAge a (-1200) 20) 0 =
      -1000 := by
  decide +kernel

/-- Chapter 12: the example block's body gives TALDTALDTALD (R456, R457). -/
theorem test_tokens : (decodeTokens 12 8 9 [0x03, 0x54, 0x41, 0x4C, 0x44, 0x84, 0x03, 0x00] 0 0 []).toOption.map List.reverse
    = some [0x54, 0x41, 0x4C, 0x44, 0x54, 0x41, 0x4C, 0x44, 0x54, 0x41, 0x4C, 0x44] := by decide +kernel

/-- Chapter 12: a pool of 1 MiB with two streams has 51 buffers (R461). -/
theorem test_pool_buffers : buffersOf 1_048_576 2 = 51 := by decide +kernel

/-- Taps 15, 13, 12 and 10 of 0xACE1 are 1, 1, 0 and 1 (R386). -/
theorem test_lfsr : lfsrStep 0xACE1 = 0x59C3 := by decide +kernel

/-! ## Single steps -/

/-- What one command leaves, seen through a function of the state. -/
def after (s : State) (c : Instr) (f : State → α) : Option α :=
  match step { s with pending := [c] } with
  | .next t => some (f t)
  | _ => none

/-- HOLD is left for LOAD only with `RST_N` high and the PLL locked (R634); hub time then runs (R401). -/
theorem test_hold_exit :
    after { State.reset with sys := { rstHigh := true }, clk := { lock := true } } (.holdExit 0 {}) (fun s => (s.sys.mode,
      s.time.running))
      = some (.load, true) ∧ after State.reset (.holdExit 0 {}) (·.sys.mode) = some .hold := by decide +kernel

/-- Time that is neither locked nor trusted is HOLDOVER (R627). -/
theorem test_time_mode :
    after { base with time := { base.time with state := 3 } } (.stuffErr 0 0) (·.sys.mode) = some .holdover ∧
    after base (.stuffErr 0 0) (·.sys.mode) = some .run := by decide +kernel

/-- A surge leaves SURGE from which `t_q` is 50 ms away (R638). -/
theorem test_surge : after base (.surgeDetect 0 .clamp 3) (fun s => (s.sys.mode, s.sys.surgeFrom)) = some (.surge, .run) := by
  decide +kernel

/-- A guarded write needs its complement: the first word alone is held and does nothing (R544). -/
theorem test_guard : after base (.guardFirstWrite 0 { addr := 0x18, payload := [1, 0, 0, 0] })
    (fun s => ((s.port .host).guard.map (·.1), s.sys.excEn)) = some (some 0x18, false) := by decide +kernel

/-- A read of `SYS_ID` puts one completion of the word in the host FIFO (R482). -/
theorem test_read : after base (.rd 0 (readPkt .host)) (fun s => s.host.q.map (fun p => (p.status, p.payload)))
    = some [(0, [0x80, 0x76, 1, 0])] := by decide +kernel

/-- A lock taken by the host port is refused to the drip port (R550). -/
theorem test_lock : after base (.lock 0 { addr := 3, payload := [] }) (fun s => (s.lockOf 3).owner) = some 1 := by decide +kernel

/-- `TRIG_IN1` takes one edge, and not one within 100 ns of it (R334). -/
theorem test_trig_edges : after base (.trigInEdge 0 ⟨1, 16, 16⟩) (·.trig.transit.length) = some 1 ∧
    after { base with trig := { lastIn1 := some 15_999_999_920 } } (.trigInEdge 0 ⟨1, 16, 16⟩) (·.trig.transit.length) = some 0 :=
      by decide +kernel

end Sys2Proof.Tests
end

/-! SUPPORT. Reads leave alone: what bringing a register up to date, and clearing it, keep (R8, R204, R383, R614). -/

namespace Sys2Proof.Machine

/-- The parts of the state that no read of a register touches: modes and units' presence, streams, and the bytes of Hive. -/
def State.unread (s : State) := (s.sys, s.streams, s.hive.mem)

/-- What an operation that leaves those parts leaves of each. -/
theorem State.unread_parts {s t : State} (h : t.unread = s.unread) :
    t.sys = s.sys ∧ t.streams = s.streams ∧ t.hive.mem = s.hive.mem := by
  simpa [State.unread] using h

@[simp] theorem State.setReg_unread (s : State) (a : Nat) (v : Word) : (s.setReg a v).unread = s.unread := rfl
@[simp] theorem State.setBank_unread (s : State) (b : Nat) (a : Arbiter) : (s.setBank b a).unread = s.unread := rfl
@[simp] theorem State.setEgress_unread (s : State) (l : Nat) (a : Arbiter) : (s.setEgress l a).unread = s.unread := rfl
@[simp] theorem State.updLane_unread (s : State) (l : Nat) (f : Lane → Lane) : (s.updLane l f).unread = s.unread := rfl
@[simp] theorem State.noteCheck_unread (s : State) (b : Nat) : (s.noteCheck b).unread = s.unread := rfl
@[simp] theorem State.raise_unread (s : State) (c u : Nat) (a : List Word) : (s.raise c u a).unread = s.unread := by
  simp [State.unread]
@[simp] theorem State.bump_unread (s : State) (a : Nat) : (s.bump a).unread = s.unread := by simp [State.unread]
@[simp] theorem State.bumpBy_unread (s : State) (a n : Nat) : (s.bumpBy a n).unread = s.unread := by simp [State.unread]
@[simp] theorem State.send_unread (s : State) (l : Nat) (m : List Byte) : (s.send l m).unread = s.unread := by
  simp [State.unread]

/-! ## Banks -/

@[simp] theorem State.countGrant_unread (s : State) (g : Grant) : (s.countGrant g).unread = s.unread := by
  unfold State.countGrant
  dsimp only
  split <;> simp

@[simp] theorem State.runBank_unread (s : State) (b : Nat) : (s.runBank b).unread = s.unread := by
  unfold State.runBank
  dsimp only
  split
  · rfl
  · rw [foldl_keeps State.countGrant_unread, State.setBank_unread]

@[simp] theorem State.runBanks_unread (s : State) : s.runBanks.unread = s.unread := foldl_keeps State.runBank_unread _ _

@[simp] theorem State.grant_unread (s : State) (b r n : Nat) : (s.grant b r n).unread = s.unread := by
  unfold State.grant
  dsimp only
  split <;> simp

@[simp] theorem State.grants_unread (s : State) (q a n : Nat) : (s.grants q a n).unread = s.unread := by
  unfold State.grants
  exact foldl_keeps (g := State.unread) (fun s b => State.grant_unread ..) _ _

@[simp] theorem State.wordGrants_unread (s : State) (q : Nat) (ws : List Nat) : (s.wordGrants q ws).unread = s.unread := by
  unfold State.wordGrants
  exact foldl_keeps (g := State.unread) (fun s r => State.grants_unread ..) _ _

/-! ## Errors met by a read -/

@[simp] theorem State.eccCorrect_unread (s : State) (w : Nat) : (s.eccCorrect w).unread = s.unread := State.bump_unread ..

@[simp] theorem State.eccUe_unread (s : State) (w q : Nat) (names : List Word) : (s.eccUe w q names).unread = s.unread := by
  simp only [State.eccUe, State.raise_unread, State.bump_unread, State.noteCheck_unread]
  rfl

@[simp] theorem State.eccRead_unread (q : Nat) (l : List Nat) (names : List Word) (s : State) :
    (s.eccRead q l names).1.unread = s.unread := by
  induction l generalizing s with
  | nil => rfl
  | cons w ws ih =>
    simp only [State.eccRead]
    split
    · rw [ih, State.eccCorrect_unread]
    · split
      · exact (ih _).trans (State.eccUe_unread ..)
      · exact ih s

@[simp] theorem State.unitRead_unread (s : State) (q : Nat) (r : Option Region) (n k : Nat) :
    (s.unitRead q r n k).unread = s.unread := by
  unfold State.unitRead
  split
  · rfl
  · dsimp only
    split
    · exact State.wordGrants_unread ..
    · rw [State.eccRead_unread, State.wordGrants_unread]

/-! ## Trunk lanes -/

@[simp] theorem State.egressBytes_unread (s : State) (l : Nat) (x : Xfer) : (s.egressBytes l x).2.unread = s.unread := by
  unfold State.egressBytes
  split
  · rfl
  · dsimp only
    split <;> exact State.unitRead_unread ..

@[simp] theorem State.egressOut_unread (l : Nat) (s : State) (g : Grant) : (State.egressOut l s g).unread = s.unread :=
  (State.send_unread ..).trans (State.egressBytes_unread ..)

@[simp] theorem State.runEgress_unread (s : State) (c l : Nat) : (s.runEgress c l).unread = s.unread := by
  unfold State.runEgress
  dsimp only
  split
  · rfl
  · rw [foldl_keeps (State.egressOut_unread l), State.setEgress_unread]

@[simp] theorem State.runLanes_unread (s : State) (c : Nat) : (s.runLanes c).unread = s.unread :=
  foldl_keeps (fun s l => s.runEgress_unread c l) _ _

/-! ## A register brought up to date, and cleared -/

@[simp] theorem State.checkerCount_unread (s : State) (l : Nat) : (s.checkerCount l).unread = s.unread := by
  unfold State.checkerCount
  dsimp only
  split
  · rfl
  · split
    · simp only [State.updLane_unread, State.bumpBy_unread]
    · simp only [State.updLane_unread, State.bumpBy_unread]
      rfl

@[simp] theorem State.refresh_unread (s : State) (a : Nat) : (s.refresh a).unread = s.unread := by
  unfold State.refresh
  split
  · exact State.checkerCount_unread ..
  · split
    · rfl
    · split
      · rw [State.runLanes_unread, State.runBanks_unread]
      · rfl

@[simp] theorem State.clearReg_unread (s : State) (a : Nat) : (s.clearReg a).unread = s.unread := by
  unfold State.clearReg
  dsimp only
  repeat' split
  all_goals rfl

@[simp] theorem State.clearReg_regs (s : State) (a : Nat) : (s.clearReg a).regs = (s.setReg a 0).regs := by
  unfold State.clearReg
  dsimp only
  repeat' split
  all_goals rfl

/-- What a read-clear read leaves alone. -/
theorem State.readCleared_parts (s : State) (a : Nat) :
    ((s.refresh a).clearReg a).sys = s.sys ∧ ((s.refresh a).clearReg a).streams = s.streams
      ∧ ((s.refresh a).clearReg a).hive.mem = s.hive.mem :=
  State.unread_parts ((State.clearReg_unread ..).trans (State.refresh_unread ..))

/-- A read-clear read clears its register, and no other. -/
theorem State.clearReg_reg (s : State) (a b : Nat) : (s.clearReg a).reg b = if b = a then 0 else s.reg b := by
  rw [← State.reg_setReg, State.reg, State.clearReg_regs]
  rfl

end Sys2Proof.Machine

/-! SUPPORT. One register access, whatever its port: what a read of one and of several registers answers (R486, R542), and what
words written to registers that only hold them leave (R7, R483). -/

namespace Sys2Proof.Machine

/-! ## Reads -/

theorem State.readReg_bad {s : State} {p : Port} {a : Nat} {c : Bool} {r : Reply} (h : s.badAddr a = some r) :
    s.readReg p a c = (r, 0, s) := by
  simp [State.readReg, h]

/-- A read of a register outside the indirect window that does not latch: it shows the register, brought up to date, and clears
where asked. -/
theorem State.readReg_shows {s : State} {p : Port} {a : Nat} (c : Bool) (hb : s.badAddr a = none) (hx : a ≠ 0x000D_0004)
    (hl : a ≠ 0x0002_0004) :
    s.readReg p a c
      = (Reply.ok, (s.refresh a).peek p a, if c && isRc a then (s.refresh a).clearReg a else s.refresh a) := by
  simp [State.readReg, hb, hx, hl]

/-- Where it clears nothing, such a read changes nothing but what is brought up to date. -/
theorem State.readReg_keeps {s : State} {p : Port} {a : Nat} (c : Bool) (hb : s.badAddr a = none) (hx : a ≠ 0x000D_0004)
    (hl : a ≠ 0x0002_0004) (hrc : isRc a = false) : s.readReg p a c = (Reply.ok, (s.refresh a).peek p a, s.refresh a) := by
  rw [State.readReg_shows c hb hx hl, hrc, Bool.and_false]
  rfl

/-- A read of `TIME_NOW_LO` latches the time (log entry 25). -/
theorem State.readReg_latch (s : State) (p : Port) (c : Bool) :
    s.readReg p 0x0002_0004 c
      = (Reply.ok, s.peek p 0x0002_0004, s.updTime fun t => { t with latch := fullTime t.now }) := by
  have hb : s.badAddr 0x0002_0004 = none := rfl
  have hr : s.refresh 0x0002_0004 = s := rfl
  have hc : isRc 0x0002_0004 = false := rfl
  simp [State.readReg, hb, hr, hc]

/-- A read-clear register is neither the indirect window nor `TIME_NOW_LO`. -/
theorem ne_of_isRc {a : Nat} (h : isRc a = true) : a ≠ 0x000D_0004 ∧ a ≠ 0x0002_0004 := by
  constructor <;> rintro rfl <;> exact absurd h (by decide)

/-- A read of a read-clear register clears it (R8). -/
theorem State.readReg_clears {s : State} {p : Port} {a : Nat} (hb : s.badAddr a = none) (hrc : isRc a = true) :
    s.readReg p a true = (Reply.ok, (s.refresh a).peek p a, (s.refresh a).clearReg a) := by
  obtain ⟨hx, hl⟩ := ne_of_isRc hrc
  rw [State.readReg_shows true hb hx hl, hrc]
  rfl

theorem State.readRegs_one {s y : State} {p : Port} {a : Nat} {v : Word} (h : s.readReg p a true = (Reply.ok, v, y)) :
    s.readRegs p a 1 [] = (Reply.ok, [v], y) := by
  simp [State.readRegs, h, Reply.ok, stOk]

/-- Registers whose reads change nothing are read in order. -/
theorem State.readRegs_shows {s : State} {p : Port} (n : Nat) {a : Nat} (acc : List Word)
    (h : ∀ i, i < n → s.readReg p (a + 4 * i) true = (Reply.ok, s.peek p (a + 4 * i), s)) :
    s.readRegs p a n acc = (Reply.ok, acc.reverse ++ (List.range n).map (fun i => s.peek p (a + 4 * i)), s) := by
  induction n generalizing a acc with
  | zero => simp [State.readRegs]
  | succ n ih =>
    have hhead : s.readReg p a true = (.done 0 [], s.peek p a, s) := h 0 n.succ_pos
    have htail : ∀ i, i < n → s.readReg p (a + 4 + 4 * i) true = (Reply.ok, s.peek p (a + 4 + 4 * i), s) := fun i hi => by
      rw [show a + 4 + 4 * i = a + 4 * (i + 1) by omega]
      exact h (i + 1) (by omega)
    have hnext : ∀ i, a + 4 * (i + 1) = a + 4 + 4 * i := fun i => by omega
    simp only [State.readRegs, hhead, ih _ htail, List.range_succ_eq_map, List.map_cons, List.map_map, List.reverse_cons,
      List.append_assoc, List.singleton_append, Function.comp_def, Nat.succ_eq_add_one, hnext, Nat.mul_zero, Nat.add_zero]

/-! ## Writes to registers that only hold what is written -/

/-- A write to the address is taken by a register that only holds it: it can be accessed, is no half of a guarded pair, and has
a mask. -/
structure State.Holds (s : State) (a : Nat) : Prop where
  there : s.badAddr a = none
  first : isGw a = false
  second : isGw (a - 4) = false
  held : (heldMask a).isSome = true

/-- Words held from an address upward, each by its register's implemented bits. -/
def State.setHeld (s : State) (a : Nat) : List Word → State
  | [] => s
  | v :: vs => (s.setReg a (v &&& BitVec.ofNat 32 ((heldMask a).getD 0))).setHeld (a + 4) vs

/-- What every single write keeps, the writes keep. -/
theorem State.setHeld_keeps {β : Type} {g : State → β} (h : ∀ s a v, g (s.setReg a v) = g s) (s : State) (a : Nat)
    (ws : List Word) : g (s.setHeld a ws) = g s := by
  induction ws generalizing s a with
  | nil => rfl
  | cons v vs ih => rw [State.setHeld, ih, h]

theorem State.setHeld_outside {s : State} {a b : Nat} {ws : List Word} (h : ∀ i, i < ws.length → b ≠ a + 4 * i) :
    (s.setHeld a ws).reg b = s.reg b := by
  induction ws generalizing s a with
  | nil => rfl
  | cons v vs ih =>
    have hhead : b ≠ a := h 0 (by simp)
    rw [State.setHeld, ih fun i hi => by have := h (i + 1) (by simpa using hi); omega, State.reg_setReg, if_neg hhead]

theorem State.setHeld_inside {s : State} {a i : Nat} {ws : List Word} {v : Word} {m : Nat} (h : ws[i]? = some v)
    (hm : heldMask (a + 4 * i) = some m) : (s.setHeld a ws).reg (a + 4 * i) = v &&& BitVec.ofNat 32 m := by
  induction ws generalizing s a i with
  | nil => simp at h
  | cons w ws ih =>
    cases i with
    | zero =>
      obtain rfl : w = v := by simpa using h
      rw [State.setHeld, State.setHeld_outside fun i _ => by omega, State.reg_setReg, if_pos (by omega)]
      simp only [Nat.mul_zero, Nat.add_zero] at hm
      rw [hm, Option.getD_some]
    | succ i =>
      rw [show a + 4 * (i + 1) = a + 4 + 4 * i by omega] at hm ⊢
      exact ih (by simpa using h) hm

/-- No register that only holds its bits is one whose write may name an absent unit. -/
theorem State.namesAbsent_of_held {s : State} {a : Nat} (h : (heldMask a).isSome = true) (v : Nat) : s.namesAbsent a v = none := by
  have h1 : a ≠ 0x0004_000C := by rintro rfl; exact absurd h (by decide)
  have h2 : a ≠ 0x0005_000C := by rintro rfl; exact absurd h (by decide)
  have h3 : a ≠ 0x0002_0218 := by rintro rfl; exact absurd h (by decide)
  simp [State.namesAbsent, h1, h2, h3]

theorem State.guardFail_none {s : State} {p : Port} (h : (s.port p).guard = none) : s.guardFail p = s := by
  simp [State.guardFail, h]

theorem State.writeReg_held {s : State} {p : Packet} {a : Nat} (v : Word) (avs : AvsAnswer) (h : s.Holds a)
    (hg : (s.port p.port).guard = none) :
    s.writeReg p a v avs = (Reply.ok, s.setReg a (v &&& BitVec.ofNat 32 ((heldMask a).getD 0))) := by
  obtain ⟨hb, h1, h2, hm⟩ := h
  obtain ⟨m, hm'⟩ := Option.isSome_iff_exists.1 hm
  simp [State.writeReg, hb, State.namesAbsent_of_held hm, h1, h2, State.guardFail_none hg, State.writePlain, hm']

theorem State.writeRegs_held {s : State} {p : Packet} {a : Nat} {ws : List Word} (avs : AvsAnswer)
    (h : ∀ i, i < ws.length → s.Holds (a + 4 * i)) (hg : (s.port p.port).guard = none) :
    s.writeRegs p avs a ws false = (Reply.ok, s.setHeld a ws) := by
  induction ws generalizing s a with
  | nil => rfl
  | cons v vs ih =>
    have hhead : s.writeReg p a v avs = (.done 0 [], s.setReg a (v &&& BitVec.ofNat 32 ((heldMask a).getD 0))) :=
      State.writeReg_held v avs (h 0 (by simp)) hg
    have htail : ∀ i, i < vs.length → (s.setReg a (v &&& BitVec.ofNat 32 ((heldMask a).getD 0))).Holds (a + 4 + 4 * i) :=
      fun i hi => by
        obtain ⟨hb, h1, h2, hm⟩ := h (i + 1) (by simpa using hi)
        rw [show a + 4 * (i + 1) = a + 4 + 4 * i by omega] at hb h1 h2 hm
        exact ⟨hb, h1, h2, hm⟩
    simp only [State.writeRegs, hhead, State.setHeld]
    exact ih htail hg

/-- A `WR` of words to registers that only hold them. -/
theorem State.opWr_held {s : State} {p : Packet} {ws : List Word} (avs : AvsAnswer) (hw : p.words = some ws)
    (h : ∀ i, i < ws.length → s.Holds (p.addr.toNat + 4 * i)) (hg : (s.port p.port).guard = none) :
    s.opWr p avs = (Reply.ok, s.setHeld p.addr.toNat ws) := by
  simp only [State.opWr, hw, State.writeRegs_held avs h hg]

theorem State.applyPacket_wr {s : State} {p : Packet} (avs : AvsAnswer) (h : p.opcode = 2) :
    s.applyPacket p avs = s.opWr p avs := by
  have : p.opcode.toNat = 2 := by rw [h]; rfl
  simp only [State.applyPacket, this]

theorem State.applyPacket_rd {s : State} {p : Packet} (avs : AvsAnswer) (h : p.opcode = 1) :
    s.applyPacket p avs = s.opRd p := by
  have : p.opcode.toNat = 1 := by rw [h]; rfl
  simp only [State.applyPacket, this]

end Sys2Proof.Machine

/-! The debug port (R8, R516, R552). -/

namespace Sys2Proof.Machine

/-! ## Reads -/

theorem State.dapRead_hold {s : State} (hm : s.sys.mode = .hold) (a : Word) (c : Bool) :
    s.dapRead a c = { s with ports := { s.ports with dapStatus := stBusy, dapData := 0 } } := by
  simp [State.dapRead, hm]

theorem State.dapWrite_hold {s : State} (hm : s.sys.mode = .hold) (a d : Word) :
    s.dapWrite a d = { s with free := s.free + 1, ports := { s.ports with dapStatus := stBusy, dapData := 0 } } := by
  simp [State.dapWrite, hm]

/-- Out of HOLD a debug read shows what the register access answers. -/
theorem State.dapRead_of_readReg {s y : State} {a v : Word} {c : Bool} {r : Reply} (hm : s.sys.mode ≠ .hold)
    (h : s.readReg .debug a.toNat c = (r, v, y)) :
    s.dapRead a c = { y with ports := { y.ports with dapStatus := r.status, dapData := v } } := by
  simp [State.dapRead, hm, h]

/-! ## Writes -/

/-- The write that a debug access stands for. -/
def debugWrite (a v : Word) : Packet := { debugPkt with opcode := 0x02, addr := a, payload := toLE 4 v.toNat }

/-- The state in which a debug write out of HOLD is served. -/
def State.dapServed (s : State) : State :=
  { s with free := s.free + 1, ports := { s.ports with dapStatus := stOk, dapData := 0 } }

theorem debugWrite_untimed (a v : Word) : (debugWrite a v).pflag 2 = false := by
  show Packet.pflag debugPkt 2 = false
  decide

theorem State.dapWrite_serve {s : State} (hm : s.sys.mode ≠ .hold) (a v : Word) :
    s.dapWrite a v = s.dapServed.serve (debugWrite a v) (Config.avsAnswer s.free) := by
  simp only [State.dapWrite, State.fresh, hm, if_false]
  rfl

/-- A `WR` is served in every mode (R513). -/
theorem State.serves_wr {s : State} {p : Packet} (h : p.opcode = 2) : s.serves p = true := by
  have : p.opcode.toNat = 2 := by rw [h]; rfl
  unfold State.serves
  cases s.sys.mode <;> simp [this]

/-- A hub without a partner applies at once what it serves, but for commands that carry an apply time. -/
theorem State.serve_single {s : State} {p : Packet} (avs : AvsAnswer) (hr : s.pair.role = 0) (hs : s.serves p = true)
    (ht : p.pflag 2 = false) : s.serve p avs = s.applyNow p avs := by
  simp [State.serve, hs, State.isStandby, State.forwards, State.isActive, hr, State.takesApply, ht]

@[simp] theorem State.complete_reg (s : State) (p : Packet) (st : Nat) (b : List Byte) (a : Nat) :
    (s.complete p st b).reg a = s.reg a := by
  rw [State.reg, State.complete_regs, ← State.reg]

theorem State.complete_debug {s : State} (a v : Word) (st : Nat) (b : List Byte) :
    (s.complete (debugWrite a v) st b).ports.dapStatus = st := rfl

/-- A debug write of a register that only holds its bits. -/
theorem State.dapWrite_held {s : State} {a d : Word} {m : Nat} (hm : s.sys.mode ≠ .hold) (hr : s.pair.role = 0)
    (h : s.Holds a.toNat) (hk : heldMask a.toNat = some m) (hg : (s.port .debug).guard = none) :
    s.dapWrite a d = (s.dapServed.setReg a.toNat (d &&& BitVec.ofNat 32 m)).complete (debugWrite a d) stOk [] := by
  have hw : (debugWrite a d).words = some [d] := by rw [words_toLE d.isLt _ rfl, BitVec.ofNat_toNat, BitVec.setWidth_eq]
  have hheld : ∀ i, i < [d].length → s.dapServed.Holds ((debugWrite a d).addr.toNat + 4 * i) := fun i hi => by
    obtain rfl : i = 0 := by simpa using hi
    exact ⟨h.there, h.first, h.second, h.held⟩
  have hwr : s.dapServed.opWr (debugWrite a d) (Config.avsAnswer s.free)
      = (Reply.ok, s.dapServed.setReg a.toNat (d &&& BitVec.ofNat 32 m)) := by
    rw [State.opWr_held _ hw hheld hg]
    simp only [State.setHeld, show (debugWrite a d).addr = a from rfl, hk, Option.getD_some]
  have hsingle : s.dapServed.pair.role = 0 := hr
  rw [State.dapWrite_serve hm, State.serve_single _ hsingle (State.serves_wr rfl) (debugWrite_untimed a d), State.applyNow,
    State.applyPacket_wr _ rfl, hwr]
  rfl

/-! ## Resets of the port -/

/-- A lock let go of when a port holds it. -/
def State.dropLock (p : Port) (s : State) (n : Nat) : State :=
  if (s.lockOf n).owner = portCode p then s.updLock n fun _ => {} else s

theorem State.dropLock_lockOf (p : Port) (s : State) (k n : Nat) :
    (s.dropLock p k).lockOf n = if n = k ∧ (s.lockOf n).owner = portCode p then {} else s.lockOf n := by
  unfold State.dropLock
  by_cases hn : n = k
  · subst hn
    split <;> simp [*]
  · split
    · rw [State.updLock_ne _ _ hn, if_neg fun h => hn h.1]
    · rw [if_neg fun h => hn h.1]

theorem State.dropLocks_lockOf (p : Port) (l : List Nat) (s : State) (n : Nat) :
    (l.foldl (State.dropLock p) s).lockOf n = if n ∈ l ∧ (s.lockOf n).owner = portCode p then {} else s.lockOf n := by
  induction l generalizing s with
  | nil => simp
  | cons k l ih =>
    rw [List.foldl_cons, ih, State.dropLock_lockOf]
    by_cases ho : (s.lockOf n).owner = portCode p
    · by_cases hk : n = k
      · subst hk
        simp [ho]
      · simp [hk]
    · simp [ho]

/-- A port's locks are released, and no other's (R552). -/
theorem State.releaseLocks_lockOf (s : State) (p : Port) (n : Nat) :
    (s.releaseLocks p).lockOf n = if n < 16 ∧ (s.lockOf n).owner = portCode p then {} else s.lockOf n := by
  rw [show s.releaseLocks p = (List.range 16).foldl (State.dropLock p) s from rfl, State.dropLocks_lockOf]
  simp only [List.mem_range]

/-- What a change of one lock keeps, their release keeps. -/
theorem State.releaseLocks_keeps {β : Type} {g : State → β} (h : ∀ s n f, g (State.updLock s n f) = g s) (s : State) (p : Port) :
    g (s.releaseLocks p) = g s := by
  refine foldl_keeps (fun s n => ?_) _ _
  split
  · exact h ..
  · rfl

/-- A reset of the debug port before its locks go: what it had in flight and its guard are gone (R488, R552). -/
def State.debugEmptied (s : State) : State :=
  let s := s.updPort .debug fun x => { x with inflight := [], guard := none }
  let mute (f : Forward) : Forward := if f.pkt.port == Port.debug then { f with answers := false } else f
  let s := { s with ports := { s.ports with inbound := s.ports.inbound.filter fun p => p.port != Port.debug } }
  s.updPair fun p => { p with queue := p.queue.map mute }

/-- `IDCODE` selected (R516). -/
def State.selectIdcode (s : State) : State := { s with ports := { s.ports with ir := 0xFE } }

theorem State.portReset_debug (s : State) : s.portReset .debug = s.debugEmptied.releaseLocks .debug := rfl

theorem State.tapReset_eq (s : State) : s.tapReset = (s.debugEmptied.releaseLocks .debug).selectIdcode := by
  rw [← State.portReset_debug]
  simp only [State.tapReset, State.selectIdcode]

/-- Letting the locks go and selecting `IDCODE` keep what a change of one lock and of the instruction register keeps. -/
theorem State.tapReset_keeps {β : Type} {g : State → β} (h : ∀ s n f, g (State.updLock s n f) = g s)
    (h' : ∀ s, g (State.selectIdcode s) = g s) (s : State) : g s.tapReset = g s.debugEmptied := by
  rw [State.tapReset_eq, h', State.releaseLocks_keeps h]

theorem State.tapReset_ir (s : State) : s.tapReset.ports.ir = 0xFE := by
  rw [State.tapReset_eq, State.selectIdcode]

theorem State.tapReset_guard (s : State) : (s.tapReset.port .debug).guard = none := by
  rw [State.tapReset_keeps (g := fun s => (s.port .debug).guard) (fun _ _ _ => rfl) fun _ => rfl]
  exact congrArg PortState.guard (State.updPort_self s .debug fun x => { x with inflight := [], guard := none })

theorem State.tapReset_lockOf (s : State) (n : Nat) :
    s.tapReset.lockOf n = if n < 16 ∧ (s.lockOf n).owner = portCode .debug then {} else s.lockOf n := by
  have hid : ∀ v : State, v.selectIdcode.lockOf n = v.lockOf n := fun _ => rfl
  rw [State.tapReset_eq, hid, State.releaseLocks_lockOf]
  rfl

theorem State.tapReset_regs (s : State) : s.tapReset.regs = s.regs := by
  rw [State.tapReset_keeps (g := State.regs) (fun _ _ _ => rfl) fun _ => rfl]
  rfl

theorem State.tapReset_hive (s : State) : s.tapReset.hive = s.hive := by
  rw [State.tapReset_keeps (g := State.hive) (fun _ _ _ => rfl) fun _ => rfl]
  rfl

/-! ## The obligation -/

/-- Settles O49: each command of the port as the register access it stands for, or as the reset or pins it acts on. -/
theorem debugComplete : Obligations.DebugComplete := by
  unfold Obligations.DebugComplete
  rintro s u t rfl
  refine ⟨fun a hm => ⟨?_, ?_, fun d => ?_⟩, fun a y hm hb hix hlatch hy => ⟨?_, ?_⟩, fun hm => ?_, fun a r hm hb => ?_,
    fun a d m hm hr hb hg hg' hk hgu => ?_, ?_, fun ir b => ?_⟩
  · rw [exec_dapRead, State.run_eq, State.dapRead_hold (s := s.elapse t) hm]
    refine congrArg _ (State.finish_hold ?_ _)
    exact hm
  · rw [exec_dapReadClear, State.run_eq, State.dapRead_hold (s := s.elapse t) hm]
    refine congrArg _ (State.finish_hold ?_ _)
    exact hm
  · rw [exec_dapWrite, State.run_eq, State.dapWrite_hold (s := s.elapse t) hm]
    refine congrArg _ (State.finish_hold ?_ _)
    exact hm
  · subst hy
    rw [exec_dapRead, State.run_eq, State.dapRead_of_readReg (s := s.elapse t) hm
      (State.readReg_shows false hb (BitVec.toNat_ne_iff_ne.2 hix) (BitVec.toNat_ne_iff_ne.2 hlatch))]
    rfl
  · subst hy
    rw [exec_dapReadClear, State.run_eq]
    by_cases hc : isRc a.toNat = true
    · rw [State.dapRead_of_readReg (s := s.elapse t) hm (State.readReg_clears hb hc)]
      obtain ⟨hsys, hstr, hmem⟩ := State.readCleared_parts (s.elapse t) a.toNat
      refine ⟨_, rfl, rfl, rfl, fun _ => ?_, fun b hba => ?_, fun h => absurd h (by simp [hc]), hsys, hstr, hmem⟩
      · exact (State.clearReg_reg ..).trans (if_pos rfl)
      · exact (State.clearReg_reg ..).trans (if_neg hba)
    · rw [State.dapRead_of_readReg (s := s.elapse t) hm
        (State.readReg_keeps true hb (BitVec.toNat_ne_iff_ne.2 hix) (BitVec.toNat_ne_iff_ne.2 hlatch) (Bool.not_eq_true _ ▸ hc))]
      obtain ⟨hsys, hstr, hmem⟩ := State.unread_parts (State.refresh_unread (s.elapse t) a.toNat)
      exact ⟨_, rfl, rfl, rfl, fun h => absurd h hc, fun _ _ => rfl, fun _ => rfl, hsys, hstr, hmem⟩
  · rw [exec_dapRead, State.run_eq, State.dapRead_of_readReg (s := s.elapse t) hm (State.readReg_latch ..)]
    rfl
  · rw [exec_dapRead, State.run_eq, State.dapRead_of_readReg (s := s.elapse t) hm (State.readReg_bad hb)]
    rfl
  · have hheld : (s.elapse t).Holds a.toNat := ⟨hb, hg, hg', by rw [hk]; rfl⟩
    rw [exec_dapWrite, State.run_eq, State.dapWrite_held (s := s.elapse t) hm hr hheld hk hgu]
    refine ⟨_, rfl, ?_, fun b hba => ?_, State.complete_debug .., State.complete_sys .., State.complete_streams ..,
      State.complete_hive ..⟩
    · rw [State.complete_reg, State.reg_setReg_self]
    · rw [State.complete_reg, State.reg_setReg, if_neg hba]
      rfl
  · rw [exec_tapReset, State.run_eq]
    refine ⟨(s.elapse t).tapReset, rfl, State.tapReset_ir _, State.tapReset_guard _, fun n hn ho => ?_, fun n ho => ?_,
      State.tapReset_regs _, State.tapReset_hive _⟩
    · rw [State.tapReset_lockOf, if_pos ⟨hn, ho⟩]
    · rw [State.tapReset_lockOf, if_neg fun h => ho h.2]
      rfl
  · rw [exec_extest, State.run_eq]
    simp [State.setIr]

end Sys2Proof.Machine

/-! Registers by packets of the host port (R7, R8, R483, R486, R542). -/

namespace Sys2Proof.Machine

/-! ## What a row whose command is a packet answers -/

/-- A row that hands an admitted packet to its port answers with the packet's reply. -/
theorem exec_answers {s y : State} {t st : Nat} {c : Instr} {q : Packet} {body : List Byte}
    (hc : exec c s = s.runOn t fun s => State.take q s) (hq : Admits (s.elapse t) q)
    (h : (s.elapse t).effect q = (.done st body, y)) :
    exec c s = .next ((y.complete q st body).finish (s.elapse t)) := by
  rw [hc, State.runOn_take hq, h]
  rfl

theorem exec_of_mem_reads {c : Instr} {t : Nat} {p : Packet} (h : c ∈ [Instr.rd t p, Instr.readClear t p]) (s : State) :
    exec c s = s.runOn t fun s => State.take (p.withOp 1) s := by
  simp only [List.mem_cons, List.not_mem_nil, or_false] at h
  rcases h with rfl | rfl
  · exact exec_rd ..
  · exact exec_readClear ..

theorem exec_of_mem_writes {c : Instr} {t : Nat} {p : Packet} (h : c ∈ [Instr.wr t p, Instr.registerWrite t p]) (s : State) :
    exec c s = s.runOn t fun s => State.take (p.withOp 2) s := by
  simp only [List.mem_cons, List.not_mem_nil, or_false] at h
  rcases h with rfl | rfl
  · exact exec_wr ..
  · exact exec_registerWrite ..

/-! ## Unlisted opcodes -/

theorem opcode_ne_of_unlisted {p : Packet} (h : opcodes.contains p.opcode = false) {k : Nat} (hk : k ∈ hostOpcodes) :
    p.opcode.toNat ≠ k := by
  rintro rfl
  have hmem : BitVec.ofNat 8 p.opcode.toNat ∈ hostOpcodes.map (BitVec.ofNat 8) := List.mem_map_of_mem hk
  rw [BitVec.ofNat_toNat, BitVec.setWidth_eq] at hmem
  rw [List.contains_eq_mem, decide_eq_false_iff_not] at h
  exact h hmem

theorem unlisted_not_opcode (p : Packet) : opcodes.contains p.unlisted.opcode = false := by
  unfold Packet.unlisted
  split
  · rfl
  · next h => exact Bool.not_eq_true _ ▸ h

/-- An opcode not listed has no effect (R483, R484). -/
theorem State.applyPacket_unlisted (s : State) {p : Packet} (avs : AvsAnswer) (h : opcodes.contains p.opcode = false) :
    s.applyPacket p avs = (.done stBadOpcode [], s) := by
  unfold State.applyPacket
  split
  case h_22 => rfl
  all_goals exact absurd ‹p.opcode.toNat = _› (opcode_ne_of_unlisted h (by decide))

/-! ## Reads -/

theorem State.effect_rd {s y : State} {q : Packet} {n : Nat} {ws : List Word} (h1 : q.opcode = 1) (hn : q.count = some n)
    (h : (s.admitted q).readRegs q.port q.addr.toNat n [] = (Reply.ok, ws, y)) : s.effect q = (.done stOk (bytesOf ws), y) := by
  rw [State.effect, State.applyPacket_rd _ h1]
  simp only [State.opRd, hn, h, Reply.ok, stOk]

/-- `RD` of `n` words of an admitted packet answers the words read. -/
theorem exec_read {s y : State} {t n : Nat} {c : Instr} {p : Packet} {ws : List Word}
    (hc : c ∈ [Instr.rd t p, Instr.readClear t p]) (hq : Admits (s.elapse t) (p.withOp 1)) (hn : p.count = some n)
    (h : ((s.elapse t).admitted (p.withOp 1)).readRegs .host p.addr.toNat n [] = (Reply.ok, ws, y)) :
    exec c s = .next ((y.complete (p.withOp 1) stOk (bytesOf ws)).finish (s.elapse t)) := by
  refine exec_answers (exec_of_mem_reads hc s) hq (State.effect_rd rfl hn ?_)
  rw [hq.port]
  exact h

/-! ## Writes -/

theorem State.admitted_guard (s : State) (q : Packet) : ((s.admitted q).port .host).guard = (s.port .host).guard := by
  rw [State.admitted, State.updPort_self]
  rfl

theorem State.effect_wr_held {s : State} {q : Packet} {ws : List Word} (h2 : q.opcode = 2) (hp : q.port = .host)
    (hw : q.words = some ws) (hg : (s.port .host).guard = none) (h : ∀ i, i < ws.length → s.Holds (q.addr.toNat + 4 * i)) :
    s.effect q = (.done stOk [], (s.admitted q).setHeld q.addr.toNat ws) := by
  have hheld : ∀ i, i < ws.length → (s.admitted q).Holds (q.addr.toNat + 4 * i) := fun i hi => by
    obtain ⟨hb, h1, h2, hm⟩ := h i hi
    exact ⟨hb, h1, h2, hm⟩
  have hguard : ((s.admitted q).port q.port).guard = none := by rw [hp, State.admitted_guard, hg]
  rw [State.effect, State.applyPacket_wr _ h2, State.opWr_held _ hw hheld hguard]
  rfl

/-! ## The obligation -/

/-- Settles O50: each row as its packet's effect at the host port, and that effect as reads and writes of single registers. -/
theorem registersComplete : Obligations.RegistersComplete := by
  unfold Obligations.RegistersComplete
  rintro s u x t a p q rfl rfl rfl
  refine ⟨?_, ?_, ?_, ?_, ?_, fun c hc hop hq => ⟨fun ws hw hg hheld => ?_, fun v body y hw hb hn hg hg' hy => ?_⟩⟩
  · rintro rfl hq
    exact exec_answers (exec_badOpcode t p s) hq (State.applyPacket_unlisted _ _ (unlisted_not_opcode p))
  · rintro n rfl hq hn hreg
    refine exec_read List.mem_cons_self hq hn (State.readRegs_shows n [] fun i hi => ?_)
    obtain ⟨hb, hrc, hlatch, hix, hfresh⟩ := hreg i hi
    have hread := State.readReg_keeps (s := (s.elapse t).admitted (p.withOp 1)) (p := .host) true hb hix hlatch hrc
    rwa [hfresh] at hread
  · rintro y rfl hq hn hb hrc hlatch hix rfl
    exact exec_read List.mem_cons_self hq hn (State.readRegs_one
      (State.readReg_keeps (s := (s.elapse t).admitted (p.withOp 1)) true hb hix hlatch hrc))
  · rintro c hc y rfl hq hn hb hrc rfl
    have hread := State.readReg_clears (s := (s.elapse t).admitted (p.withOp 1)) (p := .host) hb hrc
    obtain ⟨hsys, hstr, hmem⟩ := State.readCleared_parts ((s.elapse t).admitted (p.withOp 1)) p.addr.toNat
    refine ⟨_, exec_read hc hq hn (State.readRegs_one hread), ?_, fun b hba => ?_, hstr, hsys, hmem⟩
    · exact (State.clearReg_reg ..).trans (if_pos rfl)
    · exact (State.clearReg_reg ..).trans (if_neg hba)
  · rintro rfl hq hn ha
    refine exec_read List.mem_cons_self hq hn (State.readRegs_one ?_)
    rw [ha]
    exact State.readReg_latch ..
  · subst hop
    have hholds : ∀ i, i < ws.length → (s.elapse t).Holds (p.addr.toNat + 4 * i) := fun i hi => by
      obtain ⟨hb, h1, h2, hm⟩ := hheld i hi
      exact ⟨hb, h1, h2, hm⟩
    refine ⟨_, exec_answers (exec_of_mem_writes hc s) hq (State.effect_wr_held rfl hq.port hw hg hholds),
      fun i v m hv hm => State.setHeld_inside hv hm, fun b hb => State.setHeld_outside hb, ?_, ?_, ?_, ?_⟩
    · exact State.setHeld_keeps (g := State.sys) (fun _ _ _ => rfl) ..
    · exact State.setHeld_keeps (g := State.cfg) (fun _ _ _ => rfl) ..
    · exact State.setHeld_keeps (g := State.streams) (fun _ _ _ => rfl) ..
    · exact State.setHeld_keeps (g := State.hive) (fun _ _ _ => rfl) ..
  · subst hop
    refine exec_answers (exec_of_mem_writes hc s) hq ?_
    rw [State.effect_wr (s := s.elapse t) (p := p.withOp 2) rfl hq.port hw hb hn hg hg',
      show (p.withOp 2).addr = p.addr from rfl, hy]
    rfl

end Sys2Proof.Machine

/-! Sample words (R11 to R13). -/

namespace Sys2Proof.Machine

/-! ## The fields of a word -/

theorem bnat_le (b : Bool) : bnat b ≤ 1 := by cases b <;> decide

theorem bnat_beq_one (b : Bool) : (bnat b == 1) = b := by cases b <;> rfl

theorem WordFlags.bits_le (f : WordFlags) : f.bits ≤ 4080 := by
  have := bnat_le f.absent; have := bnat_le f.clip; have := bnat_le f.settling; have := bnat_le f.late
  have := bnat_le f.slew; have := bnat_le f.suspect; have := bnat_le f.surge; have := bnat_le f.event
  unfold WordFlags.bits
  omega

/-- Each flag stands at its bit of a word, whatever lies above and below the flags (R11). -/
theorem WordFlags.bit_word (f : WordFlags) {n q x : Nat} (hq : q < 16) (hx : x = 4096 * n + f.bits + q) :
    bit x 11 = f.absent ∧ bit x 10 = f.clip ∧ bit x 9 = f.settling ∧ bit x 8 = f.late ∧ bit x 7 = f.slew
      ∧ bit x 6 = f.suspect ∧ bit x 5 = f.surge ∧ bit x 4 = f.event := by
  have := bnat_le f.absent; have := bnat_le f.clip; have := bnat_le f.settling; have := bnat_le f.late
  have := bnat_le f.slew; have := bnat_le f.suspect; have := bnat_le f.surge; have := bnat_le f.event
  have hbit : ∀ {i : Nat} {b : Bool}, x / 2 ^ i % 2 = bnat b → bit x i = b := fun {i b} h => by
    rw [bit, h, bnat_beq_one]
  unfold WordFlags.bits at hx
  refine ⟨hbit ?_, hbit ?_, hbit ?_, hbit ?_, hbit ?_, hbit ?_, hbit ?_, hbit ?_⟩ <;> omega

/-- A word put together from its four fields holds them all: it is below 2^48. -/
theorem toNat_word48 {v r b q : Nat} (hv : v < 2 ^ 32) (hr : r < 16) (hb : b ≤ 4080) (hq : q < 16) :
    (BitVec.ofNat 48 (v * 65536 + r * 4096 + b + q)).toNat = v * 65536 + r * 4096 + b + q := by
  rw [BitVec.toNat_ofNat]
  exact Nat.mod_eq_of_lt (by omega)

/-! ## Values -/

/-- Saturation (R12) as the nearest value in range. -/
theorem satTo_maxValue (v : Int) : satTo maxValue v = max (-2 ^ 31 + 1) (min (2 ^ 31 - 1) v) := by
  unfold satTo maxValue
  split
  · omega
  · split <;> omega

theorem ofSigned_lt (w : Nat) (i : Int) : ofSigned w i < 2 ^ w := by
  have hpos : (0 : Int) < ((2 ^ w : Nat) : Int) := by positivity
  have := Int.emod_nonneg i hpos.ne'
  have := Int.emod_lt_of_pos i hpos
  unfold ofSigned
  omega

/-- A saturated value reads back from its pattern. -/
theorem toSigned_ofSigned_of_range {i : Int} (hlo : -2 ^ 31 ≤ i) (hhi : i < 2 ^ 31) : toSigned 32 (ofSigned 32 i) = i := by
  have hmod : ofSigned 32 i % 2 ^ 32 = ofSigned 32 i := Nat.mod_eq_of_lt (ofSigned_lt 32 i)
  have hval : (ofSigned 32 i : Int) = i % 2 ^ 32 := Int.toNat_of_nonneg (Int.emod_nonneg i (by decide))
  simp only [toSigned, hmod]
  split_ifs <;> omega

/-! ## The two kinds of word -/

/-- What a word that carries a value shows: the value, saturated, and its flags with `CLIP` set where it was saturated (R12). -/
theorem sampleWord_present {v : Int} {range seq : Nat} {f : WordFlags} (h : f.absent = false) :
    wAbsent (sampleWord v range f seq) = false ∧ (sampleWord v range f seq).toNat / 65536 = ofSigned 32 (satTo maxValue v)
      ∧ wClip (sampleWord v range f seq) = (f.clip || satTo maxValue v != v) := by
  let f' : WordFlags := { f with clip := f.clip || satTo maxValue v != v }
  have hq : seq % 16 < 16 := Nat.mod_lt _ (by decide)
  have hr : range % 16 < 16 := Nat.mod_lt _ (by decide)
  have hw : (sampleWord v range f seq).toNat
      = ofSigned 32 (satTo maxValue v) * 65536 + range % 16 * 4096 + f'.bits + seq % 16 := by
    rw [sampleWord, if_neg (by simp [h])]
    exact toNat_word48 (ofSigned_lt 32 _) hr f'.bits_le hq
  have hx : (sampleWord v range f seq).toNat
      = 4096 * (16 * ofSigned 32 (satTo maxValue v) + range % 16) + f'.bits + seq % 16 := by omega
  obtain ⟨habs, hclip, -⟩ := f'.bit_word hq hx
  have hb := f'.bits_le
  exact ⟨habs.trans h, by omega, hclip⟩

/-- What an `ABSENT` word shows: of the flags, the three that R13 lets stand. -/
theorem sampleWord_absent {v : Int} {range seq : Nat} {f : WordFlags} {w : Word48} (h : f.absent = true)
    (hw : w = sampleWord v range f seq) :
    wAbsent w = true ∧ wClip w = false ∧ bit w.toNat 8 = false ∧ bit w.toNat 7 = false ∧ bit w.toNat 4 = false
      ∧ wSettling w = f.settling ∧ wSuspect w = f.suspect ∧ bit w.toNat 5 = f.surge := by
  let f' : WordFlags := { absent := true, settling := f.settling, suspect := f.suspect, surge := f.surge }
  have hq : seq % 16 < 16 := Nat.mod_lt _ (by decide)
  have hx : w.toNat = 4096 * (16 * 0x8000_0000) + f'.bits + seq % 16 := by
    have hn := toNat_word48 (v := 0x8000_0000) (r := 0) (by decide) (by decide) f'.bits_le hq
    rw [hw, sampleWord, if_pos h]
    exact hn.trans (by omega)
  obtain ⟨h11, h10, h9, h8, h7, h6, h5, h4⟩ := f'.bit_word hq hx
  exact ⟨h11, h10, h8, h7, h4, h9, h6, h5⟩

/-! ## The obligation -/

/-- Settles O5: a word with a value by the round trip of the saturated value, one without by the places of its flags. -/
theorem sampleWordsSaturate : Obligations.SampleWordsSaturate := by
  unfold Obligations.SampleWordsSaturate
  rintro v range seq f w rfl
  refine ⟨fun h => ?_, fun h => sampleWord_absent h rfl⟩
  obtain ⟨habs, hval, hclip⟩ := sampleWord_present (v := v) (range := range) (seq := seq) h
  have hsat := satTo_maxValue v
  have hback : toSigned 32 (ofSigned 32 (satTo maxValue v)) = satTo maxValue v :=
    toSigned_ofSigned_of_range (by omega) (by omega)
  refine ⟨habs, by rw [wValue, hval, hback, hsat], fun hmin => ?_, fun hout => ?_⟩
  · have : toSigned 32 0x8000_0000 = -2 ^ 31 := by decide
    rw [← hval, hmin] at hback
    omega
  · have : satTo maxValue v ≠ v := by omega
    simp [hclip, this]

end Sys2Proof.Machine

/-! Records into their FIFO (R24, R495). A record's write into its buffer asks its bank for a transfer, and the bank then counts the grants
it has given since it was last looked at (R396). A counter that reaches its end raises its event (R543), and that event can be the
64th of the open `EVENTS` record (R491): this record then enters the host FIFO ahead of the one being written. -/

namespace Sys2Proof.Machine

/-- A hub in RUN with a stream's buffer of one word, in bank 0: there a transfer of requester 1 waits to be granted, whose grant counter is
one short of its end, while the open `EVENTS` record lacks one item. -/
def lastGrant : State :=
  { sys := { mode := .run }
    time := { cyc := 8 }
    cfg := { body := [(0x09, [0, 3, 1, 0, 0, 0, 0, 0, 0, 0, 0, 0, 8, 0, 0, 0])] }
    ports := { lanes := 1 }
    ev := { items := List.replicate 63 { code := 0x0B01, stamp := 0, eseq := 0, subject := 0, args := [] } }
    regs := [(0x0008_0110, 0xFFFF_FFFE)]
    hive := { banks := [(0, { wants := [{ req := 1, beats := 1, since := 0 }] })] } }

/-- A route of that stream to the host port, uncompressed. -/
def hostRoute : Route :=
  { id := 1, kind := 2, port := 0, source := 0, items := 0, nxMode := 0, nxPre := 0, nxPool := 0, flushMs := 100, flushLag := 0
    chans := [], raw := [] }

/-- A record without items. -/
def emptyRecord : Record :=
  { typ := 3, stream := 1, rseq := 0, stamp := 0, rate := 0xFF, hflags := 0, items := 0, fmt := 0, typeWord := 0, hub := 0, payload := [] }

/-- The buffer's region. -/
def oneWord : Region := { num := 0, typ := 3, owner := 1, rflags := 0, base := 0, size := 8 }

theorem lastGrant_bufRegion : lastGrant.bufRegion hostRoute emptyRecord = some oneWord := by decide

/-- In a region of one word every byte lies in that word, wherever the ring begins. -/
theorem oneWord_wordsOf : oneWord.wordsOf 0 32 = [0, 0, 0, 0] := by
  simp [Region.wordsOf, oneWord, List.range_succ]

/-- What a write into a region adds to the FIFOs comes from the transfers it asks for. -/
theorem State.unitWrite_host (s : State) (q : Nat) (r : Region) (n k : Nat) :
    (s.unitWrite q (some r) n k).host = (s.wordGrants q (r.wordsOf n k)).host := by
  have hstrike : ∀ (t : State) ws, (t.strike ws).host = t.host := fun t ws => by
    unfold State.strike
    split
    · split <;> rfl
    · rfl
  exact hstrike ..

/-- The grant that the write brings about ends its counter, and the event of that closes the `EVENTS` record. -/
theorem lastGrant_grants : (lastGrant.wordGrants 1 [0, 0, 0, 0]).host.waiting.length = 1 := by decide

/-- The record written is then the second in a FIFO that was empty. -/
theorem lastGrant_writeRecord : (lastGrant.writeRecord hostRoute emptyRecord).host.waiting.length = 2 := by
  have hcount : (lastGrant.unitWrite 1 (lastGrant.bufRegion hostRoute emptyRecord) 0 32).host.waiting.length = 1 := by
    rw [lastGrant_bufRegion, State.unitWrite_host, oneWord_wordsOf, lastGrant_grants]
  exact (List.length_append (bs := [_])).trans (congrArg (· + 1) hcount)

/-- Refutes O6: as a record is written, the `EVENTS` record that the write's own grant has closed stands before it in the host FIFO, so the
FIFO is not what it was with the record after it. -/
theorem not_recordsNumberedAndSplit : ¬ Obligations.RecordsNumberedAndSplit := by
  unfold Obligations.RecordsNumberedAndSplit
  rintro ⟨-, hwrite, -, -⟩
  obtain ⟨y, -, -, -, -, -, -, hhost, -⟩ := hwrite lastGrant hostRoute emptyRecord
  have hlen := congrArg List.length (hhost rfl (by decide))
  rw [lastGrant_writeRecord] at hlen
  have hne : 2 = 1 := hlen
  exact absurd hne (by decide)

end Sys2Proof.Machine

/-! Epochs (R45, R46). The totals of the ending epoch and the work of the new one touch the Comb, counters and events only. -/

namespace Sys2Proof.Machine

/-- What the Comb's work at a boundary leaves as it was. -/
def State.besideComb (s : State) := (s.sys, s.cfg, s.streams, s.hive)

theorem State.besideComb_parts {s t : State} (h : t.besideComb = s.besideComb) :
    t.sys = s.sys ∧ t.cfg = s.cfg ∧ t.streams = s.streams ∧ t.hive = s.hive := by
  simpa [State.besideComb] using h

@[simp] theorem State.raise_besideComb (s : State) (c u : Nat) (a : List Word) : (s.raise c u a).besideComb = s.besideComb := by
  simp [State.besideComb]
@[simp] theorem State.bump_besideComb (s : State) (a : Nat) : (s.bump a).besideComb = s.besideComb := by
  simp [State.besideComb]
@[simp] theorem State.updInsts_besideComb (s : State) (f : ProgInst → ProgInst) : (s.updInsts f).besideComb = s.besideComb := rfl
@[simp] theorem State.setProgState_besideComb (s : State) (p v : Nat) : (s.setProgState p v).besideComb = s.besideComb := rfl

@[simp] theorem State.showCounts_besideComb (s : State) (r : List Byte) (miss settle : Tab Nat) :
    (s.showCounts r miss settle).besideComb = s.besideComb := by
  unfold State.showCounts
  refine foldl_keeps (g := State.besideComb) (fun t q => ?_) _ _
  rfl

@[simp] theorem State.closeCounts_besideComb (s : State) (r : List Byte) (ns : Nat) :
    (s.closeCounts r ns).besideComb = s.besideComb := by
  unfold State.closeCounts
  dsimp only
  split
  · rfl
  · simp only [apply_ite State.besideComb, State.updInsts_besideComb, State.showCounts_besideComb, ite_self]

@[simp] theorem State.closeEpoch_besideComb (s : State) (ns : Nat) : (s.closeEpoch ns).besideComb = s.besideComb := by
  unfold State.closeEpoch
  dsimp only
  split
  · rfl
  · exact foldl_keeps (g := State.besideComb) (fun t r => State.closeCounts_besideComb t r ns) _ _

@[simp] theorem State.ensureInst_besideComb (s : State) (r : List Byte) (ns : Nat) :
    (s.ensureInst r ns).besideComb = s.besideComb := by
  unfold State.ensureInst
  split <;> rfl

@[simp] theorem State.suspendProg_besideComb (s : State) (r : List Byte) (num ns : Nat) :
    (s.suspendProg r num ns).besideComb = s.besideComb := by
  simp [State.suspendProg]

@[simp] theorem State.startEpochWork_besideComb (s : State) (num start stop eds : Nat) :
    (s.startEpochWork num start stop eds).besideComb = s.besideComb := by
  unfold State.startEpochWork
  refine foldl_keeps (g := State.besideComb) (fun t r => ?_) _ _
  dsimp only
  split
  · simp
  · simp

/-- The grid runs and its epoch's number shows. -/
def State.showEpoch (s : State) (k : Nat) : State :=
  { s with cfg := { s.cfg with gridOn := true, epoch := some k, shortEpoch := false } }

/-- A boundary with no image staged and no QUIESCE pending: the old epoch closes, the number moves on and the new epoch's work begins. -/
theorem State.boundary_eq {s : State} (k ns : Nat) (avs : AvsAnswer) (hq : s.sys.quiesceAt = none) (hg : s.cfg.staged = none) :
    s.boundary k ns avs = ((s.closeEpoch ns).showEpoch k).startEpochWork (k % 2 ^ 32) ns
      (ns + ((s.closeEpoch ns).showEpoch k).epochNs) (s.closeEpoch ns).cfg.epochDs := by
  obtain ⟨-, hcfg, -, -⟩ := State.besideComb_parts (State.closeEpoch_besideComb s ns)
  have hstaged : (s.closeEpoch ns).cfg.staged = none := by rw [hcfg, hg]
  unfold State.boundary
  simp only [hq, Option.any_none, Bool.false_eq_true, if_false]
  split
  · next hs _ => simp [hstaged] at hs
  · next hs _ => simp [hstaged] at hs
  · rfl

/-- Beside the Comb, such a boundary changes the number shown alone. -/
theorem State.boundary_parts {s : State} (k ns : Nat) (avs : AvsAnswer) (hq : s.sys.quiesceAt = none) (hg : s.cfg.staged = none) :
    (s.boundary k ns avs).sys = s.sys ∧ (s.boundary k ns avs).cfg = (s.showEpoch k).cfg
      ∧ (s.boundary k ns avs).streams = s.streams ∧ (s.boundary k ns avs).hive = s.hive := by
  obtain ⟨hsys, hcfg, hstr, hhive⟩ := State.besideComb_parts (State.closeEpoch_besideComb s ns)
  rw [State.boundary_eq k ns avs hq hg]
  obtain ⟨h1, h2, h3, h4⟩ := State.besideComb_parts (State.startEpochWork_besideComb ((s.closeEpoch ns).showEpoch k) (k % 2 ^ 32) ns
    (ns + ((s.closeEpoch ns).showEpoch k).epochNs) (s.closeEpoch ns).cfg.epochDs)
  refine ⟨h1.trans hsys, h2.trans ?_, h3.trans hstr, h4.trans hhive⟩
  rw [State.showEpoch, State.showEpoch, hcfg]

/-- The grid starts with the boundary that hub time has reached, unless that one lies before the time a step has gone to (R45, R48). -/
theorem State.epochGridStart_starts {s : State} {st k : Nat} (avs : AvsAnswer) (hst : s.cfg.gridStart = some st)
    (hon : s.cfg.gridOn = false) (ha : s.acquiring = true) (hns : st * 1_000_000_000 ≤ s.ns) (hk : k = s.epochIndex st)
    (hfrom : s.cfg.epochFrom ≤ st * 1_000_000_000 + k * s.epochNs) :
    s.epochGridStart avs = s.boundary k (st * 1_000_000_000 + k * s.epochNs) avs := by
  subst hk
  unfold State.epochGridStart
  rw [hst]
  exact if_neg (by simp [hon, ha, hns, hfrom])

/-- A boundary of the running grid that is new begins. -/
theorem State.epochBoundary_begins {s : State} {st k : Nat} (avs : AvsAnswer) (hst : s.cfg.gridStart = some st)
    (hon : s.cfg.gridOn = true) (ha : s.acquiring = true) (hns : st * 1_000_000_000 ≤ s.ns) (hk : k = s.epochIndex st)
    (hlast : ∀ j, s.cfg.epoch = some j → j < k)
    (hfrom : s.cfg.epoch = none → s.cfg.epochFrom ≤ st * 1_000_000_000 + k * s.epochNs) :
    s.epochBoundary avs = s.boundary k (st * 1_000_000_000 + k * s.epochNs) avs := by
  subst hk
  unfold State.epochBoundary
  rw [hst, hon]
  refine if_pos ?_
  cases he : s.cfg.epoch with
  | none => simp [ha, hns, hfrom he]
  | some j => simp [ha, hns, hlast j he]

/-! ## The obligation -/

/-- Settles O14: both commands bring the boundary that hub time has reached, and a boundary shows its number. -/
theorem epochsComplete : Obligations.EpochsComplete := by
  unfold Obligations.EpochsComplete
  rintro s u t st k rfl hm hst ha hq hg hns hk
  -- the regulator's answer is drawn before the command acts, from a counter that nothing else reads
  let w : State := { s.elapse t with free := s.free + 1 }
  let ns := st * 1_000_000_000 + k * s.epochNs
  obtain ⟨hsys, hcfg, hstr, hhive⟩ := State.boundary_parts (s := w) k ns (Config.avsAnswer s.free) hq hg
  refine ⟨fun hon hfrom => ⟨w.boundary k ns (Config.avsAnswer s.free), ?_, ?_⟩,
    fun hon hlast hfrom => ⟨w.boundary k ns (Config.avsAnswer s.free), ?_, ?_⟩⟩
  · rw [exec_epochGridStart, State.runOn_eq hm]
    exact congrArg (fun v : State => Host.Outcome.next (v.finish (s.elapse t)))
      (State.epochGridStart_starts (s := w) _ hst hon ha hns hk hfrom)
  · exact ⟨by rw [hcfg]; rfl, by rw [hcfg]; rfl, by rw [hcfg]; exact hst, hsys, hstr, hhive⟩
  · rw [exec_epochBoundary, State.runOn_eq hm]
    exact congrArg (fun v : State => Host.Outcome.next (v.finish (s.elapse t)))
      (State.epochBoundary_begins (s := w) _ hst hon ha hns hk hlast hfrom)
  · exact ⟨by rw [hcfg]; rfl, by rw [hcfg]; rfl, by rw [hcfg]; exact hst, hsys, hhive⟩

end Sys2Proof.Machine

/-! Sources of time (R20, R403, R405, R423, R443): gaining, losing and following a source move the steering, the source in use and pending
steps; what the sources themselves last gave stands. -/

namespace Sys2Proof.Machine

/-! ## What following a source leaves as it was -/

/-- Hub time, the last edge and its offset, and the last `TIME_SET`. -/
def Time.given (t : Time) :=
  (t.now, t.beacon, t.lastEdge, t.tods, t.missed, t.ppsOfs, t.ppsRun, t.hostT, t.hostU, t.hostAt)

/-- Which sources are qualified. -/
def Time.quals (t : Time) := (t.ppsQ, t.trunkQ, t.hostQ)

/-- What a change of qualification leaves as it was. -/
def State.given (s : State) := (s.time.given, s.sys, s.streams, s.hive)

/-- What following a source leaves as it was. -/
def State.followed (s : State) := (s.given, s.time.quals)

theorem State.given_parts {s t : State} (h : t.given = s.given) :
    t.time.given = s.time.given ∧ t.sys = s.sys ∧ t.streams = s.streams ∧ t.hive = s.hive := by
  simpa [State.given] using h

theorem Time.given_parts {s t : Time} (h : t.given = s.given) :
    t.now = s.now ∧ t.beacon = s.beacon ∧ t.lastEdge = s.lastEdge ∧ t.tods = s.tods ∧ t.missed = s.missed ∧ t.ppsOfs = s.ppsOfs
      ∧ t.ppsRun = s.ppsRun ∧ t.hostT = s.hostT ∧ t.hostU = s.hostU ∧ t.hostAt = s.hostAt := by
  simpa [Time.given] using h

theorem State.given_of_followed {s t : State} (h : t.followed = s.followed) : t.given = s.given := congrArg Prod.fst h

theorem State.qualified_of_followed {s t : State} (h : t.followed = s.followed) (src : Nat) : t.qualified src = s.qualified src := by
  have hq : t.time.quals = s.time.quals := congrArg Prod.snd h
  simp only [Time.quals, Prod.mk.injEq] at hq
  obtain ⟨h0, h1, h2⟩ := hq
  simp only [State.qualified, h0, h1, h2]

@[simp] theorem Time.noteY_given (t : Time) : t.noteY.given = t.given := by unfold Time.noteY; split <;> rfl
@[simp] theorem Time.noteY_quals (t : Time) : t.noteY.quals = t.quals := by unfold Time.noteY; split <;> rfl

theorem State.updTime_followed {s : State} {f : Time → Time} (hg : (f s.time).given = s.time.given)
    (hq : (f s.time).quals = s.time.quals) : (s.updTime f).followed = s.followed := by
  simp [State.followed, State.given, hg, hq]

@[simp] theorem State.raise_followed (s : State) (c u : Nat) (a : List Word) : (s.raise c u a).followed = s.followed := by
  simp [State.followed, State.given]
@[simp] theorem State.bump_followed (s : State) (a : Nat) : (s.bump a).followed = s.followed := by
  simp [State.followed, State.given]

@[simp] theorem State.enterHoldover_followed (s : State) : s.enterHoldover.followed = s.followed :=
  State.updTime_followed (Time.noteY_given _) (Time.noteY_quals _)

@[simp] theorem State.startSlew_followed (s : State) (src : Nat) (d : Int) : (s.startSlew src d).followed = s.followed :=
  State.updTime_followed (Time.noteY_given _) (Time.noteY_quals _)

@[simp] theorem State.servo_followed (s : State) : s.servo.followed = s.followed :=
  State.updTime_followed (s := (s.fresh Config.servoY).2) (Time.noteY_given _) (Time.noteY_quals _)

@[simp] theorem State.refuseStep_followed (s : State) (src : Nat) (d : Int) : (s.refuseStep src d).followed = s.followed := by
  unfold State.refuseStep
  dsimp only
  rw [State.raise_followed, State.bump_followed, State.updTime_followed rfl rfl, State.enterHoldover_followed]

@[simp] theorem State.takeOffset_followed (s : State) (src : Nat) : (s.takeOffset src).followed = s.followed := by
  unfold State.takeOffset
  dsimp only
  split
  · exact State.refuseStep_followed ..
  · exact State.startSlew_followed ..

@[simp] theorem State.switchTo_followed (s : State) (src : Nat) : (s.switchTo src).followed = s.followed := by
  unfold State.switchTo
  dsimp only
  split
  · rw [State.updTime_followed rfl rfl, State.bump_followed]
  · rw [State.takeOffset_followed, State.bump_followed]

@[simp] theorem State.track_followed (s : State) (src : Nat) : (s.track src).followed = s.followed := by
  unfold State.track
  dsimp only
  split
  · split
    · exact State.refuseStep_followed ..
    · exact State.servo_followed _
  · rfl

theorem State.refreshStep_followed (s : State) : s.refreshStep.followed = s.followed := by
  unfold State.refreshStep
  split <;> rfl

/-! ## A source gained or lost (R421, R422) -/

theorem State.setQ_given (s : State) (src : Nat) (q : Bool) : (s.setQ src q).given = s.given := by
  unfold State.setQ
  by_cases h0 : src = 0
  · simp [State.given, Time.given, h0]
  · by_cases h1 : src = 1 <;> simp [State.given, Time.given, h0, h1]

theorem State.setQ_qualified (s : State) {src : Nat} (h : src ≤ 2) (q : Bool) : (s.setQ src q).qualified src = q := by
  obtain rfl | rfl | rfl : src = 0 ∨ src = 1 ∨ src = 2 := by omega
  all_goals rfl

/-- The hub without a source it has just lost: its pending step goes, and another source or `HOLDOVER` takes its place. -/
theorem State.loseSource_eq {s : State} {src : Nat} (h : s.qualified src = true) :
    (s.loseSource src).followed = (s.setQ src false).followed := by
  unfold State.loseSource
  rw [if_neg (by simp [h])]
  extract_lets t w
  have hw : w.followed = t.followed := by
    show State.followed (ite _ _ _) = _
    split
    · rw [State.raise_followed, State.updTime_followed rfl rfl]
    · split <;> rfl
  rw [← hw]
  split
  · exact State.enterHoldover_followed w
  · split
    · split
      · exact State.switchTo_followed ..
      · exact State.enterHoldover_followed w
    · split
      · split
        · exact State.switchTo_followed ..
        · rfl
      · rfl

theorem State.loseSource_given (s : State) (src : Nat) : (s.loseSource src).given = s.given := by
  cases h : s.qualified src with
  | false => rw [State.loseSource, if_pos (by simp [h])]
  | true => rw [State.given_of_followed (State.loseSource_eq h), State.setQ_given]

theorem State.loseSource_qualified (s : State) {src : Nat} (hs : src ≤ 2) : (s.loseSource src).qualified src = false := by
  cases h : s.qualified src with
  | false => rw [State.loseSource, if_pos (by simp [h]), h]
  | true => rw [State.qualified_of_followed (State.loseSource_eq h), State.setQ_qualified s hs]

theorem State.loseSource_ppsQ (s : State) : (s.loseSource 0).time.ppsQ = false := s.loseSource_qualified (src := 0) (by decide)
theorem State.loseSource_hostQ (s : State) : (s.loseSource 2).time.hostQ = false := s.loseSource_qualified (src := 2) (by decide)

theorem State.gainSource_eq {s : State} {src : Nat} (h : s.qualified src = false) :
    (s.gainSource src).followed = (s.setQ src true).followed := by
  unfold State.gainSource
  rw [if_neg (by simp [h])]
  dsimp only
  split
  · exact State.switchTo_followed ..
  · rfl

theorem State.gainSource_given (s : State) (src : Nat) : (s.gainSource src).given = s.given := by
  cases h : s.qualified src with
  | true => rw [State.gainSource, if_pos h]
  | false => rw [State.given_of_followed (State.gainSource_eq h), State.setQ_given]

theorem State.gainSource_qualified (s : State) {src : Nat} (hs : src ≤ 2) : (s.gainSource src).qualified src = true := by
  cases h : s.qualified src with
  | true => rw [State.gainSource, if_pos h, h]
  | false => rw [State.qualified_of_followed (State.gainSource_eq h), State.setQ_qualified s hs]

theorem State.gainSource_hostQ (s : State) : (s.gainSource 2).time.hostQ = true := s.gainSource_qualified (src := 2) (by decide)

/-! ## Edges and expiries (R403, R405) -/

theorem State.bumpBy_given (s : State) (a n : Nat) : (s.bumpBy a n).given = s.given := by
  simp [State.given]

/-- What an edge sets, and what it leaves as it was. -/
def State.edgeNoted (s : State) := (s.time.lastEdge, s.time.tods, s.time.missed, s.time.now, s.sys, s.streams, s.hive)

theorem State.edgeNoted_of_given {s t : State} (h : t.given = s.given) : t.edgeNoted = s.edgeNoted := by
  obtain ⟨htime, hsys, hstr, hhive⟩ := State.given_parts h
  obtain ⟨hnow, -, hlast, htods, hmissed, -⟩ := Time.given_parts htime
  simp only [State.edgeNoted, hnow, hlast, htods, hmissed, hsys, hstr, hhive]

/-- An edge is noted, whatever it does to its source; the `TIME_TOD`s have been judged. -/
theorem State.ppsEdge_noted (s : State) (resid : Int) :
    (s.ppsEdge resid).edgeNoted = (some (s.ps + resid), [], 0, s.time.now, s.sys, s.streams, s.hive) := by
  unfold State.ppsEdge
  extract_lets h spaced good b w run
  have hw : w.edgeNoted = (some h, [], 0, s.time.now, s.sys, s.streams, s.hive) := by
    simp [State.edgeNoted, w, b]
  split
  · exact hw
  · split
    · exact (State.edgeNoted_of_given (State.loseSource_given ..)).trans hw
    · extract_lets d x y
      have hy : y.edgeNoted = w.edgeNoted := (State.edgeNoted_of_given (State.given_of_followed (State.track_followed x 0))).trans rfl
      rw [← hw, ← hy]
      split
      · exact State.edgeNoted_of_given (State.gainSource_given ..)
      · rfl

/-- With `PPS` enabled the offset is that of the latest `TIME_TOD` that fits the edge. -/
theorem State.ppsEdge_ofs {s : State} {resid : Int} {sec x : Nat} (hflag : s.tflag 0 = true)
    (h : (s.time.tods.filter fun (x : Nat × Nat) => decide ((x.2 + 100_000_000 : Int) * 1000 ≤ s.ps + resid)
      && decide (s.ps + resid ≤ (x.2 + 900_000_000 : Int) * 1000)).head? = some (sec, x)) :
    (s.ppsEdge resid).time.ppsOfs = (sec * psPerS : Nat) + s.ppsDelay - (s.ps + resid) := by
  have hgood {v w : State} (h : v.given = w.given) : v.time.ppsOfs = w.time.ppsOfs := by
    obtain ⟨htime, -⟩ := State.given_parts h
    obtain ⟨-, -, -, -, -, hofs, -⟩ := Time.given_parts htime
    exact hofs
  unfold State.ppsEdge
  extract_lets h' spaced good b w run
  have hcfg : w.cfg = s.cfg := by simp [w, b]
  have hbody : w.timeBody = s.timeBody := by simp only [State.timeBody, State.body, hcfg]
  rw [if_neg (by simpa [State.tflag, hbody] using hflag)]
  split
  · next hnone => exact absurd (h.symm.trans hnone) (by simp)
  · next sec' x' hsome =>
    obtain ⟨rfl, rfl⟩ : sec = sec' ∧ x = x' := by simpa using h.symm.trans hsome
    extract_lets d y z
    have hz : z.time.ppsOfs = d := hgood (State.given_of_followed (State.track_followed y 0))
    have hd : d = (sec * psPerS : Nat) + s.ppsDelay - (s.ps + resid) := by simp only [d, State.ppsDelay, hbody]; rfl
    rw [← hd, ← hz]
    split
    · exact hgood (State.gainSource_given ..)
    · rfl

/-- No edge for 2 s, or none ever: `PPS` is not qualified and its run is over. -/
theorem State.ppsMissing_parts {s : State} (h : ∀ e, s.time.lastEdge = some e → e + 2 * (psPerS : Int) + 1_000_000 ≤ s.ps) :
    s.ppsMissing.time.ppsQ = false ∧ s.ppsMissing.time.ppsRun = 0 ∧ s.ppsMissing.time.now = s.time.now ∧ s.ppsMissing.sys = s.sys
      ∧ s.ppsMissing.streams = s.streams ∧ s.ppsMissing.hive = s.hive := by
  have hgone : s.ppsMissing = (s.updTime fun t => { t with ppsRun := 0, missed := 2 }).loseSource 0 := by
    unfold State.ppsMissing
    refine if_pos ?_
    cases he : s.time.lastEdge with
    | none => rfl
    | some e => exact decide_eq_true (h e he)
  rw [hgone]
  obtain ⟨htime, hsys, hstr, hhive⟩ := State.given_parts (State.loseSource_given (s.updTime fun t => { t with ppsRun := 0, missed := 2 }) 0)
  obtain ⟨hnow, -, -, -, -, -, hrun, -⟩ := Time.given_parts htime
  exact ⟨State.loseSource_ppsQ _, hrun, hnow, hsys, hstr, hhive⟩

/-- 10 s after a `TIME_SET` a `HOST` source not in use is lost. -/
theorem State.hostExpiry_parts {s : State} (hq : s.time.hostQ = true) (hs : s.time.source ≠ 2)
    (hc : s.time.hostAt + 10 * cycPerS ≤ s.time.cyc) :
    s.hostExpiry.time.hostQ = false ∧ s.hostExpiry.time.now = s.time.now ∧ s.hostExpiry.sys = s.sys
      ∧ s.hostExpiry.streams = s.streams ∧ s.hostExpiry.hive = s.hive := by
  have hlose : s.hostExpiry = s.loseSource 2 := if_pos (by simp [hq, hs, hc])
  rw [hlose]
  obtain ⟨htime, hsys, hstr, hhive⟩ := State.given_parts (State.loseSource_given s 2)
  obtain ⟨hnow, -⟩ := Time.given_parts htime
  exact ⟨State.loseSource_hostQ s, hnow, hsys, hstr, hhive⟩

/-! ## Seconds (R20) -/

/-- A pod lane's errors of the second that ends are forgotten. -/
def State.endSecond (s : State) (p : Nat) : State := if (s.pod p).errSec = 0 then s else s.updPod p fun l => { l with errSec := 0 }

theorem State.endSecond_pod (s : State) (p l : Nat) : ((s.endSecond p).pod l).errSec = if l = p then 0 else (s.pod l).errSec := by
  unfold State.endSecond
  by_cases hl : l = p
  · subst hl
    split
    · next h => simpa using h
    · simp
  · rw [if_neg hl]
    split
    · rfl
    · rw [State.updPod_ne _ _ hl]

theorem State.endSecond_keeps {β : Type} {g : State → β} (h : ∀ s p f, g (State.updPod s p f) = g s) (s : State) (p : Nat) :
    g (s.endSecond p) = g s := by
  unfold State.endSecond
  split
  · rfl
  · exact h ..

theorem State.endSeconds_pod (ps : List Nat) (s : State) (l : Nat) :
    ((ps.foldl State.endSecond s).pod l).errSec = if l ∈ ps then 0 else (s.pod l).errSec := by
  induction ps generalizing s with
  | nil => simp
  | cons p ps ih =>
    rw [List.foldl_cons, ih, State.endSecond_pod]
    by_cases hl : l = p <;> simp [hl]

theorem State.endSeconds_keeps {β : Type} {g : State → β} (h : ∀ s p f, g (State.updPod s p f) = g s) (s : State) (ps : List Nat) :
    g (ps.foldl State.endSecond s) = g s :=
  foldl_keeps (fun t p => State.endSecond_keeps h t p) ps s

@[simp] theorem State.refreshStep_pods (s : State) : s.refreshStep.pods = s.pods := by unfold State.refreshStep; split <;> rfl
@[simp] theorem State.refreshStep_pair (s : State) : s.refreshStep.pair = s.pair := by unfold State.refreshStep; split <;> rfl

/-- The beacon of a second: its event is stamped with a time and carries words. -/
def State.beaconed (s : State) (sec now : Nat) (words : List Word) : State :=
  ((s.updTime fun t => { t with beacon := sec, now := now }).raise 0x0B01 0 words).updTime fun t => { t with now := s.time.now }

theorem State.beaconed_given (s : State) (sec now : Nat) (words : List Word) :
    (s.beaconed sec now words).given = ({ s with time := { s.time with beacon := sec } } : State).given := by
  simp [State.beaconed, State.given, Time.given]

/-- The pair link's errors of the second that ends are forgotten. -/
def State.endSecondLink (s : State) : State := { s with pair := { s.pair with crcErrs := 0 } }

/-- A new whole second is beaconed, what is summed by the second starts anew, and a pending step is measured. -/
theorem State.secondBeacon_eq {s : State} (h : s.time.beacon < s.ns / 1_000_000_000) :
    ∃ now words, s.secondBeacon
      = ((List.range 24).foldl State.endSecond (s.beaconed (s.ns / 1_000_000_000) now words)).endSecondLink.refreshStep := by
  unfold State.secondBeacon
  extract_lets sec now full a b c old d
  have hb : b = s.beaconed sec (sec * 1_000_000_000 * unitsPerNs) (fullWords full) := rfl
  clear_value b
  have hc : c = (List.range 24).foldl State.endSecond b := rfl
  clear_value c
  have hd : d = c.endSecondLink := rfl
  clear_value d
  rw [if_neg (by simp; omega), hd, hc, hb]
  exact ⟨_, _, rfl⟩

theorem State.secondBeacon_parts {s : State} (h : s.time.beacon < s.ns / 1_000_000_000) :
    s.secondBeacon.time.beacon = s.ns / 1_000_000_000 ∧ s.secondBeacon.time.now = s.time.now
      ∧ (∀ l, l < 24 → (s.secondBeacon.pod l).errSec = 0) ∧ s.secondBeacon.pair.crcErrs = 0 ∧ s.secondBeacon.sys = s.sys
      ∧ s.secondBeacon.streams = s.streams ∧ s.secondBeacon.hive = s.hive := by
  obtain ⟨now, words, heq⟩ := State.secondBeacon_eq h
  rw [heq]
  generalize hc : (List.range 24).foldl State.endSecond (s.beaconed (s.ns / 1_000_000_000) now words) = c
  have hgiven : c.endSecondLink.refreshStep.given
      = ({ s with time := { s.time with beacon := s.ns / 1_000_000_000 } } : State).given := by
    calc c.endSecondLink.refreshStep.given = c.endSecondLink.given := State.given_of_followed (State.refreshStep_followed _)
      _ = c.given := rfl
      _ = (s.beaconed (s.ns / 1_000_000_000) now words).given := by
        rw [← hc]
        exact State.endSeconds_keeps (g := State.given) (fun _ _ _ => rfl) ..
      _ = _ := State.beaconed_given ..
  obtain ⟨htime, hsys, hstr, hhive⟩ := State.given_parts hgiven
  obtain ⟨hnow, hbeacon, -⟩ := Time.given_parts htime
  refine ⟨hbeacon, hnow, fun l hl => ?_, ?_, hsys, hstr, hhive⟩
  · have hpod : c.endSecondLink.refreshStep.pod l = c.pod l := by rw [State.pod, State.refreshStep_pods]; rfl
    rw [hpod, ← hc, State.endSeconds_pod, if_pos (List.mem_range.2 hl)]
  · rw [State.refreshStep_pair]
    rfl

/-! ## The `TIME` command (R423, R487) -/

theorem State.applyPacket_time {s : State} {p : Packet} (avs : AvsAnswer) (h : p.opcode = 0x38) :
    s.applyPacket p avs = s.opTime p := by
  have : p.opcode.toNat = 0x38 := by rw [h]; rfl
  simp only [State.applyPacket, this]

/-- A row that sets the first byte of its packet leaves the others as given. -/
theorem leAt_operating (p : Packet) (op n k len : Nat) : leAt (p.operating op n).payload (k + 1) len = leAt p.payload (k + 1) len := by
  have hdrop : (p.operating op n).payload.drop (k + 1) = p.payload.drop (k + 1) := by
    show (BitVec.ofNat 8 n :: p.payload.drop 1).drop (k + 1) = _
    rw [List.drop_succ_cons, List.drop_drop, Nat.add_comm]
  rw [leAt, hdrop, leAt]

theorem byteAt_operating (p : Packet) (op : Nat) {n : Nat} (h : n < 256) : byteAt (p.operating op n).payload 0 = n := by
  show leAt (toLE 1 n ++ p.payload.drop 1) 0 1 = n
  rw [leAt_toLE]
  exact Nat.mod_eq_of_lt h

theorem length_operating (p : Packet) (op n : Nat) (h : 1 ≤ p.payload.length) :
    (p.operating op n).payload.length = p.payload.length := by
  show (toLE 1 n ++ p.payload.drop 1).length = _
  rw [List.length_append, length_toLE, List.length_drop]
  omega

theorem State.effect_time (s : State) (p : Packet) (n : Nat) :
    s.effect (p.operating 0x38 n) = (s.admitted (p.operating 0x38 n)).opTime (p.operating 0x38 n) :=
  State.applyPacket_time _ rfl

theorem State.effect_timeTod {s : State} {p : Packet} (h : p.payload.length = 20) :
    s.effect (p.operating 0x38 2) = (Reply.ok, (s.admitted (p.operating 0x38 2)).timeTod (leAt p.payload 4 6)) := by
  have hb := byteAt_operating p 0x38 (n := 2) (by decide)
  have hl := length_operating p 0x38 2 (by omega)
  have ht := leAt_operating p 0x38 2 3 6
  rw [State.effect_time, State.opTime]
  simp [hb, hl, h, ht]

theorem State.effect_timeSet {s : State} {p : Packet} (h : p.payload.length = 20) :
    s.effect (p.operating 0x38 1) = (s.admitted (p.operating 0x38 1)).timeSet (leAt p.payload 4 12) (leAt p.payload 16 4) := by
  have hb := byteAt_operating p 0x38 (n := 1) (by decide)
  have hl := length_operating p 0x38 1 (by omega)
  have hfull := leAt_operating p 0x38 1 3 12
  have hu := leAt_operating p 0x38 1 15 4
  rw [State.effect_time, State.opTime]
  simp [hb, hl, h, hfull, hu]

theorem State.effect_timeRead {s : State} {p : Packet} (h : p.payload.length = 4) :
    s.effect (p.operating 0x38 0) = (.done stOk s.timeReadBody, s.admitted (p.operating 0x38 0)) := by
  have hb := byteAt_operating p 0x38 (n := 0) (by decide)
  have hl := length_operating p 0x38 0 (by omega)
  have hbody : (s.admitted (p.operating 0x38 0)).timeReadBody = s.timeReadBody := rfl
  rw [State.effect_time, State.opTime]
  simp [hb, hl, h, hbody]

/-- `TIME_SET` with a time and an uncertainty in range: it is noted, and `HOST` is qualified. -/
theorem State.timeSet_parts {s : State} {full u : Nat} (hn : full / 2 ^ 16 % 2 ^ 32 < 1_000_000_000) (h1 : 1 ≤ u)
    (h2 : u ≤ 1_000_000_000) :
    ∃ w : State, s.timeSet full u = (Reply.ok, w) ∧ w.time.hostT = ((ofFullTime full * 1000 / unitsPerNs : Nat) : Int)
      ∧ w.time.hostU = u ∧ w.time.hostAt = s.time.cyc ∧ w.time.hostQ = true ∧ w.time.now = s.time.now ∧ w.sys = s.sys
      ∧ w.hive = s.hive := by
  unfold State.timeSet
  extract_lets nsec t x
  have ht : t = ((ofFullTime full * 1000 / unitsPerNs : Nat) : Int) := rfl
  clear_value t
  have hin : ¬ (decide (1_000_000_000 ≤ nsec) || decide (u = 0) || decide (1_000_000_000 < u)) = true := by
    simp [nsec]; omega
  have hx : x.time.hostQ = s.time.hostQ := rfl
  have hset {w : State} (h : w.given = x.given) (hq : w.time.hostQ = true) :
      w.time.hostT = ((ofFullTime full * 1000 / unitsPerNs : Nat) : Int) ∧ w.time.hostU = u ∧ w.time.hostAt = s.time.cyc
        ∧ w.time.hostQ = true ∧ w.time.now = s.time.now ∧ w.sys = s.sys ∧ w.hive = s.hive := by
    obtain ⟨htime, hsys, -, hhive⟩ := State.given_parts h
    obtain ⟨hnow, -, -, -, -, -, -, hT, hU, hAt⟩ := Time.given_parts htime
    exact ⟨hT.trans ht, hU, hAt, hq, hnow, hsys, hhive⟩
  rw [if_neg hin]
  by_cases hq : s.time.hostQ = true
  · rw [if_pos (hx.trans hq)]
    split
    · have hfollowed := State.takeOffset_followed x 2
      exact ⟨_, rfl, hset (State.given_of_followed hfollowed) ((State.qualified_of_followed hfollowed 2).trans (hx.trans hq))⟩
    · exact ⟨x, rfl, hset rfl (hx.trans hq)⟩
  · rw [if_neg (by rwa [hx])]
    exact ⟨_, rfl, hset (State.gainSource_given x 2) (State.gainSource_hostQ x)⟩

/-! ## The obligation -/

/-- Settles O37: each source by what gaining, losing and following one leaves as it was, and the commands by their effects. -/
theorem sourcesComplete : Obligations.SourcesComplete := by
  unfold Obligations.SourcesComplete
  rintro s u t rfl hm
  refine ⟨fun h => ?_, fun resid => ?_, fun h => ?_, fun hq hs hc => ?_, fun p => ⟨fun hq hl => ?_, fun hq hl hn h1 h2 => ?_,
    fun hq hl => ?_, fun hq => ?_⟩⟩
  · refine ⟨(s.elapse t).secondBeacon, ?_, State.secondBeacon_parts (s := s.elapse t) h⟩
    rw [exec_secondBeacon, State.runOn_eq hm]
  · have hnoted := State.ppsEdge_noted (s.elapse t) resid
    simp only [State.edgeNoted, Prod.mk.injEq] at hnoted
    obtain ⟨hlast, htods, hmissed, hnow, hsys, hstr, hhive⟩ := hnoted
    refine ⟨(s.elapse t).ppsEdge resid, ?_, hlast, htods, hmissed, fun sec x hflag hgood => ?_, hnow, hsys, hstr, hhive⟩
    · rw [exec_ppsEdge, State.runOn_eq hm]
    · exact State.ppsEdge_ofs (s := s.elapse t) hflag hgood
  · refine ⟨(s.elapse t).ppsMissing, ?_, State.ppsMissing_parts (s := s.elapse t) h⟩
    rw [exec_ppsMissing, State.runOn_eq hm]
  · refine ⟨(s.elapse t).hostExpiry, ?_, State.hostExpiry_parts (s := s.elapse t) hq hs hc⟩
    rw [exec_hostSourceExpiry, State.runOn_eq hm]
  · exact ⟨_, exec_answers (exec_timeTod t p s) hq (State.effect_timeTod hl), rfl, rfl, rfl, rfl⟩
  · obtain ⟨w, hw, hset⟩ := State.timeSet_parts (s := (s.elapse t).admitted (p.operating 0x38 1)) hn h1 h2
    exact ⟨w, exec_answers (exec_timeSet t p s) hq ((State.effect_timeSet hl).trans hw), hset⟩
  · exact ⟨_, exec_answers (exec_timeRead t p s) hq (State.effect_timeRead hl), rfl, rfl, rfl, rfl⟩
  · have hread : (s.elapse t).effect (p.reading 0x0002_0004) = _ := State.effect_reading hq.port (by decide)
    rw [State.readReg_latch] at hread
    exact ⟨_, exec_answers (exec_timeNowLatchRead t p s) hq hread, rfl, rfl, rfl, rfl⟩

end Sys2Proof.Machine

/-! Records that wait (R37, R491, R493). -/

namespace Sys2Proof.Machine

/-! ## Records written -/

theorem State.updStream_ne (s : State) {k j : Nat} (f : Stream → Stream) (h : j ≠ k) : (s.updStream k f).stream j = s.stream j := by
  simp only [State.stream, State.updStream, Tab.get_upd, if_neg h]

@[simp] theorem State.strike_unread (s : State) (ws : List Nat) : (s.strike ws).unread = s.unread := by
  unfold State.strike
  split
  · split <;> rfl
  · rfl

@[simp] theorem State.unitWrite_unread (s : State) (q : Nat) (r : Option Region) (n k : Nat) :
    (s.unitWrite q r n k).unread = s.unread := by
  unfold State.unitWrite
  split
  · rfl
  · rw [State.strike_unread]
    exact State.wordGrants_unread ..

@[simp] theorem State.enqueue_streams (s : State) (r : Route) (x : Record) : (s.enqueue r x).streams = s.streams := by
  unfold State.enqueue
  split
  · rfl
  · split <;> rfl

/-- A record written takes its stream's next number; of streams it changes that one's numbers and place alone (R24). -/
theorem State.writeRecord_streams (s : State) (r : Route) (x : Record) :
    (∃ w, (s.writeRecord r x).stream r.id = { s.stream r.id with
      rseq := ((s.stream r.id).rseq + 1) % 2 ^ 32, lastRseq := (s.stream r.id).rseq, written := w })
      ∧ ∀ j, j ≠ r.id → (s.writeRecord r x).stream j = s.stream j := by
  unfold State.writeRecord
  extract_lets at' reg v y x' st
  obtain ⟨-, hv, -⟩ := State.unread_parts (State.unitWrite_unread s (if r.kind = 3 then 2 else 1) reg at' x.size)
  have hstream : ∀ j, (v.enqueue r x').stream j = s.stream j := fun j => by
    rw [State.stream, State.enqueue_streams, hv, State.stream]
  refine ⟨⟨padTo8 (at' + x'.size), ?_⟩, fun j hj => ?_⟩
  · exact (State.updStream_self ..).trans (by rw [hstream])
  · rw [State.updStream_ne _ _ hj, hstream]

/-- Final `GAP` records: as many as the buffer takes are written, each with the next number, and the rest stay pending (R37). -/
theorem State.writeGaps_streams (r : Route) (gs : List Record) (s : State) :
    (∃ k n l w, (s.writeGaps r gs).stream r.id = { s.stream r.id with pendingGaps := gs.drop k, rseq := n, lastRseq := l, written := w }
      ∧ ((s.stream r.id).rseq < 2 ^ 32 → n = ((s.stream r.id).rseq + k) % 2 ^ 32))
      ∧ ∀ j, j ≠ r.id → (s.writeGaps r gs).stream j = s.stream j := by
  induction gs generalizing s with
  | nil =>
    refine ⟨⟨0, _, _, _, by rw [State.writeGaps, State.updStream_self]; rfl, fun h => (Nat.mod_eq_of_lt h).symm⟩, fun j hj => ?_⟩
    rw [State.writeGaps, State.updStream_ne _ _ hj]
  | cons g gs ih =>
    unfold State.writeGaps
    split
    · obtain ⟨⟨w', hself⟩, hother⟩ := State.writeRecord_streams s r g
      obtain ⟨⟨k, n, l, w, hgaps, hn⟩, hrest⟩ := ih (s.writeRecord r g)
      rw [hself] at hgaps hn
      have hnum := hn (Nat.mod_lt _ (by decide))
      refine ⟨⟨k + 1, n, l, w, hgaps, fun _ => ?_⟩, fun j hj => (hrest j hj).trans (hother j hj)⟩
      dsimp only at hnum
      omega
    · exact ⟨⟨0, _, _, _, State.updStream_self .., fun h => (Nat.mod_eq_of_lt h).symm⟩, fun j hj => State.updStream_ne _ _ hj⟩

/-- With room for the first of them at least one is written. -/
theorem State.writeGaps_takes {s : State} {r : Route} {g : Record} {gs : List Record} (h : s.bufTakes r g.size = true) :
    ∃ k, 1 ≤ k ∧ ((s.writeGaps r (g :: gs)).stream r.id).pendingGaps = (g :: gs).drop k
      ∧ ((s.writeGaps r (g :: gs)).stream r.id).rseq = ((s.stream r.id).rseq + k) % 2 ^ 32
      ∧ ((s.writeGaps r (g :: gs)).stream r.id).closePoint = (s.stream r.id).closePoint := by
  have hw : s.writeGaps r (g :: gs) = (s.writeRecord r g).writeGaps r gs := if_pos h
  obtain ⟨⟨w', hself⟩, -⟩ := State.writeRecord_streams s r g
  obtain ⟨⟨k, n, l, w, hgaps, hn⟩, -⟩ := State.writeGaps_streams r gs (s.writeRecord r g)
  rw [hself] at hgaps hn
  have hnum := hn (Nat.mod_lt _ (by decide))
  rw [hw, hgaps]
  refine ⟨k + 1, by omega, rfl, ?_, rfl⟩
  dsimp only at hnum ⊢
  omega

/-! ## The `EVENTS` record -/

/-- An open `EVENTS` record closes: its items leave as one record, to the host FIFO where there is a port (R491, R493). -/
theorem State.closeEvents_parts {s : State} {e : Event} {es : List Event} (h : s.ev.items = e :: es) :
    s.closeEvents.ev.items = [] ∧ s.closeEvents.ev.rseq = (s.ev.rseq + 1) % 2 ^ 32 ∧ s.closeEvents.ev.eseq = s.ev.eseq
      ∧ (s.evHasPort = true → ∃ x : Record, s.closeEvents.host.waiting = s.host.waiting ++ [x] ∧ x.typ = 0x0A ∧ x.rseq = s.ev.rseq
          ∧ x.stamp = e.stamp ∧ x.items = es.length + 1 ∧ x.payload = s.ev.items.flatMap Event.bytes)
      ∧ (s.evHasPort = false → s.closeEvents.host = s.host) := by
  unfold State.closeEvents
  split
  · next hnil => exact absurd (h.symm.trans hnil) (by simp)
  · next e' es' hcons =>
    obtain ⟨rfl, rfl⟩ : e = e' ∧ es = es' := by simpa using h.symm.trans hcons
    extract_lets x ev v
    have hport : v.evHasPort = s.evHasPort := rfl
    by_cases hp : s.evHasPort = true
    · rw [if_pos (hport.trans hp)]
      refine ⟨rfl, rfl, rfl, fun _ => ⟨x, rfl, rfl, rfl, rfl, ?_, rfl⟩, fun hn => absurd hp (by simp [hn])⟩
      exact congrArg List.length h
    · rw [if_neg (by rwa [hport])]
      exact ⟨rfl, rfl, rfl, fun hy => absurd hy hp, fun _ => rfl⟩

theorem State.eventsTimeout_due {s : State} {e : Event} {es : List Event} (h : s.ev.items = e :: es)
    (hdue : s.ev.openAt + cycPerMs ≤ s.time.cyc) : s.eventsTimeout = s.closeEvents :=
  if_neg (by simp [h, hdue])

/-! ## Events placed with room (R491 to R493) -/

/-- What an `EVT` packet or the I²C queue does not touch: the `EVENTS` stream and what waits for the host FIFO. -/
def State.placed (s : State) := (s.ev, s.host.waiting, s.reg aEvtLost)

theorem State.countQuiet_drop_placed (s : State) : (s.countQuiet aEvtDrop).placed = s.placed := by
  simp [State.placed, State.countQuiet_reg_ne (show aEvtLost ≠ aEvtDrop by decide)]

theorem State.sendEvt_placed (s : State) (e : Event) : (s.sendEvt e).placed = s.placed := by
  unfold State.sendEvt
  split
  · rfl
  · split
    · rfl
    · exact State.countQuiet_drop_placed s

theorem State.queueI2c_placed (s : State) (e : Event) : (s.queueI2c e).placed = s.placed := by
  unfold State.queueI2c
  split
  · rfl
  · exact State.countQuiet_drop_placed s

theorem State.pushEvent_placed {s : State} (e : Event) (h : s.ev.items.length < 63) :
    ∃ n, (s.pushEvent e).placed = ({ s.ev with openAt := n, items := s.ev.items ++ [e] }, s.host.waiting, s.reg aEvtLost) := by
  unfold State.pushEvent
  dsimp only
  rw [if_neg (by simp; omega)]
  exact ⟨_, rfl⟩

/-- An event of a hub that serves, with none lost, room for it and fewer than 63 items open: it becomes the last item. -/
theorem State.place_room {s : State} {c u : Nat} {a : List Word} (hm : s.sys.mode ≠ .hold) (hs : s.isStandby = false)
    (hl : s.ev.lost = 0) (hr : s.evRoom (16 + 4 * a.length) = true) (hn : s.ev.items.length < 63) :
    ∃ (e : Event) (n : Nat), e.code = c ∧ e.eseq = s.ev.eseq ∧ e.args = a ∧ (s.place c u a).placed
      = ({ s.ev with eseq := s.ev.eseq + 1, openAt := n, items := s.ev.items ++ [e] }, s.host.waiting, s.reg aEvtLost) := by
  unfold State.place
  rw [if_neg hm]
  extract_lets e ev v on ev' w
  have hw : w = v.pushEvent e := if_pos (Bool.and_eq_true_iff.2 ⟨decide_eq_true hl, hr⟩)
  have hsv : ¬ v.isStandby = true := by rw [Bool.not_eq_true]; exact hs
  obtain ⟨n, hpush⟩ := State.pushEvent_placed (s := v) e hn
  refine ⟨e, n, rfl, rfl, rfl, ?_⟩
  rw [if_neg hsv]
  split
  · rw [State.queueI2c_placed, State.sendEvt_placed, hw, hpush]
    rfl
  · rw [hw, hpush]
    rfl

/-- An overflow event under the same conditions: one more item, or none where the counter has not just reached its end. -/
theorem State.overflowOf_room {o s : State} {b : Nat} (hm : s.sys.mode ≠ .hold) (hs : s.isStandby = false) (hl : s.ev.lost = 0)
    (hr : s.evRoom 16 = true) (hn : s.ev.items.length < 63) :
    ∃ l, (State.overflowOf o s b).ev.items = s.ev.items ++ l ∧ (State.overflowOf o s b).ev.lost = 0
      ∧ (State.overflowOf o s b).reg aEvtLost = s.reg aEvtLost := by
  unfold State.overflowOf
  split
  · obtain ⟨e, n, -, -, -, hplace⟩ := State.place_room (c := overflowCode b) (u := overflowSubject b) (a := []) hm hs hl hr hn
    simp only [State.placed, Prod.mk.injEq] at hplace
    obtain ⟨hev, -, hreg⟩ := hplace
    exact ⟨[e], by rw [hev], by rw [hev]; exact hl, hreg⟩
  · exact ⟨[], (List.append_nil _).symm, hl, rfl⟩

/-- A counter that has not moved raises no overflow event. -/
theorem State.overflowOf_still {o s : State} {b : Nat} (h : s.reg b = o.reg b) : State.overflowOf o s b = s := by
  unfold State.overflowOf
  rw [h]
  simp

/-- An event raised with room for it and for an overflow event behind it: it is placed, and none is lost. -/
theorem State.raise_room {s : State} {c u : Nat} {a : List Word} (hm : s.sys.mode ≠ .hold) (hs : s.isStandby = false)
    (hl : s.ev.lost = 0) (hr : s.evRoom (32 + 4 * a.length) = true) (hn : s.ev.items.length < 62) :
    ∃ (e : Event) (l : List Event), e.code = c ∧ e.eseq = s.ev.eseq ∧ e.args = a ∧ (s.raise c u a).ev.items = s.ev.items ++ e :: l
      ∧ (s.raise c u a).ev.lost = 0 := by
  have hroom : s.evBytes + (32 + 4 * a.length) + 100 ≤ 262144 := of_decide_eq_true hr
  obtain ⟨e, n, hc, hseq, ha, hplace⟩ :=
    State.place_room (c := c) (u := u) hm hs hl (decide_eq_true (by omega : s.evBytes + (16 + 4 * a.length) + 100 ≤ 262144)) (by omega)
  simp only [State.placed, Prod.mk.injEq] at hplace
  obtain ⟨hev, hwait, hreg⟩ := hplace
  have hbytes : (s.place c u a).evBytes = s.evBytes + (16 + 4 * a.length) := by
    simp [State.evBytes, hev, hwait, Event.size, ha]
    omega
  have hsb : (s.place c u a).isStandby = false := by rw [State.isStandby, State.place_pair]; exact hs
  obtain ⟨l, hitems, hlost, hreg'⟩ := State.overflowOf_room (o := s) (b := aEvtDrop) (s := s.place c u a) (by rwa [State.place_sys]) hsb
    (by rw [hev]; exact hl) (decide_eq_true (by omega : (s.place c u a).evBytes + 16 + 100 ≤ 262144)) (by rw [hev]; simp; omega)
  have hraise : s.raise c u a = State.overflowOf s (s.place c u a) aEvtDrop := State.overflowOf_still (hreg'.trans hreg)
  refine ⟨e, l, hc, hseq, ha, ?_, ?_⟩
  · rw [hraise, hitems, hev, List.append_assoc]
    rfl
  · rw [hraise, hlost]

/-! ## The obligation -/

/-- Settles O44: the record that closes, the item placed ahead of later ones with room to spare, and the records that fit the buffer. -/
theorem waitingRecordsComplete : Obligations.WaitingRecordsComplete := by
  unfold Obligations.WaitingRecordsComplete
  rintro s u t rfl hm
  refine ⟨fun e es he hdue => ?_, fun hl hr hs hn => ?_, fun id r g gs hr hid hgaps hfit => ?_⟩
  · obtain ⟨hitems, hrseq, heseq, hport, hnone⟩ := State.closeEvents_parts (s := s.elapse t) he
    refine ⟨(s.elapse t).closeEvents, ?_, hitems, hrseq, heseq, hport, hnone, State.closeEvents_streams _, State.closeEvents_regs _,
      State.closeEvents_hive _⟩
    rw [exec_eventsRecordTimeout, State.runOn_eq hm, State.eventsTimeout_due (s := s.elapse t) he hdue]
  · let words := BitVec.ofNat 32 s.ev.lost :: (stampWords s.ev.lostFirst ++ stampWords s.ev.lostLast)
    let w : State := { s.elapse t with ev := { s.ev with lost := 0 } }
    have hroom : w.evBytes + 64 + 100 ≤ 262144 := of_decide_eq_true hr
    have hlen : words.length = 5 := rfl
    obtain ⟨e, l, hc, hseq, ha, hitems, hlost⟩ := State.raise_room (s := w) (c := 0x0B06) (u := 0) (a := words) hm hs rfl
      (decide_eq_true (by omega : w.evBytes + (32 + 4 * words.length) + 100 ≤ 262144)) (by show s.ev.items.length < 62; omega)
    refine ⟨w.raise 0x0B06 0 words, ?_, hlost, ⟨e, by simp [hitems], hc, hseq, ha⟩, State.raise_streams .., State.raise_hive ..⟩
    rw [exec_eventsLost, State.runOn_eq hm]
    refine congrArg (fun v : State => Host.Outcome.next (v.finish (s.elapse t))) (if_neg ?_)
    simp [hl, show (s.elapse t).evRoom 64 = true from hr]
  · subst hid
    have heq : (s.elapse t).overflowGaps r.id = (s.elapse t).writeGaps r (g :: gs) := by
      unfold State.overflowGaps
      rw [show (s.elapse t).route r.id = some r from hr, show ((s.elapse t).stream r.id).pendingGaps = g :: gs from hgaps]
    obtain ⟨k, hk, hpend, hrseq, hclose⟩ := State.writeGaps_takes (s := s.elapse t) (gs := gs) hfit
    obtain ⟨-, hother⟩ := State.writeGaps_streams r (g :: gs) (s.elapse t)
    obtain ⟨hsys, -, -, -, -, -, -, -, hmem, -⟩ := State.still_parts (State.writeGaps_still r (g :: gs) (s.elapse t))
    refine ⟨(s.elapse t).writeGaps r (g :: gs), k, ?_, hk, hpend, hrseq, hclose, hother, hsys, hmem⟩
    rw [exec_overflowGapWrite, State.runOn_eq hm, heq]

end Sys2Proof.Machine

/-! Streams and `DR_CFG` (R24, R494, R499, R509). -/

namespace Sys2Proof.Machine

/-! ## What an event raised does not touch -/

/-- The ports but for the I²C event queue, and the host FIFO but for its packets and what waits to become packets. -/
def State.besideEvents (s : State) := (({ s.ports with i2cQueue := [] } : Ports), ({ s.host with q := [], waiting := [] } : Fifo))

@[simp] theorem State.setReg_besideEvents (s : State) (a : Nat) (v : Word) : (s.setReg a v).besideEvents = s.besideEvents := rfl

@[simp] theorem State.countQuiet_besideEvents (s : State) (a : Nat) : (s.countQuiet a).besideEvents = s.besideEvents := by
  unfold State.countQuiet
  split <;> rfl

@[simp] theorem State.closeEvents_besideEvents (s : State) : s.closeEvents.besideEvents = s.besideEvents := by
  unfold State.closeEvents
  split
  · rfl
  · dsimp only
    split <;> rfl

@[simp] theorem State.pushEvent_besideEvents (s : State) (e : Event) : (s.pushEvent e).besideEvents = s.besideEvents := by
  unfold State.pushEvent
  dsimp only
  split
  · exact State.closeEvents_besideEvents _
  · rfl

@[simp] theorem State.sendEvt_besideEvents (s : State) (e : Event) : (s.sendEvt e).besideEvents = s.besideEvents := by
  unfold State.sendEvt
  split
  · rfl
  · split
    · rfl
    · exact State.countQuiet_besideEvents ..

@[simp] theorem State.queueI2c_besideEvents (s : State) (e : Event) : (s.queueI2c e).besideEvents = s.besideEvents := by
  unfold State.queueI2c
  split
  · rfl
  · exact State.countQuiet_besideEvents ..

@[simp] theorem State.place_besideEvents (s : State) (c u : Nat) (a : List Word) : (s.place c u a).besideEvents = s.besideEvents := by
  unfold State.place
  dsimp only
  repeat' split
  all_goals simp
  all_goals rfl

@[simp] theorem State.overflowOf_besideEvents (o s : State) (a : Nat) : (State.overflowOf o s a).besideEvents = s.besideEvents := by
  unfold State.overflowOf
  split
  · exact State.place_besideEvents ..
  · rfl

@[simp] theorem State.raise_besideEvents (s : State) (c u : Nat) (a : List Word) : (s.raise c u a).besideEvents = s.besideEvents := by
  simp [State.raise]

@[simp] theorem State.bump_besideEvents (s : State) (a : Nat) : (s.bump a).besideEvents = s.besideEvents := by
  unfold State.bump
  dsimp only
  split <;> simp

theorem State.bump_host_s (s : State) (a : Nat) : (s.bump a).host.s = s.host.s :=
  congrArg (fun x => x.2.s) (State.bump_besideEvents s a)

theorem State.bump_bootRunning (s : State) (a : Nat) : (s.bump a).ports.bootRunning = s.ports.bootRunning :=
  congrArg (fun x => x.1.bootRunning) (State.bump_besideEvents s a)

theorem State.raise_bootRunning (s : State) (c u : Nat) (a : List Word) : (s.raise c u a).ports.bootRunning = s.ports.bootRunning :=
  congrArg (fun x => x.1.bootRunning) (State.raise_besideEvents s c u a)

theorem State.guardFail_bootRunning (s : State) (p : Port) : (s.guardFail p).ports.bootRunning = s.ports.bootRunning := by
  unfold State.guardFail
  split
  · rw [State.bump_bootRunning, State.raise_bootRunning]
    rfl
  · rfl

/-! ## Opcodes -/

theorem State.applyPacket_streamOpen {s : State} {p : Packet} (avs : AvsAnswer) (h : p.opcode = 0x48) :
    s.applyPacket p avs = s.opStreamOpen p := by
  have : p.opcode.toNat = 0x48 := by rw [h]; rfl
  simp only [State.applyPacket, this]

theorem State.applyPacket_streamClose {s : State} {p : Packet} (avs : AvsAnswer) (h : p.opcode = 0x49) :
    s.applyPacket p avs = s.opStreamClose p := by
  have : p.opcode.toNat = 0x49 := by rw [h]; rfl
  simp only [State.applyPacket, this]

theorem State.applyPacket_ack {s : State} {p : Packet} (avs : AvsAnswer) (h : p.opcode = 0x4A) :
    s.applyPacket p avs = s.opAck p := by
  have : p.opcode.toNat = 0x4A := by rw [h]; rfl
  simp only [State.applyPacket, this]

/-- A row whose command's reply comes later (R494). -/
theorem exec_later {s y : State} {t : Nat} {c : Instr} {q : Packet} (hc : exec c s = s.runOn t fun s => State.take q s)
    (hq : Admits (s.elapse t) q) (h : (s.elapse t).effect q = (.later, y)) : exec c s = .next (y.finish (s.elapse t)) := by
  rw [hc, State.runOn_take hq, h]
  rfl

/-! ## Opening and closing (R24, R36, R494) -/

theorem State.opStreamOpen_ok {s : State} {p : Packet} {r : Route} (hr : s.route p.addr.toNat = some r)
    (hst : (s.stream p.addr.toNat).st ≠ 1) (hc : (s.stream p.addr.toNat).closing = none)
    (hg : (s.stream p.addr.toNat).pendingGaps = []) (hh : s.streamHeld p.addr.toNat = false) (hx : s.routeChanges r = false)
    (ha : s.acquiring = true) : s.opStreamOpen p = (Reply.ok, (s.nectarOpen p.addr.toNat).openStream r) := by
  unfold State.opStreamOpen
  simp [hr, hst, hc, hg, hh, hx, ha]

/-- A stream opened starts anew: nothing written, no items, its numbers at 0. -/
theorem State.openStream_self (s : State) (r : Route) :
    ((s.openStream r).stream r.id).st = 1 ∧ ((s.openStream r).stream r.id).rseq = 0 ∧ ((s.openStream r).stream r.id).recItems = []
      ∧ ((s.openStream r).stream r.id).openAt = s.time.now := by
  unfold State.openStream
  extract_lets s0 cols
  rw [State.updStream_self]
  exact ⟨rfl, rfl, rfl, rfl⟩

theorem State.openStream_ne (s : State) (r : Route) {j : Nat} (h : j ≠ r.id) : (s.openStream r).stream j = s.stream j :=
  State.updStream_ne _ _ h

/-- An open stream with an open record closes once that record has (R494). -/
theorem State.opStreamClose_waits {s : State} {p : Packet} {r : Route} (hr : s.route p.addr.toNat = some r)
    (hst : (s.stream p.addr.toNat).st = 1) (hc : (s.stream p.addr.toNat).closing = none)
    (hi : (s.stream p.addr.toNat).recItems ≠ []) :
    s.opStreamClose p = (.later, s.updStream p.addr.toNat fun st => { st with closing := some p }) := by
  unfold State.opStreamClose
  simp [hr, hst, hc, hi]

theorem State.opStreamClose_ends {s : State} {p : Packet} {r : Route} (hr : s.route p.addr.toNat = some r)
    (hst : (s.stream p.addr.toNat).st = 1) (hc : (s.stream p.addr.toNat).closing = none)
    (hi : (s.stream p.addr.toNat).recItems = []) :
    s.opStreamClose p = (.later, (s.updStream p.addr.toNat fun st => { st with closing := some p }).endOpening r) := by
  unfold State.opStreamClose
  simp [hr, hst, hc, hi]

theorem State.opStreamClose_closed {s : State} {p : Packet} {r : Route} (hr : s.route p.addr.toNat = some r)
    (hst : (s.stream p.addr.toNat).st ≠ 1) (hg : (s.stream p.addr.toNat).pendingGaps = []) :
    s.opStreamClose p = (.done stOk (toLE 4 (s.stream p.addr.toNat).lastRseq
      ++ toLE 6 (s.stream p.addr.toNat).closePoint.toNat ++ [0, 0]), s) := by
  unfold State.opStreamClose
  simp [hr, hst, hg]

/-- The end of an opening: the stream stops at its close point, whatever final `GAP` records its buffer takes (R36, R37). -/
theorem State.endOpening_stream {s : State} {r : Route} (h : (s.stream r.id).st = 1) :
    ((s.endOpening r).stream r.id).st = 0 ∧ ((s.endOpening r).stream r.id).closePoint = s.closeStamp r (s.stream r.id)
      ∧ ((s.endOpening r).stream r.id).closing = (s.stream r.id).closing
      ∧ ∀ j, j ≠ r.id → (s.endOpening r).stream j = s.stream j := by
  unfold State.endOpening
  extract_lets st c gaps v
  rw [if_pos h]
  obtain ⟨⟨k, n, l, w, hself, -⟩, hother⟩ := State.writeGaps_streams r gaps v
  have hv : v.stream r.id = { s.stream r.id with st := 0, closePoint := c, cols := [], recItems := [] } := State.updStream_self ..
  rw [hself, hv]
  exact ⟨rfl, rfl, rfl, fun j hj => (hother j hj).trans (State.updStream_ne _ _ hj)⟩

/-! ## Acknowledgement (R494, R499) -/

/-- The state once an entry of a stream is applied: its place moves, what it acknowledges is released, and the retry times start anew. -/
def State.acknowledged (s : State) (id k : Nat) : State :=
  let anew := fun (o : Option Nat) => if k = (s.stream id).acked then o else o.map fun _ => s.time.cyc
  { s.updStream id fun st => { st with acked := k } with
    host := s.host.release id k
    drip := s.drip.release id k
    time := { s.time with relayHeld := anew s.time.relayHeld }
    ports := { s.ports with dripHeld := anew s.ports.dripHeld } }

theorem State.acknowledged_self (s : State) (id k : Nat) :
    (s.acknowledged id k).stream id = { s.stream id with acked := k } :=
  State.updStream_self s id fun st => { st with acked := k }

theorem State.acknowledged_ne (s : State) {id j : Nat} (k : Nat) (h : j ≠ id) : (s.acknowledged id k).stream j = s.stream j :=
  State.updStream_ne s (fun st => { st with acked := k }) h

theorem State.ackOne_applies {routed : Nat → Bool} {s : State} {id k : Nat} (h0 : id ≠ 0) (hr : routed id = true)
    (hn : (s.stream id).rseq ≠ 0) (hd : (k + 2 ^ 32 - (s.stream id).acked) % 2 ^ 32
      ≤ (((s.stream id).rseq + 2 ^ 32 - 1) % 2 ^ 32 + 2 ^ 32 - (s.stream id).acked) % 2 ^ 32) :
    s.ackOne routed id k = (s.acknowledged id k, true) := by
  unfold State.ackOne
  have hcond : ((decide (id = 0) || routed id) && ((s.stream id).lastRseq != 0xFFFF_FFFF || (s.stream id).rseq != 0)
      && decide ((k + 2 ^ 32 - (s.stream id).acked) % 2 ^ 32
        ≤ (((s.stream id).rseq + 2 ^ 32 - 1) % 2 ^ 32 + 2 ^ 32 - (s.stream id).acked) % 2 ^ 32)) = true := by
    rw [hr, bne_iff_ne.2 hn, Bool.or_true, Bool.or_true, Bool.true_and, Bool.true_and, decide_eq_true_eq]
    exact hd
  rw [if_neg h0]
  dsimp only
  rw [if_pos hcond, if_neg h0]
  rfl

theorem chunks_whole {α : Type} {n : Nat} {xs : List α} (h : xs.length = n) (hn : n ≠ 0) : chunks n n xs = [xs] := by
  obtain ⟨m, rfl⟩ := Nat.exists_eq_succ_of_ne_zero hn
  cases xs with
  | nil => exact absurd h.symm hn
  | cons x xs =>
    rw [chunks, List.take_of_length_le h.le, List.drop_of_length_le h.le]
    · cases m <;> rfl
    · simp

/-- A rewind of the host FIFO counts once (R499). -/
theorem State.rewindHost_counted (s : State) : s.rewindHost.reg 0x000B_004C
    = if s.reg 0x000B_004C = 0xFFFF_FFFF then 0xFFFF_FFFF else s.reg 0x000B_004C + 1 := by
  refine (State.bump_reg (s := { s with host := s.host.rewind }) (a := 0x000B_004C) (by decide) (by decide)).trans ?_
  show (if s.reg 0x000B_004C = 0xFFFF_FFFF then s.reg 0x000B_004C else s.reg 0x000B_004C + 1) = _
  split
  · assumption
  · rfl

/-- An `ACK` of one entry that is applied, on a hub that is not paired. -/
theorem State.opAck_applies {s : State} {p : Packet} {id k : Nat} {r : Route} (hrole : s.pair.role = 0) (hp : p.port = .host)
    (hl : p.payload.length = 8) (hid : leAt p.payload 0 2 = id) (hk : leAt p.payload 4 4 = k) (h0 : id ≠ 0)
    (hr : s.route id = some r) (hn : (s.stream id).rseq ≠ 0) (hd : (k + 2 ^ 32 - (s.stream id).acked) % 2 ^ 32
      ≤ (((s.stream id).rseq + 2 ^ 32 - 1) % 2 ^ 32 + 2 ^ 32 - (s.stream id).acked) % 2 ^ 32) :
    s.opAck p = (.done stOk (toLE 4 1),
      if p.pflag 1 = true then (s.acknowledged id k).rewindHost else s.acknowledged id k) := by
  have hone := State.ackOne_applies (routed := fun i => (s.route i).isSome) h0 (by simp [hr]) hn hd
  have hall : s.ackAll (fun i => (s.route i).isSome) (chunks 8 p.payload.length p.payload) = (s.acknowledged id k, [(id, k)]) := by
    rw [hl, chunks_whole hl (by decide), State.ackAll, hid, hk, hone]
    rfl
  have hrelay : (s.acknowledged id k).relayAck [(id, k)] = s.acknowledged id k :=
    if_neg (by simp [State.isActive, show (s.acknowledged id k).pair.role = 0 from hrole])
  unfold State.opAck
  dsimp only
  rw [hall, hp]
  dsimp only
  rw [hrelay]
  simp [hl, State.portRewind]

/-! ## The drip port (R509) -/

/-- A write of `DR_CFG` with `EN` while no boot runs holds its bits. -/
theorem State.writePlain_drCfg {s : State} {v : Word} (avs : AvsAnswer) (h : s.ports.bootRunning = false) :
    s.writePlain .host 0x000B_0080 v avs = (Reply.ok, s.setReg 0x000B_0080 (v &&& 0xFF03)) := by
  show s.writeDrCfg v.toNat = _
  simp [State.writeDrCfg, h]

theorem leAt_lt (bs : List Byte) (o n : Nat) : leAt bs o n < 256 ^ n :=
  (fromLE_lt _).trans_le (Nat.pow_le_pow_right (by decide) (List.length_take_le ..))

/-- `EN` is implemented: a word with it keeps it. -/
theorem bit_drCfg_en (v : Word) : bit ((v ||| 1) &&& 0xFF03).toNat 0 = true := by
  simp [bit]

/-! ## The obligation -/

/-- Settles O46: each command as its operation's effect at the host port, and that effect on the one stream and on the FIFOs. -/
theorem streamsComplete : Obligations.StreamsComplete := by
  unfold Obligations.StreamsComplete
  rintro s u t id p q r rfl hr rfl
  refine ⟨?_, ?_, ?_, ?_, ?_, ?_⟩
  · rintro rfl hq hid hst hc hg hh hx ha
    let v := (s.elapse t).admitted (p.withOp 0x48)
    have hop : (s.elapse t).effect (p.withOp 0x48) = (Reply.ok, (v.nectarOpen r.id).openStream r) := by
      rw [← hid] at hr hst hc hg hh ⊢
      rw [State.effect, State.applyPacket_streamOpen _ rfl]
      exact State.opStreamOpen_ok hr hst hc hg hh hx ha
    obtain ⟨hst', hseq, hitems, hat⟩ := State.openStream_self (v.nectarOpen r.id) r
    exact ⟨_, exec_answers (exec_streamOpen t p s) hq hop, hst', hseq, hitems, hat,
      fun j hj => State.openStream_ne (v.nectarOpen r.id) r hj, rfl, rfl, rfl⟩
  · rintro rfl hq hid hst hc hi
    let v := (s.elapse t).admitted (p.withOp 0x49)
    have hop : (s.elapse t).effect (p.withOp 0x49)
        = (.later, v.updStream r.id fun st => { st with closing := some (p.withOp 0x49) }) := by
      rw [← hid] at hr hst hc hi ⊢
      rw [State.effect, State.applyPacket_streamClose _ rfl]
      exact State.opStreamClose_waits (r := r) hr hst hc hi
    refine ⟨_, exec_later (exec_streamClose t p s) hq hop, ?_, ?_, ?_, fun j hj => State.updStream_ne v _ hj, rfl, rfl⟩
    all_goals rw [State.updStream_self]
    · exact hst
    · rfl
  · rintro rfl hq hid hst hc hi
    let v := (s.elapse t).admitted (p.withOp 0x49)
    let w := v.updStream r.id fun st => { st with closing := some (p.withOp 0x49) }
    have hop : (s.elapse t).effect (p.withOp 0x49) = (.later, w.endOpening r) := by
      rw [← hid] at hr hst hc hi
      rw [State.effect, State.applyPacket_streamClose _ rfl]
      refine (State.opStreamClose_ends (s := v) (p := p.withOp 0x49) (r := r) hr hst hc hi).trans ?_
      rw [show (p.withOp 0x49).addr.toNat = r.id from hid]
    have hself : w.stream r.id = { s.stream r.id with closing := some (p.withOp 0x49) } := State.updStream_self ..
    obtain ⟨hst', hpoint, hclosing, hother⟩ := State.endOpening_stream (s := w) (r := r) (by rw [hself]; exact hst)
    rw [hself] at hpoint hclosing
    obtain ⟨hsys, -, -, -, -, -, -, -, hmem, -⟩ := State.still_parts (State.endOpening_still w r)
    exact ⟨_, exec_later (exec_streamClose t p s) hq hop, hclosing, hst', hpoint,
      fun j hj => (hother j hj).trans (State.updStream_ne v _ hj), hmem, hsys⟩
  · rintro rfl hq hid hst hg
    refine exec_answers (exec_streamClose t p s) hq ?_
    rw [← hid] at hr hst hg ⊢
    rw [State.effect, State.applyPacket_streamClose _ rfl]
    exact State.opStreamClose_closed (r := r) hr hst hg
  · rintro k rfl hq hl hid hk h0 hn hd
    let v := (s.elapse t).admitted (p.withOp 0x4A)
    let w := v.acknowledged r.id k
    have hop : (s.elapse t).effect (p.withOp 0x4A) = (.done stOk (toLE 4 1), if p.pflag 1 = true then w.rewindHost else w) := by
      rw [State.effect, State.applyPacket_ack _ rfl]
      exact State.opAck_applies (s := v) hq.single hq.port hl hid hk h0 hr hn hd
    have hself : w.stream r.id = { s.stream r.id with acked := k } := State.acknowledged_self v r.id k
    have hother : ∀ j, j ≠ r.id → w.stream j = s.stream j := fun j hj => State.acknowledged_ne v k hj
    have hstreams : w.rewindHost.streams = w.streams := State.bump_streams ..
    refine ⟨_, exec_answers (exec_ack t p s) hq hop, ?_⟩
    cases hp : p.pflag 1 with
    | false => exact ⟨congrArg Stream.acked hself, hother, fun _ => ⟨rfl, rfl, rfl⟩, fun h => absurd h (by decide), rfl⟩
    | true =>
      refine ⟨?_, fun j hj => ?_, fun h => absurd h (by decide), fun _ => ⟨State.bump_host_s .., State.bump_drip .., ?_⟩,
        State.bump_hive ..⟩
      · show (w.rewindHost.stream r.id).acked = k
        rw [State.stream, hstreams]
        exact congrArg Stream.acked hself
      · show w.rewindHost.stream j = s.stream j
        rw [State.stream, hstreams]
        exact hother j hj
      · exact State.rewindHost_counted w
  · rintro rfl hq hb
    have hlt : leAt p.payload 0 4 ||| 1 < 2 ^ 32 := Nat.or_lt_two_pow (leAt_lt ..) (by decide)
    let v := ((s.elapse t).admitted (p.writing 0x000B_0080 (leAt p.payload 0 4 ||| 1))).guardFail .host
    have hop : (s.elapse t).effect (p.writing 0x000B_0080 (leAt p.payload 0 4 ||| 1))
        = (Reply.ok, v.setReg 0x000B_0080 (BitVec.ofNat 32 (leAt p.payload 0 4 ||| 1) &&& 0xFF03)) := by
      rw [State.effect_writing (p := p) hq.port (by decide) hlt rfl rfl rfl rfl,
        State.writePlain_drCfg (s := v) _ ((State.guardFail_bootRunning ..).trans hb)]
      rfl
    refine ⟨_, exec_answers (exec_drCfgEnWrite t p s) hq hop, ?_, ?_, State.guardFail_streams .., State.guardFail_hive ..,
      State.guardFail_cfg ..⟩
    · rw [State.reg_setReg_self, BitVec.ofNat_or]
      rfl
    · rw [State.regN, State.reg_setReg_self, BitVec.ofNat_or]
      exact bit_drCfg_en _

end Sys2Proof.Machine

/-! SUPPORT. The local channels' operations (R56 to R80): each changes its own channel and leaves the others, and most change
nothing beside the field die. -/

namespace Sys2Proof.Machine

/-- Every part of the state but the field die. -/
def State.besideField (s : State) : State := { s with field := {} }

theorem State.besideField_parts {s t : State} (h : t.besideField = s.besideField) :
    t.regs = s.regs ∧ t.streams = s.streams ∧ t.hive = s.hive :=
  ⟨(congrArg State.regs h :), (congrArg State.streams h :), (congrArg State.hive h :)⟩

/-- The local channels other than k. -/
def State.others (k : Nat) (s : State) (j : { j : Nat // j ≠ k }) : Local := s.local' j

theorem State.local_of_others {k j : Nat} {s t : State} (h : t.others k = s.others k) (hj : j ≠ k) : t.local' j = s.local' j :=
  congrFun h ⟨j, hj⟩

/-- What the local channels share: the field die but for the channels. -/
def State.dieShared (s : State) : Field := { s.field with ch := [] }

theorem State.local_of_field {s t : State} (h : t.field = s.field) (k : Nat) : t.local' k = s.local' k := by
  rw [State.local', h, State.local']

@[simp] theorem State.setReg_local (s : State) (a : Nat) (v : Word) (k : Nat) : (s.setReg a v).local' k = s.local' k := rfl
@[simp] theorem State.bump_local (s : State) (a k : Nat) : (s.bump a).local' k = s.local' k :=
  State.local_of_field (State.bump_field ..) k
@[simp] theorem State.raise_local (s : State) (c x : Nat) (a : List Word) (k : Nat) : (s.raise c x a).local' k = s.local' k :=
  State.local_of_field (State.raise_field ..) k

@[simp] theorem State.updLocal_besideField (s : State) (k : Nat) (f : Local → Local) :
    (s.updLocal k f).besideField = s.besideField := rfl
@[simp] theorem State.updLocal_dieShared (s : State) (k : Nat) (f : Local → Local) : (s.updLocal k f).dieShared = s.dieShared := rfl
@[simp] theorem State.bump_dieShared (s : State) (a : Nat) : (s.bump a).dieShared = s.dieShared := by
  simp [State.dieShared]
@[simp] theorem State.updLocal_others (s : State) (k : Nat) (f : Local → Local) : (s.updLocal k f).others k = s.others k :=
  funext fun j => State.updLocal_ne s f j.2
@[simp] theorem State.bump_others (s : State) (a k : Nat) : (s.bump a).others k = s.others k :=
  funext fun j => State.bump_local s a j
@[simp] theorem State.raise_others (s : State) (c x : Nat) (a : List Word) (k : Nat) : (s.raise c x a).others k = s.others k :=
  funext fun j => State.raise_local s c x a j

/-- The channels in use follow from the variant and the channels' settings. -/
theorem State.localsUsed_congr {s t : State} (hv : t.sys.variant = s.sys.variant) (hf : ∀ k, (t.local' k).fe = (s.local' k).fe) :
    t.localsUsed = s.localsUsed := by
  simp only [State.localsUsed, State.localChs, hv, hf]

/-! ## Faults of a drive (R56, R57) -/

@[simp] theorem State.markFault_besideField (s : State) (k : Nat) : (s.markFault k).besideField = s.besideField := rfl
@[simp] theorem State.markFault_others (s : State) (k : Nat) : (s.markFault k).others k = s.others k := State.updLocal_others ..

/-- A fault that holds is noted in the window under way, if that has started. -/
theorem State.markFault_self {s : State} {k : Nat} (h : ((s.local' k).limiting || (s.local' k).compliance) = true) :
    (s.markFault k).local' k
      = { s.local' k with window := (s.local' k).window.map fun w => { w with fault := w.fault || decide (w.start ≤ s.ns) } } := by
  rw [State.markFault, State.updLocal_self, if_pos h]

/-- A drive's fault sets its bit of `FD_EXC_FAULT`, and is noted in the window under way. -/
theorem State.excFault_reg (s : State) (k : Nat) :
    (s.excFault k).reg 0x0100_0020 = s.reg 0x0100_0020 ||| BitVec.ofNat 32 (2 ^ k) :=
  State.reg_setReg_self ..

@[simp] theorem State.excFault_others (s : State) (k : Nat) : (s.excFault k).others k = s.others k :=
  State.markFault_others (s.setReg 0x0100_0020 (s.reg 0x0100_0020 ||| BitVec.ofNat 32 (2 ^ k))) k

theorem State.excFault_self {s : State} {k : Nat} (h : ((s.local' k).limiting || (s.local' k).compliance) = true) :
    (s.excFault k).local' k
      = { s.local' k with window := (s.local' k).window.map fun w => { w with fault := w.fault || decide (w.start ≤ s.ns) } } :=
  State.markFault_self (s := s.setReg 0x0100_0020 (s.reg 0x0100_0020 ||| BitVec.ofNat 32 (2 ^ k))) h

@[simp] theorem State.setCompliance_besideField (s : State) (k : Nat) (b : Bool) :
    (s.setCompliance k b).besideField = s.besideField := by
  unfold State.setCompliance
  split
  · rfl
  · rw [State.updLocal_besideField]

@[simp] theorem State.setCompliance_others (s : State) (k : Nat) (b : Bool) : (s.setCompliance k b).others k = s.others k := by
  unfold State.setCompliance
  split
  · rfl
  · exact State.updLocal_others ..

/-- Compliance takes its value, and the window under way stays as it is. -/
theorem State.setCompliance_self (s : State) (k : Nat) (b : Bool) :
    ((s.setCompliance k b).local' k).compliance = b ∧ ((s.setCompliance k b).local' k).window = (s.local' k).window := by
  unfold State.setCompliance
  split
  · next h => exact ⟨h, rfl⟩
  · rw [State.updLocal_self]
    exact ⟨rfl, rfl⟩

/-! ## A drive switches (R59, R67) -/

@[simp] theorem State.setDrive_besideField (s : State) (k : Nat) (on : Bool) : (s.setDrive k on).besideField = s.besideField := by
  unfold State.setDrive
  split
  · rfl
  · rw [State.updLocal_besideField, State.markFault_besideField]

@[simp] theorem State.setDrive_others (s : State) (k : Nat) (on : Bool) : (s.setDrive k on).others k = s.others k := by
  unfold State.setDrive
  split
  · rfl
  · rw [State.updLocal_others, State.markFault_others]

theorem State.setDrive_excOn (s : State) (k : Nat) (on : Bool) : ((s.setDrive k on).local' k).excOn = on := by
  unfold State.setDrive
  split
  · next h => exact h
  · rw [State.updLocal_self]
    rfl

@[simp] theorem State.pulseDone_besideField (s : State) (k : Nat) : (s.pulseDone k).besideField = s.besideField := by
  unfold State.pulseDone
  dsimp only
  split
  · rw [State.updLocal_besideField]
  · rfl

@[simp] theorem State.pulseDone_others (s : State) (k : Nat) : (s.pulseDone k).others k = s.others k := by
  unfold State.pulseDone
  dsimp only
  split
  · exact State.updLocal_others ..
  · rfl

/-- One channel's drive switches off, its window under way going on without excitation: the step that `State.drivesOff` takes
for each channel in use. -/
def State.driveOff (s : State) (k : Nat) : State :=
  ((s.pulseDone k).setDrive k false).updLocal k fun l =>
    if l.fe.mode = 0 then l else { l with window := l.window.map fun w => { w with noDrive := true } }

theorem State.drivesOff_eq (s : State) : s.drivesOff = s.localsUsed.foldl State.driveOff s := rfl

theorem State.driveOff_besideField (s : State) (k : Nat) : (s.driveOff k).besideField = s.besideField := by
  simp [State.driveOff]

theorem State.driveOff_others (s : State) (k : Nat) : (s.driveOff k).others k = s.others k := by
  simp [State.driveOff]

theorem State.driveOff_excOn (s : State) (k : Nat) : ((s.driveOff k).local' k).excOn = false := by
  rw [State.driveOff, State.updLocal_self]
  simp only [apply_ite Local.excOn, ite_self, State.setDrive_excOn]

/-- A drive once off stays off as others switch off. -/
theorem State.driveOffs_excOn (ks : List Nat) (s : State) (j : Nat) (h : j ∈ ks ∨ (s.local' j).excOn = false) :
    ((ks.foldl State.driveOff s).local' j).excOn = false := by
  induction ks generalizing s with
  | nil => simpa using h
  | cons k ks ih =>
    refine ih (s.driveOff k) ?_
    by_cases hj : j = k
    · subst hj
      exact .inr (State.driveOff_excOn s j)
    · rw [State.local_of_others (State.driveOff_others s k) hj]
      simpa [hj] using h

theorem State.drivesOff_besideField (s : State) : s.drivesOff.besideField = s.besideField :=
  (congrArg State.besideField s.drivesOff_eq).trans (foldl_keeps State.driveOff_besideField ..)

/-! ## The commands' operations where their conditions hold -/

theorem State.pulseOn_due {s : State} {k : Nat} (ha : s.driveAllowed k = true) (hr : s.localsRun = true)
    (ho : (s.local' k).origin.isSome = true) (hd : s.localSlotNs k (s.local' k).next ≤ s.ns + (s.local' k).fe.preNs) :
    s.pulseOn k = s.setDrive k true :=
  if_pos (by simp [State.pulseDue, State.pulseDueFor, ha, hr, ho, hd])

theorem State.limitEngages_driven {s : State} {k : Nat} (hon : (s.local' k).excOn = true) (hm : (s.local' k).fe.mode = 1) :
    s.limitEngages k = (s.updLocal k fun l => { l with limiting := true }).excFault k :=
  if_pos (by simp [hon, hm])

theorem State.complianceLost_driven {s : State} {k : Nat} (hon : (s.local' k).excOn = true) (hm : (s.local' k).fe.mode = 2) :
    s.complianceLost k = (s.setCompliance k true).excFault k :=
  if_pos (by simp [hon, hm])

/-! ## The enable (R66, R67) -/

/-- The guarded write of `SYS_EXC_ENABLE` (R66): it is refused, or the register holds what was written. -/
theorem State.guardedWrite_excEnable (s : State) (p : Packet) (v : Word) :
    s.guardedWrite p 0x18 v
      = ((s.setExcEnable (bit v.toNat 0)).1, if (s.setExcEnable (bit v.toNat 0)).1.status = stOk
          then (s.setExcEnable (bit v.toNat 0)).2.setReg 0x18 (v &&& 1) else (s.setExcEnable (bit v.toNat 0)).2) := rfl

/-- The hub with the enable taken. -/
def State.withExcEn (s : State) (on : Bool) : State := { s with sys := { s.sys with excEn := on } }

theorem State.setExcEnable_on {s : State} (h : s.field.otpOk = true) : s.setExcEnable true = (Reply.ok, s.withExcEn true) := by
  simp [State.setExcEnable, State.withExcEn, h]

theorem State.setExcEnable_off (s : State) : s.setExcEnable false = (Reply.ok, (s.withExcEn false).drivesOff) := rfl

/-- The state in which a guarded write at the host port is served: what waited on the port's guard is cancelled. -/
def State.unguarded (s : State) (q : Packet) : State := (s.admitted q).guardFail .host

theorem State.unguarded_parts (s : State) (q : Packet) :
    (s.unguarded q).sys = s.sys ∧ (s.unguarded q).field = s.field ∧ (s.unguarded q).streams = s.streams
      ∧ (s.unguarded q).hive = s.hive :=
  ⟨State.guardFail_sys .., State.guardFail_field .., State.guardFail_streams .., State.guardFail_hive ..⟩

/-- The enable is set (R66). -/
theorem State.effect_excEnable {s : State} {p : Packet} (hp : p.port = .host) (h : s.field.otpOk = true) :
    ∃ w : State, s.effect (p.guarding 0x18 1) = (Reply.ok, w) ∧ w.sys.excEn = true ∧ w.reg 0x18 = 1 ∧ w.field = s.field
      ∧ w.streams = s.streams ∧ w.hive = s.hive := by
  obtain ⟨-, hfield, hstr, hhive⟩ := s.unguarded_parts (p.guarding 0x18 1)
  have heff : s.effect (p.guarding 0x18 1) = (s.unguarded (p.guarding 0x18 1)).guardedWrite (p.guarding 0x18 1) 0x18 1 :=
    State.effect_guarding hp (by decide) (by decide)
  generalize s.unguarded (p.guarding 0x18 1) = v at *
  refine ⟨(v.withExcEn true).setReg 0x18 1, ?_, rfl, State.reg_setReg_self .., hfield, hstr, hhive⟩
  rw [heff, State.guardedWrite_excEnable, show bit (1 : Word).toNat 0 = true from rfl, State.setExcEnable_on (hfield ▸ h)]
  rfl

/-- The enable is cleared, and every drive switches off (R67). -/
theorem State.effect_excDisable {s : State} {p : Packet} (hp : p.port = .host) :
    ∃ w : State, s.effect (p.guarding 0x18 0) = (Reply.ok, w) ∧ w.sys.excEn = false ∧ w.reg 0x18 = 0
      ∧ (∀ j, j ∈ s.localsUsed → (w.local' j).excOn = false) ∧ w.streams = s.streams ∧ w.hive = s.hive := by
  obtain ⟨hsys, hfield, hstr, hhive⟩ := s.unguarded_parts (p.guarding 0x18 0)
  have heff : s.effect (p.guarding 0x18 0) = (s.unguarded (p.guarding 0x18 0)).guardedWrite (p.guarding 0x18 0) 0x18 0 :=
    State.effect_guarding hp (by decide) (by decide)
  generalize s.unguarded (p.guarding 0x18 0) = v at *
  have hused : (v.withExcEn false).localsUsed = s.localsUsed :=
    State.localsUsed_congr (congrArg (·.variant) hsys) fun j => congrArg Local.fe (State.local_of_field hfield j)
  have hbeside := State.drivesOff_besideField (v.withExcEn false)
  obtain ⟨-, hstr', hhive'⟩ := State.besideField_parts hbeside
  refine ⟨(v.withExcEn false).drivesOff.setReg 0x18 0, ?_, (congrArg (·.sys.excEn) hbeside :), State.reg_setReg_self ..,
    fun j hj => ?_, hstr'.trans hstr, hhive'.trans hhive⟩
  · rw [heff, State.guardedWrite_excEnable, show bit (0 : Word).toNat 0 = false from rfl, State.setExcEnable_off]
    rfl
  · rw [State.setReg_local]
    exact State.driveOffs_excOn _ _ j (.inl (hused ▸ hj))

/-! ## The obligation -/

/-- Settles O18: each command as the operation it runs, and that operation's effect on its own channel and on nothing else. -/
theorem drivesComplete : Obligations.DrivesComplete := by
  unfold Obligations.DrivesComplete
  rintro s u t k rfl hm
  refine ⟨fun ha hr ho hd => ?_, fun hon hmode => ?_, ?_, fun hon hmode => ?_, ?_, fun p hq hotp => ?_, fun p hq => ?_⟩
  · obtain ⟨hregs, hstr, hhive⟩ := State.besideField_parts (State.setDrive_besideField (s.elapse t) k true)
    refine ⟨(s.elapse t).pulseOn k, (exec_excitationPulseOn t k s).trans (State.runOn_eq hm t _), ?_⟩
    rw [State.pulseOn_due ha hr ho hd]
    exact ⟨State.setDrive_excOn .., fun j => State.local_of_others (State.setDrive_others ..), hregs, hstr, hhive⟩
  · refine ⟨(s.elapse t).limitEngages k, (exec_excLimitEngage t k s).trans (State.runOn_eq hm t _), ?_⟩
    rw [State.limitEngages_driven hon hmode]
    have hself := State.excFault_self (s := (s.elapse t).updLocal k fun l => { l with limiting := true }) (k := k) (by simp)
    rw [State.updLocal_self] at hself
    exact ⟨by rw [hself], State.excFault_reg .., by rw [hself]; rfl,
      fun j => State.local_of_others ((State.excFault_others ..).trans (State.updLocal_others ..)), rfl, rfl⟩
  · exact ⟨(s.elapse t).limitEnds k, (exec_limitingEnd t k s).trans (State.runOn_eq hm t _), by simp [State.limitEnds],
      fun j => State.local_of_others (s := s.elapse t) (by simp [State.limitEnds]), rfl, rfl⟩
  · have ⟨hlost, hwin⟩ := State.setCompliance_self (s.elapse t) k true
    obtain ⟨hregs, hstr, hhive⟩ := State.besideField_parts (State.setCompliance_besideField (s.elapse t) k true)
    refine ⟨(s.elapse t).complianceLost k, (exec_complianceLoss t k s).trans (State.runOn_eq hm t _), ?_⟩
    rw [State.complianceLost_driven hon hmode]
    have hself := State.excFault_self (s := (s.elapse t).setCompliance k true) (k := k) (by simp [hlost])
    have hns : ((s.elapse t).setCompliance k true).ns = (s.elapse t).ns :=
      (congrArg State.ns (State.setCompliance_besideField (s.elapse t) k true) :)
    refine ⟨by rw [hself]; exact hlost, ?_, by rw [hself, hwin, hns]; rfl,
      fun j => State.local_of_others (s := s.elapse t) (by simp), hstr, hhive⟩
    rw [State.excFault_reg, State.reg, hregs]
    rfl
  · obtain ⟨hregs, hstr, hhive⟩ := State.besideField_parts (State.setCompliance_besideField ((s.elapse t).markFault k) k false)
    exact ⟨(s.elapse t).complianceBack k, (exec_complianceRestored t k s).trans (State.runOn_eq hm t _), (State.setCompliance_self ..).1,
      fun j => State.local_of_others (s := s.elapse t) (by simp [State.complianceBack]), hregs, hhive⟩
  · obtain ⟨w, hop, hw⟩ := State.effect_excEnable (s := s.elapse t) hq.port hotp
    exact ⟨w, exec_answers (exec_excEnable t p s) hq hop, hw⟩
  · obtain ⟨w, hop, hw⟩ := State.effect_excDisable (s := s.elapse t) hq.port
    exact ⟨w, exec_answers (exec_excDisable t p s) hq hop, hw⟩

end Sys2Proof.Machine

/-! SUPPORT. A window of a channel (R80, R113, R116): how it opens, and what its end, from the word to the consumers, leaves of its
channel. -/

namespace Sys2Proof.Machine

/-- What an operation keeps, it keeps where it is done only on a condition. -/
theorem ite_keeps {β : Type} {g : State → β} {p : Prop} [Decidable p] {s t : State} (h : g t = g s) :
    g (if p then t else s) = g s := by
  split
  · exact h
  · rfl

/-! ## The range in force (R77, R80) -/

/-- What counting and the new code keep, a change of range keeps. -/
theorem State.setCode_keeps {β : Type} {g : State → β} {s : State} {k c : Nat} {d : List Rat}
    (hb : ∀ s a, g (State.bump s a) = g s)
    (hu : ∀ s, g (State.updLocal s k fun l => { l with code := c, downs := if l.code = c then d else [] }) = g s) :
    g (s.setCode k c d) = g s := by
  refine (hu _).trans ?_
  split
  · rfl
  · exact hb ..

@[simp] theorem State.setCode_others (s : State) (k c : Nat) (d : List Rat) : (s.setCode k c d).others k = s.others k :=
  State.setCode_keeps (fun s a => State.bump_others s a k) fun _ => State.updLocal_others ..
@[simp] theorem State.setCode_dieShared (s : State) (k c : Nat) (d : List Rat) : (s.setCode k c d).dieShared = s.dieShared :=
  State.setCode_keeps State.bump_dieShared fun _ => State.updLocal_dieShared ..
@[simp] theorem State.setCode_streams (s : State) (k c : Nat) (d : List Rat) : (s.setCode k c d).streams = s.streams :=
  State.setCode_keeps State.bump_streams fun _ => rfl
@[simp] theorem State.setCode_hive (s : State) (k c : Nat) (d : List Rat) : (s.setCode k c d).hive = s.hive :=
  State.setCode_keeps State.bump_hive fun _ => rfl

/-- A change of range sets the code and the count of rule 3, and nothing else of its channel. -/
theorem State.setCode_self (s : State) (k c : Nat) (d : List Rat) :
    (s.setCode k c d).local' k
      = { s.local' k with code := c, downs := if (s.local' k).code = c then d else [] } := by
  unfold State.setCode
  extract_lets l t
  have ht : t.local' k = s.local' k := by
    unfold t
    split
    · rfl
    · exact State.bump_local ..
  rw [State.updLocal_self, ht]

/-- A channel but for its range. -/
def Local.besideRange (l : Local) : Local := { l with code := 0, downs := [] }

/-- With no window, the fixed code is in force where one is set (R80); nothing else of the channel changes. -/
theorem State.fixCode_self {s : State} {k : Nat} (h : (s.local' k).window = none) :
    ((s.fixCode k).local' k).code = (if (s.local' k).fe.fixed then (s.local' k).fe.fixedCode else (s.local' k).code)
      ∧ ((s.fixCode k).local' k).besideRange = (s.local' k).besideRange := by
  unfold State.fixCode
  extract_lets l
  split
  · next hc =>
    rw [State.setCode_self]
    simp_all [l, Local.besideRange]
  · next hc =>
    simp_all [l]

@[simp] theorem State.fixCode_others (s : State) (k : Nat) : (s.fixCode k).others k = s.others k :=
  ite_keeps (State.setCode_others ..)
@[simp] theorem State.fixCode_dieShared (s : State) (k : Nat) : (s.fixCode k).dieShared = s.dieShared :=
  ite_keeps (State.setCode_dieShared ..)
@[simp] theorem State.fixCode_streams (s : State) (k : Nat) : (s.fixCode k).streams = s.streams :=
  ite_keeps (State.setCode_streams ..)
@[simp] theorem State.fixCode_hive (s : State) (k : Nat) : (s.fixCode k).hive = s.hive :=
  ite_keeps (State.setCode_hive ..)

/-! ## A window opens (R106, R113, R114) -/

/-- The length of a window follows from what the channels share. -/
theorem State.windowNs_of_dieShared {s t : State} (h : t.dieShared = s.dieShared) : t.field.windowNs = s.field.windowNs :=
  (congrArg Field.windowNs h :)

/-- The channel once the window of its next slot has begun. -/
def State.opened (s : State) (k start : Nat) : State :=
  let w := (s.fixCode k).newWindow k false (s.local' k).next start (s.local' k).fe.nplc false
  (s.fixCode k).updLocal k fun l => { l with window := some w, next := l.next + 1, task := none, settleNext := false }

/-- The window that opens: of the channel's settings and the range in force, on the slot that was next. -/
theorem State.opened_self {s : State} {k : Nat} (start : Nat) (h : (s.local' k).window = none) :
    ∃ w : Window, ((s.opened k start).local' k).window = some w ∧ w.spot = false ∧ w.slot = (s.local' k).next ∧ w.start = start
      ∧ w.len = s.field.windowNs (s.local' k).fe (s.local' k).fe.nplc start
      ∧ w.code = (if (s.local' k).fe.fixed then (s.local' k).fe.fixedCode else (s.local' k).code) ∧ w.fe = (s.local' k).fe
      ∧ ((s.opened k start).local' k).next = (s.local' k).next + 1 := by
  obtain ⟨hcode, hrest⟩ := State.fixCode_self h
  have hfe : ((s.fixCode k).local' k).fe = (s.local' k).fe := (congrArg Local.fe hrest :)
  have hnext : ((s.fixCode k).local' k).next = (s.local' k).next := (congrArg Local.next hrest :)
  have hlen := State.windowNs_of_dieShared (State.fixCode_dieShared s k)
  rw [State.opened, State.updLocal_self, ← hcode, ← hnext, ← hlen, ← hfe]
  exact ⟨_, rfl, rfl, rfl, rfl, rfl, rfl, rfl, rfl⟩

/-- It leaves the other channels, the streams and Hive. -/
theorem State.opened_frame (s : State) (k start : Nat) :
    (s.opened k start).others k = s.others k ∧ (s.opened k start).streams = s.streams ∧ (s.opened k start).hive = s.hive :=
  ⟨(State.updLocal_others ..).trans (State.fixCode_others ..), State.fixCode_streams .., State.fixCode_hive ..⟩

/-- A slot that is due, on a free channel whose start-up comparisons are done, opens its window. -/
theorem State.windowStart_due {s : State} {k : Nat} (hu : (s.local' k).fe.inUse = true) (ho : (s.local' k).origin.isSome = true)
    (hr : s.localsRun = true) (hw : (s.local' k).window = none) (hsp : (s.local' k).spot = none)
    (hwit : (s.local' k).witnessed = true) (hdue : quantised (s.localSlotNs k (s.local' k).next) ≤ s.ns) :
    s.windowStart k = s.opened k (quantised (s.localSlotNs k (s.local' k).next)) :=
  if_neg (by
    have hn : (s.local' k).origin ≠ none := Option.isSome_iff_ne_none.1 ho
    simp [hu, hn, hr, hw, hsp, hwit, hdue])

/-! ## What the consumers of a word leave: the field die, the lanes, and the bytes of Hive -/

/-- The field die, the lanes and the bytes of Hive. -/
def State.besideWord (s : State) := (s.field, s.lanes, s.hive.mem)

theorem State.besideWord_of_still {s t : State} (h : t.still = s.still) : t.besideWord = s.besideWord := by
  obtain ⟨-, -, -, hf, -, -, hl, -, hm, -⟩ := State.still_parts h
  rw [State.besideWord, hf, hl, hm, State.besideWord]

@[simp] theorem State.trigSend_besideWord (s : State) (src : Nat) (t : Int) (c : Option Nat) :
    (s.trigSend src t c).besideWord = s.besideWord := rfl
@[simp] theorem State.updInst_besideWord (s : State) (i : Nat) (f : ProgInst → ProgInst) :
    (s.updInst i f).besideWord = s.besideWord := rfl
@[simp] theorem State.updEngine_besideWord (s : State) (e : Nat) (f : Engine → Engine) :
    (s.updEngine e f).besideWord = s.besideWord := rfl
@[simp] theorem State.plSend_besideWord (s : State) (m : PlMsg) : (s.plSend m).besideWord = s.besideWord := by
  simp [State.besideWord]
@[simp] theorem State.bump_besideWord (s : State) (a : Nat) : (s.bump a).besideWord = s.besideWord := by
  simp [State.besideWord]

@[simp] theorem State.detect_besideWord (s : State) (ii si n : Nat) (d : Detection) :
    (s.detect ii si n d).besideWord = s.besideWord := by
  unfold State.detect
  extract_lets cfg t
  exact ite_keeps rfl

@[simp] theorem State.runPair_besideWord (ii si slot ch t b l : Nat) (e : Bool) (n : Nat) (s : State) :
    (State.runPair ii si slot ch t b l e n s).besideWord = s.besideWord := by
  induction n generalizing s with
  | zero => rfl
  | succ n ih =>
    unfold State.runPair
    split
    · rfl
    · split
      · rfl
      · split
        · rw [ih, State.detect_besideWord]
        · rfl

@[simp] theorem State.runWindows_besideWord (s : State) (ii b l : Nat) (e : Bool) :
    (s.runWindows ii b l e).besideWord = s.besideWord := by
  unfold State.runWindows
  split
  · rfl
  · exact foldl_keeps (fun s si => foldl_keeps (fun s x => foldl_keeps (fun s t => State.runPair_besideWord ..) _ s) _ s) _ s

@[simp] theorem State.readRings_besideWord (s : State) (ch k : Nat) : (s.readRings ch k).besideWord = s.besideWord := by
  unfold State.readRings
  split
  · rfl
  · refine foldl_keeps (fun s x => ?_) _ s
    extract_lets lost t
    exact (ite_keeps (State.updInst_besideWord ..)).trans (State.runWindows_besideWord ..)

@[simp] theorem State.combStore_besideWord (s : State) (ch k : Nat) (e : HistEntry) :
    (s.combStore ch k e).besideWord = s.besideWord :=
  State.readRings_besideWord s ch k

@[simp] theorem State.combLocal_besideWord (s : State) (k slot : Nat) (w : Word48) :
    (s.combLocal k slot w).besideWord = s.besideWord := by
  unfold State.combLocal
  exact ite_keeps (State.combStore_besideWord ..)

@[simp] theorem State.ringWord_besideWord (s : State) (ch : Nat) (w : SlotWord) : (s.ringWord ch w).besideWord = s.besideWord := by
  unfold State.ringWord
  refine foldl_keeps (fun s e => ?_) _ s
  extract_lets r g i top ring
  split
  · split
    · rfl
    · split
      · rfl
      · rw [State.updEngine_besideWord]
        exact State.besideWord_of_still (State.unitWrite_still ..)
  · rfl

@[simp] theorem State.deliver_besideWord (s : State) (ch : Nat) (w : SlotWord) : (s.deliver ch w).besideWord = s.besideWord :=
  State.besideWord_of_still (State.deliver_still ..)

@[simp] theorem State.deliverLocal_besideWord (s : State) (k slot : Nat) (w st : Word48) (r : Bool) :
    (s.deliverLocal k slot w st r).besideWord = s.besideWord := by
  unfold State.deliverLocal
  extract_lets ch place sw
  rw [State.deliver_besideWord, State.ringWord_besideWord, State.combLocal_besideWord]

@[simp] theorem State.lateSpan_besideWord (s : State) (ch b a n c x : Nat) : (s.lateSpan ch b a n c x).besideWord = s.besideWord := by
  unfold State.lateSpan
  extract_lets g
  refine State.besideWord_of_still (foldl_keeps (fun s r => ?_) _ s)
  split
  · extract_lets t held u
    have hu : u.still = s.still := (State.updCols_still ..).trans (State.raise_still ..)
    split
    · exact hu
    · exact (State.emitLate_still ..).trans hu
  · rfl

/-! ## What the work after a window's end leaves of its channel -/

/-- The lanes and the bytes of Hive. -/
def State.lanesMem (s : State) := (s.lanes, s.hive.mem)

/-- What a window's end sets: the channel's window, age and last word; with the lanes and the bytes of Hive, which it leaves. -/
def State.atEnd (k : Nat) (s : State) := ((s.local' k).window, (s.local' k).age, (s.local' k).last, s.lanesMem)

theorem State.atEnd_of_besideWord {k : Nat} {s t : State} (h : t.besideWord = s.besideWord) : t.atEnd k = s.atEnd k := by
  have hmem : t.lanesMem = s.lanesMem := (congrArg Prod.snd h :)
  rw [State.atEnd, State.local_of_field (congrArg Prod.fst h :) k, hmem, State.atEnd]

/-- A change of a channel that keeps its window, age and last word. -/
theorem State.updLocal_atEnd {s : State} {k : Nat} {f : Local → Local}
    (h : ∀ l, (f l).window = l.window ∧ (f l).age = l.age ∧ (f l).last = l.last) : (s.updLocal k f).atEnd k = s.atEnd k := by
  obtain ⟨hw, ha, hl⟩ := h (s.local' k)
  rw [State.atEnd, State.updLocal_self, hw, ha, hl]
  rfl

@[simp] theorem State.setCode_atEnd (s : State) (k c : Nat) (d : List Rat) : (s.setCode k c d).atEnd k = s.atEnd k :=
  State.setCode_keeps (fun _ _ => State.atEnd_of_besideWord (State.bump_besideWord ..))
    fun _ => State.updLocal_atEnd fun _ => ⟨rfl, rfl, rfl⟩

@[simp] theorem State.fixCode_atEnd (s : State) (k : Nat) : (s.fixCode k).atEnd k = s.atEnd k :=
  ite_keeps (State.setCode_atEnd ..)

@[simp] theorem State.rangeNext_atEnd (s : State) (k : Nat) (w : Window) (d : Bool) (f : Formed) :
    (s.rangeNext k w d f).atEnd k = s.atEnd k := by
  unfold State.rangeNext
  extract_lets n t
  rw [State.fixCode_atEnd]
  unfold t
  split
  · exact State.updLocal_atEnd fun _ => ⟨rfl, rfl, rfl⟩
  · exact ite_keeps (State.setCode_atEnd ..)

@[simp] theorem State.localDetect_atEnd (s : State) (k : Nat) (f : Formed) : (s.localDetect k f).2.2.atEnd k = s.atEnd k :=
  State.updLocal_atEnd fun _ => ⟨rfl, rfl, rfl⟩

@[simp] theorem State.skipDetect_atEnd (s : State) (k n : Nat) : (s.skipDetect k n).atEnd k = s.atEnd k :=
  State.updLocal_atEnd fun _ => ⟨rfl, rfl, rfl⟩

@[simp] theorem State.calTake_atEnd (s : State) (k slot code : Nat) (w : Option Formed) (age : Int) :
    (s.calTake k slot code w age).atEnd k = s.atEnd k := by
  refine State.updLocal_atEnd fun l => ?_
  split
  · split
    · exact ⟨rfl, rfl, rfl⟩
    · split
      · split <;> exact ⟨rfl, rfl, rfl⟩
      · exact ⟨rfl, rfl, rfl⟩
  · exact ⟨rfl, rfl, rfl⟩

@[simp] theorem State.lateWindowEnd_atEnd (s : State) (k : Nat) (w : Window) : (s.lateWindowEnd k w).atEnd k = s.atEnd k := by
  unfold State.lateWindowEnd
  extract_lets nxt ch t u
  split
  · rw [State.updLocal_atEnd]
    · unfold u t
      rw [State.calTake_atEnd, State.skipDetect_atEnd]
      exact State.atEnd_of_besideWord (State.lateSpan_besideWord ..)
    · exact fun _ => ⟨rfl, rfl, rfl⟩
  · rfl

/-! ## The end of a window -/

@[simp] theorem State.updLocal_lanesMem (s : State) (k : Nat) (f : Local → Local) : (s.updLocal k f).lanesMem = s.lanesMem := rfl
@[simp] theorem State.bump_lanesMem (s : State) (a : Nat) : (s.bump a).lanesMem = s.lanesMem := by simp [State.lanesMem]
@[simp] theorem State.raise_lanesMem (s : State) (c x : Nat) (a : List Word) : (s.raise c x a).lanesMem = s.lanesMem := by
  simp [State.lanesMem]
@[simp] theorem State.excFault_lanesMem (s : State) (k : Nat) : (s.excFault k).lanesMem = s.lanesMem := rfl

@[simp] theorem State.fallbackCj_lanesMem (s : State) (k : Nat) : (s.fallbackCj k).2.lanesMem = s.lanesMem := by
  unfold State.fallbackCj
  extract_lets v t u
  refine (State.updLocal_lanesMem u k _).trans ?_
  unfold u t
  split
  · exact State.bump_lanesMem ..
  · rw [State.raise_lanesMem, State.bump_lanesMem]

@[simp] theorem State.coldJunction_lanesMem (s : State) (k : Nat) (f : FrontEnd) (ns : Nat) :
    (s.coldJunction k f ns).2.lanesMem = s.lanesMem := by
  unfold State.coldJunction
  extract_lets d
  split
  · rfl
  · cases d with
    | some x => rfl
    | none => exact State.fallbackCj_lanesMem ..

@[simp] theorem State.formWord_lanesMem (s : State) (k : Nat) (w : Window) (c : Conversion) (age : Int) (b : Bool) :
    (s.formWord k w c age b).2.lanesMem = s.lanesMem := by
  unfold State.formWord
  extract_lets l f mid v1 senseLow t u v2 clip1 half pair
  have hu : u.lanesMem = s.lanesMem := (ite_keeps (State.excFault_lanesMem t k)).trans (State.updLocal_lanesMem ..)
  split
  split
  split
  next cj u' hcj =>
    have hu' : u'.lanesMem = s.lanesMem := by
      rw [show u' = _ from (congrArg Prod.snd hcj).symm]
      split
      · rw [State.coldJunction_lanesMem, hu]
      · exact hu
    split
    exact hu'

@[simp] theorem State.pulseEnd_lanesMem (s : State) (k slot : Nat) : (s.pulseEnd k slot).lanesMem = s.lanesMem := by
  unfold State.pulseEnd
  extract_lets l t
  have ht : t.lanesMem = s.lanesMem := (congrArg State.lanesMem (State.pulseDone_besideField s k) :)
  split
  · exact ht
  · exact (congrArg State.lanesMem (State.setDrive_besideField t k false) :).trans ht

theorem State.idle_atEnd (s : State) (k : Nat) :
    ((s.updLocal k Local.idle).atEnd k).1 = none ∧ ((s.updLocal k Local.idle).atEnd k).2.2.2 = s.lanesMem := by
  simp [State.atEnd, Local.idle]

/-- The end of a slot's window: its word is the channel's last, stamped at the window's midpoint, and the channel is free. -/
theorem State.windowEnd_atEnd {s : State} {k : Nat} {c : Conversion} {w w' : Window} {age : Int}
    (hw : (s.local' k).window = some w) (hs : w.spot = false) (hdue : w.start + w.len ≤ s.ns)
    (hw' : w' = if w.slot < (s.local' k).absentTo then { w with noDrive := true } else w)
    (hage : age = slewAge (s.local' k).age (s.local' k).ageTarget s.field.slewStep) :
    ∃ (f : Formed) (e : Bool), f = (s.formWord k w' c age ((s.local' k).age != (s.local' k).ageTarget)).1
      ∧ (s.windowEnd k c).atEnd k
        = (none, age, some (sampleWord f.val w.code { f.flags with event := e } (w.slot + (s.local' k).seqBase),
            w.start + w.len / 2), s.lanesMem) := by
  unfold State.windowEnd
  extract_lets l age1 restart
  obtain rfl : age = age1 := hage
  split
  · next h => exact absurd (hw.symm.trans h) (by simp)
  next w0 h =>
  obtain rfl : w = w0 := Option.some.inj (hw.symm.trans h)
  rw [if_neg (by simp [hs, hdue])]
  extract_lets driven w1 seq mid stamp
  obtain rfl : w' = w1 := hw'
  split
  next f s1 hf =>
  extract_lets s2 s3
  split
  next f0 f1 s4 hd =>
  extract_lets word s5 s6 s7 s8 s9 s10 s11 s12
  have hw1 : w1.code = w.code ∧ w1.slot = w.slot ∧ w1.start = w.start ∧ w1.len = w.len := by
    unfold w1
    split <;> exact ⟨rfl, rfl, rfl, rfl⟩
  obtain ⟨hcode, hslot, hstart, hlen⟩ := hw1
  have h1 : s1.lanesMem = s.lanesMem := by
    rw [show s1 = _ from (congrArg Prod.snd hf).symm, State.formWord_lanesMem]
  have h4 : s4.atEnd k = s2.atEnd k := by
    rw [show s4 = _ from (congrArg (·.2.2) hd).symm, ← State.rangeNext_atEnd s2 k w1 driven f]
    split
    · rfl
    · exact State.localDetect_atEnd ..
  have h5 : s5.atEnd k = (none, age1, some (word, mid), s.lanesMem) := by
    obtain ⟨hwin, hmem⟩ := State.idle_atEnd (s1.pulseEnd k ((s1.local' k).next + bnat (s1.overran k w1))) k
    rw [State.pulseEnd_lanesMem, h1] at hmem
    rw [State.atEnd, State.updLocal_self, State.updLocal_lanesMem]
    exact congrArg₂ (fun a b => (a, age1, some (word, mid), b)) ((congrArg (·.1) h4).trans hwin)
      ((congrArg (·.2.2.2) h4).trans hmem)
  have h7 : s7.atEnd k = s5.atEnd k := (State.calTake_atEnd ..).trans (State.updLocal_atEnd fun _ => ⟨rfl, rfl, rfl⟩)
  have h12 : s12.besideWord = s7.besideWord :=
    calc s12.besideWord
      _ = s11.besideWord := ite_keeps (State.plSend_besideWord ..)
      _ = s10.besideWord := by
        unfold s11
        split
        · rfl
        · exact State.deliverLocal_besideWord ..
      _ = s9.besideWord := ite_keeps (State.trigSend_besideWord ..)
      _ = s8.besideWord := ite_keeps (State.trigSend_besideWord ..)
      _ = s7.besideWord := foldl_keeps (fun _ _ => State.bump_besideWord ..) _ _
  refine ⟨f, f0 || f1, (congrArg Prod.fst hf).symm, ?_⟩
  rw [State.lateWindowEnd_atEnd, State.atEnd_of_besideWord h12, h7, h5]
  unfold word mid seq
  rw [hcode, hslot, hstart, hlen]

/-! ## The obligation -/

/-- Settles O19: a due slot opens its window on the range in force, and the end of a window sets its channel's word. -/
theorem windowsComplete : Obligations.WindowsComplete := by
  unfold Obligations.WindowsComplete
  rintro s u t k rfl hm
  refine ⟨?_, fun c w w' age hw hs hdue hw' hage => ?_⟩
  · rintro start hu ho hr hw hsp hwit rfl hdue
    obtain ⟨w, hopen, hw'⟩ := State.opened_self (s := s.elapse t) (quantised ((s.elapse t).localSlotNs k (s.local' k).next)) hw
    obtain ⟨hothers, hstr, hhive⟩ := (s.elapse t).opened_frame k (quantised ((s.elapse t).localSlotNs k (s.local' k).next))
    obtain ⟨hspot, hslot, hstart, hlen, hcode, hfe, hnext⟩ := hw'
    refine ⟨(s.elapse t).windowStart k, w, (exec_windowStart t k s).trans (State.runOn_eq hm t _), ?_⟩
    rw [State.windowStart_due (s := s.elapse t) hu ho hr hw hsp hwit hdue]
    exact ⟨hopen, hspot, hslot, hstart, hlen, hcode, hfe, hnext, fun j => State.local_of_others hothers, hstr, hhive⟩
  · obtain ⟨f, e, hf, hend⟩ := State.windowEnd_atEnd (s := s.elapse t) (c := c) hw hs hdue hw' hage
    simp only [State.atEnd, State.lanesMem, Prod.mk.injEq] at hend
    obtain ⟨hwin, hage', hlast, hlanes, hmem⟩ := hend
    exact ⟨_, f, e, (exec_windowEnd t k c s).trans (State.runOn_eq hm t _), hwin, hage', hf, hlast, hmem, hlanes⟩

end Sys2Proof.Machine

/-! SUPPORT. Between the windows (R109, R116 to R118, R137, R139): the tasks of a gap, the mains measurement, and the age that the
witness comparisons give. -/

namespace Sys2Proof.Machine

/-! ## The tasks of a gap (R116 to R118) -/

/-- An auto-zero enters the mean of the code it was taken on. -/
theorem State.housekeepingEnd_zero {s : State} {k code : Nat} (x : Rat) (h : (s.local' k).taskNow s.ns = some (0, code)) :
    ∃ f : Local → Local, s.housekeepingEnd k x = s.updLocal k f ∧ (f (s.local' k)).task = none
      ∧ Tab.get (fun _ => []) (f (s.local' k)).zeros code = (x :: Tab.get (fun _ => []) (s.local' k).zeros code).take 4
      ∧ code ∈ (f (s.local' k)).zeroed := by
  unfold State.housekeepingEnd
  simp only [h]
  refine ⟨_, rfl, rfl, Tab.get_upd_self (s.local' k).zeros code fun zs => (x :: zs).take 4, ?_⟩
  dsimp only
  split
  · next hc => exact List.contains_iff_mem.1 hc
  · exact List.mem_cons_self

/-- A reference check that finds a third deviation beyond 0.05 % in a row fails. -/
theorem State.housekeepingEnd_refBad {s : State} {k code : Nat} {x : Rat} (h : (s.local' k).taskNow s.ns = some (1, code))
    (hx : 1 / 2000 < x) (hn : 2 ≤ (s.local' k).refBad) :
    ((s.housekeepingEnd k x).local' k).task = none ∧ ((s.housekeepingEnd k x).local' k).refFail = true
      ∧ (s.housekeepingEnd k x).others k = s.others k := by
  unfold State.housekeepingEnd
  simp only [h, hx, decide_true, Bool.true_or, if_true, show 3 ≤ (s.local' k).refBad + 1 by omega, Bool.true_and]
  split <;> simp

/-- A witness comparison gives a ratio. -/
theorem State.housekeepingEnd_ratio {s : State} {k code : Nat} (x : Rat) (h : (s.local' k).taskNow s.ns = some (2, code)) :
    s.housekeepingEnd k x = s.updLocal k fun l => { l with task := none, ratios := l.ratios ++ [x] } := by
  unfold State.housekeepingEnd
  simp only [h]

/-! ## Mains (R92, R108, R109) -/

/-- The field die with a note of the mains. -/
def State.logMains (s : State) (log : List (Nat × Nat)) : State := { s with field := { s.field with mainsLog := log } }

/-- What a note of T_mains keeps, and changes of channels whose window is still to start keep, the change of T_mains keeps. -/
theorem State.noteMains_keeps {P : State → Prop} {s : State} {old : Nat} (h : P s) (hlog : ∀ log, P (s.logMains log))
    (hupd : ∀ t k w f, P t → (t.local' k).window = some w → t.ns < w.start → P (t.updLocal k f)) : P (s.noteMains old) := by
  unfold State.noteMains
  extract_lets new log t
  split
  · exact h
  · refine List.foldlRecOn _ _ (hlog log) fun t ht k _ => ?_
    split
    · next w hw =>
      split
      · next hlt => exact hupd t k w _ ht hw hlt
      · exact ht
    · exact ht

/-- What a mains measurement sets, and the channels it leaves: those whose window, if any, has started. -/
def State.Measured (s : State) (valid present : Bool) (ps : List Nat) (t : State) : Prop :=
  t.field.periods = ps ∧ t.field.mainsPresent = present ∧ t.field.mainsValid = valid
    ∧ ∀ j, (∀ w ∈ (s.local' j).window, w.start ≤ s.ns) → t.local' j = s.local' j

theorem State.setMains_measured (s : State) (valid present : Bool) (ps : List Nat) :
    s.Measured valid present ps (s.setMains valid present ps) := by
  unfold State.setMains
  extract_lets was old d t u
  have ht : s.Measured valid present ps t := ⟨rfl, rfl, rfl, fun _ _ => rfl⟩
  have hu : s.Measured valid present ps u ∧ u.ns = s.ns := by
    refine State.noteMains_keeps (P := fun t => s.Measured valid present ps t ∧ t.ns = s.ns) ⟨ht, rfl⟩ (fun _ => ⟨ht, rfl⟩) ?_
    rintro t k w f ⟨⟨hper, hpres, hval, hloc⟩, hns⟩ hw hlt
    refine ⟨⟨hper, hpres, hval, fun j hj => ?_⟩, hns⟩
    by_cases hjk : j = k
    · subst hjk
      rw [hloc j hj] at hw
      exact absurd (hj w hw) (by omega)
    · rw [State.updLocal_ne t f hjk, hloc j hj]
  obtain ⟨⟨hper, hpres, hval, hloc⟩, -⟩ := hu
  split
  · simpa [State.Measured] using ⟨hper, hpres, hval, hloc⟩
  · exact ⟨hper, hpres, hval, hloc⟩

/-- Eight cycles are in band where their mean frequency is within 10 % of the nominal one. -/
theorem mainsInBand_iff {nom60 : Bool} {ps : List Nat} (h : ps.length = 8) :
    mainsInBand nom60 ps = true ↔ 9 * (if nom60 then 60 else 50) * ps.sum ≤ 8 * 1_000_000_000
      ∧ 8 * 1_000_000_000 ≤ 11 * (if nom60 then 60 else 50) * ps.sum := by
  simp [mainsInBand, h]

/-! ## Ageing (R137, R139) -/

theorem State.ageLimited_self (s : State) (k : Nat) (b : Bool) :
    (s.ageLimited k b).local' k = { s.local' k with ageLimit := b } :=
  (ite_keeps (g := fun t => t.local' k) (State.raise_local ..)).trans (State.updLocal_self ..)
theorem State.ageLimited_others (s : State) (k : Nat) (b : Bool) : (s.ageLimited k b).others k = s.others k :=
  (ite_keeps (State.raise_others ..)).trans (State.updLocal_others ..)
theorem State.ageLimited_sys (s : State) (k : Nat) (b : Bool) : (s.ageLimited k b).sys = s.sys := ite_keeps (State.raise_sys ..)
theorem State.ageLimited_time (s : State) (k : Nat) (b : Bool) : (s.ageLimited k b).time = s.time := ite_keeps (State.raise_time ..)

/-- Sixty-four comparisons give a drift, a limit flag and a target, and are used up. -/
theorem State.witnessUpdate_full {s : State} {k : Nat} (h : 64 ≤ (s.local' k).ratios.length) :
    ∃ target : Int, (s.witnessUpdate k).local' k
        = { s.local' k with
            ratios := (s.local' k).ratios.drop 64
            drift := ((s.local' k).ratios.take 64).sum / 64 / witnessR0 k - 1
            ageTarget := target
            ageLimit := (ageFrom k (((s.local' k).ratios.take 64).sum / 64)).2 }
      ∧ (s.witnessUpdate k).others k = s.others k := by
  unfold State.witnessUpdate
  extract_lets l m
  rw [if_neg (by simpa [l] using h)]
  split
  next a lim hage =>
  extract_lets t
  refine ⟨if (a - l.age).natAbs < 50 then l.ageTarget else a, ?_, ?_⟩
  · rw [State.ageLimited_self, State.updLocal_self, show (ageFrom k _).2 = lim from congrArg Prod.snd hage]
  · rw [State.ageLimited_others, State.updLocal_others]

/-- A channel but for its spot and the window of that. -/
def Local.besideSpot (l : Local) : Local := { l with window := none, spot := none }

/-- A spot that waited for the comparisons starts as they are done; nothing else of its channel changes. -/
theorem State.startWaitingSpot_self (s : State) (k : Nat) :
    ((s.startWaitingSpot k).local' k).besideSpot = (s.local' k).besideSpot
      ∧ ∀ sp ∈ (s.local' k).spot, ∀ sp' ∈ ((s.startWaitingSpot k).local' k).spot, sp'.startAt = max sp.ready (quantised s.ns) := by
  unfold State.startWaitingSpot
  split
  · next h => exact ⟨rfl, fun sp hsp => absurd (h.symm.trans hsp) (by simp)⟩
  · next sp h =>
    extract_lets start w
    rw [State.updLocal_self]
    refine ⟨rfl, fun sp1 h1 sp' h' => ?_⟩
    obtain rfl : sp = sp1 := Option.some.inj (h.symm.trans h1)
    obtain rfl := Option.some.inj h'
    rfl

theorem State.startWaitingSpot_frame (s : State) (k : Nat) :
    (s.startWaitingSpot k).others k = s.others k ∧ (s.startWaitingSpot k).sys = s.sys := by
  unfold State.startWaitingSpot
  split
  · exact ⟨rfl, rfl⟩
  · exact ⟨State.updLocal_others .., rfl⟩

/-- Channel k with the age and drift of its start-up comparisons, of mean ratio x. -/
def Local.compared (k : Nat) (x : Rat) (l : Local) : Local :=
  { l with age := (ageFrom k x).1, ageTarget := (ageFrom k x).1, drift := x / witnessR0 k - 1, witnessed := true }

/-- A channel's start-up comparisons are done: what `State.witnessStartup` does for each channel that waits for them. -/
def State.startedUp (s : State) (k : Nat) (x : Rat) : State :=
  ((s.updLocal k (Local.compared k x)).ageLimited k (ageFrom k x).2).startWaitingSpot k

/-- The hub with the witness comparisons valid, or as they were. -/
def State.withWitnessValid (s : State) (v : Bool) : State := { s with field := { s.field with witnessValid := v } }

theorem State.withWitnessValid_local (s : State) (v : Bool) (k : Nat) : (s.withWitnessValid v).local' k = s.local' k := rfl

/-- The start-up comparisons of one channel that waits for them. -/
theorem State.witnessStartup_one {s : State} {k : Nat} (x : Rat) (hk : k ∈ s.localsUsed) (hfe : s.field.feApplied = true)
    (hw : (s.local' k).witnessed = false) :
    s.witnessStartup [(k, x)] = (s.startedUp k x).withWitnessValid ((s.startedUp k x).field.witnessValid
      || (s.startedUp k x).localsUsed.all fun k' => ((s.startedUp k x).local' k').witnessed) := by
  unfold State.witnessStartup
  rw [if_neg (by simp [hfe])]
  exact congrArg (fun t : State => t.withWitnessValid (t.field.witnessValid || t.localsUsed.all fun k => (t.local' k).witnessed))
    (if_pos (by simp [hk, hw]))

/-- The age, its target and its limit are those of the comparisons, and a spot that waited starts now; the settings stay. -/
theorem State.startedUp_self (s : State) (k : Nat) (x : Rat) :
    ((s.startedUp k x).local' k).fe = (s.local' k).fe ∧ ((s.startedUp k x).local' k).witnessed = true
      ∧ ((s.startedUp k x).local' k).age = (ageFrom k x).1 ∧ ((s.startedUp k x).local' k).ageTarget = (ageFrom k x).1
      ∧ ((s.startedUp k x).local' k).ageLimit = (ageFrom k x).2
      ∧ ∀ sp ∈ (s.local' k).spot, ∀ sp' ∈ ((s.startedUp k x).local' k).spot, sp'.startAt = max sp.ready (quantised s.ns) := by
  have hns : ((s.updLocal k (Local.compared k x)).ageLimited k (ageFrom k x).2).ns = s.ns := by
    rw [State.ns, State.ageLimited_time, State.updLocal_time, State.ns]
  obtain ⟨hself, hspot⟩ := ((s.updLocal k (Local.compared k x)).ageLimited k (ageFrom k x).2).startWaitingSpot_self k
  rw [State.ageLimited_self, State.updLocal_self] at hself hspot
  rw [hns] at hspot
  exact ⟨(congrArg Local.fe hself :), (congrArg Local.witnessed hself :), (congrArg Local.age hself :),
    (congrArg Local.ageTarget hself :), (congrArg Local.ageLimit hself :), hspot⟩

/-- The other channels, the modes and the variant stay as they are. -/
theorem State.startedUp_frame (s : State) (k : Nat) (x : Rat) :
    (s.startedUp k x).others k = s.others k ∧ (s.startedUp k x).sys = s.sys := by
  obtain ⟨hothers, hsys⟩ := ((s.updLocal k (Local.compared k x)).ageLimited k (ageFrom k x).2).startWaitingSpot_frame k
  rw [State.ageLimited_others, State.updLocal_others] at hothers
  rw [State.ageLimited_sys, State.updLocal_sys] at hsys
  exact ⟨hothers, hsys⟩

/-- Where every other channel in use has done its comparisons, the last to do so makes them valid. -/
theorem State.startedUp_allWitnessed {s : State} {k : Nat} (x : Rat)
    (h : ∀ j ∈ s.localsUsed, j ≠ k → (s.local' j).witnessed = true) :
    ((s.startedUp k x).localsUsed.all fun k' => ((s.startedUp k x).local' k').witnessed) = true := by
  obtain ⟨hset, hdone, -⟩ := s.startedUp_self k x
  obtain ⟨hothers, hsys⟩ := s.startedUp_frame k x
  have hfe (j : Nat) : ((s.startedUp k x).local' j).fe = (s.local' j).fe := by
    by_cases hj : j = k
    · subst hj
      exact hset
    · rw [State.local_of_others hothers hj]
  rw [State.localsUsed_congr (congrArg (·.variant) hsys) hfe, List.all_eq_true]
  intro j hj
  by_cases hjk : j = k
  · subst hjk
    exact hdone
  · rw [State.local_of_others hothers hjk]
    exact h j hj hjk

/-! ## The obligation -/

/-- Settles O20: each command as the operation it runs, on its own channel and on the measurement that the channels share. -/
theorem housekeepingComplete : Obligations.HousekeepingComplete := by
  unfold Obligations.HousekeepingComplete
  rintro s u t k x rfl
  refine ⟨fun hm => ⟨fun code ht => ?_, fun code ht hx hn => ?_, fun code ht => ?_⟩, fun period peak hlen => ?_, ?_,
    fun hm hfull => ?_, fun hm hk hfe hw => ?_⟩
  · obtain ⟨f, hf, htask, hzeros, hzeroed⟩ := State.housekeepingEnd_zero (s := s.elapse t) x ht
    refine ⟨(s.elapse t).housekeepingEnd k x, (exec_housekeepingEnd t k x s).trans (State.runOn_eq hm t _), ?_⟩
    rw [hf, State.updLocal_self]
    exact ⟨htask, hzeros, hzeroed, fun j => State.local_of_others (State.updLocal_others ..), rfl, rfl⟩
  · obtain ⟨htask, hfail, hothers⟩ := State.housekeepingEnd_refBad (s := s.elapse t) ht hx hn
    exact ⟨_, (exec_housekeepingEnd t k x s).trans (State.runOn_eq hm t _), htask, hfail, fun j => State.local_of_others hothers⟩
  · refine ⟨(s.elapse t).housekeepingEnd k x, (exec_housekeepingEnd t k x s).trans (State.runOn_eq hm t _), ?_⟩
    rw [State.housekeepingEnd_ratio (s := s.elapse t) x ht, State.updLocal_self]
    exact ⟨rfl, rfl, fun j => State.local_of_others (State.updLocal_others ..), rfl⟩
  · obtain ⟨hper, hpres, hval, hloc⟩ := (s.elapse t).setMains_measured
      (decide (100 < peak) && mainsInBand s.field.nom60 ((period :: s.field.periods).take 8)) (decide (100 < peak))
      ((period :: s.field.periods).take 8)
    refine ⟨(s.elapse t).mainsCycle period peak, (exec_mainsCycle t period peak s).trans (State.run_eq s t _), hper, hpres, hloc, ?_⟩
    have hlen8 : ((period :: s.field.periods).take 8).length = 8 := by
      rw [List.length_take, List.length_cons]
      omega
    refine (Bool.eq_iff_iff.1 hval).trans ?_
    rw [Bool.and_eq_true, decide_eq_true_eq, mainsInBand_iff hlen8]
  · obtain ⟨hper, hpres, hval, hloc⟩ := (s.elapse t).setMains_measured false false []
    exact ⟨_, (exec_mainsSignalLoss t s).trans (State.run_eq s t _), hval, hper, hpres, hloc⟩
  · obtain ⟨target, hself, hothers⟩ := State.witnessUpdate_full (s := s.elapse t) hfull
    refine ⟨(s.elapse t).witnessUpdate k, (exec_witnessUpdate t k s).trans (State.runOn_eq hm t _), ?_⟩
    rw [hself]
    exact ⟨rfl, rfl, rfl, fun j => State.local_of_others hothers⟩
  · obtain ⟨-, hdone, hage, htarget, hlimit, hspot⟩ := (s.elapse t).startedUp_self k x
    obtain ⟨hothers, -⟩ := (s.elapse t).startedUp_frame k x
    refine ⟨(s.elapse t).witnessStartup [(k, x)], (exec_witnessStartupDone t [(k, x)] s).trans (State.runOn_eq hm t _), ?_⟩
    rw [State.witnessStartup_one (s := s.elapse t) x hk hfe hw]
    simp only [State.withWitnessValid_local]
    exact ⟨hdone, fun hall => (Bool.or_eq_true ..).mpr (.inr (State.startedUp_allWitnessed (s := s.elapse t) x hall)), hage, htarget,
      hlimit, hspot, fun j => State.local_of_others hothers⟩

end Sys2Proof.Machine

/-! Calibration (R128 to R132). -/

namespace Sys2Proof.Machine

/-- A row that runs an operation out of HOLD, with what the operation comes to. -/
theorem exec_runs {s v : State} {t : Nat} {c : Instr} {f : State → State} (hc : exec c s = s.runOn t f) (hm : s.sys.mode ≠ .hold)
    (h : f (s.elapse t) = v) : exec c s = .next (v.finish (s.elapse t)) := by
  rw [hc, State.runOn_eq hm, h]

/-! ## The command (R128) -/

theorem State.effect_cal (s : State) (p : Packet) (n : Nat) :
    s.effect (p.operating 0x31 n) = (s.admitted (p.operating 0x31 n)).opCal (p.operating 0x31 n) := by
  rw [State.effect, State.applyPacket]
  rfl

theorem sleAt_operating (p : Packet) (op n k len : Nat) :
    sleAt (p.operating op n).payload (k + 1) len = sleAt p.payload (k + 1) len := by
  rw [sleAt, leAt_operating, sleAt]

theorem State.localChs_le (s : State) : s.localChs ≤ 32 := by
  unfold State.localChs
  split <;> omega

/-- A `CAL` whose form and channel are good. -/
structure State.CalForm (s : State) (p : Packet) : Prop where
  there : p.addr.toNat < s.localChs
  form : p.payload.length = 8
  used : (s.local' p.addr.toNat).fe.inUse = true
  count : leAt p.payload 2 2 ≤ 256

theorem State.CalForm.operating {s : State} {p : Packet} (h : s.CalForm p) (n : Nat) :
    (s.admitted (p.operating 0x31 n)).CalForm (p.operating 0x31 n) := by
  obtain ⟨hk, hl, hu, hn⟩ := h
  exact ⟨hk, (length_operating p _ n (by omega)).trans hl, hu, (leAt_operating p _ n 1 2).trans_le hn⟩

/-- A channel on which a step may begin: none is under way, and slots run. -/
structure State.CalFree (s : State) (k : Nat) : Prop where
  none : (s.local' k).cal = none
  run : s.localsRun = true
  on : s.sys.mode ≠ .quiesce

/-- The step of a zero (0) or a span (1), on the settings and slots of now. -/
def State.calStep (s : State) (p : Packet) (op : Nat) (l : Local) : CalStep :=
  { pkt := p
    isSpan := op == 1
    n := if leAt p.payload 2 2 = 0 then 16 else leAt p.payload 2 2
    x := sleAt p.payload 4 4
    fromSlot := if l.origin.isSome then max l.next (s.slotAt p.addr.toNat (s.ns + 1)) else l.next }

/-- A channel as its step begins: a zero discards the one held. -/
def State.calBegun (s : State) (p : Packet) (op : Nat) (l : Local) : Local :=
  { l with
    cal := some (s.calStep p op l)
    calState := if op = 0 then 1 else 3
    calCount := 0
    heldZero := if op = 0 then none else l.heldZero }

/-- A zero, or a span of a value of at least 10 % of full scale, begins on a channel that is free for it. -/
theorem State.opCal_begins {s : State} {p : Packet} {n : Nat} (h : s.CalForm p) (hf : s.CalFree p.addr.toNat) (hn : n ≤ 1)
    (hop : byteAt p.payload 0 = n)
    (hx : n = 1 → fullScale (s.local' p.addr.toNat).code / 10 ≤ ((sleAt p.payload 4 4).natAbs : Rat) / 100_000_000) :
    s.opCal p = (.later, s.updLocal p.addr.toNat (s.calBegun p n)) := by
  subst hop
  obtain ⟨hk, hl, hu, hcount⟩ := h
  obtain ⟨hc, hr, hq⟩ := hf
  have h32 := s.localChs_le
  unfold State.opCal
  extract_lets k l op n x fail
  rw [if_neg (by simp [k, hl]; omega), if_neg (by omega), if_neg (by simp [op, n, l, k, hu]; omega), if_neg (by omega),
    if_neg (by simp [l, k, hc]), if_neg (by simp [hr, hq]), if_neg]
  · rfl
  · rw [Bool.and_eq_true, decide_eq_true_eq, decide_eq_true_eq]
    exact fun ⟨h1, hlt⟩ => absurd (hx h1) (not_le.2 hlt)

/-- The command's effect where it begins a step. -/
theorem State.effect_calBegins {s : State} {p : Packet} {n : Nat} (h : s.CalForm p) (hf : s.CalFree p.addr.toNat) (hn : n ≤ 1)
    (hx : n = 1 → fullScale (s.local' p.addr.toNat).code / 10 ≤ ((sleAt p.payload 4 4).natAbs : Rat) / 100_000_000) :
    s.effect (p.operating 0x31 n) = (.later, (s.admitted (p.operating 0x31 n)).updLocal p.addr.toNat
      ((s.admitted (p.operating 0x31 n)).calBegun (p.operating 0x31 n) n)) := by
  obtain ⟨hc, hr, hq⟩ := hf
  rw [State.effect_cal]
  refine State.opCal_begins (h.operating n) ⟨hc, hr, hq⟩ hn (byteAt_operating p 0x31 (by omega)) fun h1 => ?_
  rw [sleAt_operating p 0x31 n 3 4]
  exact hx h1

theorem State.opCal_abort {s : State} {p : Packet} (h : s.CalForm p) (hop : byteAt p.payload 0 = 2) :
    s.opCal p = (.done stOk (calBody 0 (s.local' p.addr.toNat).code 0 0 0 0), s.calDrop p.addr.toNat) := by
  obtain ⟨hk, hl, hu, hn⟩ := h
  have h32 := s.localChs_le
  unfold State.opCal
  extract_lets k l op n x fail
  rw [if_neg (by simp [k, hl]; omega), if_neg (by omega), if_neg (by simp [op, n, l, k, hu]; omega), if_pos hop]

/-! ## The end of a step (R129 to R132) -/

@[simp] theorem State.complete_others (s : State) (q : Packet) (st : Nat) (b : List Byte) (k : Nat) :
    (s.complete q st b).others k = s.others k :=
  funext fun j => State.local_of_field (State.complete_field ..) j

theorem State.calRefuse_running {s : State} {k : Nat} {c : CalStep} (h : (s.local' k).cal = some c) (reason code : Nat) (mean : Int)
    (sd : Nat) :
    s.calRefuse k reason code mean sd
      = (s.updLocal k fun l => { l with cal := none, calState := 5, calReason := reason }).complete c.pkt stRefused
          (calBody reason code mean sd 0 0) := by
  unfold State.calRefuse
  rw [h]

/-- A step that is dropped, if one was under way, is completed; nothing else is left of it or of a held zero. -/
theorem State.calDrop_parts (s : State) (k : Nat) :
    ((s.calDrop k).local' k).cal = none ∧ ((s.calDrop k).local' k).heldZero = none ∧ (s.calDrop k).others k = s.others k
      ∧ (s.calDrop k).streams = s.streams ∧ (s.calDrop k).hive = s.hive := by
  unfold State.calDrop
  extract_lets t
  rw [State.updLocal_self, State.updLocal_others]
  cases h : (s.local' k).cal with
  | none =>
    have ht : t = s := by simp [t, State.calRefuse, h]
    rw [ht]
    exact ⟨h, rfl, rfl, rfl, rfl⟩
  | some c =>
    have ht : t = _ := State.calRefuse_running h 5 (s.local' k).code 0 0
    rw [ht]
    simp [State.local_of_field (State.complete_field ..)]

/-- A step that has seen 4·N + 16 slots without its N words is refused as aborted. -/
theorem State.calTimeout_over {s : State} {k : Nat} {c : CalStep} (h : (s.local' k).cal = some c) (hs : 4 * c.n + 16 ≤ c.slots)
    (hn : c.volts.length < c.n) :
    s.calTimeout k = (s.updLocal k fun l => { l with cal := none, calState := 5, calReason := 5 }).complete c.pkt stRefused
      (calBody 5 (s.local' k).code 0 0 0 0) := by
  rw [← State.calRefuse_running h]
  unfold State.calTimeout
  rw [h]
  exact if_pos (by simp [hs, hn])

/-- A zero whose words agree on one code, lie within 5 % of full scale and are quiet, is held. -/
theorem State.calStepEnd_zero {s : State} {k : Nat} {c : CalStep} {m : Rat} (h : (s.local' k).cal = some c) (hz : c.isSpan = false)
    (hn : c.n ≤ c.volts.length) (hclip : c.clip = false) (hcodes : ∀ x ∈ c.codes, x = c.codes.headD 0)
    (hm : m = c.volts.sum / c.volts.length) (hlim : (if m < 0 then -m else m) ≤ fullScale (c.codes.headD 0) / 20)
    (hquiet : variance c.volts m ≤ 8 * noiseVolts (c.codes.headD 0) (bits (s.local' k).fe.conv.toNat 0 3)
      * (8 * noiseVolts (c.codes.headD 0) (bits (s.local' k).fe.conv.toNat 0 3))) :
    s.calStepEnd k = (s.updLocal k fun l => { l with cal := none, calState := 2, calReason := 0, heldZero := some m }).complete c.pkt
      stOk (calBody 0 (c.codes.headD 0) (roundRat (m * 100_000_000))
        (min 0xFFFF_FFFF (nearestRoot (variance c.volts m * ((10 ^ 20 : Nat) : Rat)))) 0 0) := by
  unfold State.calStepEnd
  extract_lets l
  split
  · next h' => exact absurd (h.symm.trans h') (by simp)
  next st h' =>
  obtain rfl : c = st := Option.some.inj (h.symm.trans h')
  rw [if_neg (by omega)]
  extract_lets code m' var sd mean lim noisy
  obtain rfl : m = m' := hm
  have hnoisy : noisy = false := by
    rw [Bool.and_eq_false_iff]
    exact .inr (decide_eq_false (not_lt.2 hquiet))
  rw [if_neg (by simpa [code] using hcodes), if_pos (by simp [hz]), if_neg, if_neg (by simp [hnoisy])]
  rw [hclip, Bool.false_or, decide_eq_true_eq]
  exact not_lt.2 hlim

/-! ## The obligation -/

/-- Settles O22: a step begins, is dropped, ends or times out on its own channel, and answers the packet that began it. -/
theorem calibrationComplete : Obligations.CalibrationComplete := by
  unfold Obligations.CalibrationComplete
  rintro s u t rfl hm
  refine ⟨fun p hq hk hl hu hn hc hr hmode => ?_, fun p hq hk hl hu hn hc hr hmode hx => ?_, fun p hq hk hl hu hn => ?_,
    fun k c m hc hz hn hclip hcodes hmean hlim hquiet => ?_, fun k c hc hs hn => ?_⟩
  · have hop := State.effect_calBegins (s := s.elapse t) (n := 0) ⟨hk, hl, hu, hn⟩ ⟨hc, hr, hmode⟩ (by decide)
      fun h => absurd h (by decide)
    refine ⟨_, _, exec_later (exec_calZero t p s) hq hop, congrArg Local.cal (State.updLocal_self ..), rfl, rfl, ?_, fun h => if_pos h, ?_⟩
    · simp only [State.calStep, leAt_operating p 0x31 0 1 2]
    · rw [State.updLocal_self]
      exact ⟨rfl, rfl, rfl, fun j hj => State.updLocal_ne _ _ hj⟩
  · have hop := State.effect_calBegins (s := s.elapse t) (n := 1) ⟨hk, hl, hu, hn⟩ ⟨hc, hr, hmode⟩ (by decide) fun _ => hx
    refine ⟨_, _, exec_later (exec_calSpan t p s) hq hop, congrArg Local.cal (State.updLocal_self ..), rfl,
      sleAt_operating p 0x31 1 3 4, rfl, ?_⟩
    rw [State.updLocal_self]
    exact ⟨rfl, rfl, rfl, fun j hj => State.updLocal_ne _ _ hj⟩
  · have hform : (s.elapse t).CalForm p := ⟨hk, hl, hu, hn⟩
    have hop := ((s.elapse t).effect_cal p 2).trans
      (State.opCal_abort (hform.operating 2) (byteAt_operating p 0x31 (by decide)))
    obtain ⟨hcal, hheld, hothers, hstr, hhive⟩ :=
      ((s.elapse t).admitted (p.operating 0x31 2)).calDrop_parts (p.operating 0x31 2).addr.toNat
    exact ⟨_, exec_answers (exec_calAbort t p s) hq hop, hcal, hheld, fun j => State.local_of_others hothers, hstr, hhive⟩
  · have hend := State.calStepEnd_zero (s := s.elapse t) hc hz hn hclip hcodes hmean hlim hquiet
    refine ⟨_, exec_runs (exec_calStepEnd t k s) hm hend, ?_⟩
    rw [State.updLocal_self]
    exact ⟨rfl, rfl, rfl, fun j hj => State.updLocal_ne _ _ hj, rfl, rfl⟩
  · refine ⟨_, exec_runs (exec_calStepTimeout t k s) hm (State.calTimeout_over (s := s.elapse t) hc hs hn), ?_⟩
    rw [State.updLocal_self]
    exact ⟨rfl, rfl, rfl, fun j hj => State.updLocal_ne _ _ hj, rfl, rfl⟩

end Sys2Proof.Machine

/-! Bring-up of the hub and its field die (R135, R375, R401, R515, R632, R634, R635, R644). -/

namespace Sys2Proof.Machine

/-! ## Changes of mode (R626) -/

/-- The mode and the one before, with what a change of mode leaves: the lanes, the time, the streams and Hive. -/
def State.modes (s : State) := (s.sys.mode, s.sys.prev, s.lanes, s.time, s.streams, s.hive)

theorem State.setMode_modes {s : State} {m : Mode} (h : s.sys.mode ≠ m) :
    (s.setMode m).modes = (m, s.sys.mode, s.lanes, s.time, s.streams, s.hive) := by
  unfold State.setMode
  rw [if_neg h]
  extract_lets old sys s1 s2 running cfg s3 sys' s4 sys''
  have h2 : s2.modes = (m, s.sys.mode, s.lanes, s.time, s.streams, s.hive) := by simp [s2, s1, sys, old, State.modes]
  clear_value s2
  have h3 : s3.modes = s2.modes := by
    unfold s3
    split <;> rfl
  clear_value s3
  have h4 : s4.modes = s2.modes := by
    unfold s4
    split
    · exact h3
    · rfl
  clear_value s4
  rw [← h2, ← h4]
  split <;> rfl

/-- LOAD is entered with the configuration as it stands. -/
theorem State.setMode_load {s : State} (h : s.sys.mode ≠ .load) :
    s.setMode .load = ({ s with sys := { s.sys with mode := .load, prev := s.sys.mode } } : State).raise 0x0001 1
      [BitVec.ofNat 32 (modeCode s.sys.mode)] := by
  unfold State.setMode
  rw [if_neg h]
  rfl

theorem State.roleMode_ne_train (s : State) : s.roleMode ≠ .train := by
  unfold State.roleMode State.timeMode
  split
  · decide
  · split
    · decide
    · split <;> decide

/-! ## Host lanes of the straps (R514, R634) -/

/-- The state but for its lanes. -/
def State.besideLanes (s : State) : State := { s with lanes := [] }

@[simp] theorem State.updLane_besideLanes (s : State) (l : Nat) (f : Lane → Lane) : (s.updLane l f).besideLanes = s.besideLanes := rfl

/-- A lane that is no pod's is enabled, and no other lane changes. -/
theorem State.setEnable_on {s : State} {l : Nat} (h : 24 ≤ l) :
    ((s.setEnable l true).lane l).enable = true ∧ (∀ j, j ≠ l → (s.setEnable l true).lane j = s.lane j)
      ∧ (s.setEnable l true).besideLanes = s.besideLanes := by
  unfold State.setEnable
  extract_lets x t
  split
  · next he => exact ⟨he.symm, fun _ _ => rfl, rfl⟩
  · have ht : (t.lane l).enable = true ∧ (∀ j, j ≠ l → t.lane j = s.lane j) ∧ t.besideLanes = s.besideLanes :=
      ⟨congrArg Lane.enable (State.updLane_self ..), fun j hj => State.updLane_ne _ _ hj, rfl⟩
    obtain ⟨hen, hne, hbeside⟩ := ht
    rw [if_pos rfl]
    split
    · exact ⟨hen, hne, hbeside⟩
    · unfold State.enterDetect
      rw [if_neg (by simp; omega)]
      exact ⟨(congrArg Lane.enable (State.updLane_self ..)).trans hen, fun j hj => (State.updLane_ne _ _ hj).trans (hne j hj), hbeside⟩

/-- The host lanes of the straps enabled, as the hub leaves HOLD. -/
def State.strapped (s : State) : State := [28, 29].foldl (fun s l => if s.strapLane l then s.setEnable l true else s) s

/-- A host lane is enabled where its strap says so. -/
def State.strapOne (s : State) (l : Nat) : State := if s.strapLane l then s.setEnable l true else s

theorem State.strapOne_parts (s : State) {l : Nat} (h : 24 ≤ l) :
    (s.strapLane l = true → ((s.strapOne l).lane l).enable = true) ∧ (∀ j, j ≠ l → (s.strapOne l).lane j = s.lane j)
      ∧ (s.strapOne l).besideLanes = s.besideLanes := by
  unfold State.strapOne
  split
  · obtain ⟨hen, hne, hbeside⟩ := State.setEnable_on (s := s) h
    exact ⟨fun _ => hen, hne, hbeside⟩
  · next hs => exact ⟨fun h => absurd h hs, fun _ _ => rfl, rfl⟩

theorem State.strapped_parts (s : State) :
    (s.sys.bootStrap.toNat ≤ 1 → (s.strapped.lane 28).enable = true) ∧ (s.sys.bootStrap.toNat = 0 → (s.strapped.lane 29).enable = true)
      ∧ s.strapped.besideLanes = s.besideLanes := by
  obtain ⟨h28, -, hb⟩ := s.strapOne_parts (l := 28) (by decide)
  obtain ⟨h29, hne, hb'⟩ := (s.strapOne 28).strapOne_parts (l := 29) (by decide)
  have hsys : (s.strapOne 28).sys = s.sys := (congrArg State.sys hb :)
  refine ⟨fun h => ?_, fun h => h29 ?_, hb'.trans hb⟩
  · exact (congrArg Lane.enable (hne 28 (by decide))).trans (h28 (by simp [State.strapLane, h]))
  · simp [State.strapLane, hsys, h]

/-! ## Leaving HOLD (R401, R634) -/

/-- What a request for a core voltage leaves. -/
def State.besideClk (s : State) := (s.sys, s.time, s.hive, s.lanes, s.streams, s.cfg, s.ports.bootRunning)

theorem State.updClk_besideClk (s : State) (f : Clock → Clock) : (s.updClk f).besideClk = s.besideClk := rfl

theorem State.raise_besideClk (s : State) (c u : Nat) (a : List Word) : (s.raise c u a).besideClk = s.besideClk := by
  simp [State.besideClk, State.raise_bootRunning]

theorem State.bump_besideClk (s : State) (a : Nat) : (s.bump a).besideClk = s.besideClk := by
  simp [State.besideClk, State.bump_bootRunning]

theorem State.avsTry_besideClk (s : State) (a : AvsAnswer) : (s.avsTry a).besideClk = s.besideClk := by
  unfold State.avsTry
  extract_lets r ok t n u
  split
  · rw [State.updClk_besideClk, State.updClk_besideClk]
  · split
    · rw [State.updClk_besideClk, State.updClk_besideClk]
    · rw [State.raise_besideClk, State.bump_besideClk, State.updClk_besideClk, State.updClk_besideClk]

/-- The hub in LOAD with its time at 0 (R401). -/
def State.inLoad (s : State) : State :=
  (s.updTime fun t => { t with running := true, now := 0, y := 0, yLocked := 0, state := 0 }).setMode .load

/-- The event of a field OTP that has failed its check in HOLD, which is raised as the hub leaves HOLD. -/
def State.otpEvent (s : State) : State := if s.field.otpChecked && !s.field.otpOk then s.raise 0x1005 0 else s

/-- Hive's clearing begins (R375). -/
def State.hiveClears (s : State) : State :=
  { s with hive := { s.hive with mem := [], errs := [], initDone := false, initAt := s.time.cyc } }

/-- The boot that the straps name begins (R515). -/
def State.boots (s : State) (boot : Nat) : State :=
  { s with ports := { s.ports with
      lanes := if boot = 0 then 2 else if boot = 1 then 1 else 0
      bootRunning := boot == 3, bootCopy := if boot = 3 then 1 else 0 } }

/-- Where its reset has ended and the PLL is locked, the hub leaves HOLD; the request for a core voltage adds nothing that is kept here. -/
theorem State.holdExit_besideClk {s : State} (avs : AvsAnswer) (hm : s.sys.mode = .hold) (hr : s.sys.rstHigh = true)
    (hl : s.clk.lock = true) (hu : s.sys.holdUntil ≤ s.time.cyc) :
    (s.holdExit avs).besideClk = (s.inLoad.otpEvent.hiveClears.strapped.boots s.sys.bootStrap.toNat).besideClk := by
  unfold State.holdExit
  rw [if_neg (by simp [hm, hr, hl, hu])]
  exact ite_keeps (State.avsTry_besideClk ..)

theorem State.otpEvent_besideClk (s : State) : s.otpEvent.besideClk = s.besideClk := ite_keeps (State.raise_besideClk ..)

theorem State.inLoad_besideClk {s : State} (hm : s.sys.mode = .hold) :
    s.inLoad.besideClk = ({ s with
      sys := { s.sys with mode := .load, prev := .hold }
      time := { s.time with running := true, now := 0, y := 0, yLocked := 0, state := 0 } } : State).besideClk := by
  unfold State.inLoad
  rw [State.setMode_load (by simp [hm]), State.raise_besideClk, State.updTime_sys, hm]
  rfl

/-- What leaving HOLD gives of the modes, the time, Hive, the host lanes and the boot. -/
theorem State.holdExit_parts {s : State} (avs : AvsAnswer) (hm : s.sys.mode = .hold) (hr : s.sys.rstHigh = true)
    (hl : s.clk.lock = true) (hu : s.sys.holdUntil ≤ s.time.cyc) :
    (s.holdExit avs).sys = { s.sys with mode := .load, prev := .hold } ∧ (s.holdExit avs).time.running = true
      ∧ (s.holdExit avs).time.now = 0
      ∧ (s.holdExit avs).hive.mem = [] ∧ (s.holdExit avs).hive.initDone = false ∧ (s.holdExit avs).hive.initAt = s.time.cyc
      ∧ (s.sys.bootStrap.toNat ≤ 1 → ((s.holdExit avs).lane 28).enable = true)
      ∧ (s.sys.bootStrap.toNat = 0 → ((s.holdExit avs).lane 29).enable = true)
      ∧ (s.holdExit avs).ports.bootRunning = (s.sys.bootStrap.toNat == 3)
      ∧ (s.holdExit avs).streams = s.streams ∧ (s.holdExit avs).cfg = s.cfg := by
  have hexit := State.holdExit_besideClk avs hm hr hl hu
  have hload := (State.otpEvent_besideClk s.inLoad).trans (State.inLoad_besideClk hm)
  obtain ⟨h28, h29, hlanes⟩ := s.inLoad.otpEvent.hiveClears.strapped_parts
  generalize s.holdExit avs = v at *
  generalize s.inLoad.otpEvent = r at *
  simp only [State.besideClk, Prod.mk.injEq] at hexit hload
  obtain ⟨hsys, htime, hhive, hlane, hstr, hcfg, hboot⟩ := hexit
  obtain ⟨hsys', htime', -, -, hstr', hcfg', -⟩ := hload
  have hv {β : Type} (g : State → β) (h : ∀ t, g t = g t.besideLanes) : g r.hiveClears.strapped = g r.hiveClears := by
    rw [h, hlanes, ← h]
  have hvsys : v.sys = r.sys := hsys.trans (hv State.sys fun _ => rfl)
  have hvtime : v.time = r.time := htime.trans (hv State.time fun _ => rfl)
  have hvhive : v.hive = r.hiveClears.hive := hhive.trans (hv State.hive fun _ => rfl)
  have hvlane (j : Nat) : v.lane j = r.hiveClears.strapped.lane j := by
    rw [State.lane, hlane]
    rfl
  have hstrap : r.hiveClears.sys.bootStrap = s.sys.bootStrap := (congrArg Sys.bootStrap hsys' :)
  rw [hstrap] at h28 h29
  refine ⟨hvsys.trans hsys', ?_, ?_, ?_, ?_, ?_, fun h => ?_, fun h => ?_, hboot, ?_, ?_⟩
  · rw [hvtime, htime']
  · rw [hvtime, htime']
  · rw [hvhive]
    rfl
  · rw [hvhive]
    rfl
  · rw [hvhive, State.hiveClears, htime']
  · rw [hvlane]
    exact h28 h
  · rw [hvlane]
    exact h29 h
  · exact hstr.trans ((hv State.streams fun _ => rfl).trans hstr')
  · exact hcfg.trans ((hv State.cfg fun _ => rfl).trans hcfg')

/-! ## The field die (R135, R632) -/

theorem State.otpChecked_good (s : State) :
    (s.otpChecked otpGood).field = { s.field with otpChecked := true, otpOk := otpGood }
      ∧ (s.otpChecked otpGood).sys = s.sys ∧ (s.otpChecked otpGood).streams = s.streams ∧ (s.otpChecked otpGood).hive = s.hive := by
  unfold State.otpChecked
  rw [if_neg (by simp)]
  generalize otpGood = good
  cases good <;> simp

/-- Whether the field die is in a reset, with the modes and the bytes of Hive: what the channels' restart leaves. -/
def State.besideRestart (s : State) := (s.field.resetting, s.sys, s.hive.mem)

theorem State.besideRestart_of_still {s t : State} (h : t.still = s.still) : t.besideRestart = s.besideRestart := by
  obtain ⟨hsys, -, -, hfield, -, -, -, -, hmem, -⟩ := State.still_parts h
  rw [State.besideRestart, hsys, hfield, hmem, State.besideRestart]

@[simp] theorem State.updLocal_besideRestart (s : State) (k : Nat) (f : Local → Local) :
    (s.updLocal k f).besideRestart = s.besideRestart := rfl

theorem State.passSlots_besideRestart (s : State) (k n : Nat) : (s.passSlots k n).besideRestart = s.besideRestart :=
  (State.updLocal_besideRestart ..).trans (State.updLocal_besideRestart ..)

theorem State.closeLocalSpans_besideRestart (s : State) (ks : List Nat) (nxt : Nat → Nat) :
    (s.closeLocalSpans ks nxt).besideRestart = s.besideRestart := by
  unfold State.closeLocalSpans
  refine foldl_keeps (fun s r => ?_) _ s
  extract_lets mine stop s1 gs s2
  have h1 : s1.besideRestart = s.besideRestart := foldl_keeps (fun s c => State.updLocal_besideRestart ..) _ s
  have h2 : s2.besideRestart = s1.besideRestart :=
    foldl_keeps (fun s g => ite_keeps (State.besideRestart_of_still (State.emitSpan_still ..))) _ s1
  split
  · rfl
  · rw [← h1, ← h2]
    split <;> rfl

theorem State.resumeLocals_besideRestart (s : State) (ns : Nat) (pre : Bool) :
    (s.resumeLocals ns pre).besideRestart = s.besideRestart := by
  unfold State.resumeLocals
  extract_lets ks mine t
  rw [State.closeLocalSpans_besideRestart]
  exact foldl_keeps (fun s k => (State.updLocal_besideRestart ..).trans (State.passSlots_besideRestart ..)) _ s

/-- A field die that has been in reset is ready: it is in reset no more, and its channels restart. -/
theorem State.fieldDieReady_besideRestart {s : State} (h : s.field.resetting = true) :
    s.fieldDieReady.besideRestart = (false, s.sys, s.hive.mem) := by
  unfold State.fieldDieReady
  rw [if_neg (by simp [h])]
  extract_lets t u
  rw [State.resumeLocals_besideRestart]
  exact foldl_keeps (g := State.besideRestart) (fun s k => State.updLocal_besideRestart ..) _ t

theorem State.fieldLinkLoss_up {s : State} (h : s.sys.fdLink = true) :
    s.fieldLinkLoss = { s with sys := { s.sys with fdLink := false, fdDownAt := some s.time.cyc } } := if_pos h

/-! ## The flash boot (R515, R553) -/

theorem State.raise_bootFailed (s : State) (c u : Nat) (a : List Word) : (s.raise c u a).ports.bootFailed = s.ports.bootFailed :=
  (congrArg (fun x => x.1.bootFailed) (State.raise_besideEvents s c u a) :)

/-- A copy with a bad header: copy B is tried after copy A, and after it the boot has failed. -/
theorem State.bootNext_parts (s : State) (body : List Byte) :
    (s.ports.bootCopy = 1 → (s.bootNext body true).ports.bootCopy = 2
        ∧ (s.bootNext body true).ports.bootFailed = s.ports.bootFailed)
      ∧ (s.ports.bootCopy ≠ 1 → (s.bootNext body true).ports.bootFailed = true ∧ (s.bootNext body true).ports.bootRunning = false)
      ∧ (s.bootNext body true).sys = s.sys ∧ (s.bootNext body true).hive = s.hive := by
  unfold State.bootNext
  extract_lets copy t
  have hfailed : t.ports.bootFailed = s.ports.bootFailed := State.raise_bootFailed ..
  have hsys : t.sys = s.sys := State.raise_sys ..
  have hhive : t.hive = s.hive := State.raise_hive ..
  clear_value t
  by_cases hc : copy = 1
  · rw [if_pos (by simp [hc])]
    exact ⟨fun _ => ⟨rfl, hfailed⟩, fun h => absurd hc h, hsys, hhive⟩
  · rw [if_neg (by simp [hc])]
    exact ⟨fun h => absurd h hc, fun _ => ⟨rfl, rfl⟩, hsys, hhive⟩

theorem State.hiveWrite_cfg_comb (s : State) (q a : Nat) (bs : List Byte) :
    (s.hiveWrite q a bs).cfg = s.cfg ∧ (s.hiveWrite q a bs).comb = s.comb := by
  unfold State.hiveWrite
  extract_lets t ws errs src u
  obtain ⟨-, -, hcfg, -, -, -, -, -, -, hcomb, -⟩ := State.still_parts (State.strike_still u ws)
  obtain ⟨-, -, hcfg', -, -, -, -, -, -, hcomb', -⟩ := State.still_parts (State.grants_still s q a bs.length)
  exact ⟨hcfg.trans hcfg', hcomb.trans hcomb'⟩

/-- The staged image of one that has passed its checks. -/
def State.stagedOf (s : State) (i : Image) (port : Port) : Staged :=
  { isFull := i.isFull, imageId := i.imageId, epochDs := i.epochDs, sections := i.secs, port := port, acceptedAt := s.ns, tc := i.tc
    epochNo := if i.isFull then 0 else s.applyEpoch i.tc }

/-- The hub's own commit of an image that passes its checks, with no rebuild to wait for. -/
theorem State.startCommit_own {s y : State} {i : Image} {len : Nat} (hs : s.cfg.staged = none) (hr : s.comb.rebuild = none)
    (hi : ({ s with cfg := { s.cfg with stagedLen := 0 } } : State).readImage len 0 false = (.ok i, y))
    (hc : y.imageChecks i = none) (hx : i.isFull = true ∨ ∀ sec ∈ i.secs, sec.1 ≠ 8) :
    s.startCommit { port := .own } len 0 false
      = (Reply.ok, ((y.stageImage i .own).bootPassed .own).commitOutcome commitOk) := by
  unfold State.startCommit
  extract_lets src t fail needsLock
  have ht : t.cfg.staged = none ∧ t.comb.rebuild = none := ⟨hs, hr⟩
  have hreb : (!i.isFull && y.hasComb && i.secs.any fun x => x.1 == 8) = false := by
    rcases hx with hf | hn
    · simp [hf]
    · simp only [Bool.and_eq_false_iff, List.any_eq_false, beq_iff_eq]
      exact .inr hn
  rw [if_neg (by simp [State.holdsLock]), if_neg (by simp [ht])]
  simp only [t, src, hi, hc]
  rw [if_neg]
  · simp only [if_true]
  · simp [hreb]

theorem State.flashRead_badHeader {s : State} {header image : List Byte} (hb : s.ports.bootRunning = true)
    (hh : bootHeaderOk header = false) :
    s.flashRead header image = s.bootNext (Refuse.body { status := stRefused, runit := 0x0B }) true := by
  simp [State.flashRead, hb, hh]

/-- A copy whose image passes the hub's own commit ends the boot, with the image staged. -/
theorem State.flashRead_good {s x y : State} {header image : List Byte} {n : Nat} {i : Image} (hb : s.ports.bootRunning = true)
    (hh : bootHeaderOk header = true) (hs : s.cfg.staged = none) (hr : s.comb.rebuild = none)
    (hn : n = leAt header (if s.ports.bootCopy = 2 then 20 else 12) 4) (hx : x = s.hiveWrite 5 stagingBase (image.take n))
    (hi : ({ x with cfg := { x.cfg with stagedLen := 0 } } : State).readImage (image.take n).length 0 false = (.ok i, y))
    (hc : y.imageChecks i = none) (hf : i.isFull = true ∨ ∀ sec ∈ i.secs, sec.1 ≠ 8) :
    ∃ (v : State) (g : Staged), s.flashRead header image = v ∧ v.ports.bootDone = true ∧ v.ports.bootRunning = false
      ∧ v.cfg.staged = some g ∧ g.isFull = i.isFull ∧ g.imageId = i.imageId ∧ g.sections = i.secs ∧ g.port = .own
      ∧ v.cfg.result = stOk := by
  obtain ⟨hcfg, hcomb⟩ := s.hiveWrite_cfg_comb 5 stagingBase (image.take n)
  rw [← hx] at hcfg hcomb
  have hcommit := State.startCommit_own (hcfg ▸ hs) (hcomb ▸ hr) hi hc hf
  refine ⟨((y.stageImage i .own).bootPassed .own).commitOutcome commitOk, y.stagedOf i .own, ?_, rfl, rfl, rfl, rfl, rfl, rfl, rfl, rfl⟩
  unfold State.flashRead
  rw [if_neg (by simp [hb]), if_neg (by simp [hh])]
  subst hx hn
  extract_lets hasB img t p c
  have hc : c = _ := hcommit
  rw [hc]
  rfl

/-! ## Hive is ready (R375) -/

/-- A table after the same value has been set at some keys. -/
theorem Tab.get_setAll {α : Type} [DecidableEq α] (d : Nat → α) (v : α) (ks : List Nat) (t : Tab α) (b : Nat) :
    Tab.get d (ks.foldl (fun t k => Tab.set d t k v) t) b = if b ∈ ks then v else Tab.get d t b := by
  induction ks generalizing t with
  | nil => simp
  | cons k ks ih =>
    rw [List.foldl_cons, ih, Tab.get_set]
    by_cases hb : b = k <;> simp [hb]

theorem State.scrubStart_passAt (s : State) {b : Nat} (h : b < 32) :
    (Tab.get (fun _ => ({} : Scrub)) s.scrubStart.hive.scrubs b).passAt = s.time.cyc := by
  refine congrArg Scrub.passAt (?_ : _ = ({ passAt := s.time.cyc } : Scrub))
  exact (Tab.get_setAll ..).trans (if_pos (List.mem_range.2 h))

theorem State.hiveInitDone_due {s : State} (hm : s.sys.mode ≠ .hold) (hi : s.hive.initDone = false)
    (hd : s.hive.initAt + 131072 ≤ s.time.cyc) :
    s.hiveInitDone = ({ s with hive := { s.hive with initDone := true } } : State).scrubStart.followStop :=
  if_neg (by simp [hm, hi, hd])

/-! ## The end of TRAIN (R635) -/

theorem State.trainEnd_due {s : State} (hm : s.sys.mode = .train)
    (hd : s.lanesReached = true ∨ s.sys.trainAt + 5 * cycPerS ≤ s.time.cyc) :
    s.trainEnd.modes = (s.roleMode, .train, s.lanes, s.time, s.streams, s.hive) := by
  unfold State.trainEnd
  rw [if_pos (by simpa [hm] using hd)]
  extract_lets late
  have hpods {β : Type} {g : State → β} (h : ∀ t p f, g (State.updPod t p f) = g t) :
      g (late.foldl (fun s p => s.updPod p fun l => { l with untimed := true }) s) = g s := foldl_keeps (fun _ _ => h ..) _ s
  have hsys := hpods (g := State.sys) fun _ _ _ => rfl
  rw [State.setMode_modes (by rw [hsys, hm]; exact s.roleMode_ne_train.symm), hsys, hm, hpods (g := State.lanes) fun _ _ _ => rfl,
    hpods (g := State.time) fun _ _ _ => rfl, hpods (g := State.streams) fun _ _ _ => rfl, hpods (g := State.hive) fun _ _ _ => rfl]

/-! ## The obligation -/

/-- Settles O10: each command as the operation it runs. -/
theorem bringUpComplete : Obligations.BringUpComplete := by
  unfold Obligations.BringUpComplete
  rintro s u t rfl
  refine ⟨fun avs hm hr hl hu => ?_, fun good hgood => ?_, fun hr => ?_, fun hl => ?_, exec_fieldLinkReturn t s, fun hm =>
    ⟨fun header image n x y i hb hh hs hr hn hx hi hc hfull => ?_, fun header image hb hh => ?_, fun hi hd => ?_, fun hm' hd => ?_⟩⟩
  · obtain ⟨hsys, hrun, hnow, hmem, hinit, hat, h28, h29, hboot, hstr, hcfg⟩ :=
      State.holdExit_parts (s := s.elapse t) avs hm hr hl hu
    exact ⟨_, (exec_holdExit t avs s).trans (State.run_eq s t _), congrArg Sys.mode hsys, congrArg Sys.prev hsys, hrun, hnow, hmem,
      hinit, hat, h28, h29, hboot ▸ beq_iff_eq, hstr, hcfg⟩
  · obtain rfl : good = otpGood := hgood
    exact ⟨_, (exec_fieldOtpCheckDone t _ s).trans (State.run_eq s t _), (s.elapse t).otpChecked_good⟩
  · have hready := State.fieldDieReady_besideRestart (s := s.elapse t) hr
    exact ⟨_, (exec_fieldDieReady t s).trans (State.run_eq s t _), congrArg (·.1) hready, congrArg (·.2.1) hready,
      congrArg (·.2.2) hready⟩
  · rw [exec_fieldLinkLoss, State.run_eq, State.fieldLinkLoss_up (s := s.elapse t) hl]
    rfl
  · obtain ⟨v, g, hread, hv⟩ := State.flashRead_good (s := s.elapse t) hb hh hs hr hn hx hi hc hfull
    exact ⟨v, g, exec_runs (exec_flashCopyReadDone t header image s) hm hread, hv⟩
  · obtain ⟨hfirst, hlast, hsys, hhive⟩ := (s.elapse t).bootNext_parts (Refuse.body { status := stRefused, runit := 0x0B })
    exact ⟨_, exec_runs (exec_flashCopyReadDone t header image s) hm (State.flashRead_badHeader hb hh), hfirst, hlast, hsys, hhive⟩
  · refine ⟨_, exec_runs (exec_hiveInitDone t s) hm (State.hiveInitDone_due (s := s.elapse t) hm hi hd), rfl, rfl, fun b hb => ?_, rfl,
      rfl⟩
    exact State.scrubStart_passAt _ hb
  · have hend := State.trainEnd_due (s := s.elapse t) hm' hd
    simp only [State.modes, Prod.mk.injEq] at hend
    obtain ⟨hmode, hprev, hlanes, -, hstr, hhive⟩ := hend
    exact ⟨_, exec_runs (exec_trainEnd t s) hm rfl, hmode, hprev, hlanes, hstr, hhive⟩

end Sys2Proof.Machine

/-! ## Spot conversions (O21): the event of a range change stays in the host port's FIFO

A `SPOT` on a fixed range counts a range change, and a counter that overflows raises its event (R543). The refutation needs that nothing that
follows from the command (`State.finish`) sends that event itself: `State.Unmarked` is the invariant, kept by each function that
`State.finish` calls. A pair or a swarm can hand the hub any command there, another spot too; but while channel 0 runs a spot no channel can
begin one, and what ends the spot first leaves TRAIN or resets the field die, after which no range is fixed. -/

namespace Sys2Proof.Machine
-- Elaborated side by side, the many short proofs below wait for each other's equations of the model in more threads than the check allows.
set_option Elab.async false

/-! ### The overflow event of channel 0's range-change counter -/

/-- The `EVT` packet of the overflow event of channel 0's range-change counter (R489, R490, R543). -/
def isRangeMark (x : OutPkt) : Bool := x.kind == .event && x.addr == 0x10FF && leAt x.payload 12 4 == 0x1024

/-- A counter at this address raises that event as it overflows. -/
def marksRange (a : Nat) : Prop := overflowCode a = 0x10FF ∧ overflowSubject a % 2 ^ 32 = 0x1024

/-- What forbids a range change for a spot conversion from here on, as long as only what follows from a command takes place: the hub is not
in TRAIN and TEST does not lead back there, the field die is in reset, or the counter before one that raises the event has counted (an
arbiter's requester number is unbounded, so its two counters can lie there). -/
def State.Spent (s : State) : Prop :=
  ¬ (s.sys.mode = .train ∨ s.sys.mode = .test ∧ s.sys.prev = .train) ∨ s.field.resetting = true ∨ ∃ a, marksRange (a + 4) ∧ s.reg a ≠ 0

/-- The event is neither in a FIFO nor owed to it. -/
def Fifo.Markless (f : Fifo) : Prop := (∀ x ∈ f.q, isRangeMark x = false) ∧ ∀ x ∈ f.owed, isRangeMark x = false

/-- Channel 0 runs a spot conversion, no other channel is in use, and the event has not been sent. -/
def State.Spotting (s : State) : Prop :=
  (s.local' 0).spot.isSome = true ∧ (∀ j, j ≠ 0 → (s.local' j).fe.inUse = false) ∧ s.host.Markless

/-- The invariant of what follows from a command: while a range change is possible, the spot runs and its event has not been sent. With
`False` for `p` only that a range change is forbidden. -/
def State.Unmarked (s : State) (p : Prop) : Prop := s.Spent ∨ p ∧ s.Spotting

/-- Both ends of a requester's three counters (R396). -/
theorem not_marksRange_of_mod {a : Nat} (h : a % 16 ≠ 4) : ¬ marksRange a := by
  rintro ⟨-, hs⟩
  unfold overflowSubject at hs
  split at hs <;> omega

theorem not_marksRange {a : Nat} (h : a < 0x000F_0004) : ¬ marksRange a := by
  rintro ⟨hc, -⟩
  unfold overflowCode at hc
  split at hc <;> omega

theorem le_of_marksRange {a : Nat} (h : marksRange (a + 4)) : 0x000F_0000 ≤ a :=
  not_lt.1 fun ha => not_marksRange (by omega) h

section
variable {s : State} {p : Prop}

theorem State.Unmarked.imp {t : State} (h : s.Unmarked p) (hd : s.Spent → t.Spent) (hw : s.Spotting → t.Spotting) : t.Unmarked p :=
  h.elim (fun h => .inl (hd h)) fun h => .inr ⟨h.1, hw h.2⟩

/-- Forbidden for good is as good as either. -/
theorem State.Unmarked.weaken (h : s.Unmarked False) : s.Unmarked p := h.elim .inl fun h => h.1.elim

theorem State.Spent.imp {t : State} (h : s.Spent) (hs : t.sys = s.sys) (hf : t.field.resetting = s.field.resetting)
    (hr : ∀ a, marksRange (a + 4) → s.reg a ≠ 0 → t.reg a ≠ 0) : t.Spent := by
  unfold State.Spent at *
  rw [hs, hf]
  exact h.imp_right (Or.imp_right fun ⟨a, ha, h⟩ => ⟨a, ha, hr a ha h⟩)

theorem State.Unmarked.congr {t : State} (h : s.Unmarked p) (hs : t.sys = s.sys) (hf : t.field = s.field) (hh : t.host = s.host)
    (hr : ∀ a, marksRange (a + 4) → s.reg a ≠ 0 → t.reg a ≠ 0) : t.Unmarked p := by
  refine h.imp (·.imp hs (congrArg _ hf) hr) fun h => ?_
  unfold State.Spotting State.local' at *
  rw [hf, hh]
  exact h

/-- A change of the parts of the state that the invariant does not read. -/
theorem State.Unmarked.same {t : State} (h : s.Unmarked p) (hs : t.sys = s.sys := by rfl) (hf : t.field = s.field := by rfl)
    (hh : t.host = s.host := by rfl) (hr : t.regs = s.regs := by rfl) : t.Unmarked p :=
  h.congr hs hf hh fun a _ => by unfold State.reg; rw [hr]; exact id

theorem State.Unmarked.ite {t : State} {c : Prop} [Decidable c] (hs : s.Unmarked p) (ht : t.Unmarked p) :
    (if c then s else t).Unmarked p := by split <;> assumption

/-! ### Counters and events -/

theorem State.Unmarked.setReg_of (h : s.Unmarked p) {a : Nat} {v : Word} (ha : ¬ marksRange (a + 4)) : (s.setReg a v).Unmarked p :=
  h.congr rfl rfl rfl fun b hb hn => by
    rw [State.reg_setReg, if_neg (by rintro rfl; exact ha hb)]
    exact hn

/-- A register of the hub's own blocks (R541). -/
theorem State.Unmarked.setReg (h : s.Unmarked p) {a : Nat} {v : Word} (ha : a < 0x000F_0000 := by decide) : (s.setReg a v).Unmarked p :=
  h.setReg_of (not_marksRange (by omega))

theorem State.reg_countQuiet_ne_zero {a b : Nat} (h : s.reg b ≠ 0) : (s.countQuiet a).reg b ≠ 0 := by
  by_cases hb : b = a
  · subst hb
    rw [State.countQuiet_reg]
    split <;> bv_omega
  · rwa [State.countQuiet_reg_ne hb]

theorem State.Unmarked.countQuiet (h : s.Unmarked p) {a : Nat} : (s.countQuiet a).Unmarked p :=
  h.congr (by simp) (by simp) (by simp) fun _ _ => State.reg_countQuiet_ne_zero

/-- The packets of the host port's FIFO: those in it and those owed to it. -/
def State.hostPkts (s : State) : List OutPkt × List OutPkt := (s.host.q, s.host.owed)

theorem State.closeEvents_hostPkts : s.closeEvents.hostPkts = s.hostPkts := by
  unfold State.closeEvents
  split
  · rfl
  · exact (apply_ite State.hostPkts ..).trans (ite_self _)

theorem State.pushEvent_hostPkts (e : Event) : (s.pushEvent e).hostPkts = s.hostPkts := by
  unfold State.pushEvent
  dsimp only
  split
  · exact State.closeEvents_hostPkts
  · rfl

theorem State.Unmarked.of_hostPkts {t : State} (h : s.Unmarked p) (hs : t.sys = s.sys) (hf : t.field = s.field)
    (hh : t.hostPkts = s.hostPkts) (hr : ∀ a, marksRange (a + 4) → s.reg a ≠ 0 → t.reg a ≠ 0) : t.Unmarked p := by
  refine h.imp (·.imp hs (congrArg _ hf) hr) fun h => ?_
  simp only [State.hostPkts, Prod.mk.injEq] at hh
  unfold State.Spotting State.local' Fifo.Markless at *
  rw [hf, hh.1, hh.2]
  exact h

/-- An event's packet carries its code and subject. -/
theorem Event.leAt_subject (e : Event) : leAt e.bytes 12 4 = e.subject.toNat := by
  have h : (toLE 2 e.code ++ toLE 1 e.args.length ++ toLE 1 0 ++ toLE 6 e.stamp.toNat ++ toLE 2 e.eseq.toNat).length = 12 := by simp
  unfold Event.bytes leAt
  rw [List.append_assoc _ (toLE 4 _), List.drop_left' h, List.take_left' (length_toLE ..), fromLE_toLE]
  exact Nat.mod_eq_of_lt e.subject.isLt

theorem State.Unmarked.sendEvt (h : s.Unmarked p) (e : Event) (he : ¬ (e.code = 0x10FF ∧ e.subject = 0x1024)) :
    (s.sendEvt e).Unmarked p := by
  unfold State.sendEvt
  refine .ite h (.ite (h.imp id fun ⟨h0, hj, hq, ho⟩ => ⟨h0, hj, fun x hx => ?_, ho⟩) h.countQuiet)
  obtain hx | rfl := (List.mem_append.1 hx).imp_right List.mem_singleton.1
  · exact hq x hx
  · simp only [isRangeMark, Event.leAt_subject, Bool.and_eq_false_iff, beq_eq_false_iff_ne]
    by_cases hc : e.code = 0x10FF
    · exact .inr fun hs => he ⟨hc, BitVec.eq_of_toNat_eq hs⟩
    · exact .inl (.inr hc)

theorem State.Unmarked.queueI2c (h : s.Unmarked p) (e : Event) : (s.queueI2c e).Unmarked p := by
  unfold State.queueI2c
  exact .ite h h.countQuiet

theorem State.Unmarked.place (h : s.Unmarked p) {c u : Nat} {x : List Word} (hc : ¬ (c = 0x10FF ∧ u % 2 ^ 32 = 0x1024)) :
    (s.place c u x).Unmarked p := by
  have hu : ¬ (c = 0x10FF ∧ BitVec.ofNat 32 u = 0x1024) := fun ⟨h1, h2⟩ => hc ⟨h1, by simpa using congrArg BitVec.toNat h2⟩
  unfold State.place
  extract_lets e ev v on ev' w
  have hv : v.Unmarked p := h
  have hw : w.Unmarked p := by
    refine .ite (hv.of_hostPkts (by simp) (by simp) (State.pushEvent_hostPkts e) fun a _ hn => ?_) (.countQuiet ?_)
    · rwa [State.pushEvent_reg]
    · exact h
  exact .ite h (.ite (.ite (hv.queueI2c e) hv) (.ite ((hw.sendEvt e hu).queueI2c e) hw))

theorem State.Unmarked.overflowOf (h : s.Unmarked p) (o : State) {a : Nat} (ha : ¬ marksRange a) : (State.overflowOf o s a).Unmarked p := by
  unfold State.overflowOf
  exact .ite (h.place ha) h

theorem State.Unmarked.raise_of (h : s.Unmarked p) {c u : Nat} {x : List Word} (hc : ¬ (c = 0x10FF ∧ u % 2 ^ 32 = 0x1024)) :
    (s.raise c u x).Unmarked p :=
  ((h.place hc).overflowOf s (not_marksRange (by decide))).overflowOf s (not_marksRange (by decide))

/-- An event other than a field die counter's overflow. -/
theorem State.Unmarked.raise (h : s.Unmarked p) {c u : Nat} {x : List Word} (hc : c ≠ 0x10FF := by decide) : (s.raise c u x).Unmarked p :=
  h.raise_of fun hu => hc hu.1

theorem State.Unmarked.bump_of (h : s.Unmarked p) {a : Nat} (ha : ¬ marksRange a) : (s.bump a).Unmarked p := by
  unfold State.bump
  exact .ite (h.countQuiet.raise_of ha) h.countQuiet

/-- A counter of the hub's own blocks. -/
theorem State.Unmarked.bump (h : s.Unmarked p) {a : Nat} (ha : a < 0x000F_0000 := by decide) : (s.bump a).Unmarked p :=
  h.bump_of (not_marksRange (by omega))

theorem State.reg_bump_ne_zero {a b : Nat} (hb : 0x000F_0000 ≤ b) (h : s.reg b ≠ 0 ∨ b = a) : (s.bump a).reg b ≠ 0 := by
  have hd : b ≠ aEvtDrop := by unfold aEvtDrop; omega
  have hl : b ≠ aEvtLost := by unfold aEvtLost; omega
  by_cases hab : b = a
  · subst hab
    rw [State.bump_reg hd hl]
    split <;> bv_omega
  · rw [State.bump_reg_ne hab hd hl]
    exact h.resolve_right hab

/-- Counting of any kind lifts no bar. -/
theorem State.Spent.bump (h : s.Spent) {a : Nat} : (s.bump a).Spent :=
  h.imp (by simp) (by simp) fun _ hb hn => State.reg_bump_ne_zero (le_of_marksRange hb) (.inl hn)

theorem State.Unmarked.bumpBy (h : s.Unmarked p) {a n : Nat} (ha : a < 0x000F_0000 := by decide) : (s.bumpBy a n).Unmarked p := by
  have hs := h.setReg (v := BitVec.ofNat 32 (min 0xFFFF_FFFF (s.regN a + n))) ha
  unfold State.bumpBy
  exact .ite (hs.raise_of (not_marksRange (by omega))) hs

theorem State.Unmarked.foldl {α : Type} {f : State → α → State} {l : List α} (h : s.Unmarked p)
    (hf : ∀ s : State, s.Unmarked p → ∀ x ∈ l, (f s x).Unmarked p) : (l.foldl f s).Unmarked p :=
  List.foldlRecOn l f h hf

/-! ### Packets of the host port -/

theorem State.Unmarked.setHost (h : s.Unmarked p) {f : Fifo} (hf : s.host.Markless → f.Markless) : ({ s with host := f } : State).Unmarked p :=
  h.imp id fun ⟨h0, hj, hm⟩ => ⟨h0, hj, hf hm⟩

theorem Fifo.Markless.owe {f : Fifo} (h : f.Markless) {x : OutPkt} (hx : isRangeMark x = false) :
    ({ f with owed := f.owed ++ [x] } : Fifo).Markless :=
  ⟨h.1, fun y hy => (List.mem_append.1 hy).elim (h.2 y) fun hy => List.mem_singleton.1 hy ▸ hx⟩

theorem Fifo.Markless.take {f : Fifo} (h : f.Markless) {xs : List OutPkt} (hx : ∀ x ∈ xs, isRangeMark x = false) :
    ({ f with q := f.q ++ xs } : Fifo).Markless :=
  ⟨fun y hy => (List.mem_append.1 hy).elim (h.1 y) (hx y), h.2⟩

theorem Fifo.Markless.release {f : Fifo} (h : f.Markless) (id r : Nat) : (f.release id r).Markless := by
  refine ⟨fun x hx => ?_, h.2⟩
  obtain ⟨y, hy, rfl⟩ := List.mem_map.1 (List.mem_of_mem_drop hx)
  refine Eq.trans ?_ (h.1 y hy)
  split
  · split <;> rfl
  · rfl

theorem Fifo.Markless.digestAll {f : Fifo} (h : f.Markless) : f.digestAll.Markless := by
  unfold Fifo.digestAll
  split
  · exact h
  · refine ⟨fun x hx => ?_, h.2⟩
    obtain ⟨y, hy, rfl⟩ := List.mem_map.1 hx
    exact h.1 y hy

theorem isRangeMark_recordPkts (hub : Nat) (r : Record) : ∀ x ∈ recordPkts hub r, isRangeMark x = false := by
  intro x hx
  obtain ⟨fi, -, rfl⟩ := List.mem_map.1 hx
  rfl

theorem Fifo.Markless.payOwed (cap : Nat) (ps : List OutPkt) {f : Fifo} (hf : ∀ x ∈ f.q, isRangeMark x = false)
    (hp : ∀ x ∈ ps, isRangeMark x = false) : (Fifo.payOwed cap ps f).Markless := by
  induction ps generalizing f with
  | nil => exact ⟨hf, hp⟩
  | cons x ps ih =>
    obtain ⟨hx, hps⟩ := List.forall_mem_cons.1 hp
    unfold Fifo.payOwed
    split
    · exact ih (fun y hy => (List.mem_append.1 hy).elim (hf y) fun hy => List.mem_singleton.1 hy ▸ hx) hps
    · exact ⟨hf, hp⟩

theorem Fifo.Markless.takeRecords (cap hub : Nat) (rs : List Record) {f : Fifo} (h : f.Markless) :
    (Fifo.takeRecords cap hub rs f).Markless := by
  induction rs generalizing f with
  | nil => exact h
  | cons r rs ih =>
    unfold Fifo.takeRecords
    dsimp only
    split
    · exact ih (h.take (isRangeMark_recordPkts hub r))
    · exact h

theorem Fifo.Markless.pump {f : Fifo} (h : f.Markless) (cap hub : Nat) : (f.pump cap hub).Markless :=
  .takeRecords cap hub _ (.payOwed cap f.owed h.1 h.2)
end

section
variable {s : State} {p : Prop}

/-! ### Shared operations -/

theorem State.Unmarked.updPort (h : s.Unmarked p) {k : Port} {f : PortState → PortState} : (s.updPort k f).Unmarked p := h.same
theorem State.Unmarked.updStream (h : s.Unmarked p) {id : Nat} {f : Stream → Stream} : (s.updStream id f).Unmarked p := h.same
theorem State.Unmarked.updUnit (h : s.Unmarked p) {k : Nat} {f : TrigUnit → TrigUnit} : (s.updUnit k f).Unmarked p := h.same
theorem State.Unmarked.updEngine (h : s.Unmarked p) {k : Nat} {f : Engine → Engine} : (s.updEngine k f).Unmarked p := h.same
theorem State.Unmarked.updPod (h : s.Unmarked p) {k : Nat} {f : PodLane → PodLane} : (s.updPod k f).Unmarked p := h.same
theorem State.Unmarked.updChain (h : s.Unmarked p) {k : Nat} {f : Chain → Chain} : (s.updChain k f).Unmarked p := h.same
theorem State.Unmarked.updLane (h : s.Unmarked p) {k : Nat} {f : Lane → Lane} : (s.updLane k f).Unmarked p := h.same
theorem State.Unmarked.updNx (h : s.Unmarked p) {k : Nat} {f : NxStream → NxStream} : (s.updNx k f).Unmarked p := h.same
theorem State.Unmarked.updPool (h : s.Unmarked p) {k : Nat} {f : NxPool → NxPool} : (s.updPool k f).Unmarked p := h.same
theorem State.Unmarked.updTime (h : s.Unmarked p) {f : Time → Time} : (s.updTime f).Unmarked p := h.same
theorem State.Unmarked.updTport (h : s.Unmarked p) {k : Nat} {f : TrunkPort → TrunkPort} : (s.updTport k f).Unmarked p := h.same
theorem State.Unmarked.updAct (h : s.Unmarked p) {k : Nat} {f : TaEntry → TaEntry} : (s.updAct k f).Unmarked p := h.same
theorem State.Unmarked.updClk (h : s.Unmarked p) {f : Clock → Clock} : (s.updClk f).Unmarked p := h.same
theorem State.Unmarked.updPair (h : s.Unmarked p) {f : Pair → Pair} : (s.updPair f).Unmarked p := h.same
theorem State.Unmarked.updLock (h : s.Unmarked p) {k : Nat} {f : Lock → Lock} : (s.updLock k f).Unmarked p := h.same
theorem State.Unmarked.updInst (h : s.Unmarked p) {k : Nat} {f : ProgInst → ProgInst} : (s.updInst k f).Unmarked p := h.same
theorem State.Unmarked.noteCheck (h : s.Unmarked p) {b : Nat} : (s.noteCheck b).Unmarked p := h.same
theorem State.Unmarked.trigSend (h : s.Unmarked p) {src : Nat} {t : Int} {c : Option Nat} : (s.trigSend src t c).Unmarked p := h.same
theorem State.Unmarked.markSuspect (h : s.Unmarked p) {n : Nat} {v : Bool} : (s.markSuspect n v).Unmarked p := h.same
theorem State.Unmarked.noteSeen (h : s.Unmarked p) {k a b : Nat} : (s.noteSeen k a b).Unmarked p := h.same

theorem State.Unmarked.send (h : s.Unmarked p) {l : Nat} {m : List Byte} : (s.send l m).Unmarked p := by
  unfold State.send
  exact .ite h (.ite h h)

theorem State.Unmarked.plSend (h : s.Unmarked p) {m : PlMsg} : (s.plSend m).Unmarked p := by
  unfold State.plSend
  exact .ite h h

theorem State.Unmarked.putHost (h : s.Unmarked p) {x : OutPkt} (hx : isRangeMark x = false) : (s.putHost x).Unmarked p :=
  h.setHost fun hm => hm.owe hx

theorem State.Unmarked.complete (h : s.Unmarked p) {k : Packet} {st : Nat} {b : List Byte} : (s.complete k st b).Unmarked p := by
  unfold State.complete
  refine .ite h ?_
  dsimp only
  split
  · exact h
  · exact .putHost h rfl
  · exact .putHost h rfl
  all_goals exact h

theorem State.Unmarked.ackOne (h : s.Unmarked p) {routed : Nat → Bool} {id r : Nat} : (s.ackOne routed id r).1.Unmarked p := by
  have hack : ({ s with host := s.host.release id r } : State).Unmarked p := h.setHost fun hm => hm.release id r
  unfold State.ackOne
  split
  dsimp only
  split
  · refine hack.same ?_ ?_ ?_ ?_ <;> split <;> rfl
  · exact h.bump

theorem State.Unmarked.ackAll (h : s.Unmarked p) {routed : Nat → Bool} {es : List (List Byte)} : (s.ackAll routed es).1.Unmarked p := by
  induction es generalizing s with
  | nil => exact h
  | cons e es ih => exact ih h.ackOne

theorem State.Unmarked.rewindHost (h : s.Unmarked p) : s.rewindHost.Unmarked p :=
  .bump (h.setHost (f := s.host.rewind) id)

theorem State.Unmarked.rewindDrip (h : s.Unmarked p) : s.rewindDrip.Unmarked p :=
  .bump h.same

theorem State.Unmarked.updDrdy (h : s.Unmarked p) {b : Bool} : (State.updDrdy b s).Unmarked p := h.same
theorem State.Unmarked.updCmdStop (h : s.Unmarked p) {b : Bool} : (s.updCmdStop b).Unmarked p := h.same

/-! ### Hive and its arbiters -/

/-- Granting an access counts for a requester of any number; where its counters lie across the field die's, the first keeps the second from
marking. -/
theorem State.Unmarked.countGrant (h : s.Unmarked p) (g : Grant) : (s.countGrant g).Unmarked p := by
  unfold State.countGrant
  extract_lets o s1 s2
  refine State.Unmarked.setReg_of (s := s2) ?_ (not_marksRange_of_mod (by omega))
  by_cases hm : marksRange (o + 4)
  · have h1 : s1.Spent := .inr (.inr ⟨o, hm, State.reg_bump_ne_zero (le_of_marksRange hm) (.inr rfl)⟩)
    exact .ite (.inl h1.bump) (.inl h1)
  · have h1 : s1.Unmarked p := h.bump_of (not_marksRange_of_mod (by omega))
    exact .ite (h1.bump_of hm) h1

theorem State.Unmarked.setBank (h : s.Unmarked p) {b : Nat} {a : Arbiter} : (s.setBank b a).Unmarked p := h.same

theorem State.Unmarked.runBank (h : s.Unmarked p) {b : Nat} : (s.runBank b).Unmarked p := by
  unfold State.runBank
  exact .ite h (.foldl h.setBank fun _ h g _ => h.countGrant g)

theorem State.Unmarked.runBanks (h : s.Unmarked p) : s.runBanks.Unmarked p := h.foldl fun _ h _ _ => h.runBank

theorem State.Unmarked.grant (h : s.Unmarked p) {b r n : Nat} : (s.grant b r n).Unmarked p := by
  unfold State.grant
  exact .ite (.bump h.runBank.setBank) h.runBank.setBank

theorem State.Unmarked.eccCorrect (h : s.Unmarked p) {w : Nat} : (s.eccCorrect w).Unmarked p := .bump h.same

theorem State.Unmarked.eccUe (h : s.Unmarked p) {w r : Nat} {ns : List Word} : (s.eccUe w r ns).Unmarked p :=
  .raise (.bump h.same)

theorem State.Unmarked.eccRead (h : s.Unmarked p) {r : Nat} {l : List Nat} {ns : List Word} : (s.eccRead r l ns).1.Unmarked p := by
  induction l generalizing s with
  | nil => exact h
  | cons w ws ih =>
    unfold State.eccRead
    dsimp only
    split
    · exact ih h.eccCorrect
    · split
      · exact ih h.eccUe
      · exact ih h

theorem State.Unmarked.grants (h : s.Unmarked p) {r a n : Nat} : (s.grants r a n).Unmarked p := h.foldl fun _ h _ _ => h.grant

theorem State.Unmarked.hiveRead (h : s.Unmarked p) {r a n : Nat} : (s.hiveRead r a n).2.2.Unmarked p := h.grants.eccRead

theorem State.Unmarked.strike (h : s.Unmarked p) {ws : List Nat} : (s.strike ws).Unmarked p := by
  unfold State.strike
  split
  · exact .ite (.setReg h.same) h
  · exact h

theorem State.Unmarked.hiveWrite (h : s.Unmarked p) {r a : Nat} {bs : List Byte} : (s.hiveWrite r a bs).Unmarked p :=
  .strike (h.grants (r := r) (a := a) (n := bs.length)).same

theorem State.Unmarked.wordGrants (h : s.Unmarked p) {r : Nat} {ws : List Nat} : (s.wordGrants r ws).Unmarked p :=
  h.foldl fun _ h _ _ => h.grants

theorem State.Unmarked.unitWrite (h : s.Unmarked p) {q n len : Nat} {r : Option Region} : (s.unitWrite q r n len).Unmarked p := by
  unfold State.unitWrite
  split
  · exact h
  · exact .strike h.wordGrants.same

theorem State.Unmarked.unitRead (h : s.Unmarked p) {q n len : Nat} {r : Option Region} : (s.unitRead q r n len).Unmarked p := by
  unfold State.unitRead
  split
  · exact h
  · exact .ite h.wordGrants h.wordGrants.eccRead

theorem State.Unmarked.setEgress (h : s.Unmarked p) {l : Nat} {a : Arbiter} : (s.setEgress l a).Unmarked p := h.same

theorem State.Unmarked.egressBytes (h : s.Unmarked p) {l : Nat} {x : Xfer} : (s.egressBytes l x).2.Unmarked p := by
  unfold State.egressBytes
  dsimp only
  split
  · exact h
  · split <;> exact h.unitRead

theorem State.Unmarked.egressOut (h : s.Unmarked p) {l : Nat} {g : Grant} : (State.egressOut l s g).Unmarked p := h.egressBytes.send

theorem State.Unmarked.runEgress (h : s.Unmarked p) {n l : Nat} : (s.runEgress n l).Unmarked p := by
  unfold State.runEgress
  exact .ite h (.foldl h.setEgress fun _ h _ _ => h.egressOut)

theorem State.Unmarked.runLanes (h : s.Unmarked p) {n : Nat} : (s.runLanes n).Unmarked p := h.foldl fun _ h _ _ => h.runEgress

theorem State.Unmarked.flushLanes (h : s.Unmarked p) : s.flushLanes.Unmarked p := h.runLanes

theorem State.Unmarked.egress (h : s.Unmarked p) {l slot : Nat} {m : List Byte} : (s.egress l slot m).Unmarked p := by
  unfold State.egress
  refine .ite h.send ?_
  exact .setEgress (.ite h.runEgress (.same h.runEgress.unitWrite))

theorem State.Unmarked.arbCommit (h : s.Unmarked p) : s.arbCommit.2.Unmarked p := by
  have hr := h.runBanks
  revert hr
  unfold State.arbCommit
  generalize s.runBanks = t
  intro hr
  dsimp only
  split
  · exact hr
  · split
    · exact hr
    · exact hr.same

theorem State.Unmarked.egrCommit (h : s.Unmarked p) : s.egrCommit.2.Unmarked p := by
  have hr := h.runLanes (n := s.time.cyc)
  revert hr
  unfold State.egrCommit
  generalize s.runLanes s.time.cyc = t
  intro hr
  dsimp only
  split
  · exact hr
  · split
    · exact hr
    · exact hr.same

theorem State.Unmarked.writeEccInj (h : s.Unmarked p) {v : Word} : (s.writeEccInj v).2.Unmarked p := by
  unfold State.writeEccInj
  dsimp only
  split
  · exact h
  · exact .setReg h.same

theorem State.Unmarked.regionRead (h : s.Unmarked p) {r : Region} {a n : Nat} : (s.regionRead r a n).2.2.Unmarked p := h.hiveRead.same

theorem State.Unmarked.opRdb (h : s.Unmarked p) {k : Packet} : (s.opRdb k).2.Unmarked p := by
  unfold State.opRdb
  dsimp only
  split
  · exact h
  split
  · exact h
  split
  · exact h.hiveRead
  split
  case h_1 r _ =>
    split
    · exact h
    · exact h.regionRead (r := r)
  case h_2 => exact h

theorem State.Unmarked.opWrb (h : s.Unmarked p) {k : Packet} : (s.opWrb k).2.Unmarked p := by
  unfold State.opWrb
  dsimp only
  split
  · exact h
  split
  · exact h
  split
  · split
    · exact h.hiveWrite
    · exact h
  · exact h
end

section
variable {s : State} {p : Prop}

/-! ### Streams and their records -/

theorem State.Unmarked.setWaiting (h : s.Unmarked p) {w : List Record} :
    ({ s with host := { s.host with waiting := w } } : State).Unmarked p :=
  h.setHost (f := { s.host with waiting := w }) id

theorem State.Unmarked.enqueue (h : s.Unmarked p) {r : Route} {x : Record} : (s.enqueue r x).Unmarked p := by
  unfold State.enqueue
  exact .ite h.same (.ite h.same h.setWaiting)

theorem State.Unmarked.writeRecord (h : s.Unmarked p) {r : Route} {x : Record} : (s.writeRecord r x).Unmarked p :=
  h.unitWrite.enqueue.updStream

theorem State.Unmarked.overflow (h : s.Unmarked p) {r : Route} : (s.overflow r).Unmarked p := by
  unfold State.overflow
  exact .bump (.raise h.updStream)

theorem State.Unmarked.emit (h : s.Unmarked p) {r : Route} {x : Record} : (s.emit r x).Unmarked p := by
  unfold State.emit
  exact .ite (.ite h.writeRecord h.overflow) h

theorem State.Unmarked.writeGaps (h : s.Unmarked p) {r : Route} {gs : List Record} : (s.writeGaps r gs).Unmarked p := by
  induction gs generalizing s with
  | nil => exact h.updStream
  | cons g gs ih =>
    unfold State.writeGaps
    exact .ite (ih h.writeRecord) h.updStream

theorem State.Unmarked.endOpening (h : s.Unmarked p) {r : Route} : (s.endOpening r).Unmarked p := by
  unfold State.endOpening
  exact .ite h.updStream.writeGaps h

theorem State.Unmarked.closeRecord (h : s.Unmarked p) {r : Route} : (s.closeRecord r).Unmarked p := by
  unfold State.closeRecord
  exact .ite h (.ite (.ite h.emit.updStream.endOpening h.emit.updStream) h.emit)

theorem State.Unmarked.stopStreams (h : s.Unmarked p) : s.stopStreams.Unmarked p := h.foldl fun _ h _ _ => h.endOpening

theorem State.Unmarked.updCols (h : s.Unmarked p) {r : Route} {f : Nat → Column → Column} : (s.updCols r f).Unmarked p := h.updStream

theorem State.Unmarked.emitParts (h : s.Unmarked p) {r : Route} {g : Gap} {chs : List Nat} {ps : List (Nat × Nat)} :
    (s.emitParts r g chs ps).Unmarked p :=
  h.foldl fun _ h _ _ => .ite h.emit.updCols.updStream h.emit

theorem State.Unmarked.emitSpan (h : s.Unmarked p) {r : Route} {g : Gap} {n : Nat} {chs : List Nat} :
    (s.emitSpan r g n chs).Unmarked p := by
  unfold State.emitSpan
  exact .ite h.emitParts.updCols h.emitParts

theorem State.Unmarked.emitLate (h : s.Unmarked p) {r : Route} {m : Nat} : (s.emitLate r m).Unmarked p := by
  unfold State.emitLate
  refine .ite h (.foldl h.closeRecord fun s h x _ => ?_)
  have hgaps := h.foldl (l := s.gapRecords x.2.1 x.2.2 [x.1]) (f := fun s y => s.emit r y) fun _ h _ _ => h.emit
  exact .ite hgaps.updCols.updStream hgaps

theorem State.Unmarked.itemStep (h : s.Unmarked p) {r : Route} {t : State} (ht : s.itemStep r = some t) : t.Unmarked p := by
  unfold State.itemStep at ht
  obtain ⟨-, ht⟩ := Option.ite_none_left_eq_some.1 ht
  split at ht
  · obtain ⟨-, ht⟩ := Option.ite_none_left_eq_some.1 ht
    cases ht
    exact h.closeRecord
  · obtain ⟨-, ht⟩ := Option.ite_none_right_eq_some.1 ht
    cases ht
    have hclose (c : Prop) [Decidable c] : (if c then s.closeRecord r else s).Unmarked p := .ite h.closeRecord h
    exact .emitLate (.ite (.closeRecord (.updStream (hclose _))) (.updStream (hclose _)))

theorem State.Unmarked.takeItems {r : Route} {n : Nat} (h : s.Unmarked p) : (State.takeItems r n s).Unmarked p := by
  induction n generalizing s with
  | zero => exact h
  | succ n ih =>
    unfold State.takeItems
    split
    case h_1 hs => exact ih (h.itemStep hs)
    case h_2 => exact h

theorem State.Unmarked.items (h : s.Unmarked p) {r : Route} : (s.items r).Unmarked p := h.takeItems

theorem State.Unmarked.deliver (h : s.Unmarked p) {ch : Nat} {w : SlotWord} : (s.deliver ch w).Unmarked p :=
  h.foldl fun _ h _ _ => .ite h.updCols.updStream.items h

theorem State.Unmarked.placeSpans (h : s.Unmarked p) {r : Route} {chs : List Nat} {f : Nat → Nat} {c x : Nat} {e : Bool} :
    (s.placeSpans r chs f c x e).Unmarked p := h.updCols

theorem State.Unmarked.openSpans (h : s.Unmarked p) {chs : List Nat} {f : Nat → Nat} {c x : Nat} {e : Bool} :
    (s.openSpans chs f c x e).Unmarked p :=
  h.foldl fun _ h _ _ => .ite h.placeSpans.raise.items h

theorem State.Unmarked.resumeSpans (h : s.Unmarked p) {chs : List Nat} {f : Nat → Nat} {c x : Nat} {e : Bool} :
    (s.resumeSpans chs f c x e).Unmarked p :=
  h.foldl fun _ h _ _ => .ite h.placeSpans.items h

theorem State.Unmarked.closeSpans (h : s.Unmarked p) {chs : List Nat} {f : Nat → Nat} : (s.closeSpans chs f).Unmarked p :=
  h.foldl fun _ h _ _ => .items (.foldl h fun _ h _ _ => .ite h.emitSpan h)

theorem State.Unmarked.splitSpans (h : s.Unmarked p) : s.splitSpans.Unmarked p :=
  h.foldl fun _ h _ _ => .foldl h fun _ h _ _ => .ite h.emitParts h

theorem State.Unmarked.openStream (h : s.Unmarked p) {r : Route} : (s.openStream r).Unmarked p := h.updStream

theorem State.Unmarked.completeCloses (h : s.Unmarked p) : s.completeCloses.Unmarked p := by
  refine h.foldl fun s h r _ => ?_
  dsimp only
  split
  · exact .ite h.updStream.complete h
  · exact h

theorem State.Unmarked.recordWords (h : s.Unmarked p) {q : Nat} {x : Record} {ws : List (Nat × Nat)} :
    (s.recordWords q x ws).Unmarked p := by
  induction ws generalizing s with
  | nil => exact h
  | cons w ws ih => exact ih h.eccRead

theorem State.Unmarked.recordRead (h : s.Unmarked p) {q : Nat} {x : Record} : (s.recordRead q x).2.Unmarked p := by
  unfold State.recordRead
  dsimp only
  split
  · exact h.wordGrants
  · exact h.wordGrants.recordWords

theorem State.Unmarked.recordsRead (h : s.Unmarked p) {q : Record → Nat} {xs : List Record} : (s.recordsRead q xs).2.Unmarked p := by
  induction xs generalizing s with
  | nil => exact h
  | cons x xs ih => exact ih h.recordRead

theorem State.Unmarked.packHost (h : s.Unmarked p) : s.packHost.Unmarked p := by
  unfold State.packHost
  refine h.recordsRead.setHost fun hm => .pump ?_ _ _
  exact hm

theorem State.Unmarked.packDrip (h : s.Unmarked p) : s.packDrip.Unmarked p := h.recordsRead.same

theorem State.Unmarked.settle (h : s.Unmarked p) : s.settle.Unmarked p :=
  .completeCloses (.packDrip (.packHost (.same h.splitSpans)))
end

section
variable {s : State} {p : Prop}

/-! ### Addresses of the blocks' counters -/

theorem ceReg_lt {e o : Nat} (he : e < 8) (ho : o < 0x80 := by decide) : ceReg e o < 0x000F_0000 := by unfold ceReg; omega
theorem chReg_lt {c o : Nat} (hc : c < 768) (ho : o < 0x40 := by decide) : chReg c o < 0x000F_0000 := by unfold chReg; omega
theorem podReg_lt {l o : Nat} (hl : l < 24) (ho : o < 0x80 := by decide) : podReg l o < 0x000F_0000 := by unfold podReg; omega
theorem laneReg_lt {l o : Nat} (hl : l < 32) (ho : o < 0x100 := by decide) : laneReg l o < 0x000F_0000 := by unfold laneReg; omega
theorem tpReg_lt {i o : Nat} (hi : i < 8) (ho : o < 0x20 := by decide) : tpReg i o < 0x000F_0000 := by unfold tpReg; omega

theorem lt_of_mem_bitList {n w i : Nat} (h : i ∈ bitList n w) : i < n := List.mem_range.1 (List.mem_filter.1 h).1

theorem State.lt_of_mem_swarmEngines {set e : Nat} (h : e ∈ s.swarmEngines set) : e < 8 :=
  lt_of_mem_bitList (List.mem_filter.1 h).1

/-! ### Trigger engines -/

theorem State.Unmarked.ringWord (h : s.Unmarked p) {ch : Nat} {w : SlotWord} : (s.ringWord ch w).Unmarked p :=
  h.foldl fun _ h _ _ => .ite (.ite h (.ite h.updEngine h.unitWrite.updEngine)) h

theorem State.Unmarked.collect (h : s.Unmarked p) {e d : Nat} {f : Fire} : (s.collect e f d).Unmarked p := h.updEngine

theorem State.Unmarked.ignoreBusy (h : s.Unmarked p) {e : Nat} (he : e < 8) : (s.ignoreBusy e).Unmarked p := h.updEngine.bump (ceReg_lt he)

theorem State.Unmarked.ignorePre (h : s.Unmarked p) {e : Nat} {t : Int} (he : e < 8) : (s.ignorePre e t).Unmarked p :=
  h.updEngine.bump (ceReg_lt he)

theorem State.Unmarked.missFire (h : s.Unmarked p) {e : Nat} {t : Int} (he : e < 8) : (s.missFire e t).Unmarked p :=
  h.updEngine.bump (ceReg_lt he)

theorem State.Unmarked.mergeFire (h : s.Unmarked p) {e : Nat} {c : Collect} {f : Fire} (he : e < 8) : (s.mergeFire e c f).Unmarked p := by
  unfold State.mergeFire
  exact .ite h.updEngine (.ite (h.updEngine.bump (ceReg_lt he)) (.ite (h.missFire he) (h.ignoreBusy he)))

theorem State.Unmarked.judgeFire (h : s.Unmarked p) {e : Nat} {f : Fire} (he : e < 8) : (s.judgeFire e f).Unmarked p := by
  unfold State.judgeFire
  refine .ite (h.ignoreBusy he) ?_
  split
  · exact h.mergeFire he
  · exact .ite (.ite (h.missFire he) h.collect)
      (.ite h.collect (.ite h.updEngine.collect (.ite (h.ignorePre he) (h.ignoreBusy he))))

theorem State.Unmarked.fireAt (h : s.Unmarked p) {e : Nat} {f : Fire} (he : e < 8) : (s.fireAt e f).Unmarked p := by
  unfold State.fireAt
  exact .ite h (h.judgeFire he).updEngine

theorem State.Unmarked.fireEngine (h : s.Unmarked p) {e k n : Nat} {t : Int} (he : e < 8) : (s.fireEngine e t k n).Unmarked p := h.fireAt he

theorem State.Unmarked.ringCopy (h : s.Unmarked p) {e n : Nat} {i : Int} : (s.ringCopy e i n).Unmarked p :=
  h.foldl fun _ h _ _ => .ite h h.unitRead

theorem State.Unmarked.startCopy (h : s.Unmarked p) {e i n : Nat} {xs : List Record} : (s.startCopy e i n xs).Unmarked p := h.updEngine

theorem State.Unmarked.closeCapture (h : s.Unmarked p) {e : Nat} (he : e < 8) : (s.closeCapture e).Unmarked p := by
  unfold State.closeCapture
  dsimp only
  split
  · exact h
  · have hclosed (c : Prop) [Decidable c] {t : State} (h : t.Unmarked p) : (if c then t else t.bump (ceReg e 0x44)).Unmarked p :=
      .ite h (h.bump (ceReg_lt he))
    split
    · exact hclosed _ (.bump h.ringCopy.startCopy.updEngine (ceReg_lt he))
    · exact .trigSend (.bump (.raise (hclosed _ (.bump h.ringCopy.startCopy.updEngine (ceReg_lt he)))) (ceReg_lt he))

theorem State.Unmarked.closeSegment (h : s.Unmarked p) {e : Nat} (he : e < 8) : (s.closeSegment e).Unmarked p := by
  unfold State.closeSegment
  dsimp only
  split
  · exact h
  · have hclosed : ∀ {t : State}, t.Unmarked p → (t.bump (ceReg e 0x30)).Unmarked p := fun h => h.bump (ceReg_lt he)
    refine .foldl (.ite ?_ (.bump ?_ (ceReg_lt he))) fun _ h _ _ => h.judgeFire he
    all_goals exact hclosed h.ringCopy.startCopy.updEngine

theorem State.Unmarked.cutRecord (h : s.Unmarked p) {e : Nat} (he : e < 8) : (s.cutRecord e).Unmarked p := by
  unfold State.cutRecord
  exact .ite h (.ite (h.closeSegment he) (h.closeCapture he))

theorem State.Unmarked.ringAnew (h : s.Unmarked p) {ch n : Nat} {i : Int} : (s.ringAnew ch n i).Unmarked p :=
  h.foldl fun _ h _ he => .ite (h.cutRecord (List.mem_range.1 he)).updEngine h

theorem State.Unmarked.sendTrunk (h : s.Unmarked p) {up down : Bool} {n : Nat} {m : List Byte} : (s.sendTrunk up down n m).Unmarked p := by
  have hone {t : State} (ht : t.Unmarked p) (ls : List Nat) :
      (ls.foldl (fun s l => if s.laneActive l then s.egress l n m else s) t).Unmarked p :=
    ht.foldl fun _ h _ _ => .ite h.egress h
  unfold State.sendTrunk
  exact .ite (hone (.ite (hone h _) h) _) (.ite (hone h _) h)

theorem State.Unmarked.swarmFireOut (h : s.Unmarked p) {t : Int} {n : Nat} : (s.swarmFireOut t n).Unmarked p := by
  unfold State.swarmFireOut
  exact .bump (.sendTrunk h.same)

/-! ### The comb and the chains -/

theorem State.Unmarked.detect (h : s.Unmarked p) {i j n : Nat} {d : Detection} : (s.detect i j n d).Unmarked p := by
  unfold State.detect
  exact .ite h.updInst.trigSend h.updInst

theorem State.Unmarked.runPair {ii si slot chan t before limit f : Nat} {early : Bool} (h : s.Unmarked p) :
    (State.runPair ii si slot chan t before limit early f s).Unmarked p := by
  induction f generalizing s with
  | zero => exact h
  | succ f ih =>
    unfold State.runPair
    split
    · exact h
    split
    · exact h
    split
    · exact ih h.detect
    · exact h

theorem State.Unmarked.runWindows (h : s.Unmarked p) {i b l : Nat} {e : Bool} : (s.runWindows i b l e).Unmarked p := by
  unfold State.runWindows
  split
  · exact h
  · exact h.foldl fun _ h _ _ => h.foldl fun _ h _ _ => h.foldl fun _ h _ _ => h.runPair

theorem State.Unmarked.readRings (h : s.Unmarked p) {ch k : Nat} : (s.readRings ch k).Unmarked p := by
  unfold State.readRings
  exact .ite h (.foldl h fun _ h _ _ => .ite h.runWindows.updInst h.runWindows)

theorem State.Unmarked.combStore (h : s.Unmarked p) {ch k : Nat} {e : HistEntry} : (s.combStore ch k e).Unmarked p := h.readRings.same

theorem State.Unmarked.combTapB (h : s.Unmarked p) {c n : Nat} {i v : Int} {a b : Bool} : (s.combTapB c i n v a b).Unmarked p := by
  unfold State.combTapB
  exact .ite h.combStore h

theorem State.Unmarked.combForeign (h : s.Unmarked p) {c : Nat} {i v : Int} {b : Bool} : (s.combForeign c i v b).Unmarked p := by
  unfold State.combForeign
  exact .ite h (.ite (.bump h.same) (.combStore h.same))

theorem State.Unmarked.chainSaturated (h : s.Unmarked p) {c n m : Nat} (hc : c < 768) : (s.chainSaturated c n m).Unmarked p := by
  have ha : 0x0006_0200 + 4 * (c / 32) < 0x000F_0000 := by omega
  unfold State.chainSaturated
  exact .ite h (.bumpBy (.ite (h.setReg ha) (h.setReg ha).setReg) (chReg_lt hc))

theorem State.Unmarked.tapA (h : s.Unmarked p) {ch : Nat} {o : ChainOut} (hc : ch < 768) : (s.tapA ch o).Unmarked p := by
  unfold State.tapA
  dsimp -zeta only
  extract_lets _ _ _ _ _ _ _ _ s1 _ s3 s4 s5 _
  have h1 : s1.Unmarked p := .ite h.ringAnew h
  have h3 : s3.Unmarked p := h1.updChain.foldl fun _ h _ _ => h.bump (chReg_lt hc)
  have h4 : s4.Unmarked p := .ite h3.trigSend h3
  have h5 : s5.Unmarked p := .ite h4.trigSend h4
  exact h5.ringWord.deliver

theorem State.Unmarked.tapB (h : s.Unmarked p) {ch : Nat} {o : ChainOut} : (s.tapB ch o).Unmarked p := h.combTapB
theorem State.Unmarked.exportOut (h : s.Unmarked p) {ch : Nat} {o : ChainOut} : (s.exportOut ch o).Unmarked p := h.same

theorem State.Unmarked.chainOuts (h : s.Unmarked p) {ch : Nat} {os : List ChainOut} (hc : ch < 768) : (s.chainOuts ch os).Unmarked p :=
  h.foldl fun _ h _ _ => .ite h.tapB.exportOut (h.tapA hc)

theorem State.Unmarked.feedTick (h : s.Unmarked p) {l n : Nat} {f : Option Held} (hl : l < 24) : (s.feedTick l n f).Unmarked p := by
  refine State.Unmarked.updPod (h.foldl fun s h q hq => .ite h ?_)
  have hc : 32 * l + q < 768 := by have := List.mem_range.1 hq; omega
  exact (h.updChain.chainSaturated hc).chainOuts hc

theorem State.Unmarked.renumberChains (h : s.Unmarked p) {chs : List Nat} {b : Nat} {d : Nat → Nat} :
    (s.renumberChains chs b d).Unmarked p := by
  refine h.closeSpans.foldl fun s h ch _ => ?_
  dsimp only
  split
  · exact h.ringAnew.updChain.updChain.resumeSpans
  · exact h

theorem State.Unmarked.drainChains (h : s.Unmarked p) {l m c : Nat} {e : Bool} (hl : l < 24) : (s.drainChains l m c e).Unmarked p := by
  unfold State.drainChains
  extract_lets last chs live grids s1 live' start s2 s3 turns bs s4 s5
  have h1 : s1.Unmarked p := h.foldl fun s h ch hch => by
    obtain ⟨q, hq, rfl⟩ := List.mem_map.1 (List.mem_filter.1 hch).1
    have := List.mem_range.1 hq
    exact h.updChain.chainOuts (by omega)
  have h3 : s3.Unmarked p := h1.openSpans.foldl fun _ h _ _ => h.updChain
  have h4 : s4.Unmarked p := h3.foldl fun _ h _ _ => h.renumberChains
  exact h4.updPod.bump (podReg_lt hl)

theorem State.Unmarked.takeTick (h : s.Unmarked p) {l : Nat} (hl : l < 24) : (s.takeTick l).Unmarked p := by
  unfold State.takeTick
  extract_lets x n frame lost s1
  have h1 : s1.Unmarked p := .ite h.unitRead h
  split
  · exact .ite ((h1.updPod.feedTick hl).bump (podReg_lt hl)) (h1.updPod.feedTick hl)
  · exact .ite (h1.drainChains hl) ((h1.updPod.feedTick hl).bump (podReg_lt hl))

theorem State.Unmarked.feedUpTo {l m f : Nat} (h : s.Unmarked p) (hl : l < 24) : (State.feedUpTo l m f s).Unmarked p := by
  induction f generalizing s with
  | zero => exact h
  | succ f ih =>
    unfold State.feedUpTo
    exact .ite (ih (h.takeTick hl)) h

theorem State.Unmarked.drainLane (h : s.Unmarked p) {l m c : Nat} {e : Bool} (hl : l < 24) : (s.drainLane l m c e).Unmarked p := by
  unfold State.drainLane
  exact .ite ((h.feedUpTo hl).drainChains hl) (h.feedUpTo hl)

/-! ### Pods -/

theorem State.Unmarked.quarantine (h : s.Unmarked p) {l : Nat} (hl : l < 24) : (s.quarantine l).Unmarked p :=
  .raise (h.drainLane hl).updPod

theorem State.Unmarked.podError (h : s.Unmarked p) {l o : Nat} (hl : l < 24) (ho : o < 0x80) : (s.podError l o).Unmarked p := by
  unfold State.podError
  extract_lets s1 _ s2
  have h1 : s1.Unmarked p := (h.bump (podReg_lt hl ho)).updPod
  have h2 : s2.Unmarked p := .ite h1.same h1
  exact .ite (h2.quarantine hl) h2

theorem State.Unmarked.podStart (h : s.Unmarked p) {l : Nat} : (s.podStart l).Unmarked p := by
  unfold State.podStart
  refine .ite h.updPod ?_
  dsimp only
  split
  · exact h.send.send.updPod
  · exact h.send.updPod

theorem State.Unmarked.podDown (h : s.Unmarked p) {l : Nat} : (s.podDown l).Unmarked p := h.updPod

theorem State.Unmarked.writePodCmd (h : s.Unmarked p) {l : Nat} {v : Word} : (s.writePodCmd l v).2.Unmarked p := by
  unfold State.writePodCmd
  dsimp only
  split
  · exact h
  split
  · exact h
  · exact .updPod (.ite h h.send)

theorem State.Unmarked.releaseQuar (h : s.Unmarked p) {l : Nat} : (s.releaseQuar l).Unmarked p := by
  unfold State.releaseQuar
  exact .ite h (.ite h.updPod.podStart h.updPod)

theorem State.Unmarked.stopChains (h : s.Unmarked p) : s.stopChains.Unmarked p :=
  .foldl (.foldl h fun _ h _ _ => .ite h h.updChain) fun _ h _ _ => .ite h.updPod h
end

/-- The overrides of the PHYs (R213). -/
theorem not_marksRange_phy {a : Nat} (h : 0x0200_0000 ≤ a) (h' : a < 0x0300_0000) : ¬ marksRange a := by
  rintro ⟨-, hs⟩
  unfold overflowSubject at hs
  split at hs <;> omega

section
variable {s : State} {p : Prop}

/-! ### Lanes -/

theorem State.Unmarked.enterDetect (h : s.Unmarked p) {l : Nat} : (s.enterDetect l).Unmarked p := by
  unfold State.enterDetect
  exact .updLane (.ite h.podDown h)

theorem State.Unmarked.enterTrain (h : s.Unmarked p) {l : Nat} : (s.enterTrain l).Unmarked p := h.updLane
theorem State.Unmarked.enterLane (h : s.Unmarked p) {l n : Nat} : (s.enterLane l n).Unmarked p := h.updLane

theorem State.Unmarked.pairLinkCheck (h : s.Unmarked p) : s.pairLinkCheck.Unmarked p := by
  unfold State.pairLinkCheck
  exact .ite h (.bump (.raise h.same))

theorem State.Unmarked.laneLeft (h : s.Unmarked p) {l c : Nat} : (s.laneLeft l c).Unmarked p := by
  have hr : ∀ x, ((s.updLane l fun x => { x with scan := none }).raise 0x0402 l x).Unmarked p := fun _ => h.updLane.raise
  unfold State.laneLeft
  exact .ite (hr _).podDown (.ite (hr _).rewindHost (.ite (hr _).pairLinkCheck (hr _)))

theorem State.Unmarked.laneFail (h : s.Unmarked p) {l c : Nat} (hl : l < 32) : (s.laneFail l c).Unmarked p := by
  unfold State.laneFail
  extract_lets st s1 s2 s3
  have h2 : s2.Unmarked p := (h.bump (laneReg_lt hl)).updLane
  have h3 : s3.Unmarked p := .ite h2.podDown h2
  exact .ite h3.enterLane.raise (.ite h3.enterDetect (.ite h3.enterTrain h3.enterLane.updLane))

theorem State.Unmarked.enterActive (h : s.Unmarked p) {l : Nat} : (s.enterActive l).Unmarked p := by
  unfold State.enterActive
  exact .ite (.ite h.enterLane.updLane.updPod h.enterLane.updLane.podStart) h.enterLane.updLane

theorem State.Unmarked.capsDone (h : s.Unmarked p) {l : Nat} {ok : Bool} (hl : l < 32) : (s.capsDone l ok).Unmarked p := by
  unfold State.capsDone
  exact .ite h (.ite h.enterActive (h.laneFail hl))

theorem State.Unmarked.retrain (h : s.Unmarked p) {v : Nat} : (s.retrain v).Unmarked p :=
  h.foldl fun _ h _ _ => .ite h (.ite h.updLane.enterDetect.laneLeft h.updLane.enterDetect)

theorem State.Unmarked.setGen (h : s.Unmarked p) {l : Nat} {a b : Bool} : (s.setGen l a b).Unmarked p := by
  unfold State.setGen
  exact .ite (.ite (.ite h.enterLane h)
      (.ite h.enterLane.updLane.laneLeft (.ite h.enterLane.updLane.podDown h.enterLane.updLane)))
    (.ite h (.ite h.updLane.enterDetect h.updLane.enterLane))

theorem State.Unmarked.checkerCount (h : s.Unmarked p) {l : Nat} (hl : l < 32) : (s.checkerCount l).Unmarked p := by
  unfold State.checkerCount
  have hcount {t : State} {a b : Nat} {f : Lane → Lane} (ht : t.Unmarked p) :
      (((t.bumpBy (laneReg l 0x44) a).bumpBy (laneReg l 0x40) b).updLane l f).Unmarked p :=
    ((ht.bumpBy (laneReg_lt hl)).bumpBy (laneReg_lt hl)).updLane
  refine .ite h ?_
  dsimp only
  split
  · exact hcount h
  · exact hcount h.same

theorem State.Unmarked.checkerSeeks (h : s.Unmarked p) {l : Nat} (hl : l < 32) : (s.checkerSeeks l).Unmarked p := (h.checkerCount hl).updLane

theorem State.Unmarked.writeTestCtrl (h : s.Unmarked p) {l v : Nat} (hl : l < 32) : (s.writeTestCtrl l v).2.Unmarked p := by
  unfold State.writeTestCtrl
  dsimp only
  split
  · exact h
  · exact .setGen (.ite (h.setReg (laneReg_lt hl)) ((h.setReg (laneReg_lt hl)).checkerSeeks hl))

theorem State.Unmarked.writeInjGo (h : s.Unmarked p) {l v : Nat} : (s.writeInjGo l v).2.Unmarked p := by
  unfold State.writeInjGo
  dsimp only
  split
  · exact h
  · exact h.updLane

theorem State.Unmarked.lanesLeaveTest (h : s.Unmarked p) : s.lanesLeaveTest.Unmarked p := by
  refine h.foldl fun s h l hl => ?_
  have hl := List.mem_range.1 hl
  have h0 (v : Word) : (s.setReg (laneReg l 0x10) v).Unmarked p := h.setReg (laneReg_lt hl)
  have h1 := (h0 0).setReg_of (a := 0x0200_0000 + 0x1000 * l) (v := 0) (not_marksRange_phy (by omega) (by omega))
  have h2 := h1.setReg_of (a := 0x0200_0004 + 0x1000 * l) (v := 0) (not_marksRange_phy (by omega) (by omega))
  exact (h2.checkerCount hl).updLane.setGen

theorem State.Unmarked.writeEyeCtrl (h : s.Unmarked p) {l v : Nat} (hl : l < 32) : (s.writeEyeCtrl l v).2.Unmarked p := by
  unfold State.writeEyeCtrl
  dsimp only
  split
  · exact h.setReg (laneReg_lt hl)
  split
  · exact h
  split
  · exact h
  · exact (h.setReg (laneReg_lt hl)).updLane

/-! ### Local channels -/

/-- A change of a channel that keeps its front end, and whether a spot runs. -/
theorem State.Unmarked.updLocal (h : s.Unmarked p) {k : Nat} {f : Local → Local}
    (hf : ∀ l, (f l).spot.isSome = l.spot.isSome ∧ (f l).fe = l.fe := by exact fun _ => ⟨rfl, rfl⟩) : (s.updLocal k f).Unmarked p := by
  refine h.imp id fun ⟨h0, hj, hm⟩ => ?_
  have hl (j : Nat) : ((s.updLocal k f).local' j).spot.isSome = (s.local' j).spot.isSome
      ∧ ((s.updLocal k f).local' j).fe = (s.local' j).fe := by
    unfold State.local' State.updLocal
    rw [Tab.get_upd]
    split
    case isTrue hjk => subst hjk; exact hf _
    case isFalse => exact ⟨rfl, rfl⟩
  exact ⟨(hl 0).1.trans h0, fun j hj0 => by rw [(hl j).2]; exact hj j hj0, hm⟩

theorem State.Unmarked.updLocal_spent (h : s.Unmarked False) {k : Nat} {f : Local → Local} : (s.updLocal k f).Unmarked False :=
  h.elim (fun h => .inl h) fun h => h.1.elim

theorem State.Unmarked.bump_spent (h : s.Unmarked False) {a : Nat} : (s.bump a).Unmarked False :=
  .inl (h.elim id fun h => h.1.elim).bump

theorem State.Unmarked.markFault (h : s.Unmarked p) {k : Nat} : (s.markFault k).Unmarked p :=
  h.updLocal fun _ => by split <;> exact ⟨rfl, rfl⟩

theorem State.Unmarked.setDrive (h : s.Unmarked p) {k : Nat} {b : Bool} : (s.setDrive k b).Unmarked p := by
  unfold State.setDrive
  exact .ite h (h.markFault.updLocal)

theorem State.Unmarked.pulseDone (h : s.Unmarked p) {k : Nat} : (s.pulseDone k).Unmarked p := by
  unfold State.pulseDone
  exact .ite (h.updLocal) h

theorem State.Unmarked.drivesOff (h : s.Unmarked p) : s.drivesOff.Unmarked p :=
  h.foldl fun _ h _ _ => h.pulseDone.setDrive.updLocal fun _ => by split <;> exact ⟨rfl, rfl⟩

theorem State.Unmarked.spotDriveEnd (h : s.Unmarked p) {k : Nat} {b : Bool} : (s.spotDriveEnd k b).Unmarked p := by
  unfold State.spotDriveEnd
  exact .ite h.setDrive h

theorem State.Unmarked.isolateAll (h : s.Unmarked p) : s.isolateAll.Unmarked p :=
  h.foldl fun _ h _ _ => h.updLocal

theorem State.Unmarked.calRefuse (h : s.Unmarked p) {k r c n : Nat} {m : Int} : (s.calRefuse k r c m n).Unmarked p := by
  unfold State.calRefuse
  split
  · exact (h.updLocal).complete
  · exact h

theorem State.Unmarked.calDrop (h : s.Unmarked p) {k : Nat} : (s.calDrop k).Unmarked p := h.calRefuse.updLocal

theorem State.Unmarked.dropCals (h : s.Unmarked p) : s.dropCals.Unmarked p := h.foldl fun _ h _ _ => h.calDrop

theorem State.Unmarked.opCal (h : s.Unmarked p) {k : Packet} : (s.opCal k).2.Unmarked p := by
  unfold State.opCal
  dsimp only
  split
  · exact h
  split
  · exact h
  split
  · exact h
  split
  · exact h.calDrop
  split
  · exact h
  split
  · exact h
  split
  · exact h
  · exact h.updLocal

/-- A change of range counts, and can raise the event: only where it is too late for a spot. -/
theorem State.Unmarked.fixCode (h : s.Unmarked False) {k : Nat} : (s.fixCode k).Unmarked False := by
  unfold State.fixCode State.setCode
  exact .ite (.updLocal_spent (.ite h h.bump_spent)) h

theorem State.Unmarked.abortSpot (h : s.Unmarked False) {k : Nat} : (s.abortSpot k).Unmarked False := by
  unfold State.abortSpot
  dsimp only
  split
  · exact h.updLocal_spent.complete
  · exact h

theorem State.Unmarked.cutWindows (h : s.Unmarked False) {k : Nat} : (s.cutWindows k).Unmarked False :=
  h.pulseDone.abortSpot.setDrive.updLocal_spent.fixCode

theorem State.Unmarked.stopLocals (h : s.Unmarked False) : s.stopLocals.Unmarked False :=
  h.foldl fun _ h _ _ => h.cutWindows.calDrop.updLocal_spent

theorem State.Unmarked.abortSpotsAndCals (h : s.Unmarked False) : s.abortSpotsAndCals.Unmarked False := by
  refine h.foldl fun s h k _ => ?_
  dsimp only
  split
  · exact h.abortSpot.calDrop.fixCode.updLocal_spent
  · exact h.abortSpot.calDrop.fixCode.spotDriveEnd

/-- While the spot of channel 0 runs no `SPOT` starts, on this channel or another (R121). -/
theorem State.Spotting.opSpot (h : s.Spotting) (k : Packet) : (s.opSpot k).2 = s := by
  obtain ⟨h0, hj, -⟩ := h
  unfold State.opSpot
  dsimp only
  split
  · rfl
  split
  · rfl
  split
  · rfl
  case isFalse hu =>
    split
    · rfl
    · have hk : k.addr.toNat = 0 := by
        by_contra hk
        exact hu (by rw [hj _ hk]; rfl)
      rw [if_pos (by rw [hk, h0]; rfl)]

theorem State.Unmarked.opSpot (h : s.Unmarked p) {k : Packet} : (s.opSpot k).2.Unmarked p := by
  obtain h | ⟨hp, h⟩ := h
  · refine State.Unmarked.weaken ?_
    have h : s.Unmarked False := .inl h
    unfold State.opSpot
    dsimp only
    split
    · exact h
    split
    · exact h
    split
    · exact h
    split
    · exact h
    split
    · exact h
    · exact .updLocal_spent (.ite h.updLocal_spent.fixCode.setDrive h.updLocal_spent.fixCode)
  · rw [h.opSpot]
    exact .inr ⟨hp, h⟩
end

section
variable {s : State} {p : Prop}

/-! ### Nectar -/

theorem State.Unmarked.setNx (h : s.Unmarked p) {x : Nectar} : ({ s with nx := x } : State).Unmarked p := h.same

theorem State.Unmarked.putDescriptor (h : s.Unmarked p) {k i n st : Nat} : (s.putDescriptor k i n st).Unmarked p := h.hiveWrite

theorem State.Unmarked.poolPut (h : s.Unmarked p) {k key tw f : Nat} {bs : List Byte} : (s.poolPut k key tw f bs).1.Unmarked p := by
  induction f generalizing s bs with
  | zero => exact h
  | succ f ih =>
    unfold State.poolPut
    dsimp only
    split
    · exact h.hiveWrite.updPool.putDescriptor
    · exact ih h.hiveWrite.updPool.putDescriptor.putDescriptor

theorem State.Unmarked.poolRelease (h : s.Unmarked p) {k : Nat} : (s.poolRelease k).Unmarked p := by
  have hput {l : List (Nat × Nat × Nat × Nat)} {f : NxPool → NxPool} :
      ((l.foldl (fun s b => s.putDescriptor k b.1 0 0) s).updPool k f).Unmarked p :=
    .updPool (h.foldl fun _ h _ _ => h.putDescriptor)
  unfold State.poolRelease
  refine .ite h ?_
  dsimp only
  split
  · exact hput.updPool
  · exact hput

theorem State.Unmarked.poolsRelease (h : s.Unmarked p) : s.poolsRelease.Unmarked p := h.foldl fun _ h _ _ => .ite h h.poolRelease

theorem State.Unmarked.poolStarve (h : s.Unmarked p) {k : Nat} : (s.poolStarve k).Unmarked p := by
  unfold State.poolStarve
  exact .ite h (.raise (.bump h.updPool))

theorem State.Unmarked.poolsStarve (h : s.Unmarked p) : s.poolsStarve.Unmarked p := h.foldl fun _ h _ _ => h.poolStarve

theorem State.Unmarked.countKib (h : s.Unmarked p) {a r n : Nat} (ha : a < 0x000F_0000 := by decide) : (s.countKib a r n).1.Unmarked p :=
  h.bumpBy ha

theorem State.Unmarked.closeBlock (h : s.Unmarked p) {r : Route} : (s.closeBlock r).1.Unmarked p := by
  unfold State.closeBlock
  dsimp -zeta only
  extract_lets x
  split
  · extract_lets n
    split
    · exact .ite h h.updPool
    · rename_i s1 s2 _ s3 s4 _ _ s5 _
      have h1 : s1.Unmarked p := h.poolPut.bump
      have h2 : s2.Unmarked p := .ite h1.bump h1
      have h3 : s3.Unmarked p := .same ((h2.countKib (a := 0x000A_001C)).countKib (a := 0x000A_0020))
      have h4 : s4.Unmarked p := h3.updNx
      exact .ite h4.same h4.setWaiting
  · exact h

theorem State.Unmarked.nectarRecordIn (h : s.Unmarked p) {id : Nat} : (s.nectarRecordIn id).Unmarked p := by
  unfold State.nectarRecordIn
  split
  · refine .ite h ?_
    dsimp only
    split
    · exact .ite h.closeBlock (.setNx (.updNx h.closeBlock.recordRead))
    · exact .ite h (.setNx (.updNx h.recordRead))
  · exact h

theorem State.Unmarked.nectarDrain {f : Nat} (h : s.Unmarked p) : (State.nectarDrain f s).Unmarked p := by
  induction f generalizing s with
  | zero => exact h
  | succ f ih =>
    unfold State.nectarDrain
    split
    · exact .ite (ih h.nectarRecordIn) h
    · exact h

theorem State.Unmarked.closeBlocks (h : s.Unmarked p) : s.closeBlocks.Unmarked p :=
  .foldl h.nectarDrain fun _ h _ _ => .ite h.closeBlock h

theorem State.Unmarked.nectarOpen (h : s.Unmarked p) {id : Nat} : (s.nectarOpen id).Unmarked p := h.updNx

theorem State.Unmarked.nxError (h : s.Unmarked p) {e : NxErr} : (s.nxError e).Unmarked p := by
  unfold State.nxError
  exact .raise (.bump (.same (h.setReg (a := 0x000A_000C))))
end

section
variable {s : State} {p : Prop}

/-! ### Hub time -/

theorem State.Unmarked.servo (h : s.Unmarked p) : s.servo.Unmarked p := h.same
theorem State.Unmarked.enterHoldover (h : s.Unmarked p) : s.enterHoldover.Unmarked p := h.updTime

theorem State.Unmarked.refuseStep (h : s.Unmarked p) {src : Nat} {d : Int} : (s.refuseStep src d).Unmarked p := by
  unfold State.refuseStep
  exact .raise (.bump (.updTime h.enterHoldover))

theorem State.Unmarked.startSlew (h : s.Unmarked p) {src : Nat} {d : Int} : (s.startSlew src d).Unmarked p := h.updTime

theorem State.Unmarked.takeOffset (h : s.Unmarked p) {src : Nat} : (s.takeOffset src).Unmarked p := by
  unfold State.takeOffset
  exact .ite h.refuseStep h.startSlew

theorem State.Unmarked.switchTo (h : s.Unmarked p) {src : Nat} : (s.switchTo src).Unmarked p := by
  unfold State.switchTo
  exact .ite (.updTime h.bump) (.takeOffset h.bump)

theorem State.Unmarked.setQ (h : s.Unmarked p) {src : Nat} {q : Bool} : (s.setQ src q).Unmarked p := h.updTime

theorem State.Unmarked.loseSource (h : s.Unmarked p) {src : Nat} : (s.loseSource src).Unmarked p := by
  unfold State.loseSource
  refine .ite h ?_
  extract_lets s1 s2
  have h1 : s1.Unmarked p := h.setQ
  have h2 : s2.Unmarked p := .ite (.raise h1.updTime) (.ite h1.updTime h1)
  refine .ite h2.enterHoldover (.ite ?_ (.ite ?_ h2))
  · split
    · exact h2.switchTo
    · exact h2.enterHoldover
  · split
    · exact h2.switchTo
    · exact h2

theorem State.Unmarked.gainSource (h : s.Unmarked p) {src : Nat} : (s.gainSource src).Unmarked p := by
  unfold State.gainSource
  exact .ite h (.ite h.setQ.switchTo h.setQ)

theorem State.Unmarked.track (h : s.Unmarked p) {src : Nat} : (s.track src).Unmarked p := by
  unfold State.track
  exact .ite (.ite h.refuseStep h.servo) h

theorem State.Unmarked.acceptStep (h : s.Unmarked p) {d : Option Int} : (s.acceptStep d).2.Unmarked p := by
  unfold State.acceptStep
  dsimp only
  split
  · exact h
  · exact h.updTime
  · split
    · exact h
    · exact h.updTime

theorem State.Unmarked.timeSet (h : s.Unmarked p) {n u : Nat} : (s.timeSet n u).2.Unmarked p := by
  unfold State.timeSet
  dsimp only
  split
  · exact h
  split
  · split
    · exact h.updTime.takeOffset
    · exact h.updTime
  · exact h.updTime.gainSource

theorem State.Unmarked.timeTod (h : s.Unmarked p) {n : Nat} : (s.timeTod n).Unmarked p := h.updTime

/-! ### Trunk messages -/

theorem State.exchPort_lt (l : Nat) : (s.exchPort l).getD 0 < 8 := by
  unfold State.exchPort
  split
  · simp_all; omega
  · split
    · simp_all; omega
    · simp

theorem State.Unmarked.trunkCrcBad (h : s.Unmarked p) {l : Nat} (hl : l < 32) : (s.trunkCrcBad l).Unmarked p := by
  unfold State.trunkCrcBad
  exact .bump h.same (tpReg_lt (by omega))

theorem State.Unmarked.trunkMessage (h : s.Unmarked p) {l : Nat} {m : List Byte} {f : State → State}
    (hf : ∀ s : State, s.Unmarked p → (f s).Unmarked p) : (s.trunkMessage l m f).Unmarked p := by
  unfold State.trunkMessage
  refine .ite h (.ite (.ite (hf s h) h) ?_)
  split
  · exact h
  · exact h.trunkCrcBad (by omega)

theorem State.Unmarked.trunkOnly (h : s.Unmarked p) {l : Nat} {m : List Byte} {f : State → State}
    (hf : l < 28 → ∀ s : State, s.Unmarked p → (f s).Unmarked p) : (s.trunkOnly l m f).Unmarked p := by
  unfold State.trunkOnly
  split
  · exact h
  · exact h.trunkMessage (hf (by omega))

theorem State.Unmarked.pairUnlock (h : s.Unmarked p) : s.pairUnlock.Unmarked p := by
  unfold State.pairUnlock
  exact .ite h h.same

theorem State.Unmarked.exchFail (h : s.Unmarked p) {i : Nat} : (s.exchFail i).Unmarked p := by
  unfold State.exchFail
  exact .ite h.updTport.pairUnlock.loseSource h.updTport.pairUnlock

theorem State.Unmarked.tsync (h : s.Unmarked p) {l : Nat} {m : List Byte} {t : Int} : (s.tsync l m t).Unmarked p := by
  refine h.trunkMessage fun s h => ?_
  have hfresh (c : Prop) [Decidable c] (i : Nat) :
      ((if c then s.exchFail i else s).departs).2.Unmarked p := .same (.ite h.exchFail h)
  exact .ite h (hfresh _ _).updTport.egress

theorem State.Unmarked.tdreq (h : s.Unmarked p) {l : Nat} {m : List Byte} {t : Int} : (s.tdreq l m t).Unmarked p := by
  refine h.trunkMessage fun s h => .ite h ?_
  split
  · exact .ite h.updTport.egress h.exchFail
  · exact h

theorem State.Unmarked.tdresp (h : s.Unmarked p) {l : Nat} {m : List Byte} : (s.tdresp l m).Unmarked p := by
  refine h.trunkMessage fun s h => .ite h ?_
  have hi := s.exchPort_lt l
  dsimp -zeta only
  split
  · exact h
  refine .ite h.exchFail ?_
  extract_lets _ _ _ _ _ s1 s2 _ s3
  have h1 : s1.Unmarked p := h.updTport
  have h2 : s2.Unmarked p := .ite (h1.bump (tpReg_lt hi)) h1
  have h3 : s3.Unmarked p := .ite h2.same h2
  exact .ite h3 (.ite h3.track.gainSource h3.track)

theorem State.Unmarked.followNeighbours (h : s.Unmarked p) : s.followNeighbours.Unmarked p := by
  unfold State.followNeighbours
  generalize s.pickNeighbour false = u
  dsimp only
  split
  · exact h.updTime
  · cases u with
    | none => exact h.updTime.loseSource
    | some i => exact .ite h.updTime (.ite h.updTime.loseSource h.updTime.gainSource)

theorem State.Unmarked.followStep (h : s.Unmarked p) : s.followStep.Unmarked p := by
  unfold State.followStep
  split
  · exact .ite h h.acceptStep.updTport
  · exact h

theorem State.Unmarked.announceIn (h : s.Unmarked p) {l : Nat} {m : List Byte} : (s.announceIn l m).Unmarked p :=
  h.trunkOnly fun _ _ h => .followStep (.ite h.updTport.followNeighbours.loseSource h.updTport.followNeighbours)

theorem State.Unmarked.followLanes (h : s.Unmarked p) : s.followLanes.Unmarked p := by
  refine h.foldl fun s h i _ => .ite h ?_
  extract_lets _ s1 s2 s3
  have h1 : s1.Unmarked p := .ite h.updTport h
  have h2 : s2.Unmarked p := .ite h1 h1.updTport
  have h3 : s3.Unmarked p := .ite h2 h2.pairUnlock
  exact .ite h3.loseSource h3

theorem State.Unmarked.tcapsDone (h : s.Unmarked p) {l : Nat} (hl : l < 32) : (s.tcapsDone l).Unmarked p := by
  unfold State.tcapsDone
  exact .ite (h.capsDone hl) h

theorem State.Unmarked.fmapSend (h : s.Unmarked p) {d : Bool} : (s.fmapSend d).Unmarked p := h.foldl fun _ h _ _ => h.sendTrunk

theorem State.Unmarked.tcapsIn (h : s.Unmarked p) {l : Nat} {m : List Byte} : (s.tcapsIn l m).Unmarked p := by
  unfold State.tcapsIn
  split
  · exact h
  case isFalse hl =>
    have hl : l < 32 := by simp at hl; omega
    exact .ite (h.trunkCrcBad hl) (.ite h (.ite (.ite (h.egress.updTport.tcapsDone hl).fmapSend (h.egress.updTport.tcapsDone hl))
      (h.egress.capsDone hl)))

theorem State.Unmarked.tcapsAckIn (h : s.Unmarked p) {l : Nat} {m : List Byte} : (s.tcapsAckIn l m).Unmarked p := by
  unfold State.tcapsAckIn
  split
  · exact h
  case isFalse hl =>
    have hl : l < 32 := by simp at hl; omega
    exact .ite (h.trunkCrcBad hl) (.ite h (.ite (.ite (h.updTport.updTport.tcapsDone hl).fmapSend (h.updTport.updTport.tcapsDone hl))
      (h.updTport.capsDone hl)))

theorem State.Unmarked.fmapIn (h : s.Unmarked p) {l : Nat} {m : List Byte} : (s.fmapIn l m).Unmarked p :=
  h.trunkOnly fun _ _ h => .ite h h.updTime

theorem State.Unmarked.foreignIn (h : s.Unmarked p) {l : Nat} {m : List Byte} : (s.foreignIn l m).Unmarked p :=
  h.trunkOnly fun _ _ h => .ite h (.foldl h fun _ h _ _ => .foldl h fun _ h _ _ => h.combForeign)

theorem State.Unmarked.sendFragment (h : s.Unmarked p) {d : Bool} {n : Nat} {m : List Byte} : (s.sendFragment d n m).Unmarked p := by
  have hports : ∀ l ∈ (if d then [26, 27] else [24, 25] : List Nat), l - 24 < 8 := by cases d <;> decide
  have hfirst : (if d then [26, 27] else [24, 25] : List Nat).headD 24 - 24 < 8 := by cases d <;> decide
  unfold State.sendFragment
  exact .ite (h.bump (tpReg_lt hfirst)) (.foldl h fun _ h l hl =>
    .ite h (.ite (h.runEgress.bump (tpReg_lt (hports l hl))) h.runEgress.egress))

theorem State.Unmarked.relayBytes (h : s.Unmarked p) {d : Bool} {n : Nat} {bs : List Byte} : (s.relayBytes d n bs).Unmarked p :=
  .foldl h.updTime fun _ h _ _ => h.sendFragment

theorem State.Unmarked.relayNak (h : s.Unmarked p) {a b : Nat} : (s.relayNak a b).Unmarked p := h.sendFragment

/-! ### Arming, swarm and fires -/

theorem State.Unmarked.armDue (h : s.Unmarked p) {e : Nat} : (s.armDue e).Unmarked p := h.updEngine

theorem State.Unmarked.armEngine (h : s.Unmarked p) {e : Nat} {t : Int} {x : ArmSource} : (s.armEngine e t x).Unmarked p := by
  unfold State.armEngine
  exact .ite h h.updEngine.armDue

theorem State.Unmarked.armSet (h : s.Unmarked p) {n : Nat} {t : Int} {x : ArmSource} : (s.armSet n t x).Unmarked p :=
  h.foldl fun _ h _ _ => h.armEngine

theorem State.Unmarked.disarm (h : s.Unmarked p) {e : Nat} : (s.disarm e).Unmarked p := h.updEngine

theorem State.Unmarked.relaySwarm (h : s.Unmarked p) {l : Nat} {m : List Byte} : (s.relaySwarm l m).Unmarked p := by
  unfold State.relaySwarm
  exact .ite h.sendTrunk h.sendTrunk

theorem State.Unmarked.collectAnswer (h : s.Unmarked p) {a b c : Nat} : (s.collectAnswer a b c).Unmarked p := by
  unfold State.collectAnswer
  exact .ite h h.same

theorem State.Unmarked.joinArm (h : s.Unmarked p) {n set : Nat} {t : Int} : (s.joinArm n t set).Unmarked p := by
  unfold State.joinArm
  extract_lets _ s1 _ s2 _ _
  have h1 : s1.Unmarked p := h.same
  have h2 : s2.Unmarked p := .ite h1 (.foldl h1 fun _ h _ _ => h.armEngine)
  exact h2.noteSeen.collectAnswer.sendTrunk

theorem State.Unmarked.swarmArmOut (h : s.Unmarked p) {t : Int} {n : Nat} : (s.swarmArmOut t n).Unmarked p := by
  unfold State.swarmArmOut
  exact .ite h.noteSeen.sendTrunk.joinArm (.same h.noteSeen.sendTrunk)

theorem State.Unmarked.swarmArmIn (h : s.Unmarked p) {l : Nat} {m : List Byte} : (s.swarmArmIn l m).Unmarked p :=
  h.trunkOnly fun _ _ h => .ite h.bump (.ite h.noteSeen.relaySwarm.joinArm h.noteSeen.relaySwarm)

theorem State.Unmarked.armResultIn (h : s.Unmarked p) {l : Nat} {m : List Byte} : (s.armResultIn l m).Unmarked p :=
  h.trunkOnly fun _ _ h => .ite h.bump (.ite h.noteSeen.relaySwarm.collectAnswer h.noteSeen.relaySwarm)

theorem State.Unmarked.deliverSwarm (h : s.Unmarked p) {o n : Nat} {t : Int} {x : Option Int} : (s.deliverSwarm o t n x).Unmarked p :=
  .trigSend (.foldl h fun _ h _ he => h.fireAt (State.lt_of_mem_swarmEngines he))

theorem State.Unmarked.hostFire (h : s.Unmarked p) {n m : Nat} {b : Bool} : (s.hostFire n m b).Unmarked p := by
  unfold State.hostFire
  extract_lets t s1 s2
  have h1 : s1.Unmarked p := h.foldl fun _ h _ _ => .ite h.updUnit h
  have h2 : s2.Unmarked p := h1.swarmFireOut
  exact .ite (.ite (.foldl h2 fun _ h _ he => h.fireEngine (State.lt_of_mem_swarmEngines he)) h2)
    (.foldl h1 fun _ h _ he => h.fireEngine (lt_of_mem_bitList he))

theorem State.Unmarked.swarmApply (h : s.Unmarked p) {o n : Nat} {t : Int} {x : Option (Nat × Nat)} :
    (s.swarmApply o t n x).Unmarked p := by
  unfold State.swarmApply
  split
  · exact .deliverSwarm h.same
  · exact h.deliverSwarm

theorem State.Unmarked.swarmFireIn (h : s.Unmarked p) {l : Nat} {m : List Byte} : (s.swarmFireIn l m).Unmarked p := by
  refine h.trunkOnly fun _ s h => .ite h.bump ?_
  extract_lets s1
  have h1 : s1.Unmarked p := .bump h.noteSeen.relaySwarm
  refine .ite h1 (.ite ?_ ?_)
  · split
    · exact h1.updPair.swarmApply
    · exact h1.updPair
  · exact .deliverSwarm (.ite h1.plSend h1)
end

section
variable {s : State} {p : Prop}

/-! ### Modes -/

/-- A change of the system's state that leaves the mode and the one before it. -/
theorem State.Unmarked.setSys (h : s.Unmarked p) {x : Sys} (hm : x.mode = s.sys.mode := by rfl) (hv : x.prev = s.sys.prev := by rfl) :
    ({ s with sys := x } : State).Unmarked p := by
  refine h.imp (fun h => ?_) id
  unfold State.Spent at *
  dsimp only
  rwa [hm, hv]

/-- In a mode that is neither TRAIN nor TEST it is too late for a spot. -/
theorem State.setMode_unmarked {m : Mode} (hm : m ≠ .train) (ht : m ≠ .test) : (s.setMode m).Unmarked False := by
  have hmode : (s.setMode m).sys.mode = m := by
    by_cases h : s.sys.mode = m
    · unfold State.setMode
      rw [if_pos h, h]
    · exact congrArg (·.1) (State.setMode_modes h)
  exact .inl (.inl fun h => h.elim (fun h => hm (hmode.symm.trans h)) fun h => ht (hmode.symm.trans h.1))

/-- A new mode is TRAIN only where TEST returns to it. -/
theorem State.Unmarked.setMode (h : s.Unmarked p) {m : Mode} (hm : m = .train → s.sys.mode = .test ∧ s.sys.prev = .train) :
    (s.setMode m).Unmarked p := by
  have hmode : ({ s with sys := { s.sys with mode := m, prev := s.sys.mode } } : State).Unmarked p := by
    refine h.imp (Or.imp_left fun hn => ?_) id
    rintro (h | ⟨-, h⟩)
    · exact hn (.inr (hm h))
    · exact hn (.inl h)
  unfold State.setMode
  refine .ite h ?_
  extract_lets old _ s1 s2 running _ s3 _ s4 _
  have h2 : s2.Unmarked p := .raise hmode
  have h4 : s4.Unmarked p := .ite (.setSys (.ite h2.same h2)) h2
  exact .ite h4.setSys h4

theorem State.timeMode_ne_train (s : State) : s.timeMode ≠ .train := by
  unfold State.timeMode
  split
  · decide
  · split <;> decide

theorem State.Unmarked.followTime (h : s.Unmarked p) : s.followTime.Unmarked p := by
  unfold State.followTime
  exact .ite (h.setMode fun hm => absurd hm s.timeMode_ne_train) h

theorem State.Unmarked.followSuspect (h : s.Unmarked p) {n : Nat} : (s.followSuspect n).Unmarked p := by
  unfold State.followSuspect
  exact .ite h (.ite h.plSend.markSuspect h.markSuspect)

theorem State.Unmarked.setExcEnable (h : s.Unmarked p) {b : Bool} : (s.setExcEnable b).2.Unmarked p := by
  have hset : ({ s with sys := { s.sys with excEn := b } } : State).Unmarked p := h.setSys
  unfold State.setExcEnable
  split
  · exact h
  · exact .ite hset hset.drivesOff

theorem State.Unmarked.flushCopies (h : s.Unmarked p) {e : Nat} : (s.flushCopies e).Unmarked p := by
  unfold State.flushCopies
  split
  · exact h.updEngine
  · exact .updEngine (h.foldl fun _ h _ _ => h.emit)

theorem State.Unmarked.stopEngines (h : s.Unmarked p) : s.stopEngines.Unmarked p := by
  refine h.foldl fun s h e he => ?_
  have hcut : (((s.cutRecord e).flushCopies e).disarm e).Unmarked p := (h.cutRecord (List.mem_range.1 he)).flushCopies.disarm
  exact .ite hcut.updEngine hcut

theorem State.Unmarked.stopUnits (h : s.Unmarked p) : s.stopUnits.Unmarked p := h.same
theorem State.Unmarked.stopComb (h : s.Unmarked p) : s.stopComb.Unmarked p := h.same
theorem State.Unmarked.stopGrid (h : s.Unmarked p) : s.stopGrid.Unmarked p := h.same

theorem State.Unmarked.stopAcquisition (h : s.Unmarked False) : s.stopAcquisition.Unmarked False :=
  h.stopEngines.stopUnits.stopStreams.stopChains.stopLocals.drivesOff.isolateAll.closeBlocks.stopGrid

theorem State.Unmarked.setHive (h : s.Unmarked p) {x : Hive} : ({ s with hive := x } : State).Unmarked p := h.same

theorem State.Unmarked.leaveTest (h : s.Unmarked p) : s.leaveTest.Unmarked p := by
  unfold State.leaveTest
  exact .setHive h.lanesLeaveTest.setReg

theorem State.checkerCount_sys (l : Nat) : (s.checkerCount l).sys = s.sys := by
  unfold State.checkerCount
  dsimp only
  split
  · rfl
  · split <;> simp

theorem State.enterDetect_sys (l : Nat) : (s.enterDetect l).sys = s.sys := by
  unfold State.enterDetect
  dsimp only
  split <;> rfl

theorem State.laneLeft_sys (l c : Nat) : (s.laneLeft l c).sys = s.sys := by
  unfold State.laneLeft State.podDown State.rewindHost State.pairLinkCheck
  dsimp only
  split
  · simp
  split
  · simp
  split
  · split <;> simp
  · simp

theorem State.setGen_sys (l : Nat) (a b : Bool) : (s.setGen l a b).sys = s.sys := by
  unfold State.setGen
  dsimp only
  split
  · split
    · split <;> rfl
    split
    · rw [State.laneLeft_sys]
      rfl
    · split <;> rfl
  · split
    · rfl
    split
    · rw [State.enterDetect_sys]
      rfl
    · rfl

theorem State.lanesLeaveTest_sys : s.lanesLeaveTest.sys = s.sys := by
  unfold State.lanesLeaveTest
  refine List.foldlRecOn (motive := fun t : State => t.sys = s.sys) _ _ rfl fun t ht l _ => ?_
  rw [State.setGen_sys, State.updLane_sys, State.checkerCount_sys, State.setReg_sys, State.setReg_sys, State.setReg_sys, ht]

/-- Leaving TEST itself sets no mode. -/
theorem State.leaveTest_sys : s.leaveTest.sys = s.sys := by
  unfold State.leaveTest
  simp only [State.setReg_sys, State.lanesLeaveTest_sys]

theorem State.Unmarked.leaveSafe (h : s.Unmarked p) : s.leaveSafe.Unmarked p := h.updTime

/-- Entering SAFE ends the spot, and forbids another. -/
theorem State.Unmarked.enterSafe (h : s.Unmarked p) {c : Nat} : (s.enterSafe c).Unmarked p := by
  unfold State.enterSafe
  extract_lets s1 s2 _ s3 s4
  have h1 : s1.Unmarked False := State.setMode_unmarked (by decide) (by decide)
  have h2 : s2.Unmarked False := h1.raise
  have h3 : s3.Unmarked False := h2.setSys
  exact .ite h h3.dropCals.stopAcquisition.stopComb.weaken

theorem State.Unmarked.modeRequest (h : s.Unmarked p) {n : Nat} {t : State} (ht : s.modeRequest n = some t) : t.Unmarked p := by
  unfold State.modeRequest at ht
  split at ht
  · cases ht
  split at ht
  · cases ht
    exact h
  split at ht
  · obtain ⟨-, ht⟩ := Option.ite_none_left_eq_some.1 ht
    cases ht
    exact h.enterSafe
  split at ht
  case isTrue hprev =>
    simp only [Bool.and_eq_true, decide_eq_true_eq] at hprev
    obtain rfl := Option.some.inj ht
    refine h.leaveTest.setMode fun hm => ?_
    rw [State.leaveTest_sys, ← hm]
    exact ⟨hprev.1, hprev.2.symm⟩
  split at ht
  · obtain ⟨-, ht⟩ := Option.ite_none_right_eq_some.1 ht
    cases ht
    exact .weaken (.abortSpotsAndCals (.setSys (State.setMode_unmarked (by decide) (by decide))))
  split at ht
  · obtain ⟨-, ht⟩ := Option.ite_none_right_eq_some.1 ht
    cases ht
    exact .setMode (.ite h.leaveSafe h) nofun
  · cases ht

theorem State.Unmarked.requestMode (h : s.Unmarked p) {n : Nat} {e : Option Nat} : (s.requestMode n e).2.Unmarked p := by
  unfold State.requestMode
  split
  case h_1 t ht => exact h.modeRequest ht
  case h_2 => exact h.raise

/-- A field die in reset converts nothing. -/
theorem State.Unmarked.fieldDieReset (h : s.Unmarked p) : s.fieldDieReset.2.Unmarked p := by
  unfold State.fieldDieReset
  split
  · exact h
  · exact .inl (.inr (.inl rfl))

/-! ### Timed actions and clocks -/

theorem State.Unmarked.startWaiting (h : s.Unmarked p) : s.startWaiting.Unmarked p := h.foldl fun _ h _ _ => .ite h.podStart h

theorem State.Unmarked.storeAct (h : s.Unmarked p) {e : Nat} {a : TaEntry} : (s.storeAct e a).Unmarked p := by
  unfold State.storeAct
  exact .ite h.updAct.startWaiting h.updAct

theorem State.Unmarked.writeTaCmd (h : s.Unmarked p) {v : Nat} : (s.writeTaCmd v).2.Unmarked p := by
  unfold State.writeTaCmd
  dsimp only
  split
  · split
    · exact h
    split
    · exact h
    split
    · exact h
    · exact h.storeAct
  split
  · exact .updTime (.setReg (.setReg (.setReg (.setReg h.setReg))))
  split
  · exact h.updAct
  · exact h

theorem State.Unmarked.sense (h : s.Unmarked p) {n v : Nat} : (s.sense n v).Unmarked p := h.updClk
theorem State.Unmarked.senseAt (h : s.Unmarked p) {n : Nat} : (s.senseAt n).Unmarked p := h.sense
theorem State.Unmarked.senseNow (h : s.Unmarked p) : s.senseNow.Unmarked p := h.foldl fun _ h _ _ => h.senseAt

theorem State.Unmarked.failover (h : s.Unmarked p) {a b : Nat} : (s.failover a b).Unmarked p := .raise (.bump h.updClk)

theorem State.Unmarked.clockFollow (h : s.Unmarked p) {u : State} : (s.clockFollow u).Unmarked p := by
  unfold State.clockFollow
  exact .ite h.failover h

theorem State.Unmarked.followRefs (h : s.Unmarked p) : s.followRefs.Unmarked p := by
  unfold State.followRefs
  refine .ite (.ite h h.updClk) ?_
  split
  · exact .ite h (.ite h.updClk h.updClk)
  · refine .ite h (.ite h.updClk ?_)
    split <;> exact h.failover

theorem State.Unmarked.loseRef (h : s.Unmarked p) {a b : Nat} : (s.loseRef a b).Unmarked p := .raise (.bump h.updClk)

theorem State.Unmarked.writeRefCfg (h : s.Unmarked p) {v : Nat} : (s.writeRefCfg v).2.Unmarked p := by
  unfold State.writeRefCfg
  dsimp only
  split
  · exact h
  · exact .followRefs (.foldl h.setReg fun _ h _ _ => .ite h.loseRef h)

theorem State.Unmarked.avsTry (h : s.Unmarked p) {a : AvsAnswer} : (s.avsTry a).Unmarked p := by
  unfold State.avsTry
  exact .ite h.updClk.updClk (.ite h.updClk.updClk (.raise (.bump h.updClk.updClk)))

theorem State.Unmarked.avsRequest (h : s.Unmarked p) {n : Nat} {a : AvsAnswer} : (s.avsRequest n a).Unmarked p := h.updClk.avsTry

theorem State.Unmarked.avsRetry (h : s.Unmarked p) {a : AvsAnswer} : (s.avsRetry a).Unmarked p := by
  unfold State.avsRetry
  exact .ite h.updClk h.updClk.avsRequest

theorem State.Unmarked.writeVlimit (h : s.Unmarked p) {v : Nat} {a : AvsAnswer} : (s.writeVlimit v a).2.Unmarked p := by
  unfold State.writeVlimit
  dsimp only
  split
  · exact h
  · exact .ite (.avsRequest (.bump h.setReg)) h.setReg

theorem State.Unmarked.writePlanTgt (h : s.Unmarked p) {v : Nat} : (s.writePlanTgt v).2.Unmarked p := by
  unfold State.writePlanTgt
  split
  · exact h
  · exact h.setReg

theorem State.Unmarked.setPlan (h : s.Unmarked p) {a b : Nat} : (s.setPlan a b).Unmarked p := by
  unfold State.setPlan
  exact .raise h.same

theorem State.Unmarked.evaluate (h : s.Unmarked p) {a : AvsAnswer} : (s.evaluate a).Unmarked p := by
  unfold State.evaluate
  dsimp -zeta only
  extract_lets _ _ _ _ _ _ _ _ _ _ _ s1
  have h1 : s1.Unmarked p := h.updClk
  exact .ite (.avsRequest h1.bump) (.ite h1.setPlan (.ite (.raise h1.updClk) (.ite (.raise h1.updClk) (.ite h1.setPlan
    (.ite (.avsRequest (.bump h1.updClk)) h1)))))

theorem State.Unmarked.writePlanCmd (h : s.Unmarked p) {v : Nat} {a : AvsAnswer} : (s.writePlanCmd v a).2.Unmarked p := by
  unfold State.writePlanCmd
  exact .ite (.evaluate (.senseNow (.ite h.avsRetry h))) (.ite h.avsRetry h)
end

/-- A register of a group lies at one of its members. -/
theorem inGroup_lt {o base step n q : Nat} (h : inGroup o base step n = some q) : (o - base) / step < n := by
  unfold inGroup at h
  split at h
  case isTrue hc =>
    simp only [Bool.and_eq_true, decide_eq_true_eq] at hc
    exact Nat.div_lt_of_lt_mul (by omega)
  case isFalse => cases h

theorem lt_of_isGw {a : Nat} (h : isGw a = true) : a < 0x000F_0000 := by
  simp [isGw] at h
  omega

/-- Reading the field die clears no counter that lies before a marking one. -/
theorem not_marksRange_of_isFieldRc {a : Nat} (ha : 0x0100_0000 ≤ a) (ha' : a < 0x0100_1800) (h : isFieldRc (a - 0x0100_0000) = true) :
    ¬ marksRange (a + 4) := by
  rintro ⟨-, hs⟩
  have hs : a = 0x0100_1020 := by
    unfold overflowSubject at hs
    split at hs <;> omega
  subst hs
  exact absurd h (by decide)

section
variable {s : State} {p : Prop}

/-- The state of a pair that a match has taken apart. -/
theorem State.Unmarked.of_snd {α : Type} {x : α × State} {a : α} {t : State} (he : x = (a, t)) (h : x.2.Unmarked p) : t.Unmarked p := by
  subst he
  exact h

theorem State.lt_of_badAddr {a : Nat} (h : s.badAddr a = none) : a < 0x000F_0000 := by
  unfold State.badAddr at h
  split at h
  · cases h
  case isFalse hc =>
    simp only [Bool.or_eq_true, decide_eq_true_eq, not_or, not_le] at hc
    exact hc.2

/-! ### Registers -/

theorem State.Unmarked.lockTake (h : s.Unmarked p) {k : Port} {n : Nat} : (s.lockTake k n).2.Unmarked p := by
  unfold State.lockTake
  dsimp only
  split
  · exact h
  · exact h.updLock

theorem State.Unmarked.lockRelease (h : s.Unmarked p) {k : Port} {n : Nat} : (s.lockRelease k n).2.Unmarked p := by
  unfold State.lockRelease
  split
  · exact h
  · exact h.updLock

theorem State.Unmarked.releaseLocks (h : s.Unmarked p) {k : Port} : (s.releaseLocks k).Unmarked p :=
  h.foldl fun _ h _ _ => .ite h.updLock h

theorem State.Unmarked.clearReg (h : s.Unmarked p) {a : Nat} (ha : a < 0x000F_0000) : (s.clearReg a).Unmarked p := by
  have hc : (s.setReg a 0).Unmarked p := h.setReg ha
  unfold State.clearReg
  exact .ite hc.same (.ite hc.same (.ite hc.same (.ite hc.same (.ite hc.updPool hc))))

theorem State.Unmarked.writePhy (h : s.Unmarked p) {l q : Nat} {v : Word} (hl : l < 32) : (s.writePhy l q v).2.Unmarked p := by
  unfold State.writePhy
  split
  · exact h
  case isFalse hq =>
    split
    · exact h
    · have hq : q ≤ 4 := by simp at hq; omega
      exact h.setReg_of (not_marksRange_phy (by omega) (by omega))

/-- The state at the end of a triple. -/
theorem State.Unmarked.triple {α β : Type} {a : α} {b : β} (h : s.Unmarked p) : (a, b, s).2.2.Unmarked p := h

theorem State.Unmarked.ixAt (h : s.Unmarked p) {a : Nat} {w : Option Word} {c : Bool} : (s.ixAt a w c).2.2.Unmarked p := by
  unfold State.ixAt
  dsimp only
  split
  case isTrue ha =>
    obtain ⟨ha, ha'⟩ := Bool.and_eq_true_iff.1 ha
    have hclear : (if c && isFieldRc (a - 0x0100_0000) then s.setReg a 0 else s).Unmarked p := by
      split
      case isTrue hc =>
        exact h.setReg_of (not_marksRange_of_isFieldRc (of_decide_eq_true ha) (of_decide_eq_true ha') (Bool.and_eq_true_iff.1 hc).2)
      case isFalse => exact h
    split
    · exact h
    split
    · exact h
    split
    · exact h
    · exact hclear
  split
  case isTrue ha =>
    have hl : (a - 0x0200_0000) / 0x1000 < 32 := by
      simp only [Bool.and_eq_true, decide_eq_true_eq] at ha
      omega
    split
    · exact h
    split
    · exact .triple (h.writePhy hl)
    · exact h
  split
  · split <;> exact h
  · split <;> exact h

theorem State.Unmarked.ixAccess (h : s.Unmarked p) {k : Port} {w : Option Word} {c : Bool} : (s.ixAccess k w c).2.2.Unmarked p := by
  unfold State.ixAccess
  dsimp only
  split
  · exact h.ixAt.updPort
  · exact .updPort (.ite h.ixAt.bump h.ixAt)

theorem State.Unmarked.setIxAddr (h : s.Unmarked p) {k : Port} {a : Nat} : (s.setIxAddr k a).Unmarked p := h.updPort

theorem State.Unmarked.ixReads (h : s.Unmarked p) {k : Port} {n : Nat} {ws : List Word} : (s.ixReads k n ws).2.2.Unmarked p := by
  induction n generalizing s ws with
  | zero => exact h
  | succ n ih =>
    have hx := h.ixAccess (k := k) (w := none) (c := true)
    unfold State.ixReads
    split
    case h_1 he => rw [he] at hx; exact ih hx
    case h_2 he => rw [he] at hx; exact hx

theorem State.Unmarked.ixWrites (h : s.Unmarked p) {k : Port} {ws : List Word} : (s.ixWrites k ws).2.Unmarked p := by
  induction ws generalizing s with
  | nil => exact h
  | cons w ws ih =>
    have hx := h.ixAccess (k := k) (w := some w) (c := true)
    unfold State.ixWrites
    split
    case h_1 he => rw [he] at hx; exact ih hx
    case h_2 he => rw [he] at hx; exact hx

theorem State.Unmarked.refresh (h : s.Unmarked p) {a : Nat} : (s.refresh a).Unmarked p := by
  unfold State.refresh
  split
  case isTrue ha =>
    obtain ⟨q, hq, -⟩ := (Option.any_eq_true ..).1 (Bool.and_eq_true_iff.1 ha).2
    exact h.checkerCount (inGroup_lt hq)
  · exact .ite h.senseAt (.ite h.runBanks.runLanes h)

theorem State.Unmarked.readReg (h : s.Unmarked p) {k : Port} {a : Nat} {c : Bool} : (s.readReg k a c).2.2.Unmarked p := by
  unfold State.readReg
  split
  · exact h
  case h_2 ha =>
    split
    · exact h.ixAccess
    · have hread : (if a = 0x0002_0004 then (s.refresh a).updTime fun t => { t with latch := fullTime t.now } else s.refresh a).Unmarked p :=
        .ite h.refresh.updTime h.refresh
      exact .ite (hread.clearReg (State.lt_of_badAddr ha)) hread

theorem State.Unmarked.readRegs (h : s.Unmarked p) {k : Port} {a n : Nat} {ws : List Word} : (s.readRegs k a n ws).2.2.Unmarked p := by
  induction n generalizing s a ws with
  | zero => exact h
  | succ n ih =>
    have hx := h.readReg (k := k) (a := a) (c := true)
    unfold State.readRegs
    split
    case h_1 he => rw [he] at hx; exact ih hx
    case h_2 he => rw [he] at hx; exact hx

theorem State.Unmarked.writeWm (h : s.Unmarked p) {a v n : Nat} (ha : a < 0x000F_0000 := by decide) : (s.writeWm a v n).2.Unmarked p := by
  unfold State.writeWm
  dsimp only
  split
  · exact h.setReg ha
  · exact h

theorem State.Unmarked.writeDrCfg (h : s.Unmarked p) {v : Nat} : (s.writeDrCfg v).2.Unmarked p := by
  unfold State.writeDrCfg
  split
  · exact h
  · exact h.setReg

theorem State.Unmarked.followStop (h : s.Unmarked p) : s.followStop.Unmarked p := h.updCmdStop

theorem State.Unmarked.writeHostp (h : s.Unmarked p) {o v : Nat} : (s.writeHostp o v).2.Unmarked p := by
  unfold State.writeHostp
  split
  · exact (h.writeWm (a := 0x000B_0008)).followStop
  split
  · exact (h.writeWm (a := 0x000B_000C)).updDrdy
  split
  · exact h.writeDrCfg
  split
  · dsimp only
    split
    · exact h.setReg
    · exact h
  · exact h

theorem State.Unmarked.writeLane (h : s.Unmarked p) {o v : Nat} : (s.writeLane o v).2.Unmarked p := by
  unfold State.writeLane
  split
  · exact h.retrain
  split
  case h_1 q hq =>
    dsimp only
    split
    · exact h.writeTestCtrl (inGroup_lt hq)
    split
    · exact h.writeInjGo
    split
    · exact h.writeEyeCtrl (inGroup_lt hq)
    · exact h
  · exact h

theorem State.Unmarked.writePod (h : s.Unmarked p) {o v : Nat} : (s.writePod o v).2.Unmarked p := by
  unfold State.writePod
  split
  · exact h.foldl fun _ h _ _ => h.releaseQuar
  split
  · exact h.writePodCmd
  · exact h

theorem State.Unmarked.writeHive (h : s.Unmarked p) {o v : Nat} : (s.writeHive o v).2.Unmarked p := by
  have harb : (if bit v 0 then s.arbCommit else (Reply.ok, s)).2.Unmarked p := by
    split
    · exact h.arbCommit
    · exact h
  unfold State.writeHive
  revert harb
  generalize (if bit v 0 then s.arbCommit else (Reply.ok, s)) = x
  intro harb
  split
  · dsimp only
    split
    · exact harb
    · exact harb.egrCommit
  split
  · exact h.writeEccInj
  · exact h

theorem State.Unmarked.writeClk (h : s.Unmarked p) {o v : Nat} {a : AvsAnswer} : (s.writeClk o v a).2.Unmarked p := by
  unfold State.writeClk
  split
  · exact h.writeRefCfg
  split
  · exact h.writePlanTgt
  split
  · exact h.writeVlimit
  split
  · exact h.writePlanCmd
  · exact h

theorem State.Unmarked.lockReq (h : s.Unmarked p) {k : Port} {v : Nat} : (s.lockReq k v).2.Unmarked p := by
  unfold State.lockReq
  dsimp only
  split
  · exact h.lockTake.updPort
  · exact h.lockRelease.updPort

theorem State.Unmarked.writeLock (h : s.Unmarked p) {k : Port} {o v : Nat} : (s.writeLock k o v).2.Unmarked p := by
  unfold State.writeLock
  split
  · dsimp only
    split
    · exact h.setReg
    · exact h
  split
  · exact h.lockReq
  · exact h

theorem State.Unmarked.writeIx (h : s.Unmarked p) {k : Port} {o : Nat} {v : Word} : (s.writeIx k o v).2.Unmarked p := by
  unfold State.writeIx
  split
  · exact h.setIxAddr
  split
  · exact h.ixAccess
  · exact h

theorem State.Unmarked.writePlain (h : s.Unmarked p) {k : Port} {a : Nat} {v : Word} {x : AvsAnswer} (ha : a < 0x000F_0000) :
    (s.writePlain k a v x).2.Unmarked p := by
  unfold State.writePlain
  dsimp only
  split
  · exact h.setReg ha
  split
  · split
    · exact h.writeTaCmd
    · exact h
  · exact h.writeClk
  · exact h.writeLane
  · exact h.writePod
  · exact h.writeHive
  · exact h.writeHostp
  · exact h.writeIx
  · exact h.writeLock
  · exact h

theorem State.Unmarked.guardFail (h : s.Unmarked p) {k : Port} : (s.guardFail k).Unmarked p := by
  unfold State.guardFail
  split
  · exact .bump (.raise h.updPort)
  · exact h

/-! ### Images -/

theorem State.Unmarked.opImg (h : s.Unmarked p) {k : Packet} {f : Bool} : (s.opImg k f).2.Unmarked p := by
  unfold State.opImg
  dsimp only
  split
  · exact h
  split
  · exact h
  split
  · exact h
  · exact .same h.hiveWrite

theorem State.Unmarked.expand (h : s.Unmarked p) {cs : List Section} {n : Nat} : (s.expand cs n).2.Unmarked p := by
  induction cs generalizing s n with
  | nil => exact h
  | cons c cs ih =>
    unfold State.expand
    split
    · dsimp only
      split
      · exact h
      split
      · dsimp only
        exact h.nxError
      · split
        case h_1 he => exact .of_snd he (ih h.hiveWrite)
        case h_2 he => exact .of_snd he (ih h.hiveWrite)
    · split
      case h_1 he => exact .of_snd he (ih h)
      case h_2 he => exact .of_snd he (ih h)

theorem State.Unmarked.readImage (h : s.Unmarked p) {n c : Nat} {f : Bool} : (s.readImage n c f).2.Unmarked p := by
  unfold State.readImage
  split
  · exact h
  dsimp only
  split
  · exact h.hiveRead
  split
  · exact h.hiveRead
  split
  · exact h.hiveRead
  split
  · exact h.hiveRead
  · split
    case h_1 he => exact .of_snd he h.hiveRead.expand
    case h_2 he => exact .of_snd he h.hiveRead.expand

theorem State.Unmarked.commitOutcome (h : s.Unmarked p) {r : Refuse} : (s.commitOutcome r).Unmarked p := by
  unfold State.commitOutcome
  exact .ite h.same (.bump h.same)

theorem State.Unmarked.stageImage (h : s.Unmarked p) {i : Image} {k : Port} : (s.stageImage i k).Unmarked p := h.same

theorem State.Unmarked.bootPassed (h : s.Unmarked p) {k : Port} : (s.bootPassed k).Unmarked p := by
  unfold State.bootPassed
  exact .ite h.same h

theorem State.Unmarked.beginRebuild (h : s.Unmarked p) {k : Packet} {i : Image} : (s.beginRebuild k i).Unmarked p := by
  unfold State.beginRebuild
  exact .same h.stageImage.hiveRead

theorem State.Unmarked.startCommit (h : s.Unmarked p) {k : Packet} {n c : Nat} {f : Bool} : (s.startCommit k n c f).2.Unmarked p := by
  have h0 : ({ s with cfg := { s.cfg with stagedLen := 0 } } : State).Unmarked p := h.same
  have hread := h0.readImage (n := n) (c := c) (f := f)
  unfold State.startCommit
  dsimp only
  split
  · exact h0.commitOutcome
  split
  · exact h0.commitOutcome
  split
  case h_1 he => rw [he] at hread; exact hread.commitOutcome
  case h_2 he =>
    rw [he] at hread
    split
    · exact hread.beginRebuild
    split
    · exact hread.commitOutcome
    · exact .commitOutcome (.ite hread.stageImage.bootPassed hread)

theorem State.Unmarked.opCommit (h : s.Unmarked p) {k : Packet} {f : Bool} : (s.opCommit k f).2.Unmarked p := by
  unfold State.opCommit
  dsimp only
  split
  · exact h
  split
  · exact h
  · exact h.startCommit

theorem State.Unmarked.writeCfgRef (h : s.Unmarked p) {v : Word} : (s.writeCfgRef v).2.Unmarked p := h.same
end

section
variable {s : State} {p : Prop}

/-! ### The pair -/

theorem State.Unmarked.pair {α : Type} {a : α} (h : s.Unmarked p) : (a, s).2.Unmarked p := h

theorem State.Unmarked.iteSnd {α : Type} {c : Prop} [Decidable c] {x y : α × State} (hx : x.2.Unmarked p) (hy : y.2.Unmarked p) :
    (if c then x else y).2.Unmarked p := by
  split
  · exact hx
  · exact hy

theorem State.Unmarked.goStale (h : s.Unmarked p) : s.goStale.Unmarked p := by
  unfold State.goStale
  exact .ite h (.raise h.updPair)

theorem State.Unmarked.podsTakeOver (h : s.Unmarked p) : s.podsTakeOver.Unmarked p := by
  refine h.foldl fun s h l _ => ?_
  have hpod {f : PodLane → PodLane} : ((s.fresh Config.partnerDelay).2.updPod l f).Unmarked p := .updPod h.same
  exact .ite hpod.send hpod

theorem State.Unmarked.takeOver (h : s.Unmarked p) {c : Nat} : (s.takeOver c).Unmarked p := by
  unfold State.takeOver
  extract_lets s1 s2 s3 s4 s5 s6 _ s7
  have h2 : s2.Unmarked p := h.plSend.updPair
  have h3 : s3.Unmarked p := h2.same
  have h4 : s4.Unmarked p := h3.raise
  have h5 : s5.Unmarked p := h4.bump
  have h6 : s6.Unmarked p := .ite h5 (h5.setMode nofun)
  clear_value s6
  have hsys : ({ s6 with sys := { s6.sys with surgeFrom := .takeover } } : State).Unmarked p := h6.setSys
  have h7 : s7.Unmarked p := .ite (hsys.setMode nofun) h6
  exact h7.podsTakeOver

theorem State.Unmarked.giveUp (h : s.Unmarked p) : s.giveUp.Unmarked p := by
  have hoff {f : Pair → Pair} : ((s.updPair f).goStale.drivesOff).Unmarked p := h.updPair.goStale.drivesOff
  unfold State.giveUp
  exact .ite (hoff.setMode nofun) hoff

theorem State.Unmarked.declareFault (h : s.Unmarked p) {c : Nat} : (s.declareFault c).Unmarked p := by
  unfold State.declareFault
  exact .ite h (.plSend h.raise)

theorem State.Unmarked.mismatch (h : s.Unmarked p) {a b c d : Nat} : (s.mismatch a b c d).Unmarked p := by
  unfold State.mismatch
  refine .ite (.bump h.updPair) ?_
  extract_lets own other s1 s2 s3
  have h2 : s2.Unmarked p := .raise h.updPair
  have h3 : s3.Unmarked p := h2.bump
  exact .ite h3.takeOver h3

theorem State.Unmarked.compared (h : s.Unmarked p) {a b c : Nat} {same : Bool} : (s.compared a b c same).Unmarked p := by
  unfold State.compared
  extract_lets _ s1 s2
  have h2 : s2.Unmarked p := .ite (.bump h.updPair) h.updPair
  exact .ite h2 h2.mismatch

theorem State.Unmarked.ownDigest (h : s.Unmarked p) {e : DigestEntry} : (s.ownDigest e).Unmarked p := by
  unfold State.ownDigest
  refine .ite h ?_
  split
  · exact h.updPair.compared
  · exact h.updPair

theorem State.Unmarked.takeDigests (h : s.Unmarked p) : s.takeDigests.Unmarked p := by
  have hdig : ({ s with host := s.host.digestAll } : State).Unmarked p := h.setHost fun hm => hm.digestAll
  unfold State.takeDigests
  exact .ite h (.foldl hdig.same fun _ h _ _ => .ite h.plSend h.ownDigest)

theorem State.Unmarked.joinStream (h : s.Unmarked p) {e : JoinEntry} : (s.joinStream e).Unmarked p := by
  unfold State.joinStream
  split
  · exact h
  · exact .updNx (.updStream (.ite h.openStream h))

theorem State.Unmarked.joinAtBoundary (h : s.Unmarked p) : s.joinAtBoundary.Unmarked p := by
  unfold State.joinAtBoundary
  split
  · exact .ite h (.updPair (.foldl h fun _ h _ _ => h.joinStream))
  · exact h

theorem State.Unmarked.checkInStep (h : s.Unmarked p) : s.checkInStep.Unmarked p := by
  unfold State.checkInStep
  split
  · exact .ite (.raise h.updPair) h
  · exact h

theorem State.Unmarked.rejoin (h : s.Unmarked p) : s.rejoin.Unmarked p := h.updPair

theorem State.Unmarked.grantPrimary (h : s.Unmarked p) {l : Lease} {b : Bool} : (s.grantPrimary l b).2.Unmarked p := by
  unfold State.grantPrimary
  extract_lets q inForce given t
  have hgiven : t.Unmarked p := h.updPair
  exact .iteSnd h (.iteSnd hgiven.pair (.iteSnd h (.iteSnd h hgiven.takeOver.pair)))

theorem State.Unmarked.grantSuccession (h : s.Unmarked p) {l : Lease} : (s.grantSuccession l).2.Unmarked p := by
  unfold State.grantSuccession
  extract_lets q inForce t
  exact .iteSnd h (.pair h.updPair)

theorem State.Unmarked.revokeLease (h : s.Unmarked p) {n : Nat} {b : Bool} : (s.revokeLease n b).2.Unmarked p := by
  unfold State.revokeLease
  dsimp only
  split
  · exact .ite h.updPair.giveUp h.updPair
  split
  · exact h.updPair
  · exact h

theorem State.Unmarked.ownLease (h : s.Unmarked p) {k : Packet} : (s.ownLease k).2.Unmarked p := by
  unfold State.ownLease
  dsimp only
  split
  · exact h
  split
  · exact h
  split
  · exact h
  split
  · exact h.grantPrimary
  split
  · exact h.grantSuccession
  split
  · exact h.revokeLease
  · exact h

theorem State.Unmarked.opLease (h : s.Unmarked p) {k : Packet} : (s.opLease k).2.Unmarked p := by
  unfold State.opLease
  split
  · exact h
  split
  · exact h.ownLease
  · exact h.updPair.plSend

theorem State.Unmarked.pairForce (h : s.Unmarked p) {v : Nat} {b : Bool} : (s.pairForce v b).2.Unmarked p := by
  unfold State.pairForce
  extract_lets no
  split
  · exact .iteSnd h.pair h
  · exact .iteSnd h.takeOver.pair h
  · exact .iteSnd h.pair h
  · exact .iteSnd h.rejoin.pair h
  · exact h.declareFault.pair
  · exact h

theorem State.Unmarked.noteChecks (h : s.Unmarked p) {u : State} : (s.noteChecks u).Unmarked p :=
  h.foldl fun _ h _ _ => .ite h.noteCheck h

theorem State.Unmarked.faultsFollow (h : s.Unmarked p) {u : State} : (s.faultsFollow u).Unmarked p := by
  unfold State.faultsFollow
  extract_lets _ _ s1
  have h1 : s1.Unmarked p := .ite h.declareFault h
  exact .ite h1.declareFault h1

theorem State.Unmarked.pairFollow (h : s.Unmarked p) {u : State} : (s.pairFollow u).Unmarked p :=
  h.noteChecks.faultsFollow.joinAtBoundary.takeDigests.checkInStep

/-! ### Guarded writes and register commands -/

theorem State.Unmarked.writeReset (h : s.Unmarked p) {v : Nat} : (s.writeReset v).2.Unmarked p := by
  unfold State.writeReset
  split
  · exact h.setSys
  split
  · exact h.fieldDieReset
  · exact h

theorem State.Unmarked.otpProgram (h : s.Unmarked p) {v : Nat} : (s.otpProgram v).2.Unmarked p := by
  unfold State.otpProgram
  dsimp only
  split
  · exact h
  split
  · exact h
  split
  · exact h
  · exact h.setSys

theorem State.Unmarked.guardedAct (h : s.Unmarked p) {k : Packet} {a : Nat} {v : Word} : (s.guardedAct k a v).2.Unmarked p := by
  unfold State.guardedAct
  dsimp only
  split
  · exact h.requestMode
  · exact h.setExcEnable
  · exact h.writeReset
  · exact h.otpProgram
  · exact h.startCommit
  · exact h.writeCfgRef
  · split
    · exact h.acceptStep
    · exact h
  · exact h.pairForce
  · exact h

theorem State.Unmarked.guardedWrite (h : s.Unmarked p) {k : Packet} {a : Nat} {v : Word} (ha : isGw a = true) :
    (s.guardedWrite k a v).2.Unmarked p :=
  .ite (h.guardedAct.setReg (lt_of_isGw ha)) h.guardedAct

theorem State.Unmarked.guardMiss (h : s.Unmarked p) {k : Port} {a : Nat} : (s.guardMiss k a).Unmarked p := .bump h.raise

theorem State.Unmarked.guardFirst (h : s.Unmarked p) {k : Port} {a : Nat} {v : Word} : (s.guardFirst k a v).2.Unmarked p := h.guardFail.updPort

theorem State.Unmarked.guardSecond (h : s.Unmarked p) {k : Packet} {a : Nat} {v : Word} (ha : isGw a = true) :
    (s.guardSecond k a v).2.Unmarked p := by
  unfold State.guardSecond
  split
  · split
    · exact h.updPort.guardedWrite ha
    · exact .iteSnd h.guardFail.pair h.guardFail.guardMiss.pair
  · exact h.guardMiss.pair

theorem State.Unmarked.opGwr (h : s.Unmarked p) {k : Packet} : (s.opGwr k).2.Unmarked p := by
  unfold State.opGwr
  dsimp only
  split
  · exact h
  split
  · exact h.guardFail
  case isFalse hg => exact h.guardFail.guardedWrite (by simp at hg; exact hg.1)

theorem State.Unmarked.writeReg (h : s.Unmarked p) {k : Packet} {a : Nat} {v : Word} {x : AvsAnswer} : (s.writeReg k a v x).2.Unmarked p := by
  unfold State.writeReg
  split
  · exact .ite h h.guardFail
  · exact h
  case h_3 ha _ =>
    split
    · exact h.guardFirst
    split
    case isTrue hg => exact h.guardSecond hg
    case isFalse => exact h.guardFail.writePlain (State.lt_of_badAddr ha)

theorem State.Unmarked.writeRegs (h : s.Unmarked p) {k : Packet} {x : AvsAnswer} {a : Nat} {ws : List Word} {b : Bool} :
    (s.writeRegs k x a ws b).2.Unmarked p := by
  induction ws generalizing s a b with
  | nil => exact h
  | cons w ws ih =>
    unfold State.writeRegs
    split
    case h_1 he => exact ih (.of_snd he h.writeReg)
    case h_2 he => exact ih (.of_snd he h.writeReg)
    case h_3 he => exact .of_snd he h.writeReg

/-! ### Commands -/

theorem State.Unmarked.opRd (h : s.Unmarked p) {k : Packet} : (s.opRd k).2.Unmarked p := by
  unfold State.opRd
  split
  · exact h
  case h_2 n _ =>
    have hx := h.readRegs (k := k.port) (a := k.addr.toNat) (n := n) (ws := [])
    split
    case h_1 he => rw [he] at hx; exact hx
    case h_2 he => rw [he] at hx; exact hx

theorem State.Unmarked.opWr (h : s.Unmarked p) {k : Packet} {x : AvsAnswer} : (s.opWr k x).2.Unmarked p := by
  unfold State.opWr
  split
  · exact h
  · exact h.writeRegs

theorem State.Unmarked.opIxrd (h : s.Unmarked p) {k : Packet} : (s.opIxrd k).2.Unmarked p := by
  unfold State.opIxrd
  split
  · exact h
  case h_2 n _ =>
    have hx := (h.setIxAddr (k := k.port) (a := k.addr.toNat)).ixReads (k := k.port) (n := n) (ws := [])
    split
    · exact h
    split
    case h_1 he => rw [he] at hx; exact hx
    case h_2 he => rw [he] at hx; exact hx

theorem State.Unmarked.opIxwr (h : s.Unmarked p) {k : Packet} : (s.opIxwr k).2.Unmarked p := by
  unfold State.opIxwr
  dsimp only
  split
  · exact h.guardFail
  split
  · exact h.guardFail
  · exact h.guardFail.setIxAddr.ixWrites

theorem State.Unmarked.opLock (h : s.Unmarked p) {k : Packet} : (s.opLock k).2.Unmarked p := by
  unfold State.opLock
  split
  · exact h
  · exact h.lockTake

theorem State.Unmarked.opUnlock (h : s.Unmarked p) {k : Packet} : (s.opUnlock k).2.Unmarked p := by
  unfold State.opUnlock
  split
  · exact h
  · exact h.lockRelease

theorem State.Unmarked.opTime (h : s.Unmarked p) {k : Packet} : (s.opTime k).2.Unmarked p := by
  unfold State.opTime
  extract_lets op n
  exact .iteSnd h (.iteSnd h (.iteSnd h (.iteSnd h.timeSet h.timeTod)))

theorem State.Unmarked.opArm (h : s.Unmarked p) {k : Packet} : (s.opArm k).2.Unmarked p := by
  unfold State.opArm
  extract_lets set timed t s1
  have h1 : s1.Unmarked p := h.swarmArmOut
  exact .iteSnd h (.iteSnd h (.iteSnd h (.iteSnd (.iteSnd h h1) h.armSet)))

theorem State.Unmarked.opFire (h : s.Unmarked p) {k : Packet} : (s.opFire k).2.Unmarked p := by
  unfold State.opFire
  split
  · exact h
  split
  · exact h
  · exact h.hostFire

theorem State.Unmarked.opStreamOpen (h : s.Unmarked p) {k : Packet} : (s.opStreamOpen k).2.Unmarked p := by
  unfold State.opStreamOpen
  dsimp only
  split
  · exact h
  split
  · exact h
  · exact h.nectarOpen.openStream

theorem State.Unmarked.flushStream (h : s.Unmarked p) {r : Route} : (s.flushStream r).Unmarked p := by
  unfold State.flushStream
  exact .ite h (.closeBlock (.foldl h fun _ h _ _ => h.nectarRecordIn))

theorem State.Unmarked.flushClosing (h : s.Unmarked p) : s.flushClosing.Unmarked p := h.foldl fun _ h _ _ => .ite h.flushStream h

theorem State.Unmarked.opStreamClose (h : s.Unmarked p) {k : Packet} : (s.opStreamClose k).2.Unmarked p := by
  unfold State.opStreamClose
  dsimp only
  split
  · exact h
  split
  · exact h
  split
  · exact .ite h.updStream.endOpening h.updStream
  split <;> exact h

theorem State.Unmarked.relayAck (h : s.Unmarked p) {es : List (Nat × Nat)} : (s.relayAck es).Unmarked p := by
  unfold State.relayAck
  exact .ite h.plSend h

theorem State.Unmarked.portRewind (h : s.Unmarked p) {k : Port} : (s.portRewind k).Unmarked p := by
  unfold State.portRewind
  exact .ite h.rewindDrip (.ite h.rewindHost h)

theorem State.Unmarked.opAck (h : s.Unmarked p) {k : Packet} : (s.opAck k).2.Unmarked p := by
  unfold State.opAck
  dsimp only
  split
  · exact h
  · exact .ite h.ackAll.relayAck.portRewind h.ackAll.relayAck

theorem State.Unmarked.portReset (h : s.Unmarked p) {k : Port} : (s.portReset k).Unmarked p :=
  .portRewind (.releaseLocks h.same)

theorem State.Unmarked.opUnitReset (h : s.Unmarked p) {k : Packet} : (s.opUnitReset k).2.Unmarked p := by
  have hpods : s.podLanes ≤ 24 := by unfold State.podLanes; split <;> omega
  unfold State.opUnitReset
  dsimp only
  split
  · split
    · exact h
    · exact h.retrain
  · split
    · exact h
    · exact h.drainLane (by omega)
  · split
    · exact h
    · exact h.disarm
  · exact h.portReset.updPort
  · exact h

theorem State.Unmarked.applyPacket (h : s.Unmarked p) {k : Packet} {x : AvsAnswer} : (s.applyPacket k x).2.Unmarked p := by
  unfold State.applyPacket
  split
  · exact h.opRd
  · exact h.opWr
  · exact h.opIxrd
  · exact h.opIxwr
  · exact h.opGwr
  · exact h.opRdb
  · exact h.opWrb
  · exact h.opImg
  · exact h.opCommit
  · exact h.opLock
  · exact h.opUnlock
  · exact h.opSpot
  · exact h.opCal
  · exact h.opArm
  · exact h.opFire
  · exact h.opTime
  · exact h.opLease
  · exact h.opStreamOpen
  · exact h.opStreamClose
  · exact h.opAck
  · exact h.opUnitReset
  · exact h

/-! ### Ports -/

theorem State.Unmarked.answer (h : s.Unmarked p) {k : Packet} {r : Reply} : (s.answer k r).Unmarked p := by
  cases r with
  | done st body => exact h.complete
  | later => exact h

theorem State.Unmarked.applyNow (h : s.Unmarked p) {k : Packet} {x : AvsAnswer} : (s.applyNow k x).Unmarked p := h.applyPacket.answer

theorem State.Unmarked.forward (h : s.Unmarked p) {k : Packet} {n : Nat} {b : Bool} : (s.forward k n b).Unmarked p := h.updPair.plSend

theorem State.Unmarked.serveAt (h : s.Unmarked p) {k : Packet} : (s.serveAt k).Unmarked p := by
  unfold State.serveAt
  exact .ite h.complete (.ite h.answer (.ite h.forward h.updPair))

theorem State.Unmarked.serve (h : s.Unmarked p) {k : Packet} {x : AvsAnswer} : (s.serve k x).Unmarked p := by
  unfold State.serve
  exact .ite h.complete (.ite (.ite h.serveAt h.complete) (.ite h.serveAt (.ite h.forward h.applyNow)))

theorem State.Unmarked.start (h : s.Unmarked p) {k : Packet} {x : AvsAnswer} : (s.start k x).Unmarked p := by
  unfold State.start
  exact .ite (.ite h.relayBytes h.answer) h.serve

theorem State.Unmarked.accept (h : s.Unmarked p) {k : Packet} {x : AvsAnswer} : (s.accept k x).Unmarked p := by
  unfold State.accept
  exact .ite h.bump (.ite h.same h.updPort.start)

theorem State.Unmarked.setPorts (h : s.Unmarked p) {x : Ports} : ({ s with ports := x } : State).Unmarked p := h.same

theorem State.Unmarked.drainInbound {x : AvsAnswer} {n : Nat} (h : s.Unmarked p) : (State.drainInbound x n s).Unmarked p := by
  induction n generalizing s with
  | zero => exact h
  | succ n ih =>
    unfold State.drainInbound
    split
    · exact ih h.setPorts.start
    · exact h

theorem State.Unmarked.serveInbound (h : s.Unmarked p) : s.serveInbound.Unmarked p := by
  unfold State.serveInbound
  exact .ite h (.drainInbound h.same)

theorem State.Unmarked.takeHeld {x : AvsAnswer} {n : Nat} (h : s.Unmarked p) : (State.takeHeld x n s).Unmarked p := by
  induction n generalizing s with
  | zero => exact h
  | succ n ih =>
    unfold State.takeHeld
    split
    · exact ih h.setPorts.accept
    · exact h.setPorts

theorem State.Unmarked.inOrder (h : s.Unmarked p) {k : Packet} {x : AvsAnswer} : (s.inOrder k x).Unmarked p := by
  unfold State.inOrder
  exact .ite h.setPorts.accept.takeHeld (.ite h.setPorts h.bump)

theorem State.Unmarked.receive {k : Packet} (h : s.Unmarked p) {x : AvsAnswer} : (State.receive k s x).Unmarked p := by
  unfold State.receive
  exact .ite h (.ite h.bump (.ite h.bump (.ite h.inOrder (.ite h h.accept))))

theorem State.Unmarked.take {k : Packet} (h : s.Unmarked p) : (State.take k s).Unmarked p := .receive h.same

theorem State.Unmarked.followForward (h : s.Unmarked p) : s.followForward.Unmarked p := by
  unfold State.followForward
  refine .ite h ?_
  split
  · exact .ite h.updTport.forward h.updTport.acceptStep
  · exact h

theorem State.Unmarked.throughIn (h : s.Unmarked p) {bs : List Byte} : (s.throughIn bs).Unmarked p := by
  have hput {t : State} (ht : t.Unmarked p) : (t.putHost (throughPkt bs)).Unmarked p := ht.putHost rfl
  unfold State.throughIn
  dsimp only
  split
  · split
    · exact hput h
    · split
      · exact h.same
      · exact h.same
      · exact hput h.updPort
  · exact hput h

theorem State.Unmarked.relayPacket (h : s.Unmarked p) {bs : List Byte} : (s.relayPacket bs).Unmarked p := by
  unfold State.relayPacket
  refine .ite h.throughIn ?_
  split
  · exact h.take
  · exact h.bump

theorem State.Unmarked.relayMine (h : s.Unmarked p) {a b c : Nat} {bs : List Byte} : (s.relayMine a b c bs).Unmarked p := by
  unfold State.relayMine
  refine .ite h.rewindHost ?_
  dsimp only
  split
  · split
    · exact h.updTime.relayNak.relayPacket
    · exact h.updTime.relayPacket
  · split
    · exact h.updTime.relayNak
    · exact h.updTime

theorem State.Unmarked.relayIn (h : s.Unmarked p) {l : Nat} {m : List Byte} : (s.relayIn l m).Unmarked p :=
  h.trunkOnly fun _ _ h => .ite h (.ite h.relayMine h.sendFragment)

theorem State.Unmarked.unknownMessage (h : s.Unmarked p) {l : Nat} : (s.unknownMessage l).Unmarked p := by
  unfold State.unknownMessage
  split
  case isTrue hl => exact .ite (h.podError hl (by decide)) h
  case isFalse =>
    split
    case isTrue hl =>
      simp only [Bool.and_eq_true, decide_eq_true_eq] at hl
      exact h.bump (tpReg_lt (by omega))
    case isFalse => exact h

/-! ### What follows from a command -/

theorem State.Unmarked.loopIn (h : s.Unmarked p) {x : Sent} : (s.loopIn x).Unmarked p := by
  unfold State.loopIn
  refine .ite h.unknownMessage (.ite ?_ ?_)
  · split
    · exact h.take
    · exact h
  · split
    · exact h.tsync
    · exact h.tdreq
    · exact h.tdresp
    · exact h.announceIn
    · exact h.tcapsIn
    · exact h.tcapsAckIn
    · exact h.swarmArmIn
    · exact h.armResultIn
    · exact h.swarmFireIn
    · exact h.foreignIn
    · exact h.fmapIn
    · exact h.relayIn
    · exact h

theorem State.Unmarked.takeLooped {n : Nat} (h : s.Unmarked p) : (State.takeLooped n s).Unmarked p := by
  induction n generalizing s with
  | zero => exact h
  | succ n ih =>
    unfold State.takeLooped
    exact .ite h (ih (.foldl h.same fun _ h _ _ => h.loopIn))

theorem State.Unmarked.flushExports (h : s.Unmarked p) : s.flushExports.Unmarked p :=
  .updTime (.foldl h fun _ h _ _ => h.sendTrunk)

/-- What follows from a command sends no such event. -/
theorem State.Unmarked.finish (h : s.Unmarked p) {u : State} : (s.finish u).Unmarked p := by
  unfold State.finish
  refine .ite h ?_
  have hfirst := (h.takeLooped (n := 8)).followLanes.clockFollow (u := u) |>.followTime
  exact hfirst.followSuspect.followForward.serveInbound.flushClosing.poolsRelease.poolsStarve.flushExports.flushLanes.settle.updDrdy.followStop
    |>.pairFollow
end

/-! ### A spot on a fixed range sends the event -/

/-- Channel 0 with a fixed range that it does not have yet. -/
def fixedRange : Local := { fe := { Tests.fe with exc := 0, range := 9 } }

/-- In TRAIN, with the events of the channels' block enabled (R517), one range change before channel 0's counter overflows (R543). -/
def rangeBrink : State :=
  { Tests.chan 0 fixedRange with
    sys := { Tests.base.sys with mode := .train }
    ports := { lanes := 1 }
    regs := [(0x0100_1024, 0xFFFF_FFFE), (0x000B_0010, 0x0001_0000)] }

/-- The operands of a spot of N = 1 on channel 0. -/
def brinkSpot : Packet := { payload := [0, 0, 0, 0] }

/-- The event is in the host port's FIFO of a state where a further range change is possible. -/
def State.marked (s : State) : Bool :=
  s.host.q.any isRangeMark && decide (s.sys.mode = .train) && !s.field.resetting
    && decide (s.regs = [(0x0100_1024, 0xFFFF_FFFF), (0x000B_0010, 0x0001_0000)])

/-- What `exec` answers to the spot. -/
theorem exec_brinkSpot_marked : (match exec (.spot 0 brinkSpot) rangeBrink with | .next s => s.marked | _ => false) = true := by
  decide +kernel

/-- No register above the hub's own arbiters resets to another value than 0. -/
theorem regReset_of_le {a : Nat} (h : 0x000F_0000 ≤ a) : regReset a = 0 := by
  unfold regReset
  repeat rw [if_neg (by omega)]
  rw [if_neg (by simp only [Bool.and_eq_true, decide_eq_true_eq]; omega)]

theorem State.not_unmarked_of_marked {s : State} {p : Prop} (h : s.marked = true) : ¬ s.Unmarked p := by
  simp only [State.marked, Bool.and_eq_true, decide_eq_true_eq, Bool.not_eq_true', List.any_eq_true] at h
  obtain ⟨⟨⟨⟨x, hx, hmark⟩, hmode⟩, hreset⟩, hregs⟩ := h
  rintro ((h | h | ⟨a, ha, h⟩) | ⟨-, -, -, hq, -⟩)
  · exact h (.inl hmode)
  · exact Bool.false_ne_true (hreset.symm.trans h)
  · have hlow := le_of_marksRange ha
    have hne : a ≠ 0x0100_1024 := by
      rintro rfl
      revert ha
      exact not_marksRange_of_mod (by decide)
    refine h ?_
    rw [State.reg, hregs, Tab.get_cons, if_neg hne.symm, Tab.get_cons, if_neg (by omega), Tab.get_nil, regReset_of_le hlow]
  · exact Bool.false_ne_true ((hq x hx).symm.trans hmark)

/-- Refutes O21: a `SPOT` on a fixed range that the channel does not have yet counts a range change. One that overflows the counter raises
its event, and the `EVT` packet stands in the host port's FIFO as the command ends; nothing that follows from the command sends it, so the
state before that has another host port than the state the command found. -/
theorem not_spotsComplete : ¬ Obligations.SpotsComplete := by
  unfold Obligations.SpotsComplete
  intro h
  obtain ⟨v, sp, w, hexec, hspot, -, -, -, -, -, -, -, -, -, hhost, -, -, hothers⟩ :=
    (h rangeBrink _ 0 rfl (by decide +kernel)).1 brinkSpot _ _ (Tests.admits_of (by decide +kernel)) (by decide +kernel) (by decide +kernel)
      (by decide +kernel) (by decide +kernel) (by decide +kernel) (by decide +kernel) (by decide +kernel) (by decide +kernel)
      (by decide +kernel) rfl rfl (by decide +kernel) (by decide +kernel)
  have hv : v.Spotting := by
    refine ⟨?_, fun j hj => ?_, ?_⟩
    · exact Option.isSome_iff_exists.2 ⟨sp, hspot⟩
    · have hold : rangeBrink.local' j = {} := if_neg hj.symm
      rw [hothers j hj, hold]
    · rw [hhost]
      exact ⟨nofun, nofun⟩
  have hmarked := exec_brinkSpot_marked
  rw [hexec] at hmarked
  exact State.not_unmarked_of_marked hmarked (State.Unmarked.finish (p := True) (.inr ⟨trivial, hv⟩))

end Sys2Proof.Machine

/-! Reset (R174, R396, R443, R517, R559, R621). -/

namespace Sys2Proof.Machine

/-! ## The state after reset -/

/-- The reset state lists nothing but what differs from the default. -/
theorem State.reset_atRest : AtRest State.reset where
  mode := rfl
  exc := rfl
  stopped := rfl
  zero := rfl
  memory := rfl
  config := rfl
  lanes := rfl
  pods := rfl
  chains := rfl
  streams := rfl
  events := rfl
  host := rfl
  drip := rfl
  compressor := rfl
  triggers := rfl
  comb := rfl
  locks := rfl
  inbound := rfl
  reordered := rfl
  fieldDie := rfl
  regs := rfl
  queue := fun _ _ => List.not_mem_nil

theorem State.wf_reset : State.wf State.reset = true := rfl

/-! ## The obligation -/

/-- Settles O2: the fields of the reset state, and what the host port reads at each of the registers. -/
theorem resetLeavesAtRest : Obligations.ResetLeavesAtRest := by
  unfold Obligations.ResetLeavesAtRest
  refine ⟨State.reset_atRest, State.wf_reset, ?_⟩
  -- 29 registers of one closed state
  decide +kernel

end Sys2Proof.Machine

/-! SUPPORT. Pod lanes: the registers of their block (R174) and what starting a pod changes (R153, R154). -/

namespace Sys2Proof.Machine

/-! ## Addresses of the block -/

theorem podReg_block {l o : Nat} (hl : l < 24) (ho : o < 0x80) : podReg l o / 65536 = 5 := by
  unfold podReg
  omega

theorem podReg_offset {l o : Nat} (hl : l < 24) (ho : o < 0x80) : podReg l o % 65536 = 0x100 + 0x80 * l + o := by
  unfold podReg
  omega

theorem inGroup_podReg {l o : Nat} (hl : l < 24) (ho : o < 0x80) : inGroup (0x100 + 0x80 * l + o) 0x100 0x80 24 = some o := by
  unfold inGroup
  rw [if_pos (by simp only [Bool.and_eq_true, decide_eq_true_eq]; omega),
    show (0x100 + 0x80 * l + o - 0x100) % 0x80 = o by omega]

theorem State.podLanes_le (s : State) : s.podLanes ≤ 24 := by
  unfold State.podLanes
  split <;> decide

theorem State.podLanes_of_sys {s t : State} (h : t.sys = s.sys) : t.podLanes = s.podLanes := by
  unfold State.podLanes
  rw [h]

/-- The registers of a lane the hub has can be accessed. -/
theorem State.badAddr_podReg {s : State} {l o : Nat} (hl : l < s.podLanes) (ho : o < 0x80) (h4 : o % 4 = 0) :
    s.badAddr (podReg l o) = none := by
  have h24 : l < 24 := hl.trans_le s.podLanes_le
  have hal : (podReg l o % 4 != 0 || decide (0x000F_0000 ≤ podReg l o)) = false := by
    unfold podReg
    simp only [Bool.or_eq_false_iff, bne_eq_false_iff_eq, decide_eq_false_iff_not]
    omega
  have hab : s.absentAt (podReg l o) = false := by
    simp only [State.absentAt, podReg_block h24 ho, podReg_offset h24 ho, Bool.and_eq_false_iff, decide_eq_false_iff_not]
    omega
  simp [State.badAddr, hal, hab]

theorem not_isGw_of_block {a : Nat} (h : a / 65536 = 5) : isGw a = false := by
  simp only [isGw, List.contains_eq_mem, List.mem_cons, List.not_mem_nil, or_false, decide_eq_false_iff_not]
  omega

theorem State.namesAbsent_podReg (s : State) {l o : Nat} (hl : l < 24) (v : Nat) : s.namesAbsent (podReg l o) v = none := by
  unfold State.namesAbsent podReg
  rw [if_neg (by omega), if_neg (by omega), if_neg (by simp only [Bool.and_eq_true, decide_eq_true_eq]; omega)]

/-! ## Pods -/

theorem State.pod_of_pods {s t : State} (h : t.pods = s.pods) (j : Nat) : t.pod j = s.pod j := by
  unfold State.pod
  rw [h]

@[simp] theorem State.send_pod (s : State) (l : Nat) (m : List Byte) (j : Nat) : (s.send l m).pod j = s.pod j :=
  State.pod_of_pods (State.send_pods ..) j

/-- Sending changes nothing but what goes out or comes back. -/
@[simp] theorem State.send_regN (s : State) (l : Nat) (m : List Byte) (a : Nat) : (s.send l m).regN a = s.regN a := by
  simp [State.regN, State.reg]

/-- On a lane that carries messages one goes out; on any other none. -/
theorem State.send_wire (s : State) (l : Nat) (m : List Byte) :
    (s.send l m).wire = if s.carries l then s.wire ++ [{ lane := l, bytes := m }] else s.wire := by
  unfold State.send
  split
  · rfl
  · exact (apply_ite State.wire ..).trans (ite_self _)

/-- What starting a pod, or the wait for it, leaves of its lane's state: all but the start itself. -/
theorem State.podStart_self (s : State) (l : Nat) :
    ∃ b n, (s.podStart l).pod l = { s.pod l with started := b, startTick := n } := by
  unfold State.podStart
  dsimp only
  split
  · rw [State.updPod_self]
    exact ⟨_, _, rfl⟩
  · rw [State.updPod_self]
    split <;> simp only [State.send_pod] <;> exact ⟨_, _, rfl⟩

theorem State.podStart_ne (s : State) {l j : Nat} (h : j ≠ l) : (s.podStart l).pod j = s.pod j := by
  unfold State.podStart
  dsimp only
  split
  · exact State.updPod_ne _ _ h
  · rw [State.updPod_ne _ _ h]
    split <;> simp only [State.send_pod]

/-- A part of the state that sending and a lane's own entries leave alone, starting a pod leaves alone. -/
theorem State.podStart_keeps {β : Type} {g : State → β} (hu : ∀ s p f, g (State.updPod s p f) = g s)
    (hs : ∀ s l m, g (State.send s l m) = g s) (s : State) (l : Nat) : g (s.podStart l) = g s := by
  unfold State.podStart
  dsimp only
  split
  · exact hu ..
  · rw [hu]
    split <;> simp only [hs]

end Sys2Proof.Machine

/-! Pod commands and quarantine (R160, R161, R170). -/

namespace Sys2Proof.Machine

/-! ## `POD_CMD` -/

/-- The lane awaits the response with a command's tag, and the command is on its way where the pod is not quarantined (R160). -/
def State.podCmdSent (s : State) (l tag code : Nat) : State :=
  (if (s.pod l).quarantined then s
    else s.send l (message 0x12 (toLE 1 tag ++ toLE 1 code ++ toLE 4 (s.regN (podReg l 0x2C))))).updPod l
      fun x => { x with cmd := some (tag, s.time.cyc) }

theorem State.writePodCmd_sends {s : State} {l tag code : Nat} (hn : (s.pod l).cmd = none) (ht : tag < 256) (hc : code < 256)
    (hok : code < 4 ∨ 0x40 ≤ code) :
    s.writePodCmd l (BitVec.ofNat 32 (tag * 256 + code)) = (Reply.ok, s.podCmdSent l tag code) := by
  have hv : (BitVec.ofNat 32 (tag * 256 + code)).toNat = tag * 256 + code := ofNat32_toNat (by omega)
  have hcode : (tag * 256 + code) % 256 = code := by omega
  have htag : (tag * 256 + code) / 256 % 256 = tag := by omega
  have hfree : (decide (4 ≤ code) && decide (code < 0x40)) = false := by
    simp only [Bool.and_eq_false_iff, decide_eq_false_iff_not]
    omega
  simp only [State.writePodCmd, hv, hcode, htag, hn, hfree, Option.isSome_none, Bool.false_eq_true, if_false, State.podCmdSent]
  congr 3
  split <;> simp only [State.send_time]

/-- A write of a lane's `POD_CMD` reaches that lane. -/
theorem State.writePlain_podCmd (s : State) {l : Nat} (hl : l < 24) (v : Word) (avs : AvsAnswer) :
    s.writePlain .host (podReg l 0x30) v avs = s.writePodCmd l v := by
  have hb : podReg l 0x30 / 65536 = 5 := podReg_block hl (by decide)
  have ho : podReg l 0x30 % 65536 = 0x100 + 0x80 * l + 0x30 := podReg_offset hl (by decide)
  have hg : inGroup (0x100 + 0x80 * l + 0x30) 0x100 0x80 24 = some 0x30 := inGroup_podReg hl (by decide)
  have hlane : (0x100 + 0x80 * l + 0x30 - 0x100) / 0x80 = l := by omega
  have hm : heldMask (podReg l 0x30) = none := by
    simp only [heldMask, hb, ho, hg]
    rfl
  simp only [State.writePlain, hm, hb, ho, State.writePod, hg, hlane]
  rw [if_neg (by omega), if_pos trivial, BitVec.ofNat_toNat, BitVec.setWidth_eq]

theorem State.podCmdSent_self (s : State) (l tag code : Nat) : ((s.podCmdSent l tag code).pod l).cmd = some (tag, s.time.cyc) := by
  simp [State.podCmdSent]

theorem State.podCmdSent_ne (s : State) {l j : Nat} (tag code : Nat) (h : j ≠ l) : (s.podCmdSent l tag code).pod j = s.pod j := by
  unfold State.podCmdSent
  rw [State.updPod_ne _ _ h]
  split <;> simp only [State.send_pod]

theorem State.podCmdSent_wire {s : State} (l tag code : Nat) (h : s.wire = []) :
    (s.podCmdSent l tag code).wire = if (s.pod l).quarantined = false ∧ s.carries l = true then
      [{ lane := l, bytes := message 0x12 (toLE 1 tag ++ toLE 1 code ++ toLE 4 (s.regN (podReg l 0x2C))) }] else [] := by
  rw [State.podCmdSent, State.updPod_wire]
  cases (s.pod l).quarantined with
  | true => exact h
  | false => simp [State.send_wire, h]

theorem State.podCmdSent_keeps {β : Type} {g : State → β} (hu : ∀ s p f, g (State.updPod s p f) = g s)
    (hs : ∀ s l m, g (State.send s l m) = g s) (s : State) (l tag code : Nat) : g (s.podCmdSent l tag code) = g s := by
  rw [State.podCmdSent, hu]
  split
  · rfl
  · exact hs ..

/-! ## A guarded write that fails -/

/-- The cancelling of a guarded write counts in one register and can count a lost event. -/
theorem State.guardFail_reg (s : State) (p : Port) {a : Nat} (ha : a ≠ 0x0000_0040) (hd : a ≠ aEvtDrop) (hl : a ≠ aEvtLost) :
    (s.guardFail p).reg a = s.reg a := by
  unfold State.guardFail
  split
  · rw [State.bump_reg_ne ha hd hl, State.raise_reg _ _ _ hd hl]
    rfl
  · rfl

theorem State.guardFail_podReg (s : State) (p : Port) {l : Nat} (hl : l < 24) (o : Nat) (ho : o < 0x80) :
    (s.guardFail p).regN (podReg l o) = s.regN (podReg l o) := by
  have hb : podReg l o / 65536 = 5 := podReg_block hl ho
  rw [State.regN, State.guardFail_reg s p (by omega) (by rintro h; rw [h] at hb; revert hb; decide)
    (by rintro h; rw [h] at hb; revert hb; decide)]
  rfl

theorem State.guardFail_carries (s : State) (p : Port) {l : Nat} (hl : l < 24) : (s.guardFail p).carries l = s.carries l := by
  have hr : (s.guardFail p).reg (0x0004_1010 + 0x100 * l) = s.reg (0x0004_1010 + 0x100 * l) :=
    State.guardFail_reg s p (by omega) (by unfold aEvtDrop; omega) (by unfold aEvtLost; omega)
  simp only [State.carries, State.laneLoop, State.regN, hr, State.guardFail_lanes]

/-! ## `POD_QUAR_RELEASE` -/

/-- A lane whose quarantine has been released, which awaits a first frame (R170). -/
structure PodLane.Released (x : PodLane) : Prop where
  free : x.quarantined = false
  errs : x.errSec = 0
  drained : x.drained = true
  idle : x.running = false

theorem State.releaseQuar_ne (s : State) {l j : Nat} (h : j ≠ l) : (s.releaseQuar l).pod j = s.pod j := by
  unfold State.releaseQuar
  split
  · rfl
  · dsimp only
    split
    · rw [State.podStart_ne _ h, State.updPod_ne _ _ h]
    · exact State.updPod_ne _ _ h

theorem State.releaseQuar_releases {s : State} {l : Nat} (hq : (s.pod l).quarantined = true) : ((s.releaseQuar l).pod l).Released := by
  unfold State.releaseQuar
  rw [if_neg (by simp [hq])]
  dsimp only
  split
  · obtain ⟨b, n, h⟩ := State.podStart_self (s.updPod l fun x => { x with quarantined := false, errSec := 0, drained := true, running := false }) l
    rw [h, State.updPod_self]
    exact ⟨rfl, rfl, rfl, rfl⟩
  · rw [State.updPod_self]
    exact ⟨rfl, rfl, rfl, rfl⟩

theorem State.releaseQuar_of_not {s : State} {l : Nat} (hq : (s.pod l).quarantined = false) : s.releaseQuar l = s := by
  unfold State.releaseQuar
  rw [if_pos (by rw [hq]; rfl)]

theorem State.releaseQuar_keeps {β : Type} {g : State → β} (hu : ∀ s p f, g (State.updPod s p f) = g s)
    (hs : ∀ s l m, g (State.send s l m) = g s) (s : State) (l : Nat) : g (s.releaseQuar l) = g s := by
  unfold State.releaseQuar
  split
  · rfl
  · dsimp only
    split
    · rw [State.podStart_keeps hu hs, hu]
    · exact hu ..

/-- The lanes that a write names are released. -/
def State.releaseAll (s : State) (ls : List Nat) : State := ls.foldl (fun s l => s.releaseQuar l) s

theorem State.releaseAll_of_not_mem (s : State) {ls : List Nat} {j : Nat} (h : j ∉ ls) : (s.releaseAll ls).pod j = s.pod j := by
  induction ls generalizing s with
  | nil => rfl
  | cons l ls ih =>
    rw [List.mem_cons, not_or] at h
    exact (ih (s.releaseQuar l) h.2).trans (s.releaseQuar_ne h.1)

/-- A lane that is released stays so. -/
theorem State.releaseAll_released {s : State} {j : Nat} (h : (s.pod j).Released) (ls : List Nat) : ((s.releaseAll ls).pod j).Released := by
  induction ls generalizing s with
  | nil => exact h
  | cons l ls ih =>
    refine ih (s := s.releaseQuar l) ?_
    by_cases hj : j = l
    · subst hj
      rwa [State.releaseQuar_of_not h.free]
    · rwa [State.releaseQuar_ne _ hj]

theorem State.releaseAll_releases {s : State} {ls : List Nat} {j : Nat} (hj : j ∈ ls) (hq : (s.pod j).quarantined = true) :
    ((s.releaseAll ls).pod j).Released := by
  induction ls generalizing s with
  | nil => exact absurd hj List.not_mem_nil
  | cons l ls ih =>
    by_cases hl : j = l
    · subst hl
      exact State.releaseAll_released (State.releaseQuar_releases hq) ls
    · refine ih (s := s.releaseQuar l) (List.mem_of_ne_of_mem hl hj) ?_
      rwa [State.releaseQuar_ne _ hl]

theorem State.releaseAll_keeps {β : Type} {g : State → β} (hu : ∀ s p f, g (State.updPod s p f) = g s)
    (hs : ∀ s l m, g (State.send s l m) = g s) (s : State) (ls : List Nat) : g (s.releaseAll ls) = g s :=
  foldl_keeps (State.releaseQuar_keeps hu hs) ls s

theorem State.writePlain_quarRelease (s : State) (v : Word) (avs : AvsAnswer) :
    s.writePlain .host 0x0005_000C v avs = (Reply.ok, s.releaseAll (bitList s.podLanes v.toNat)) := rfl

theorem State.badAddr_quarRelease (s : State) : s.badAddr 0x0005_000C = none := rfl

theorem mem_bitList {n w i : Nat} : i ∈ bitList n w ↔ i < n ∧ bit w i = true := by
  rw [bitList, List.mem_filter, List.mem_range]

/-- A write of `POD_QUAR_RELEASE` names an absent lane where it names one from the hub's number of pod lanes on (R4). -/
theorem State.namesAbsent_quarRelease (s : State) (v : Nat) :
    s.namesAbsent 0x0005_000C v = ((bitList 24 v).find? (s.podLanes ≤ ·)).map fun l => Reply.of stUnitAbsent 0x05 0 l := rfl

theorem State.namesAbsent_quarRelease_none {s : State} {v : Nat} (h : ∀ l, l < 24 → bit v l = true → l < s.podLanes) :
    s.namesAbsent 0x0005_000C v = none := by
  have hfind : (bitList 24 v).find? (s.podLanes ≤ ·) = none := by
    refine List.find?_eq_none.2 fun l hl => ?_
    rw [mem_bitList] at hl
    simpa using h l hl.1 hl.2
  rw [State.namesAbsent_quarRelease, hfind]
  rfl

theorem State.namesAbsent_quarRelease_some {s : State} {v l : Nat} (hl : l < 24) (hb : bit v l = true) (ha : s.podLanes ≤ l) :
    ∃ j, s.namesAbsent 0x0005_000C v = some (Reply.of stUnitAbsent 0x05 0 j) := by
  have hfind : ((bitList 24 v).find? (s.podLanes ≤ ·)).isSome = true :=
    List.find?_isSome.2 ⟨l, mem_bitList.2 ⟨hl, hb⟩, by simpa using ha⟩
  obtain ⟨j, hj⟩ := Option.isSome_iff_exists.1 hfind
  exact ⟨j, by rw [State.namesAbsent_quarRelease, hj]; rfl⟩

/-- A write of one word that names an absent unit is answered so and has no effect (R4). -/
theorem State.effect_wr_absent {s : State} {p : Packet} {v : Word} {st : Nat} {body : List Byte} (h2 : p.opcode = 2)
    (hw : p.words = some [v]) (hb : (s.admitted p).badAddr p.addr.toNat = none)
    (hn : (s.admitted p).namesAbsent p.addr.toNat v.toNat = some (.done (st + 1) body)) :
    s.effect p = (.done (st + 1) body, s.admitted p) := by
  unfold State.effect State.applyPacket
  have : p.opcode.toNat = 2 := by rw [h2]; rfl
  rw [this]
  show State.opWr _ _ _ = _
  unfold State.opWr
  rw [hw]
  simp only [State.writeRegs, State.writeReg, hb, hn, Bool.false_eq_true, if_false]

/-! ## The obligation -/

/-- The five rows of `POD_CMD`, each with a code that it may carry (R160). -/
theorem exec_of_mem_podCmds {c : Instr × Nat} {t : Nat} {p : Packet}
    (h : c ∈ [(Instr.podNop t p, 0), (Instr.podStop t p, 1), (Instr.podReset t p, 2), (Instr.podIdentify t p, 3),
      (Instr.podVendorCmd t p, max 0x40 (leAt p.payload 0 1))]) (s : State) :
    (exec c.1 s = s.runOn t fun s => State.take (p.podCmd c.2) s) ∧ c.2 < 256 ∧ (c.2 < 4 ∨ 0x40 ≤ c.2) := by
  have hb : leAt p.payload 0 1 < 256 := leAt_lt ..
  simp only [List.mem_cons, List.not_mem_nil, or_false] at h
  rcases h with rfl | rfl | rfl | rfl | rfl
  · exact ⟨exec_podNop .., by simp⟩
  · exact ⟨exec_podStop .., by simp⟩
  · exact ⟨exec_podReset .., by simp⟩
  · exact ⟨exec_podIdentify .., by simp⟩
  · exact ⟨exec_podVendorCmd .., by dsimp only; omega, .inr (le_max_left ..)⟩

/-- Settles O25: a write of `POD_CMD` reaches its lane, and one of `POD_QUAR_RELEASE` every lane it names. -/
theorem podCommandsComplete : Obligations.PodCommandsComplete := by
  unfold Obligations.PodCommandsComplete
  rintro s u t p rfl hm
  refine ⟨fun l tag hl htag hlanes hn c hc hq => ?_, fun v0 hq hw hpres => ?_, fun v0 l hq hw hl hb habs => ?_⟩
  · obtain ⟨hexec, hcode, hok⟩ := exec_of_mem_podCmds hc s
    have ht : tag < 256 := htag ▸ leAt_lt ..
    have h24 : l < 24 := hlanes.trans_le s.podLanes_le
    have hpkt : p.podCmd c.2 = p.writing (podReg l 0x30) (tag * 256 + c.2) := by rw [Packet.podCmd, hl, htag]
    rw [hpkt] at hexec hq ⊢
    have hblock : podReg l 0x30 / 65536 = 5 := podReg_block h24 (by decide)
    let v := ((s.elapse t).admitted (p.writing (podReg l 0x30) (tag * 256 + c.2))).guardFail .host
    have hpods : v.pods = s.pods := State.guardFail_pods ..
    have hop : (s.elapse t).effect (p.writing (podReg l 0x30) (tag * 256 + c.2)) = (Reply.ok, v.podCmdSent l tag c.2) := by
      rw [State.effect_writing (s := s.elapse t) (p := p) hq.port (by omega) (show tag * 256 + c.2 < 2 ^ 32 by omega) (State.badAddr_podReg hlanes (by decide) (by decide))
        (State.namesAbsent_podReg _ h24 _) (not_isGw_of_block hblock) (not_isGw_of_block (by unfold podReg at *; omega)),
        State.writePlain_podCmd _ h24, State.writePodCmd_sends ((congrArg _ (State.pod_of_pods hpods l)).trans hn) ht hcode hok]
      rfl
    refine ⟨v.podCmdSent l tag c.2, exec_answers hexec hq hop, ?_, ?_, fun j hj => ?_, ?_, ?_⟩
    · rw [State.podCmdSent_self, State.guardFail_time]
      rfl
    · have hwire : v.wire = [] := State.guardFail_wire ..
      have hcar : v.carries l = s.carries l := State.guardFail_carries _ _ h24
      have harg : v.regN (podReg l 0x2C) = s.regN (podReg l 0x2C) := State.guardFail_podReg _ _ h24 _ (by decide)
      rw [State.podCmdSent_wire l tag c.2 hwire, hcar, harg, State.pod_of_pods hpods]
    · rw [State.podCmdSent_ne _ _ _ hj, State.pod_of_pods hpods]
    · exact (State.podCmdSent_keeps State.updPod_lanes State.send_lanes v l tag c.2).trans (State.guardFail_lanes ..)
    · exact (State.podCmdSent_keeps State.updPod_hive State.send_hive v l tag c.2).trans (State.guardFail_hive ..)
  · let v := ((s.elapse t).admitted (p.asWrite 0x0005_000C)).guardFail .host
    have hpods : v.pods = s.pods := State.guardFail_pods ..
    have haddr : (p.asWrite 0x0005_000C).addr.toNat = 0x0005_000C := rfl
    have hlanes : v.podLanes = s.podLanes := State.podLanes_of_sys (State.guardFail_sys ..)
    have hop : (s.elapse t).effect (p.asWrite 0x0005_000C) = (Reply.ok, v.releaseAll (bitList s.podLanes v0.toNat)) := by
      rw [State.effect_wr (s := s.elapse t) rfl hq.port hw (State.badAddr_quarRelease _) (State.namesAbsent_quarRelease_none hpres) rfl rfl, haddr,
        State.writePlain_quarRelease, ← hlanes]
      rfl
    refine ⟨_, exec_answers (exec_podQuarRelease t p s) hq hop, fun l hl hb hquar => ?_, fun l hb => ?_, ?_, ?_, ?_⟩
    · have hrel := State.releaseAll_releases (s := v) (mem_bitList.2 ⟨hl, hb⟩) (by rw [State.pod_of_pods hpods]; exact hquar)
      exact ⟨hrel.free, hrel.errs, hrel.drained, hrel.idle⟩
    · rw [State.releaseAll_of_not_mem _ fun h => Bool.false_ne_true (hb.symm.trans (mem_bitList.1 h).2), State.pod_of_pods hpods]
    · exact (State.releaseAll_keeps State.updPod_lanes State.send_lanes ..).trans (State.guardFail_lanes ..)
    · exact (State.releaseAll_keeps State.updPod_chains State.send_chains ..).trans (State.guardFail_chains ..)
    · exact (State.releaseAll_keeps State.updPod_hive State.send_hive ..).trans (State.guardFail_hive ..)
  · obtain ⟨j, hj⟩ := State.namesAbsent_quarRelease_some (s := (s.elapse t).admitted (p.asWrite 0x0005_000C)) hl hb habs
    exact ⟨_, _, exec_answers (exec_podQuarRelease t p s) hq (State.effect_wr_absent rfl hw (State.badAddr_quarRelease _) hj), rfl, rfl, rfl, rfl⟩

end Sys2Proof.Machine

/-! SUPPORT. What the chains' outputs reach leaves alone (R218, R227, R341, R436): the pods' lanes, the lanes and the bytes of Hive. -/

namespace Sys2Proof.Machine

/-- The pods, the lanes and the bytes of Hive. -/
def State.besideFeed (s : State) := (s.pods, s.lanes, s.hive.mem)

theorem State.besideFeed_parts {s t : State} (h : t.besideFeed = s.besideFeed) :
    (∀ j, t.pod j = s.pod j) ∧ t.lanes = s.lanes ∧ t.hive.mem = s.hive.mem := by
  simp only [State.besideFeed, Prod.mk.injEq] at h
  exact ⟨State.pod_of_pods h.1, h.2⟩

theorem State.besideFeed_of_still {s t : State} (h : t.still = s.still) : t.besideFeed = s.besideFeed := by
  obtain ⟨-, -, -, -, hp, -, hl, -, hm, -⟩ := State.still_parts h
  rw [State.besideFeed, hp, hl, hm, State.besideFeed]

/-! ## Single steps -/

@[simp] theorem State.setReg_besideFeed (s : State) (a : Nat) (v : Word) : (s.setReg a v).besideFeed = s.besideFeed := rfl
@[simp] theorem State.updEngine_besideFeed (s : State) (e : Nat) (f : Engine → Engine) :
    (s.updEngine e f).besideFeed = s.besideFeed := rfl
@[simp] theorem State.updInst_besideFeed (s : State) (i : Nat) (f : ProgInst → ProgInst) :
    (s.updInst i f).besideFeed = s.besideFeed := rfl
@[simp] theorem State.updChain_besideFeed (s : State) (c : Nat) (f : Chain → Chain) : (s.updChain c f).besideFeed = s.besideFeed := rfl
@[simp] theorem State.trigSend_besideFeed (s : State) (src : Nat) (t : Int) (c : Option Nat) :
    (s.trigSend src t c).besideFeed = s.besideFeed := rfl
@[simp] theorem State.bump_besideFeed (s : State) (a : Nat) : (s.bump a).besideFeed = s.besideFeed := by simp [State.besideFeed]
@[simp] theorem State.bumpBy_besideFeed (s : State) (a n : Nat) : (s.bumpBy a n).besideFeed = s.besideFeed := by
  simp [State.besideFeed]
@[simp] theorem State.raise_besideFeed (s : State) (c u : Nat) (x : List Word) : (s.raise c u x).besideFeed = s.besideFeed := by
  simp [State.besideFeed]
@[simp] theorem State.unitWrite_besideFeed (s : State) (q : Nat) (r : Option Region) (n k : Nat) :
    (s.unitWrite q r n k).besideFeed = s.besideFeed := State.besideFeed_of_still (State.unitWrite_still ..)

theorem State.eccRead_besideFeed (s : State) (q : Nat) (l : List Nat) (ns : List Word) :
    (s.eccRead q l ns).1.besideFeed = s.besideFeed := by
  have hce : ∀ (s : State) (w : Nat), (s.eccCorrect w).besideFeed = s.besideFeed := fun _ _ => State.bump_besideFeed ..
  have hue : ∀ (s : State) (w : Nat), (s.eccUe w q ns).besideFeed = s.besideFeed := fun _ _ =>
    (State.raise_besideFeed ..).trans (State.bump_besideFeed ..)
  induction l generalizing s with
  | nil => rfl
  | cons w ws ih =>
    unfold State.eccRead
    dsimp only
    split
    · exact (ih _).trans (hce ..)
    · split
      · exact (ih _).trans (hue ..)
      · exact ih _

@[simp] theorem State.unitRead_besideFeed (s : State) (q : Nat) (r : Option Region) (n k : Nat) :
    (s.unitRead q r n k).besideFeed = s.besideFeed := by
  unfold State.unitRead
  split
  · rfl
  · dsimp only
    split
    · exact State.besideFeed_of_still (State.wordGrants_still ..)
    · exact (State.eccRead_besideFeed ..).trans (State.besideFeed_of_still (State.wordGrants_still ..))

/-! ## Capture rings (R341, R345, R348, R351) -/

@[simp] theorem State.ringWord_besideFeed (s : State) (ch : Nat) (w : SlotWord) : (s.ringWord ch w).besideFeed = s.besideFeed := by
  unfold State.ringWord
  refine foldl_keeps (fun s e => ?_) _ s
  extract_lets r g i top ring
  split
  · split
    · rfl
    · split
      · rfl
      · rw [State.updEngine_besideFeed, State.unitWrite_besideFeed]
  · rfl

@[simp] theorem State.ringCopy_besideFeed (s : State) (e : Nat) (a : Int) (n : Nat) : (s.ringCopy e a n).besideFeed = s.besideFeed :=
  foldl_keeps (fun s _ => by
    split
    · rfl
    · exact State.unitRead_besideFeed ..) _ s

@[simp] theorem State.startCopy_besideFeed (s : State) (e a n : Nat) (ps : List Record) :
    (s.startCopy e a n ps).besideFeed = s.besideFeed := rfl
@[simp] theorem State.collect_besideFeed (s : State) (e : Nat) (f : Fire) (d : Nat) : (s.collect e f d).besideFeed = s.besideFeed := rfl

@[simp] theorem State.ignoreBusy_besideFeed (s : State) (e : Nat) : (s.ignoreBusy e).besideFeed = s.besideFeed :=
  State.bump_besideFeed ..
@[simp] theorem State.ignorePre_besideFeed (s : State) (e : Nat) (t : Int) : (s.ignorePre e t).besideFeed = s.besideFeed :=
  State.bump_besideFeed ..
@[simp] theorem State.missFire_besideFeed (s : State) (e : Nat) (t : Int) : (s.missFire e t).besideFeed = s.besideFeed :=
  State.bump_besideFeed ..

@[simp] theorem State.mergeFire_besideFeed (s : State) (e : Nat) (c : Collect) (f : Fire) :
    (s.mergeFire e c f).besideFeed = s.besideFeed := by
  unfold State.mergeFire
  extract_lets r w c'
  split
  · rfl
  · split
    · exact State.bump_besideFeed ..
    · split
      · exact State.missFire_besideFeed ..
      · exact State.ignoreBusy_besideFeed ..

@[simp] theorem State.judgeFire_besideFeed (s : State) (e : Nat) (f : Fire) : (s.judgeFire e f).besideFeed = s.besideFeed := by
  unfold State.judgeFire
  extract_lets r g t inDead
  split
  · exact State.ignoreBusy_besideFeed ..
  · split
    · exact State.mergeFire_besideFeed ..
    · split
      · split
        · exact State.missFire_besideFeed ..
        · rfl
      · split
        · rfl
        · split
          · rfl
          · split
            · exact State.ignorePre_besideFeed ..
            · exact State.ignoreBusy_besideFeed ..

@[simp] theorem State.closeCapture_besideFeed (s : State) (e : Nat) : (s.closeCapture e).besideFeed = s.besideFeed := by
  unfold State.closeCapture
  dsimp only
  split
  · rfl
  · have hbase : ∀ (s : State) (p : Prop) [Decidable p], (if p then s else s.bump (ceReg e 0x44)).besideFeed = s.besideFeed := by
      intro s p _
      split <;> simp
    split
    · simp [hbase]
    · simp [hbase]

@[simp] theorem State.closeSegment_besideFeed (s : State) (e : Nat) : (s.closeSegment e).besideFeed = s.besideFeed := by
  unfold State.closeSegment
  dsimp only
  split
  · rfl
  · refine (foldl_keeps (fun _ _ => State.judgeFire_besideFeed ..) _ _).trans ?_
    split <;> simp

@[simp] theorem State.cutRecord_besideFeed (s : State) (e : Nat) : (s.cutRecord e).besideFeed = s.besideFeed := by
  unfold State.cutRecord
  split
  · rfl
  · split
    · exact State.closeSegment_besideFeed ..
    · exact State.closeCapture_besideFeed ..

@[simp] theorem State.ringAnew_besideFeed (s : State) (ch n : Nat) (t : Int) : (s.ringAnew ch n t).besideFeed = s.besideFeed :=
  foldl_keeps (fun s e => by
    dsimp only
    split
    · exact State.cutRecord_besideFeed ..
    · rfl) _ s

/-! ## The Comb's history (R252) -/

/-- What changes of the Comb and the trigger network leave alone, a sample that enters its history leaves alone. -/
theorem State.combTapB_keeps {β : Type} {g : State → β} 
    (h : ∀ (s : State) (c : Comb) (x : Trig), g { s with comb := c, trig := x } = g s)
    (s : State) (c : Nat) (stamp : Int) (period : Nat) (v : Int) (miss settling : Bool) :
    g (s.combTapB c stamp period v miss settling) = g s := by
  have hpair : ∀ (ii si slot ch t b l : Nat) (e : Bool) (n : Nat) (s : State), g (State.runPair ii si slot ch t b l e n s) = g s := by
    intro ii si slot ch t b l e n
    induction n with
    | zero => exact fun _ => rfl
    | succ n ih =>
      intro s
      unfold State.runPair
      split
      · rfl
      · split
        · rfl
        · split
          · rw [ih]
            unfold State.detect
            extract_lets cfg t
            split
            · exact h s _ _
            · exact h s _ _
          · exact h s _ _
  have hwin : ∀ (s : State) (ii b l : Nat) (e : Bool), g (s.runWindows ii b l e) = g s := by
    intro s ii b l e
    unfold State.runWindows
    split
    · rfl
    · exact foldl_keeps (fun s _ => foldl_keeps (fun s _ => foldl_keeps (fun _ _ => hpair ..) _ s) _ s) _ s
  have hread : ∀ (s : State) (ch k : Nat), g (s.readRings ch k) = g s := by
    intro s ch k
    unfold State.readRings
    split
    · rfl
    · refine foldl_keeps (fun s x => ?_) _ s
      extract_lets lost t
      split
      · exact (h _ _ _).trans (hwin ..)
      · exact hwin ..
  unfold State.combTapB
  split
  · exact (h (s.readRings _ _) _ _).trans (hread ..)
  · rfl

end Sys2Proof.Machine

namespace Sys2Proof.Machine

/-! ## Outputs (R225, R227, R436) -/

@[simp] theorem State.chainSaturated_besideFeed (s : State) (c n m : Nat) : (s.chainSaturated c n m).besideFeed = s.besideFeed := by
  unfold State.chainSaturated
  dsimp only
  split
  · rfl
  · rw [State.bumpBy_besideFeed]
    split <;> rfl

@[simp] theorem State.tapB_besideFeed (s : State) (ch : Nat) (o : ChainOut) : (s.tapB ch o).besideFeed = s.besideFeed :=
  State.combTapB_keeps (fun _ _ _ => rfl) ..

@[simp] theorem State.exportOut_besideFeed (s : State) (ch : Nat) (o : ChainOut) : (s.exportOut ch o).besideFeed = s.besideFeed := rfl

@[simp] theorem State.deliver_besideFeed (s : State) (ch : Nat) (w : SlotWord) : (s.deliver ch w).besideFeed = s.besideFeed :=
  State.besideFeed_of_still (State.deliver_still ..)

theorem State.tapA_besideFeed (s : State) (ch : Nat) (o : ChainOut) : (s.tapA ch o).besideFeed = s.besideFeed := by
  unfold State.tapA
  dsimp only
  rw [State.deliver_besideFeed, State.ringWord_besideFeed, ite_keeps (State.trigSend_besideFeed ..),
    ite_keeps (State.trigSend_besideFeed ..), foldl_keeps (fun _ _ => State.bump_besideFeed ..), State.updChain_besideFeed]
  exact ite_keeps (State.ringAnew_besideFeed ..)

theorem State.chainOuts_besideFeed (s : State) (ch : Nat) (os : List ChainOut) : (s.chainOuts ch os).besideFeed = s.besideFeed :=
  foldl_keeps (fun s o => by
    split
    · exact (State.exportOut_besideFeed ..).trans (State.tapB_besideFeed ..)
    · exact State.tapA_besideFeed ..) os s

/-! ## A tick is fed (R162, R216) -/

/-- What a lane's entries are once a tick has entered its chains. -/
def PodLane.fed (x : PodLane) (n : Nat) : PodLane :=
  { x with lastFed := n, nextTick := n + 1, held := x.held.filter fun h => h.1 != n
           outstanding := x.outstanding.filter fun o => o.1 != n }

/-- Feeding a tick changes the lane's entries, and what its chains' outputs reach. -/
theorem State.feedTick_eq (s : State) (p n : Nat) (h : Option Held) :
    ∃ w : State, s.feedTick p n h = w.updPod p (fun x => x.fed n) ∧ w.besideFeed = s.besideFeed := by
  refine ⟨_, rfl, foldl_keeps (fun s q => ?_) _ s⟩
  dsimp only
  split
  · rfl
  · rw [State.chainOuts_besideFeed, State.chainSaturated_besideFeed, State.updChain_besideFeed]

theorem State.feedTick_self (s : State) (p n : Nat) (h : Option Held) : (s.feedTick p n h).pod p = (s.pod p).fed n := by
  obtain ⟨w, hw, hb⟩ := s.feedTick_eq p n h
  rw [hw, State.updPod_self, (State.besideFeed_parts hb).1]

theorem State.feedTick_ne (s : State) {p j : Nat} (n : Nat) (h : Option Held) (hj : j ≠ p) : (s.feedTick p n h).pod j = s.pod j := by
  obtain ⟨w, hw, hb⟩ := s.feedTick_eq p n h
  rw [hw, State.updPod_ne _ _ hj, (State.besideFeed_parts hb).1]

theorem State.feedTick_aside (s : State) (p n : Nat) (h : Option Held) :
    (s.feedTick p n h).lanes = s.lanes ∧ (s.feedTick p n h).hive.mem = s.hive.mem := by
  obtain ⟨w, hw, hb⟩ := s.feedTick_eq p n h
  rw [hw]
  exact (State.besideFeed_parts hb).2

/-- A tick whose frame is held, with none of its words poisoned, enters the chains with it (R162, R371). -/
theorem State.takeTick_held {s : State} {p n : Nat} {f : Held} (hn : (s.pod p).nextTick = n)
    (hf : (s.pod p).held.find? (fun h => h.1 == n) = some (n, f)) (hc : s.poisoned (s.region 0x01 p) (s.ringSlot p n) 104 = []) :
    (s.takeTick p).pod p = ({ s.pod p with missRun := 0, badTicks := (s.pod p).badTicks.filter (n < ·) } : PodLane).fed n
      ∧ (∀ j, j ≠ p → (s.takeTick p).pod j = s.pod j)
      ∧ (s.takeTick p).lanes = s.lanes ∧ (s.takeTick p).hive.mem = s.hive.mem := by
  let r := s.unitRead 0 (s.region 0x01 p) (s.ringSlot p n) 104
  let v := (r.updPod p fun x => { x with missRun := 0, badTicks := x.badTicks.filter (n < ·) }).feedTick p n (some f)
  have hv : s.takeTick p = if f.resent then v.bump (podReg p 0x5C) else v := by
    simp only [State.takeTick, hn, hf, hc]
    rfl
  obtain ⟨hrp, hrl, hrm⟩ := State.besideFeed_parts (t := r) (State.unitRead_besideFeed ..)
  have hb : (s.takeTick p).besideFeed = v.besideFeed := by
    rw [hv]
    exact ite_keeps (State.bump_besideFeed ..)
  obtain ⟨hp, hl, hm⟩ := State.besideFeed_parts hb
  obtain ⟨hvl, hvm⟩ := State.feedTick_aside (r.updPod p fun x => { x with missRun := 0, badTicks := x.badTicks.filter (n < ·) }) p n (some f)
  refine ⟨?_, fun j hj => ?_, hl.trans (hvl.trans hrl), hm.trans (hvm.trans hrm)⟩
  · rw [hp, State.feedTick_self, State.updPod_self, hrp]
  · rw [hp, State.feedTick_ne _ _ _ hj, State.updPod_ne _ _ hj, hrp]

end Sys2Proof.Machine

/-! Pod frames (R150, R151, R159, R163, R165, R166). -/

namespace Sys2Proof.Machine

/-! ## Words of Hive that a unit writes (R369) -/

/-- The errors known in Hive and the injection that is armed: transfers leave them. -/
def State.eccSide (s : State) := (s.hive.errs, s.hive.inject)

theorem State.wordGrants_eccSide (s : State) (q : Nat) (ws : List Nat) : (s.wordGrants q ws).eccSide = s.eccSide := by
  have hbump : ∀ (s : State) (a : Nat), (s.bump a).eccSide = s.eccSide := by simp [State.eccSide]
  have hcount : ∀ (s : State) (g : Grant), (s.countGrant g).eccSide = s.eccSide := fun s g => by
    unfold State.countGrant
    dsimp only
    exact (ite_keeps (hbump ..)).trans (hbump ..)
  have hrun : ∀ (s : State) (b : Nat), (s.runBank b).eccSide = s.eccSide := fun s b => by
    unfold State.runBank
    dsimp only
    split
    · rfl
    · exact foldl_keeps hcount ..
  have hgrant : ∀ (s : State) (b r n : Nat), (s.grant b r n).eccSide = s.eccSide := fun s b r n => by
    unfold State.grant
    dsimp only
    exact (ite_keeps (hbump ..)).trans (hrun ..)
  exact foldl_keeps (fun s r => foldl_keeps (fun s b => hgrant s ..) _ s) _ s

/-- What is cleared of errors has none. -/
theorem get_clearErrs {ws : List Nat} {w : Nat} (errs : Tab Nat) (h : w ∈ ws ∨ Tab.get (fun _ => 0) errs w = 0) :
    Tab.get (fun _ => 0) (ws.foldl (fun e w => Tab.set (fun _ => 0) e w 0) errs) w = 0 := by
  induction ws generalizing errs with
  | nil => exact h.resolve_left List.not_mem_nil
  | cons x ws ih =>
    refine ih _ ?_
    by_cases hx : w = x
    · exact .inr (by rw [hx, Tab.get_set_self])
    · exact h.imp (List.mem_of_ne_of_mem hx) fun h => by rwa [Tab.get_set_ne _ _ hx]

/-- With no injection armed, what a unit has just written holds no poisoned word. -/
theorem State.poisoned_unitWrite {s : State} (h : s.hive.inject = none) (q : Nat) (r : Option Region) (n len : Nat) :
    (s.unitWrite q r n len).poisoned r n len = [] := by
  cases r with
  | none => rfl
  | some r =>
    have hside := s.wordGrants_eccSide q (r.wordsOf n len)
    simp only [State.eccSide, Prod.mk.injEq] at hside
    obtain ⟨herrs, hinj⟩ := hside
    simp only [State.unitWrite, State.strike, hinj, h, herrs]
    by_cases he : s.hive.errs.isEmpty
    · simp only [State.poisoned, he, if_true, List.isEmpty_nil]
    · simp only [State.poisoned, he, Bool.false_eq_true, if_false]
      split
      · rfl
      · refine List.filterMap_eq_nil_iff.2 fun i hi => ?_
        rw [List.mem_range] at hi
        rw [get_clearErrs s.hive.errs (.inl (by rw [List.getD_eq_getElem _ _ hi]; exact List.getElem_mem hi)), if_neg (by decide)]

/-! ## What holding a frame leaves alone -/

/-- A part of the state that asking for ticks leaves alone. -/
structure AsideRequests {β : Type} (g : State → β) : Prop where
  pod : ∀ s p f, g (State.updPod s p f) = g s
  count : ∀ s a n, g (State.bumpBy s a n) = g s
  lane : ∀ s l m, g (State.send s l m) = g s
  link : ∀ s m, g (State.plSend s m) = g s

/-- A part of the state that no step of a frame's way into its lane changes. -/
structure AsideFrames {β : Type} (g : State → β) : Prop extends AsideRequests g where
  event : ∀ s c u x, g (State.raise s c u x) = g s
  ring : ∀ s q r n k, g (State.unitWrite s q r n k) = g s

theorem asideRequests_hive : AsideRequests State.hive :=
  ⟨State.updPod_hive, State.bumpBy_hive, State.send_hive, State.plSend_hive⟩

theorem asideFrames_lanes : AsideFrames State.lanes :=
  ⟨⟨State.updPod_lanes, State.bumpBy_lanes, State.send_lanes, State.plSend_lanes⟩, State.raise_lanes,
    fun _ _ _ _ _ => (State.besideFeed_parts (State.unitWrite_besideFeed ..)).2.1⟩

theorem asideFrames_mem : AsideFrames fun s => s.hive.mem :=
  ⟨⟨fun _ _ _ => rfl, fun _ _ _ => congrArg Hive.mem (State.bumpBy_hive ..), fun _ _ _ => congrArg Hive.mem (State.send_hive ..),
    fun _ _ => congrArg Hive.mem (State.plSend_hive ..)⟩, fun _ _ _ _ => congrArg Hive.mem (State.raise_hive ..),
    fun _ _ _ _ _ => (State.besideFeed_parts (State.unitWrite_besideFeed ..)).2.2⟩

theorem asideFrames_chains : AsideFrames State.chains :=
  ⟨⟨State.updPod_chains, State.bumpBy_chains, State.send_chains, State.plSend_chains⟩, State.raise_chains, fun s q r n k => by
    obtain ⟨-, -, -, -, -, h, -⟩ := State.still_parts (State.unitWrite_still s q r n k)
    exact h⟩

theorem asideFrames_streams : AsideFrames State.streams :=
  ⟨⟨State.updPod_streams, State.bumpBy_streams, State.send_streams, State.plSend_streams⟩, State.raise_streams,
    fun _ _ _ _ _ => (State.unread_parts (State.unitWrite_unread ..)).2.1⟩

/-- The time and the configuration, which the lag of a tick is told by. -/
theorem asideFrames_timing : AsideFrames fun s => (s.time, s.cfg) :=
  ⟨⟨fun _ _ _ => rfl, fun _ _ _ => by simp, fun _ _ _ => by simp, fun _ _ => by simp⟩, fun _ _ _ _ => by simp, fun s q r n k => by
    obtain ⟨-, ht, hc, -⟩ := State.still_parts (State.unitWrite_still s q r n k)
    exact Prod.ext ht hc⟩

/-! ## Requests for ticks (R164) -/

theorem State.requestTicks_keeps {β : Type} {g : State → β} (h : AsideRequests g) (s : State) (p : Nat) (ns : List Nat) :
    g (s.requestTicks p ns) = g s := by
  unfold State.requestTicks
  dsimp only
  split
  · rfl
  · split
    · rw [h.link, h.pod]
    · rw [h.count, foldl_keeps (fun s r => h.lane ..), h.pod]

/-- A lane's ticks are asked for anew, and nothing else of it changes. -/
theorem State.requestTicks_self (s : State) (p : Nat) (ns : List Nat) :
    ∃ o, (s.requestTicks p ns).pod p = { s.pod p with outstanding := o } := by
  unfold State.requestTicks
  dsimp only
  split
  · exact ⟨_, rfl⟩
  · split
    · rw [State.pod_of_pods (State.plSend_pods ..), State.updPod_self]
      exact ⟨_, rfl⟩
    · rw [State.pod_of_pods (State.bumpBy_pods ..), foldl_keeps (g := fun s => s.pod p) (fun s r => State.send_pod ..),
        State.updPod_self]
      exact ⟨_, rfl⟩

theorem State.requestTicks_ne (s : State) {p j : Nat} (ns : List Nat) (hj : j ≠ p) : (s.requestTicks p ns).pod j = s.pod j := by
  unfold State.requestTicks
  dsimp only
  split
  · rfl
  · split
    · rw [State.pod_of_pods (State.plSend_pods ..), State.updPod_ne _ _ hj]
    · rw [State.pod_of_pods (State.bumpBy_pods ..), foldl_keeps (g := fun s => s.pod j) (fun s r => State.send_pod ..),
        State.updPod_ne _ _ hj]

theorem State.requestTicks_nil (s : State) (p : Nat) : s.requestTicks p [] = s := rfl

theorem State.markOutstanding_keeps {β : Type} {g : State → β} (h : AsideRequests g) (s : State) (p n : Nat) :
    g (s.markOutstanding p n) = g s :=
  (State.requestTicks_keeps h ..).trans (h.pod ..)

theorem State.markOutstanding_self (s : State) (p n : Nat) :
    ∃ o, (s.markOutstanding p n).pod p = { s.pod p with outMark := max (s.pod p).outMark n, outstanding := o } := by
  unfold State.markOutstanding
  dsimp only
  obtain ⟨o, h⟩ := State.requestTicks_self (s.updPod p _) p _
  rw [h, State.updPod_self]
  exact ⟨_, rfl⟩

theorem State.markOutstanding_ne (s : State) {p j : Nat} (n : Nat) (hj : j ≠ p) : (s.markOutstanding p n).pod j = s.pod j :=
  (State.requestTicks_ne _ _ hj).trans (State.updPod_ne _ _ hj)

/-! ## The latest status (R154) -/

theorem State.podStatus_keeps {β : Type} {g : State → β} (h : AsideFrames g) (s : State) (p st : Nat) : g (s.podStatus p st) = g s := by
  unfold State.podStatus
  dsimp only
  split
  · rw [h.event, h.pod]
  · exact h.pod ..

theorem State.podStatus_pod (s : State) (p st j : Nat) :
    (s.podStatus p st).pod j = (s.updPod p fun x => { x with lastStatus := st }).pod j := by
  unfold State.podStatus
  dsimp only
  split
  · exact State.pod_of_pods (State.raise_pods ..) j
  · rfl

/-! ## A frame is held (R163) -/

/-- A frame of tick `n` in a lane's entries. -/
def PodLane.holding (x : PodLane) (n st : Nat) (body : List Byte) (live : Bool) : PodLane :=
  { x with
    held := x.held ++ [(n, { status := st, body := body, resent := !live && x.outstanding.any fun o => o.1 == n })]
    lastStatus := if live then st else x.lastStatus }

/-- The state in which a frame is held and written to its ring, before what follows from it. -/
def State.framed (s : State) (p n st : Nat) (body : List Byte) (live : Bool) : State :=
  let was := !live && (s.pod p).outstanding.any fun o => o.1 == n
  let s := s.updPod p fun l =>
    { l with held := l.held ++ [(n, { status := st, body := body, resent := was })]
             outstanding := l.outstanding.filter fun o => o.1 != n }
  let s := s.unitWrite 0 (s.region 0x01 p) (s.ringSlot p n) 104
  let s := if live then s.podStatus p st else s
  s.markOutstanding p n

theorem State.holdFrame_eq (s : State) (p n st : Nat) (body : List Byte) (live : Bool) :
    s.holdFrame p n st body live = if ((s.framed p n st body live).pod p).lagDue then
      ((s.framed p n st body live).updPod p fun l => { l with lagDue := false }).lagTick p else s.framed p n st body live := rfl

theorem State.framed_keeps {β : Type} {g : State → β} (h : AsideFrames g) (s : State) (p n st : Nat) (body : List Byte) (live : Bool) :
    g (s.framed p n st body live) = g s := by
  unfold State.framed
  dsimp only
  rw [State.markOutstanding_keeps h.toAsideRequests, ite_keeps (State.podStatus_keeps h ..), h.ring, h.pod]

theorem State.framed_self (s : State) (p n st : Nat) (body : List Byte) (live : Bool) :
    ∃ o, (s.framed p n st body live).pod p
      = { (s.pod p).holding n st body live with outMark := max (s.pod p).outMark n, outstanding := o } := by
  unfold State.framed
  dsimp only
  obtain ⟨o, h⟩ := State.markOutstanding_self (if live then State.podStatus _ p st else _) p n
  rw [h]
  cases live with
  | true =>
    simp only [if_true, State.podStatus_pod, State.updPod_self, (State.besideFeed_parts (State.unitWrite_besideFeed ..)).1]
    exact ⟨_, rfl⟩
  | false =>
    simp only [Bool.false_eq_true, if_false, State.updPod_self, (State.besideFeed_parts (State.unitWrite_besideFeed ..)).1]
    exact ⟨_, rfl⟩

theorem State.framed_ne (s : State) {p j : Nat} (n st : Nat) (body : List Byte) (live : Bool) (hj : j ≠ p) :
    (s.framed p n st body live).pod j = s.pod j := by
  unfold State.framed
  dsimp only
  rw [State.markOutstanding_ne _ _ hj]
  cases live with
  | true =>
    simp only [if_true, State.podStatus_pod, State.updPod_ne _ _ hj, (State.besideFeed_parts (State.unitWrite_besideFeed ..)).1]
  | false =>
    simp only [Bool.false_eq_true, if_false, State.updPod_ne _ _ hj, (State.besideFeed_parts (State.unitWrite_besideFeed ..)).1]

/-- Where the lag of the next tick is not due in this cycle, the frame waits (R165). -/
theorem State.holdFrame_of_not_due {s : State} {p : Nat} (n st : Nat) (body : List Byte) (live : Bool) (h : (s.pod p).lagDue = false) :
    s.holdFrame p n st body live = s.framed p n st body live := by
  obtain ⟨o, hself⟩ := s.framed_self p n st body live
  have hdue : ((s.framed p n st body live).pod p).lagDue = false := (congrArg PodLane.lagDue hself).trans h
  rw [State.holdFrame_eq, if_neg (by rw [hdue]; decide)]

theorem State.poisoned_of_hive {s t : State} (h : t.hive = s.hive) (r : Option Region) (n len : Nat) :
    t.poisoned r n len = s.poisoned r n len := by
  unfold State.poisoned
  rw [h]

/-- With no injection armed, none of the words of a resent frame just held is poisoned. -/
theorem State.framed_clean {s : State} (h : s.hive.inject = none) (p n st : Nat) (body : List Byte) :
    (s.framed p n st body false).poisoned (s.region 0x01 p) (s.ringSlot p n) 104 = [] := by
  unfold State.framed
  dsimp only
  rw [State.poisoned_of_hive (State.markOutstanding_keeps asideRequests_hive ..)]
  exact State.poisoned_unitWrite (s := s.updPod p _) h ..

/-- The lag of a tick and the place of its frame depend on the time and the configuration alone. -/
theorem State.lagExpiry_of_timing {s t : State} (h : (t.time, t.cfg) = (s.time, s.cfg)) (p n : Nat) :
    t.lagExpiry p n = s.lagExpiry p n ∧ t.ringSlot p n = s.ringSlot p n ∧ t.region 0x01 p = s.region 0x01 p := by
  have hc : t.cfg = s.cfg := (Prod.mk.inj h).2
  unfold State.lagExpiry State.ringSlot State.lagNs State.ingestLag State.laneRec State.records State.region State.regions State.body
  rw [hc]
  exact ⟨rfl, rfl, rfl⟩

theorem find?_append_new {held : List (Nat × Held)} {n : Nat} (h : ∀ x ∈ held, x.1 ≠ n) (f : Held) :
    (held ++ [(n, f)]).find? (fun x => x.1 == n) = some (n, f) := by
  rw [List.find?_append, List.find?_eq_none.2 fun x hx => by simpa using h x hx]
  simp

/-- What holding a frame changes where the lag of the next tick is not due in this cycle. -/
theorem State.holdFrame_waits {s : State} {p : Nat} (n st : Nat) (body : List Byte) (live : Bool) (h : (s.pod p).lagDue = false) :
    (∃ o, (s.holdFrame p n st body live).pod p
        = { (s.pod p).holding n st body live with outMark := max (s.pod p).outMark n, outstanding := o })
      ∧ (∀ j, j ≠ p → (s.holdFrame p n st body live).pod j = s.pod j)
      ∧ (s.holdFrame p n st body live).chains = s.chains ∧ (s.holdFrame p n st body live).streams = s.streams
      ∧ (s.holdFrame p n st body live).lanes = s.lanes ∧ (s.holdFrame p n st body live).hive.mem = s.hive.mem := by
  rw [State.holdFrame_of_not_due n st body live h]
  exact ⟨State.framed_self .., fun j hj => State.framed_ne _ _ _ _ _ hj, State.framed_keeps asideFrames_chains ..,
    State.framed_keeps asideFrames_streams .., State.framed_keeps asideFrames_lanes .., State.framed_keeps asideFrames_mem ..⟩

/-- The frame that was missing when the lag of its tick expired in this cycle enters the chains (R165). -/
theorem State.holdFrame_of_due {s : State} {p n : Nat} (st : Nat) (body : List Byte) (hdue : (s.pod p).lagDue = true)
    (hn : (s.pod p).nextTick = n) (hrun : (s.pod p).running = true) (hnew : ∀ h ∈ (s.pod p).held, h.1 ≠ n)
    (hlag : s.lagExpiry p n ≤ s.time.now) (hinj : s.hive.inject = none) :
    ((s.holdFrame p n st body false).pod p).nextTick = n + 1 ∧ ((s.holdFrame p n st body false).pod p).lastFed = n
      ∧ ((s.holdFrame p n st body false).pod p).missRun = 0 ∧ ((s.holdFrame p n st body false).pod p).lagDue = false
      ∧ (∀ j, j ≠ p → (s.holdFrame p n st body false).pod j = s.pod j)
      ∧ (s.holdFrame p n st body false).lanes = s.lanes ∧ (s.holdFrame p n st body false).hive.mem = s.hive.mem := by
  obtain ⟨o, hself⟩ := s.framed_self p n st body false
  have hne : ∀ j, j ≠ p → (s.framed p n st body false).pod j = s.pod j := fun j hj => s.framed_ne n st body false hj
  have htiming := s.framed_keeps asideFrames_timing p n st body false
  have hlanes := s.framed_keeps asideFrames_lanes p n st body false
  have hmem := s.framed_keeps asideFrames_mem p n st body false
  have hclean := State.framed_clean hinj p n st body
  rw [State.holdFrame_eq]
  generalize s.framed p n st body false = w at hself hne htiming hlanes hmem hclean ⊢
  rw [if_pos (by rw [hself]; exact hdue)]
  obtain ⟨hexp, hslot, hregion⟩ := State.lagExpiry_of_timing (t := w.updPod p fun l => { l with lagDue := false }) htiming p n
  have hpod : (w.updPod p fun l => { l with lagDue := false }).pod p = { (s.pod p).holding n st body false with
      outMark := max (s.pod p).outMark n, outstanding := o, lagDue := false } := by
    rw [State.updPod_self, hself]
  have hnow : w.time.now = s.time.now := congrArg Time.now (Prod.mk.inj htiming).1
  have hnext : ((w.updPod p fun l => { l with lagDue := false }).pod p).nextTick = n := by rw [hpod]; exact hn
  have hruns : ((w.updPod p fun l => { l with lagDue := false }).pod p).running = true := by rw [hpod]; exact hrun
  have htake : (w.updPod p fun l => { l with lagDue := false }).lagTick p
      = (w.updPod p fun l => { l with lagDue := false }).takeTick p := by
    unfold State.lagTick
    rw [hnext, hruns, hexp, State.updPod_time, hnow, if_neg (by simpa using hlag)]
  have hclean' : (w.updPod p fun l => { l with lagDue := false }).poisoned
      ((w.updPod p fun l => { l with lagDue := false }).region 0x01 p)
      ((w.updPod p fun l => { l with lagDue := false }).ringSlot p n) 104 = [] := by
    rw [hslot, hregion]
    exact hclean
  obtain ⟨hp, hj, hl, hm⟩ := State.takeTick_held hnext (by rw [hpod]; exact find?_append_new hnew _) hclean'
  rw [htake, hp, hpod]
  exact ⟨rfl, rfl, rfl, rfl, fun j h => (hj j h).trans ((State.updPod_ne _ _ h).trans (hne j h)), hl.trans hlanes, hm.trans hmem⟩

/-! ## Restart (R40, R166) -/

/-- A drained lane's entries once it has restarted at a tick, with the group delay of its pod's declaration. -/
def PodLane.restarted (x : PodLane) (n gd : Nat) : PodLane :=
  { x with running := true, drained := false, nextTick := n, outMark := n, outstanding := [], badTicks := [], missRun := 0, held := []
           gdelay := gd }

/-- Restarting a lane changes its entries, its chains and what their spans bring about. -/
theorem State.restartLane_eq (s : State) (p n : Nat) :
    ∃ (w : State) (gd : Nat), s.restartLane p n = w.updPod p (fun x => x.restarted n gd) ∧ w.besideFeed = s.besideFeed :=
  ⟨_, _, rfl, (foldl_keeps (fun _ _ => State.updChain_besideFeed ..) _ _).trans
    (State.besideFeed_of_still (State.closeSpans_still ..))⟩

/-! ## The rows -/

/-- A good frame of a started pod that is in time is held: live for a tick of the lane that runs, resent for one that is outstanding. -/
theorem State.podFrame_holds {s : State} {l kind n t0 : Nat} {m : List Byte} (hhear : s.podHears l = true) (hcrc : crcGood m = true)
    (hstart : (s.pod l).startTick = some t0) (ht : t0 ≤ n) (hlag : s.lagExpired l n = false) (hrun : (s.pod l).running = true)
    (hdr : (s.pod l).drained = false) (hnew : ∀ h ∈ (s.pod l).held, h.1 ≠ n)
    (hlen : m.length = 3 * (s.pod l).count + 6 + if kind = 0 then 0 else 4)
    (hn : n = if kind = 2 then s.nearestTick (leAt m 1 4)
      else s.resolveTick (leAt m ((if kind = 2 then 5 else 1) + 3 * (s.pod l).count) 2) 16)
    (h0 : kind = 0 → n % 64 ≠ 0)
    (h1 : kind = 1 → n % 64 = 0 ∧ leAt m ((if kind = 2 then 5 else 1) + 3 * (s.pod l).count + 3) 4 = n % 2 ^ 32)
    (h2 : kind = 2 → ((s.pod l).outstanding.any fun o => o.1 == n) = true) (hfar : kind ≠ 2 → s.tick ≤ n + 64) :
    s.podFrame l kind m = s.holdFrame l n (byteAt m ((if kind = 2 then 5 else 1) + 3 * (s.pod l).count + 2))
      ((m.drop (if kind = 2 then 5 else 1)).take (3 * (s.pod l).count)) (kind != 2) := by
  have hheld : ((s.pod l).held.any fun h => h.1 == n) = false := by
    rw [List.any_eq_false]
    exact fun x hx => by simpa using hnew x hx
  unfold State.podFrame
  simp only [hhear, hcrc, hstart, hlen, ← hn, hrun, hdr, hlag, hheld, Bool.not_true, Bool.false_eq_true, if_false, Bool.true_and,
    Option.isNone_some, bne_self_eq_false, Bool.or_false, decide_eq_true_eq, if_neg (Nat.not_lt.2 ht)]
  have hshort : ¬ (decide (kind = 0) && decide (n % 64 = 0)) = true := by
    simp only [Bool.and_eq_true, decide_eq_true_eq]
    exact fun ⟨hk, hm⟩ => h0 hk hm
  have hlong : ¬ (decide (kind = 1) && n % 64 != 0) = true := by
    simp only [Bool.and_eq_true, decide_eq_true_eq, bne_iff_ne]
    exact fun ⟨hk, hm⟩ => hm (h1 hk).1
  have hcount : ¬ (decide (kind = 1) && leAt m ((if kind = 2 then 5 else 1) + 3 * (s.pod l).count + 3) 4 != n % 2 ^ 32) = true := by
    simp only [Bool.and_eq_true, decide_eq_true_eq, bne_iff_ne]
    exact fun ⟨hk, hm⟩ => hm (h1 hk).2
  have hasked : ¬ (decide (kind = 2) && (!(s.pod l).outstanding.any fun x => x.1 == n) && !(s.pod l).partner.contains n) = true := by
    simp only [Bool.and_eq_true, decide_eq_true_eq, Bool.not_eq_true']
    exact fun ⟨⟨hk, hm⟩, _⟩ => Bool.false_ne_true (hm.symm.trans (h2 hk))
  have hrecent : ¬ (kind != 2 && decide (n + 64 < s.tick)) = true := by
    simp only [Bool.and_eq_true, decide_eq_true_eq, bne_iff_ne]
    exact fun ⟨hk, hm⟩ => absurd (hfar hk) (Nat.not_le.2 hm)
  rw [if_neg hshort, if_neg hlong, if_neg hcount, if_neg hasked, if_neg hrecent]

/-- A `TICK_FRAME` of a drained lane, for a tick whose lag has not expired, restarts the lane and is held (R166). -/
theorem State.podFrame_restarts {s : State} {l n t0 : Nat} {m : List Byte} (hhear : s.podHears l = true) (hcrc : crcGood m = true)
    (hstart : (s.pod l).startTick = some t0) (ht : t0 ≤ n) (hlag : s.lagExpired l n = false) (hdr : (s.pod l).drained = true)
    (hlen : m.length = 3 * (s.pod l).count + 10) (hn : n = s.resolveTick (leAt m (1 + 3 * (s.pod l).count) 2) 16)
    (h64 : n % 64 = 0) (htc : leAt m (1 + 3 * (s.pod l).count + 3) 4 = n % 2 ^ 32) :
    s.podFrame l 1 m = (s.restartLane l n).holdFrame l n (byteAt m (1 + 3 * (s.pod l).count + 2))
      ((m.drop 1).take (3 * (s.pod l).count)) true := by
  unfold State.podFrame
  simp only [hhear, hcrc, hstart, hlen, ← hn, hdr, hlag, h64, htc, Bool.not_true, Bool.false_eq_true, if_false, Bool.true_and,
    Option.isNone_some, bne_self_eq_false, Bool.or_false, decide_eq_true_eq, if_neg (Nat.not_lt.2 ht), Bool.true_or, if_true,
    OfNat.one_ne_ofNat, one_ne_zero, decide_true, Bool.and_self, Bool.not_false]

/-! ## The obligation -/

/-- Settles O23: what holding a frame changes, for a live frame, for one that restarts the lane, for a resent one and for one whose tick's
lag expires in this cycle. -/
theorem podFramesComplete : Obligations.PodFramesComplete := by
  unfold Obligations.PodFramesComplete
  rintro s u t l n t0 m rfl hm hhear hcrc hstart ht hlag
  refine ⟨fun hlen hn hrun hdr h64 hnew hfar hdue => ?_, fun hlen hn h64 htc hrun hdr hnew hfar hdue => ?_,
    fun hlen hn h64 htc hdr hdue => ?_, fun hlen hn hrun hdr hnew hout hdue => ?_,
    fun hlen hn hrun hdr hnew hout hdue hnext hexp hinj => ?_⟩
  · have hpod : (s.elapse t).podFrame l 0 m = (s.elapse t).holdFrame l n (byteAt m (1 + 3 * (s.pod l).count + 2))
        ((m.drop 1).take (3 * (s.pod l).count)) true :=
      State.podFrame_holds hhear hcrc hstart ht hlag hrun hdr hnew hlen hn (fun _ => h64) nofun nofun fun _ => hfar
    obtain ⟨⟨o, hself⟩, hne, hchains, hstreams, -, hmem⟩ := State.holdFrame_waits (s := s.elapse t) n
      (byteAt m (1 + 3 * (s.pod l).count + 2)) ((m.drop 1).take (3 * (s.pod l).count)) true hdue
    rw [exec_frame, State.runOn_eq hm, hpod]
    exact ⟨_, rfl, congrArg PodLane.held hself, congrArg PodLane.lastStatus hself, hne, hchains, hstreams, hmem⟩
  · have hpod : (s.elapse t).podFrame l 1 m = (s.elapse t).holdFrame l n (byteAt m (1 + 3 * (s.pod l).count + 2))
        ((m.drop 1).take (3 * (s.pod l).count)) true :=
      State.podFrame_holds hhear hcrc hstart ht hlag hrun hdr hnew hlen hn nofun (fun _ => ⟨h64, htc⟩) nofun fun _ => hfar
    obtain ⟨⟨o, hself⟩, hne, hchains, hstreams, -, hmem⟩ := State.holdFrame_waits (s := s.elapse t) n
      (byteAt m (1 + 3 * (s.pod l).count + 2)) ((m.drop 1).take (3 * (s.pod l).count)) true hdue
    rw [exec_tickFrame, State.runOn_eq hm, hpod]
    exact ⟨_, rfl, congrArg PodLane.held hself, hne, hchains, hstreams, hmem⟩
  · have hpod : (s.elapse t).podFrame l 1 m = ((s.elapse t).restartLane l n).holdFrame l n (byteAt m (1 + 3 * (s.pod l).count + 2))
        ((m.drop 1).take (3 * (s.pod l).count)) true :=
      State.podFrame_restarts hhear hcrc hstart ht hlag hdr hlen hn h64 htc
    obtain ⟨w, gd, hw, hb⟩ := (s.elapse t).restartLane_eq l n
    obtain ⟨hwpod, hwlanes, hwmem⟩ := State.besideFeed_parts hb
    have hpodl : (w.updPod l fun x => x.restarted n gd).pod l = (s.pod l).restarted n gd := by rw [State.updPod_self, hwpod]; rfl
    obtain ⟨⟨o, hself⟩, hne, -, -, hlanes, hmem⟩ := State.holdFrame_waits (s := w.updPod l fun x => x.restarted n gd) n
      (byteAt m (1 + 3 * (s.pod l).count + 2)) ((m.drop 1).take (3 * (s.pod l).count)) true (by rw [hpodl]; exact hdue)
    rw [hpodl] at hself
    rw [exec_tickFrame, State.runOn_eq hm, hpod, hw]
    refine ⟨_, rfl, congrArg PodLane.running hself, congrArg PodLane.drained hself, congrArg PodLane.nextTick hself,
      congrArg PodLane.held hself, fun j hj => (hne j hj).trans ((State.updPod_ne _ _ hj).trans (hwpod j)), hlanes.trans hwlanes,
      hmem.trans hwmem⟩
  · have hpod : (s.elapse t).podFrame l 2 m = (s.elapse t).holdFrame l n (byteAt m (5 + 3 * (s.pod l).count + 2))
        ((m.drop 5).take (3 * (s.pod l).count)) false :=
      State.podFrame_holds hhear hcrc hstart ht hlag hrun hdr hnew hlen (hn.trans (if_pos rfl).symm) nofun nofun (fun _ => hout) fun h => absurd rfl h
    obtain ⟨⟨o, hself⟩, hne, hchains, hstreams, -, hmem⟩ := State.holdFrame_waits (s := s.elapse t) n
      (byteAt m (5 + 3 * (s.pod l).count + 2)) ((m.drop 5).take (3 * (s.pod l).count)) false hdue
    rw [exec_resendFrame, State.runOn_eq hm, hpod]
    refine ⟨_, rfl, (congrArg PodLane.held hself).trans ?_, hne, hchains, hstreams, hmem⟩
    show (s.pod l).held ++ [(n, _)] = _
    rw [show (!false && ((s.elapse t).pod l).outstanding.any fun o => o.1 == n) = true from hout]
  · have hpod : (s.elapse t).podFrame l 2 m = (s.elapse t).holdFrame l n (byteAt m (5 + 3 * (s.pod l).count + 2))
        ((m.drop 5).take (3 * (s.pod l).count)) false :=
      State.podFrame_holds hhear hcrc hstart ht hlag hrun hdr hnew hlen (hn.trans (if_pos rfl).symm) nofun nofun (fun _ => hout) fun h => absurd rfl h
    rw [exec_resendFrame, State.runOn_eq hm, hpod]
    exact ⟨_, rfl, State.holdFrame_of_due _ _ hdue hnext.symm hrun hnew hexp hinj⟩

end Sys2Proof.Machine

/-! ## Messages and timers of a pod lane (O24): a count that injection takes back

The refutation lets a lane far beyond those a hub has drain: its count of drainings lies at `HIVE_ECC_INJ`, where the store of the frames that
the chains still hold clears bit 28 (R377). It needs that nothing that follows (`State.finish`) gives the register the value it then counts up to:
`State.Uncounted` is the invariant, kept by each function that `State.finish` calls. Only a count can give that value, and none that follows lies
there. -/

namespace Sys2Proof.Machine
-- As in the section on spot conversions: side by side, the short proofs below take more threads than the check allows.
set_option Elab.async false

/-- `HIVE_ECC_INJ`, the register that asks for an injected error (R376, R377), does not read 0xF000_0000. -/
def State.Uncounted (s : State) : Prop := s.reg 0x0008_0064 ≠ 0xF000_0000#32

section
variable {s : State}

theorem State.Uncounted.congr {t : State} (h : s.Uncounted) (hr : t.reg 0x0008_0064 = s.reg 0x0008_0064) : t.Uncounted := by
  unfold State.Uncounted at *
  rwa [hr]

/-- A change of the parts of the state that the invariant does not read. -/
theorem State.Uncounted.same {t : State} (h : s.Uncounted) (hr : t.regs = s.regs := by rfl) : t.Uncounted :=
  h.congr (by unfold State.reg; rw [hr])

theorem State.Uncounted.ite {t : State} {c : Prop} [Decidable c] (hs : s.Uncounted) (ht : t.Uncounted) :
    (if c then s else t).Uncounted := by split <;> assumption

theorem State.Uncounted.pair {α : Type} {a : α} (h : s.Uncounted) : (a, s).2.Uncounted := h

theorem State.Uncounted.iteSnd {α : Type} {c : Prop} [Decidable c] {x y : α × State} (hx : x.2.Uncounted) (hy : y.2.Uncounted) :
    (if c then x else y).2.Uncounted := by
  split
  · exact hx
  · exact hy

/-! ### Counters and events -/

theorem State.Uncounted.setReg (h : s.Uncounted) {a : Nat} {v : Word} (ha : a ≠ 0x0008_0064 := by decide) : (s.setReg a v).Uncounted :=
  h.congr (by rw [State.reg_setReg, if_neg ha.symm])

/-- Another value may go to any register. -/
theorem State.Uncounted.setReg_of_ne (h : s.Uncounted) {a : Nat} {v : Word} (hv : v ≠ 0xF000_0000#32) : (s.setReg a v).Uncounted := by
  unfold State.Uncounted
  rw [State.reg_setReg]
  split
  · exact hv
  · exact h

theorem State.Uncounted.raise (h : s.Uncounted) {c u : Nat} {x : List Word} : (s.raise c u x).Uncounted :=
  h.congr (State.raise_reg _ _ _ (by decide) (by decide))

theorem State.Uncounted.bump (h : s.Uncounted) {a : Nat} (ha : a ≠ 0x0008_0064 := by decide) : (s.bump a).Uncounted :=
  h.congr (State.bump_reg_ne ha.symm (by decide) (by decide))

theorem State.Uncounted.bumpBy (h : s.Uncounted) {a n : Nat} (ha : a ≠ 0x0008_0064 := by decide) : (s.bumpBy a n).Uncounted := by
  unfold State.bumpBy
  exact .ite (.raise (h.setReg ha)) (h.setReg ha)

theorem State.Uncounted.foldl {α : Type} {f : State → α → State} {l : List α} (h : s.Uncounted)
    (hf : ∀ s : State, s.Uncounted → ∀ x ∈ l, (f s x).Uncounted) : (l.foldl f s).Uncounted :=
  List.foldlRecOn l f h hf

/-! ### Shared operations -/

theorem State.Uncounted.updPort (h : s.Uncounted) {k : Port} {f : PortState → PortState} : (s.updPort k f).Uncounted := h.same
theorem State.Uncounted.updStream (h : s.Uncounted) {id : Nat} {f : Stream → Stream} : (s.updStream id f).Uncounted := h.same
theorem State.Uncounted.updUnit (h : s.Uncounted) {k : Nat} {f : TrigUnit → TrigUnit} : (s.updUnit k f).Uncounted := h.same
theorem State.Uncounted.updEngine (h : s.Uncounted) {k : Nat} {f : Engine → Engine} : (s.updEngine k f).Uncounted := h.same
theorem State.Uncounted.updPod (h : s.Uncounted) {k : Nat} {f : PodLane → PodLane} : (s.updPod k f).Uncounted := h.same
theorem State.Uncounted.updChain (h : s.Uncounted) {k : Nat} {f : Chain → Chain} : (s.updChain k f).Uncounted := h.same
theorem State.Uncounted.updLane (h : s.Uncounted) {k : Nat} {f : Lane → Lane} : (s.updLane k f).Uncounted := h.same
theorem State.Uncounted.updNx (h : s.Uncounted) {k : Nat} {f : NxStream → NxStream} : (s.updNx k f).Uncounted := h.same
theorem State.Uncounted.updPool (h : s.Uncounted) {k : Nat} {f : NxPool → NxPool} : (s.updPool k f).Uncounted := h.same
theorem State.Uncounted.updTime (h : s.Uncounted) {f : Time → Time} : (s.updTime f).Uncounted := h.same
theorem State.Uncounted.updTport (h : s.Uncounted) {k : Nat} {f : TrunkPort → TrunkPort} : (s.updTport k f).Uncounted := h.same
theorem State.Uncounted.updAct (h : s.Uncounted) {k : Nat} {f : TaEntry → TaEntry} : (s.updAct k f).Uncounted := h.same
theorem State.Uncounted.updClk (h : s.Uncounted) {f : Clock → Clock} : (s.updClk f).Uncounted := h.same
theorem State.Uncounted.updPair (h : s.Uncounted) {f : Pair → Pair} : (s.updPair f).Uncounted := h.same
theorem State.Uncounted.updLock (h : s.Uncounted) {k : Nat} {f : Lock → Lock} : (s.updLock k f).Uncounted := h.same
theorem State.Uncounted.updInst (h : s.Uncounted) {k : Nat} {f : ProgInst → ProgInst} : (s.updInst k f).Uncounted := h.same
theorem State.Uncounted.noteCheck (h : s.Uncounted) {b : Nat} : (s.noteCheck b).Uncounted := h.same
theorem State.Uncounted.trigSend (h : s.Uncounted) {src : Nat} {t : Int} {c : Option Nat} : (s.trigSend src t c).Uncounted := h.same
theorem State.Uncounted.markSuspect (h : s.Uncounted) {n : Nat} {v : Bool} : (s.markSuspect n v).Uncounted := h.same
theorem State.Uncounted.noteSeen (h : s.Uncounted) {k a b : Nat} : (s.noteSeen k a b).Uncounted := h.same

theorem State.Uncounted.send (h : s.Uncounted) {l : Nat} {m : List Byte} : (s.send l m).Uncounted := h.same (by simp)

theorem State.Uncounted.plSend (h : s.Uncounted) {m : PlMsg} : (s.plSend m).Uncounted := h.same (by simp)

theorem State.Uncounted.putHost (h : s.Uncounted) {x : OutPkt} : (s.putHost x).Uncounted := h.same

theorem State.Uncounted.complete (h : s.Uncounted) {k : Packet} {st : Nat} {b : List Byte} : (s.complete k st b).Uncounted :=
  h.same (by simp)

theorem State.Uncounted.ackOne (h : s.Uncounted) {routed : Nat → Bool} {id r : Nat} : (s.ackOne routed id r).1.Uncounted := by
  unfold State.ackOne
  split
  dsimp only
  split
  · exact h.same (by split <;> rfl)
  · exact h.bump

theorem State.Uncounted.ackAll (h : s.Uncounted) {routed : Nat → Bool} {es : List (List Byte)} : (s.ackAll routed es).1.Uncounted := by
  induction es generalizing s with
  | nil => exact h
  | cons e es ih => exact ih h.ackOne

theorem State.Uncounted.rewindHost (h : s.Uncounted) : s.rewindHost.Uncounted :=
  .bump h.same

theorem State.Uncounted.rewindDrip (h : s.Uncounted) : s.rewindDrip.Uncounted :=
  .bump h.same

theorem State.Uncounted.updDrdy (h : s.Uncounted) {b : Bool} : (State.updDrdy b s).Uncounted := h.same
theorem State.Uncounted.updCmdStop (h : s.Uncounted) {b : Bool} : (s.updCmdStop b).Uncounted := h.same

/-! ### Hive and its arbiters -/

/-- The counters of the requesters, however many, lie beyond the register (R396). -/
theorem State.Uncounted.countGrant (h : s.Uncounted) (g : Grant) : (s.countGrant g).Uncounted := by
  unfold State.countGrant
  extract_lets o s1 s2
  have h1 : s1.Uncounted := h.bump (by omega)
  have h2 : s2.Uncounted := .ite (h1.bump (by omega)) h1
  exact h2.setReg (by omega)

theorem State.Uncounted.setBank (h : s.Uncounted) {b : Nat} {a : Arbiter} : (s.setBank b a).Uncounted := h.same

theorem State.Uncounted.runBank (h : s.Uncounted) {b : Nat} : (s.runBank b).Uncounted := by
  unfold State.runBank
  exact .ite h (.foldl h.setBank fun _ h g _ => h.countGrant g)

theorem State.Uncounted.runBanks (h : s.Uncounted) : s.runBanks.Uncounted := h.foldl fun _ h _ _ => h.runBank

theorem State.Uncounted.grant (h : s.Uncounted) {b r n : Nat} : (s.grant b r n).Uncounted := by
  unfold State.grant
  exact .ite (.bump h.runBank.setBank) h.runBank.setBank

theorem State.Uncounted.eccCorrect (h : s.Uncounted) {w : Nat} : (s.eccCorrect w).Uncounted := .bump h.same

theorem State.Uncounted.eccUe (h : s.Uncounted) {w r : Nat} {ns : List Word} : (s.eccUe w r ns).Uncounted :=
  .raise (.bump h.same)

theorem State.Uncounted.eccRead (h : s.Uncounted) {r : Nat} {l : List Nat} {ns : List Word} : (s.eccRead r l ns).1.Uncounted := by
  induction l generalizing s with
  | nil => exact h
  | cons w ws ih =>
    unfold State.eccRead
    dsimp only
    split
    · exact ih h.eccCorrect
    · split
      · exact ih h.eccUe
      · exact ih h

theorem State.Uncounted.grants (h : s.Uncounted) {r a n : Nat} : (s.grants r a n).Uncounted := h.foldl fun _ h _ _ => h.grant

theorem State.Uncounted.hiveRead (h : s.Uncounted) {r a n : Nat} : (s.hiveRead r a n).2.2.Uncounted := h.grants.eccRead

/-- Without bit 28 a word is another. -/
theorem clearInjectBit_ne (v : Word) : v &&& ~~~0x1000_0000 ≠ 0xF000_0000#32 := fun h => by
  simpa using congrArg (·.getLsbD 28) h

/-- Without bits 28 to 31 too. -/
theorem injectPlace_ne (v : Word) : v &&& 0x0FFF_FFF8 ≠ 0xF000_0000#32 := fun h => by
  simpa using congrArg (·.getLsbD 31) h

theorem State.Uncounted.strike (h : s.Uncounted) {ws : List Nat} : (s.strike ws).Uncounted := by
  unfold State.strike
  split
  · exact .ite (.setReg_of_ne h.same (clearInjectBit_ne _)) h
  · exact h

theorem State.Uncounted.hiveWrite (h : s.Uncounted) {r a : Nat} {bs : List Byte} : (s.hiveWrite r a bs).Uncounted :=
  .strike (h.grants (r := r) (a := a) (n := bs.length)).same

theorem State.Uncounted.wordGrants (h : s.Uncounted) {r : Nat} {ws : List Nat} : (s.wordGrants r ws).Uncounted :=
  h.foldl fun _ h _ _ => h.grants

theorem State.Uncounted.unitWrite (h : s.Uncounted) {q n len : Nat} {r : Option Region} : (s.unitWrite q r n len).Uncounted := by
  unfold State.unitWrite
  split
  · exact h
  · exact .strike h.wordGrants.same

theorem State.Uncounted.unitRead (h : s.Uncounted) {q n len : Nat} {r : Option Region} : (s.unitRead q r n len).Uncounted := by
  unfold State.unitRead
  split
  · exact h
  · exact .ite h.wordGrants h.wordGrants.eccRead

theorem State.Uncounted.setEgress (h : s.Uncounted) {l : Nat} {a : Arbiter} : (s.setEgress l a).Uncounted := h.same

theorem State.Uncounted.egressBytes (h : s.Uncounted) {l : Nat} {x : Xfer} : (s.egressBytes l x).2.Uncounted := by
  unfold State.egressBytes
  dsimp only
  split
  · exact h
  · split <;> exact h.unitRead

theorem State.Uncounted.egressOut (h : s.Uncounted) {l : Nat} {g : Grant} : (State.egressOut l s g).Uncounted := h.egressBytes.send

theorem State.Uncounted.runEgress (h : s.Uncounted) {n l : Nat} : (s.runEgress n l).Uncounted := by
  unfold State.runEgress
  exact .ite h (.foldl h.setEgress fun _ h _ _ => h.egressOut)

theorem State.Uncounted.runLanes (h : s.Uncounted) {n : Nat} : (s.runLanes n).Uncounted := h.foldl fun _ h _ _ => h.runEgress

theorem State.Uncounted.flushLanes (h : s.Uncounted) : s.flushLanes.Uncounted := h.runLanes

theorem State.Uncounted.egress (h : s.Uncounted) {l slot : Nat} {m : List Byte} : (s.egress l slot m).Uncounted := by
  unfold State.egress
  refine .ite h.send ?_
  exact .setEgress (.ite h.runEgress (.same h.runEgress.unitWrite))

theorem State.Uncounted.arbCommit (h : s.Uncounted) : s.arbCommit.2.Uncounted := by
  have hr := h.runBanks
  revert hr
  unfold State.arbCommit
  generalize s.runBanks = t
  intro hr
  dsimp only
  split
  · exact hr
  · split
    · exact hr
    · exact hr.same

theorem State.Uncounted.egrCommit (h : s.Uncounted) : s.egrCommit.2.Uncounted := by
  have hr := h.runLanes (n := s.time.cyc)
  revert hr
  unfold State.egrCommit
  generalize s.runLanes s.time.cyc = t
  intro hr
  dsimp only
  split
  · exact hr
  · split
    · exact hr
    · exact hr.same

theorem State.Uncounted.writeEccInj (h : s.Uncounted) {v : Word} : (s.writeEccInj v).2.Uncounted := by
  unfold State.writeEccInj
  dsimp only
  split
  · exact h
  · refine .setReg_of_ne h.same ?_
    split
    · exact injectPlace_ne v
    · exact fun h => by simpa using congrArg (·.getLsbD 31) h

theorem State.Uncounted.regionRead (h : s.Uncounted) {r : Region} {a n : Nat} : (s.regionRead r a n).2.2.Uncounted := h.hiveRead.same

theorem State.Uncounted.opRdb (h : s.Uncounted) {k : Packet} : (s.opRdb k).2.Uncounted := by
  unfold State.opRdb
  dsimp only
  split
  · exact h
  split
  · exact h
  split
  · exact h.hiveRead
  split
  case h_1 r _ =>
    split
    · exact h
    · exact h.regionRead (r := r)
  case h_2 => exact h

theorem State.Uncounted.opWrb (h : s.Uncounted) {k : Packet} : (s.opWrb k).2.Uncounted := by
  unfold State.opWrb
  dsimp only
  split
  · exact h
  split
  · exact h
  split
  · split
    · exact h.hiveWrite
    · exact h
  · exact h
end

section
variable {s : State}

/-! ### Streams and their records -/

theorem State.Uncounted.setWaiting (h : s.Uncounted) {w : List Record} :
    ({ s with host := { s.host with waiting := w } } : State).Uncounted :=
  h.same

theorem State.Uncounted.enqueue (h : s.Uncounted) {r : Route} {x : Record} : (s.enqueue r x).Uncounted := by
  unfold State.enqueue
  exact .ite h.same (.ite h.same h.setWaiting)

theorem State.Uncounted.writeRecord (h : s.Uncounted) {r : Route} {x : Record} : (s.writeRecord r x).Uncounted :=
  h.unitWrite.enqueue.updStream

theorem State.Uncounted.overflow (h : s.Uncounted) {r : Route} : (s.overflow r).Uncounted := by
  unfold State.overflow
  exact .bump (.raise h.updStream)

theorem State.Uncounted.emit (h : s.Uncounted) {r : Route} {x : Record} : (s.emit r x).Uncounted := by
  unfold State.emit
  exact .ite (.ite h.writeRecord h.overflow) h

theorem State.Uncounted.writeGaps (h : s.Uncounted) {r : Route} {gs : List Record} : (s.writeGaps r gs).Uncounted := by
  induction gs generalizing s with
  | nil => exact h.updStream
  | cons g gs ih =>
    unfold State.writeGaps
    exact .ite (ih h.writeRecord) h.updStream

theorem State.Uncounted.endOpening (h : s.Uncounted) {r : Route} : (s.endOpening r).Uncounted := by
  unfold State.endOpening
  exact .ite h.updStream.writeGaps h

theorem State.Uncounted.closeRecord (h : s.Uncounted) {r : Route} : (s.closeRecord r).Uncounted := by
  unfold State.closeRecord
  exact .ite h (.ite (.ite h.emit.updStream.endOpening h.emit.updStream) h.emit)

theorem State.Uncounted.stopStreams (h : s.Uncounted) : s.stopStreams.Uncounted := h.foldl fun _ h _ _ => h.endOpening

theorem State.Uncounted.updCols (h : s.Uncounted) {r : Route} {f : Nat → Column → Column} : (s.updCols r f).Uncounted := h.updStream

theorem State.Uncounted.emitParts (h : s.Uncounted) {r : Route} {g : Gap} {chs : List Nat} {ps : List (Nat × Nat)} :
    (s.emitParts r g chs ps).Uncounted :=
  h.foldl fun _ h _ _ => .ite h.emit.updCols.updStream h.emit

theorem State.Uncounted.emitSpan (h : s.Uncounted) {r : Route} {g : Gap} {n : Nat} {chs : List Nat} :
    (s.emitSpan r g n chs).Uncounted := by
  unfold State.emitSpan
  exact .ite h.emitParts.updCols h.emitParts

theorem State.Uncounted.emitLate (h : s.Uncounted) {r : Route} {m : Nat} : (s.emitLate r m).Uncounted := by
  unfold State.emitLate
  refine .ite h (.foldl h.closeRecord fun s h x _ => ?_)
  have hgaps := h.foldl (l := s.gapRecords x.2.1 x.2.2 [x.1]) (f := fun s y => s.emit r y) fun _ h _ _ => h.emit
  exact .ite hgaps.updCols.updStream hgaps

theorem State.Uncounted.itemStep (h : s.Uncounted) {r : Route} {t : State} (ht : s.itemStep r = some t) : t.Uncounted := by
  unfold State.itemStep at ht
  obtain ⟨-, ht⟩ := Option.ite_none_left_eq_some.1 ht
  split at ht
  · obtain ⟨-, ht⟩ := Option.ite_none_left_eq_some.1 ht
    cases ht
    exact h.closeRecord
  · obtain ⟨-, ht⟩ := Option.ite_none_right_eq_some.1 ht
    cases ht
    have hclose (c : Prop) [Decidable c] : (if c then s.closeRecord r else s).Uncounted := .ite h.closeRecord h
    exact .emitLate (.ite (.closeRecord (.updStream (hclose _))) (.updStream (hclose _)))

theorem State.Uncounted.takeItems {r : Route} {n : Nat} (h : s.Uncounted) : (State.takeItems r n s).Uncounted := by
  induction n generalizing s with
  | zero => exact h
  | succ n ih =>
    unfold State.takeItems
    split
    case h_1 hs => exact ih (h.itemStep hs)
    case h_2 => exact h

theorem State.Uncounted.items (h : s.Uncounted) {r : Route} : (s.items r).Uncounted := h.takeItems

theorem State.Uncounted.deliver (h : s.Uncounted) {ch : Nat} {w : SlotWord} : (s.deliver ch w).Uncounted :=
  h.foldl fun _ h _ _ => .ite h.updCols.updStream.items h

theorem State.Uncounted.placeSpans (h : s.Uncounted) {r : Route} {chs : List Nat} {f : Nat → Nat} {c x : Nat} {e : Bool} :
    (s.placeSpans r chs f c x e).Uncounted := h.updCols

theorem State.Uncounted.openSpans (h : s.Uncounted) {chs : List Nat} {f : Nat → Nat} {c x : Nat} {e : Bool} :
    (s.openSpans chs f c x e).Uncounted :=
  h.foldl fun _ h _ _ => .ite h.placeSpans.raise.items h

theorem State.Uncounted.resumeSpans (h : s.Uncounted) {chs : List Nat} {f : Nat → Nat} {c x : Nat} {e : Bool} :
    (s.resumeSpans chs f c x e).Uncounted :=
  h.foldl fun _ h _ _ => .ite h.placeSpans.items h

theorem State.Uncounted.closeSpans (h : s.Uncounted) {chs : List Nat} {f : Nat → Nat} : (s.closeSpans chs f).Uncounted :=
  h.foldl fun _ h _ _ => .items (.foldl h fun _ h _ _ => .ite h.emitSpan h)

theorem State.Uncounted.splitSpans (h : s.Uncounted) : s.splitSpans.Uncounted :=
  h.foldl fun _ h _ _ => .foldl h fun _ h _ _ => .ite h.emitParts h

theorem State.Uncounted.openStream (h : s.Uncounted) {r : Route} : (s.openStream r).Uncounted := h.updStream

theorem State.Uncounted.completeCloses (h : s.Uncounted) : s.completeCloses.Uncounted := by
  refine h.foldl fun s h r _ => ?_
  dsimp only
  split
  · exact .ite h.updStream.complete h
  · exact h

theorem State.Uncounted.recordWords (h : s.Uncounted) {q : Nat} {x : Record} {ws : List (Nat × Nat)} :
    (s.recordWords q x ws).Uncounted := by
  induction ws generalizing s with
  | nil => exact h
  | cons w ws ih => exact ih h.eccRead

theorem State.Uncounted.recordRead (h : s.Uncounted) {q : Nat} {x : Record} : (s.recordRead q x).2.Uncounted := by
  unfold State.recordRead
  dsimp only
  split
  · exact h.wordGrants
  · exact h.wordGrants.recordWords

theorem State.Uncounted.recordsRead (h : s.Uncounted) {q : Record → Nat} {xs : List Record} : (s.recordsRead q xs).2.Uncounted := by
  induction xs generalizing s with
  | nil => exact h
  | cons x xs ih => exact ih h.recordRead

theorem State.Uncounted.packHost (h : s.Uncounted) : s.packHost.Uncounted := by
  unfold State.packHost
  exact .same h.recordsRead

theorem State.Uncounted.packDrip (h : s.Uncounted) : s.packDrip.Uncounted := h.recordsRead.same

theorem State.Uncounted.settle (h : s.Uncounted) : s.settle.Uncounted :=
  .completeCloses (.packDrip (.packHost (.same h.splitSpans)))
end

section
variable {s : State}

/-! ### Addresses of the blocks' counters -/

theorem ceReg_ne {e o : Nat} (he : e < 8) (ho : o < 0x80 := by decide) : ceReg e o ≠ 0x0008_0064 := by unfold ceReg; omega
theorem chReg_ne {c o : Nat} (hc : c < 768) (ho : o < 0x40 := by decide) : chReg c o ≠ 0x0008_0064 := by unfold chReg; omega
theorem podReg_ne {l o : Nat} (hl : l < 24) (ho : o < 0x80 := by decide) : podReg l o ≠ 0x0008_0064 := by unfold podReg; omega
theorem laneReg_ne {l o : Nat} (hl : l < 32) (ho : o < 0x100 := by decide) : laneReg l o ≠ 0x0008_0064 := by unfold laneReg; omega
theorem tpReg_ne {i o : Nat} (hi : i < 8) (ho : o < 0x20 := by decide) : tpReg i o ≠ 0x0008_0064 := by unfold tpReg; omega

/-! ### Trigger engines -/

theorem State.Uncounted.ringWord (h : s.Uncounted) {ch : Nat} {w : SlotWord} : (s.ringWord ch w).Uncounted :=
  h.foldl fun _ h _ _ => .ite (.ite h (.ite h.updEngine h.unitWrite.updEngine)) h

theorem State.Uncounted.collect (h : s.Uncounted) {e d : Nat} {f : Fire} : (s.collect e f d).Uncounted := h.updEngine

theorem State.Uncounted.ignoreBusy (h : s.Uncounted) {e : Nat} (he : e < 8) : (s.ignoreBusy e).Uncounted := h.updEngine.bump (ceReg_ne he)

theorem State.Uncounted.ignorePre (h : s.Uncounted) {e : Nat} {t : Int} (he : e < 8) : (s.ignorePre e t).Uncounted :=
  h.updEngine.bump (ceReg_ne he)

theorem State.Uncounted.missFire (h : s.Uncounted) {e : Nat} {t : Int} (he : e < 8) : (s.missFire e t).Uncounted :=
  h.updEngine.bump (ceReg_ne he)

theorem State.Uncounted.mergeFire (h : s.Uncounted) {e : Nat} {c : Collect} {f : Fire} (he : e < 8) : (s.mergeFire e c f).Uncounted := by
  unfold State.mergeFire
  exact .ite h.updEngine (.ite (h.updEngine.bump (ceReg_ne he)) (.ite (h.missFire he) (h.ignoreBusy he)))

theorem State.Uncounted.judgeFire (h : s.Uncounted) {e : Nat} {f : Fire} (he : e < 8) : (s.judgeFire e f).Uncounted := by
  unfold State.judgeFire
  refine .ite (h.ignoreBusy he) ?_
  split
  · exact h.mergeFire he
  · exact .ite (.ite (h.missFire he) h.collect)
      (.ite h.collect (.ite h.updEngine.collect (.ite (h.ignorePre he) (h.ignoreBusy he))))

theorem State.Uncounted.fireAt (h : s.Uncounted) {e : Nat} {f : Fire} (he : e < 8) : (s.fireAt e f).Uncounted := by
  unfold State.fireAt
  exact .ite h (h.judgeFire he).updEngine

theorem State.Uncounted.fireEngine (h : s.Uncounted) {e k n : Nat} {t : Int} (he : e < 8) : (s.fireEngine e t k n).Uncounted := h.fireAt he

theorem State.Uncounted.ringCopy (h : s.Uncounted) {e n : Nat} {i : Int} : (s.ringCopy e i n).Uncounted :=
  h.foldl fun _ h _ _ => .ite h h.unitRead

theorem State.Uncounted.startCopy (h : s.Uncounted) {e i n : Nat} {xs : List Record} : (s.startCopy e i n xs).Uncounted := h.updEngine

theorem State.Uncounted.closeCapture (h : s.Uncounted) {e : Nat} (he : e < 8) : (s.closeCapture e).Uncounted := by
  unfold State.closeCapture
  dsimp only
  split
  · exact h
  · have hclosed (c : Prop) [Decidable c] {t : State} (h : t.Uncounted) : (if c then t else t.bump (ceReg e 0x44)).Uncounted :=
      .ite h (h.bump (ceReg_ne he))
    split
    · exact hclosed _ (.bump h.ringCopy.startCopy.updEngine (ceReg_ne he))
    · exact .trigSend (.bump (.raise (hclosed _ (.bump h.ringCopy.startCopy.updEngine (ceReg_ne he)))) (ceReg_ne he))

theorem State.Uncounted.closeSegment (h : s.Uncounted) {e : Nat} (he : e < 8) : (s.closeSegment e).Uncounted := by
  unfold State.closeSegment
  dsimp only
  split
  · exact h
  · have hclosed : ∀ {t : State}, t.Uncounted → (t.bump (ceReg e 0x30)).Uncounted := fun h => h.bump (ceReg_ne he)
    refine .foldl (.ite ?_ (.bump ?_ (ceReg_ne he))) fun _ h _ _ => h.judgeFire he
    all_goals exact hclosed h.ringCopy.startCopy.updEngine

theorem State.Uncounted.cutRecord (h : s.Uncounted) {e : Nat} (he : e < 8) : (s.cutRecord e).Uncounted := by
  unfold State.cutRecord
  exact .ite h (.ite (h.closeSegment he) (h.closeCapture he))

theorem State.Uncounted.ringAnew (h : s.Uncounted) {ch n : Nat} {i : Int} : (s.ringAnew ch n i).Uncounted :=
  h.foldl fun _ h _ he => .ite (h.cutRecord (List.mem_range.1 he)).updEngine h

theorem State.Uncounted.sendTrunk (h : s.Uncounted) {up down : Bool} {n : Nat} {m : List Byte} : (s.sendTrunk up down n m).Uncounted := by
  have hone {t : State} (ht : t.Uncounted) (ls : List Nat) :
      (ls.foldl (fun s l => if s.laneActive l then s.egress l n m else s) t).Uncounted :=
    ht.foldl fun _ h _ _ => .ite h.egress h
  unfold State.sendTrunk
  exact .ite (hone (.ite (hone h _) h) _) (.ite (hone h _) h)

theorem State.Uncounted.swarmFireOut (h : s.Uncounted) {t : Int} {n : Nat} : (s.swarmFireOut t n).Uncounted := by
  unfold State.swarmFireOut
  exact .bump (.sendTrunk h.same)

/-! ### The comb and the chains -/

theorem State.Uncounted.detect (h : s.Uncounted) {i j n : Nat} {d : Detection} : (s.detect i j n d).Uncounted := by
  unfold State.detect
  exact .ite h.updInst.trigSend h.updInst

theorem State.Uncounted.runPair {ii si slot chan t before limit f : Nat} {early : Bool} (h : s.Uncounted) :
    (State.runPair ii si slot chan t before limit early f s).Uncounted := by
  induction f generalizing s with
  | zero => exact h
  | succ f ih =>
    unfold State.runPair
    split
    · exact h
    split
    · exact h
    split
    · exact ih h.detect
    · exact h

theorem State.Uncounted.runWindows (h : s.Uncounted) {i b l : Nat} {e : Bool} : (s.runWindows i b l e).Uncounted := by
  unfold State.runWindows
  split
  · exact h
  · exact h.foldl fun _ h _ _ => h.foldl fun _ h _ _ => h.foldl fun _ h _ _ => h.runPair

theorem State.Uncounted.readRings (h : s.Uncounted) {ch k : Nat} : (s.readRings ch k).Uncounted := by
  unfold State.readRings
  exact .ite h (.foldl h fun _ h _ _ => .ite h.runWindows.updInst h.runWindows)

theorem State.Uncounted.combStore (h : s.Uncounted) {ch k : Nat} {e : HistEntry} : (s.combStore ch k e).Uncounted := h.readRings.same

theorem State.Uncounted.combTapB (h : s.Uncounted) {c n : Nat} {i v : Int} {a b : Bool} : (s.combTapB c i n v a b).Uncounted := by
  unfold State.combTapB
  exact .ite h.combStore h

theorem State.Uncounted.combForeign (h : s.Uncounted) {c : Nat} {i v : Int} {b : Bool} : (s.combForeign c i v b).Uncounted := by
  unfold State.combForeign
  exact .ite h (.ite (.bump h.same) (.combStore h.same))

theorem State.Uncounted.chainSaturated (h : s.Uncounted) {c n m : Nat} (hc : c < 768) : (s.chainSaturated c n m).Uncounted := by
  have ha : 0x0006_0200 + 4 * (c / 32) ≠ 0x0008_0064 := by omega
  unfold State.chainSaturated
  exact .ite h (.bumpBy (.ite (h.setReg ha) (h.setReg ha).setReg) (chReg_ne hc))

theorem State.Uncounted.tapA (h : s.Uncounted) {ch : Nat} {o : ChainOut} (hc : ch < 768) : (s.tapA ch o).Uncounted := by
  unfold State.tapA
  dsimp -zeta only
  extract_lets _ _ _ _ _ _ _ _ s1 _ s3 s4 s5 _
  have h1 : s1.Uncounted := .ite h.ringAnew h
  have h3 : s3.Uncounted := h1.updChain.foldl fun _ h _ _ => h.bump (chReg_ne hc)
  have h4 : s4.Uncounted := .ite h3.trigSend h3
  have h5 : s5.Uncounted := .ite h4.trigSend h4
  exact h5.ringWord.deliver

theorem State.Uncounted.tapB (h : s.Uncounted) {ch : Nat} {o : ChainOut} : (s.tapB ch o).Uncounted := h.combTapB
theorem State.Uncounted.exportOut (h : s.Uncounted) {ch : Nat} {o : ChainOut} : (s.exportOut ch o).Uncounted := h.same

theorem State.Uncounted.chainOuts (h : s.Uncounted) {ch : Nat} {os : List ChainOut} (hc : ch < 768) : (s.chainOuts ch os).Uncounted :=
  h.foldl fun _ h _ _ => .ite h.tapB.exportOut (h.tapA hc)

theorem State.Uncounted.feedTick (h : s.Uncounted) {l n : Nat} {f : Option Held} (hl : l < 24) : (s.feedTick l n f).Uncounted := by
  refine State.Uncounted.updPod (h.foldl fun s h q hq => .ite h ?_)
  have hc : 32 * l + q < 768 := by have := List.mem_range.1 hq; omega
  exact (h.updChain.chainSaturated hc).chainOuts hc

theorem State.Uncounted.renumberChains (h : s.Uncounted) {chs : List Nat} {b : Nat} {d : Nat → Nat} :
    (s.renumberChains chs b d).Uncounted := by
  refine h.closeSpans.foldl fun s h ch _ => ?_
  dsimp only
  split
  · exact h.ringAnew.updChain.updChain.resumeSpans
  · exact h

theorem State.Uncounted.drainChains (h : s.Uncounted) {l m c : Nat} {e : Bool} (hl : l < 24) : (s.drainChains l m c e).Uncounted := by
  unfold State.drainChains
  extract_lets last chs live grids s1 live' start s2 s3 turns bs s4 s5
  have h1 : s1.Uncounted := h.foldl fun s h ch hch => by
    obtain ⟨q, hq, rfl⟩ := List.mem_map.1 (List.mem_filter.1 hch).1
    have := List.mem_range.1 hq
    exact h.updChain.chainOuts (by omega)
  have h3 : s3.Uncounted := h1.openSpans.foldl fun _ h _ _ => h.updChain
  have h4 : s4.Uncounted := h3.foldl fun _ h _ _ => h.renumberChains
  exact h4.updPod.bump (podReg_ne hl)

theorem State.Uncounted.takeTick (h : s.Uncounted) {l : Nat} (hl : l < 24) : (s.takeTick l).Uncounted := by
  unfold State.takeTick
  extract_lets x n frame lost s1
  have h1 : s1.Uncounted := .ite h.unitRead h
  split
  · exact .ite ((h1.updPod.feedTick hl).bump (podReg_ne hl)) (h1.updPod.feedTick hl)
  · exact .ite (h1.drainChains hl) ((h1.updPod.feedTick hl).bump (podReg_ne hl))

theorem State.Uncounted.feedUpTo {l m f : Nat} (h : s.Uncounted) (hl : l < 24) : (State.feedUpTo l m f s).Uncounted := by
  induction f generalizing s with
  | zero => exact h
  | succ f ih =>
    unfold State.feedUpTo
    exact .ite (ih (h.takeTick hl)) h

theorem State.Uncounted.drainLane (h : s.Uncounted) {l m c : Nat} {e : Bool} (hl : l < 24) : (s.drainLane l m c e).Uncounted := by
  unfold State.drainLane
  exact .ite ((h.feedUpTo hl).drainChains hl) (h.feedUpTo hl)

/-! ### Pods -/

theorem State.Uncounted.quarantine (h : s.Uncounted) {l : Nat} (hl : l < 24) : (s.quarantine l).Uncounted :=
  .raise (h.drainLane hl).updPod

theorem State.Uncounted.podError (h : s.Uncounted) {l o : Nat} (hl : l < 24) (ho : o < 0x80) : (s.podError l o).Uncounted := by
  unfold State.podError
  extract_lets s1 _ s2
  have h1 : s1.Uncounted := (h.bump (podReg_ne hl ho)).updPod
  have h2 : s2.Uncounted := .ite h1.same h1
  exact .ite (h2.quarantine hl) h2

theorem State.Uncounted.podStart (h : s.Uncounted) {l : Nat} : (s.podStart l).Uncounted := by
  unfold State.podStart
  refine .ite h.updPod ?_
  dsimp only
  split
  · exact h.send.send.updPod
  · exact h.send.updPod

theorem State.Uncounted.podDown (h : s.Uncounted) {l : Nat} : (s.podDown l).Uncounted := h.updPod

theorem State.Uncounted.writePodCmd (h : s.Uncounted) {l : Nat} {v : Word} : (s.writePodCmd l v).2.Uncounted := by
  unfold State.writePodCmd
  exact .iteSnd h (.iteSnd h ((.pair (.updPod (.ite h h.send)))))

theorem State.Uncounted.releaseQuar (h : s.Uncounted) {l : Nat} : (s.releaseQuar l).Uncounted := by
  unfold State.releaseQuar
  exact .ite h (.ite h.updPod.podStart h.updPod)

theorem State.Uncounted.stopChains (h : s.Uncounted) : s.stopChains.Uncounted :=
  .foldl (.foldl h fun _ h _ _ => .ite h h.updChain) fun _ h _ _ => .ite h.updPod h
end

section
variable {s : State}

/-! ### Lanes -/

theorem State.Uncounted.enterDetect (h : s.Uncounted) {l : Nat} : (s.enterDetect l).Uncounted := by
  unfold State.enterDetect
  exact .updLane (.ite h.podDown h)

theorem State.Uncounted.enterTrain (h : s.Uncounted) {l : Nat} : (s.enterTrain l).Uncounted := h.updLane
theorem State.Uncounted.enterLane (h : s.Uncounted) {l n : Nat} : (s.enterLane l n).Uncounted := h.updLane

theorem State.Uncounted.pairLinkCheck (h : s.Uncounted) : s.pairLinkCheck.Uncounted := by
  unfold State.pairLinkCheck
  exact .ite h (.bump (.raise h.same))

theorem State.Uncounted.laneLeft (h : s.Uncounted) {l c : Nat} : (s.laneLeft l c).Uncounted := by
  have hr : ∀ x, ((s.updLane l fun x => { x with scan := none }).raise 0x0402 l x).Uncounted := fun _ => h.updLane.raise
  unfold State.laneLeft
  exact .ite (hr _).podDown (.ite (hr _).rewindHost (.ite (hr _).pairLinkCheck (hr _)))

theorem State.Uncounted.laneFail (h : s.Uncounted) {l c : Nat} (hl : l < 32) : (s.laneFail l c).Uncounted := by
  unfold State.laneFail
  extract_lets st s1 s2 s3
  have h2 : s2.Uncounted := (h.bump (laneReg_ne hl)).updLane
  have h3 : s3.Uncounted := .ite h2.podDown h2
  exact .ite h3.enterLane.raise (.ite h3.enterDetect (.ite h3.enterTrain h3.enterLane.updLane))

theorem State.Uncounted.enterActive (h : s.Uncounted) {l : Nat} : (s.enterActive l).Uncounted := by
  unfold State.enterActive
  exact .ite (.ite h.enterLane.updLane.updPod h.enterLane.updLane.podStart) h.enterLane.updLane

theorem State.Uncounted.capsDone (h : s.Uncounted) {l : Nat} {ok : Bool} (hl : l < 32) : (s.capsDone l ok).Uncounted := by
  unfold State.capsDone
  exact .ite h (.ite h.enterActive (h.laneFail hl))

theorem State.Uncounted.retrain (h : s.Uncounted) {v : Nat} : (s.retrain v).Uncounted :=
  h.foldl fun _ h _ _ => .ite h (.ite h.updLane.enterDetect.laneLeft h.updLane.enterDetect)

theorem State.Uncounted.setGen (h : s.Uncounted) {l : Nat} {a b : Bool} : (s.setGen l a b).Uncounted := by
  unfold State.setGen
  exact .ite (.ite (.ite h.enterLane h)
      (.ite h.enterLane.updLane.laneLeft (.ite h.enterLane.updLane.podDown h.enterLane.updLane)))
    (.ite h (.ite h.updLane.enterDetect h.updLane.enterLane))

theorem State.Uncounted.checkerCount (h : s.Uncounted) {l : Nat} (hl : l < 32) : (s.checkerCount l).Uncounted := by
  unfold State.checkerCount
  have hcount {t : State} {a b : Nat} {f : Lane → Lane} (ht : t.Uncounted) :
      (((t.bumpBy (laneReg l 0x44) a).bumpBy (laneReg l 0x40) b).updLane l f).Uncounted :=
    ((ht.bumpBy (laneReg_ne hl)).bumpBy (laneReg_ne hl)).updLane
  refine .ite h ?_
  dsimp only
  split
  · exact hcount h
  · exact hcount h.same

theorem State.Uncounted.checkerSeeks (h : s.Uncounted) {l : Nat} (hl : l < 32) : (s.checkerSeeks l).Uncounted := (h.checkerCount hl).updLane

theorem State.Uncounted.writeTestCtrl (h : s.Uncounted) {l v : Nat} (hl : l < 32) : (s.writeTestCtrl l v).2.Uncounted := by
  unfold State.writeTestCtrl
  exact .iteSnd h ((.pair (.setGen (.ite (h.setReg (laneReg_ne hl)) ((h.setReg (laneReg_ne hl)).checkerSeeks hl)))))

theorem State.Uncounted.writeInjGo (h : s.Uncounted) {l v : Nat} : (s.writeInjGo l v).2.Uncounted := by
  unfold State.writeInjGo
  exact .iteSnd h h.updLane.pair

theorem State.Uncounted.lanesLeaveTest (h : s.Uncounted) : s.lanesLeaveTest.Uncounted := by
  refine h.foldl fun s h l hl => ?_
  have hl := List.mem_range.1 hl
  have h0 (v : Word) : (s.setReg (laneReg l 0x10) v).Uncounted := h.setReg (laneReg_ne hl)
  have h1 := (h0 0).setReg (a := 0x0200_0000 + 0x1000 * l) (v := 0) (by omega)
  have h2 := h1.setReg (a := 0x0200_0004 + 0x1000 * l) (v := 0) (by omega)
  exact (h2.checkerCount hl).updLane.setGen

theorem State.Uncounted.writeEyeCtrl (h : s.Uncounted) {l v : Nat} (hl : l < 32) : (s.writeEyeCtrl l v).2.Uncounted := by
  unfold State.writeEyeCtrl
  exact .iteSnd (.pair (h.setReg (laneReg_ne hl))) (.iteSnd h (.iteSnd h ((.pair (h.setReg (laneReg_ne hl)).updLane))))

/-! ### Local channels -/

theorem State.Uncounted.updLocal (h : s.Uncounted) {k : Nat} {f : Local → Local} : (s.updLocal k f).Uncounted := h.same

theorem State.Uncounted.markFault (h : s.Uncounted) {k : Nat} : (s.markFault k).Uncounted :=
  h.updLocal

theorem State.Uncounted.setDrive (h : s.Uncounted) {k : Nat} {b : Bool} : (s.setDrive k b).Uncounted := by
  unfold State.setDrive
  exact .ite h (h.markFault.updLocal)

theorem State.Uncounted.pulseDone (h : s.Uncounted) {k : Nat} : (s.pulseDone k).Uncounted := by
  unfold State.pulseDone
  exact .ite (h.updLocal) h

theorem State.Uncounted.drivesOff (h : s.Uncounted) : s.drivesOff.Uncounted :=
  h.foldl fun _ h _ _ => h.pulseDone.setDrive.updLocal

theorem State.Uncounted.spotDriveEnd (h : s.Uncounted) {k : Nat} {b : Bool} : (s.spotDriveEnd k b).Uncounted := by
  unfold State.spotDriveEnd
  exact .ite h.setDrive h

theorem State.Uncounted.isolateAll (h : s.Uncounted) : s.isolateAll.Uncounted :=
  h.foldl fun _ h _ _ => h.updLocal

theorem State.Uncounted.calRefuse (h : s.Uncounted) {k r c n : Nat} {m : Int} : (s.calRefuse k r c m n).Uncounted := by
  unfold State.calRefuse
  split
  · exact (h.updLocal).complete
  · exact h

theorem State.Uncounted.calDrop (h : s.Uncounted) {k : Nat} : (s.calDrop k).Uncounted := h.calRefuse.updLocal

theorem State.Uncounted.dropCals (h : s.Uncounted) : s.dropCals.Uncounted := h.foldl fun _ h _ _ => h.calDrop

theorem State.Uncounted.opCal (h : s.Uncounted) {k : Packet} : (s.opCal k).2.Uncounted := by
  unfold State.opCal
  dsimp only
  split
  · exact h
  split
  · exact h
  split
  · exact h
  split
  · exact h.calDrop
  split
  · exact h
  split
  · exact h
  split
  · exact h
  · exact h.updLocal

theorem State.Uncounted.fixCode (h : s.Uncounted) {k : Nat} : (s.fixCode k).Uncounted := by
  unfold State.fixCode State.setCode
  exact .ite (.updLocal (.ite h (h.bump (by unfold fdReg; omega)))) h

theorem State.Uncounted.abortSpot (h : s.Uncounted) {k : Nat} : (s.abortSpot k).Uncounted := by
  unfold State.abortSpot
  dsimp only
  split
  · exact h.updLocal.complete
  · exact h

theorem State.Uncounted.cutWindows (h : s.Uncounted) {k : Nat} : (s.cutWindows k).Uncounted :=
  h.pulseDone.abortSpot.setDrive.updLocal.fixCode

theorem State.Uncounted.stopLocals (h : s.Uncounted) : s.stopLocals.Uncounted :=
  h.foldl fun _ h _ _ => h.cutWindows.calDrop.updLocal

theorem State.Uncounted.abortSpotsAndCals (h : s.Uncounted) : s.abortSpotsAndCals.Uncounted := by
  refine h.foldl fun s h k _ => ?_
  dsimp only
  split
  · exact h.abortSpot.calDrop.fixCode.updLocal
  · exact h.abortSpot.calDrop.fixCode.spotDriveEnd

theorem State.Uncounted.opSpot (h : s.Uncounted) {k : Packet} : (s.opSpot k).2.Uncounted := by
  unfold State.opSpot
  exact .iteSnd h (.iteSnd h (.iteSnd h (.iteSnd h (.iteSnd h ((.pair (.updLocal (.ite h.updLocal.fixCode.setDrive h.updLocal.fixCode))))))))
end

section
variable {s : State}

/-! ### Nectar -/

theorem State.Uncounted.setNx (h : s.Uncounted) {x : Nectar} : ({ s with nx := x } : State).Uncounted := h.same

theorem State.Uncounted.putDescriptor (h : s.Uncounted) {k i n st : Nat} : (s.putDescriptor k i n st).Uncounted := h.hiveWrite

theorem State.Uncounted.poolPut (h : s.Uncounted) {k key tw f : Nat} {bs : List Byte} : (s.poolPut k key tw f bs).1.Uncounted := by
  induction f generalizing s bs with
  | zero => exact h
  | succ f ih =>
    unfold State.poolPut
    dsimp only
    split
    · exact h.hiveWrite.updPool.putDescriptor
    · exact ih h.hiveWrite.updPool.putDescriptor.putDescriptor

theorem State.Uncounted.poolRelease (h : s.Uncounted) {k : Nat} : (s.poolRelease k).Uncounted := by
  have hput {l : List (Nat × Nat × Nat × Nat)} {f : NxPool → NxPool} :
      ((l.foldl (fun s b => s.putDescriptor k b.1 0 0) s).updPool k f).Uncounted :=
    .updPool (h.foldl fun _ h _ _ => h.putDescriptor)
  unfold State.poolRelease
  refine .ite h ?_
  dsimp only
  split
  · exact hput.updPool
  · exact hput

theorem State.Uncounted.poolsRelease (h : s.Uncounted) : s.poolsRelease.Uncounted := h.foldl fun _ h _ _ => .ite h h.poolRelease

theorem State.Uncounted.poolStarve (h : s.Uncounted) {k : Nat} : (s.poolStarve k).Uncounted := by
  unfold State.poolStarve
  exact .ite h (.raise (.bump h.updPool))

theorem State.Uncounted.poolsStarve (h : s.Uncounted) : s.poolsStarve.Uncounted := h.foldl fun _ h _ _ => h.poolStarve

theorem State.Uncounted.countKib (h : s.Uncounted) {a r n : Nat} (ha : a ≠ 0x0008_0064 := by decide) : (s.countKib a r n).1.Uncounted :=
  h.bumpBy ha

theorem State.Uncounted.closeBlock (h : s.Uncounted) {r : Route} : (s.closeBlock r).1.Uncounted := by
  unfold State.closeBlock
  dsimp -zeta only
  extract_lets x
  split
  · extract_lets n
    split
    · exact .ite h h.updPool
    · rename_i s1 s2 _ s3 s4 _ _ s5 _
      have h1 : s1.Uncounted := h.poolPut.bump
      have h2 : s2.Uncounted := .ite h1.bump h1
      have h3 : s3.Uncounted := .same ((h2.countKib (a := 0x000A_001C)).countKib (a := 0x000A_0020))
      have h4 : s4.Uncounted := h3.updNx
      exact .ite h4.same h4.setWaiting
  · exact h

theorem State.Uncounted.nectarRecordIn (h : s.Uncounted) {id : Nat} : (s.nectarRecordIn id).Uncounted := by
  unfold State.nectarRecordIn
  split
  · refine .ite h ?_
    dsimp only
    split
    · exact .ite h.closeBlock (.setNx (.updNx h.closeBlock.recordRead))
    · exact .ite h (.setNx (.updNx h.recordRead))
  · exact h

theorem State.Uncounted.nectarDrain {f : Nat} (h : s.Uncounted) : (State.nectarDrain f s).Uncounted := by
  induction f generalizing s with
  | zero => exact h
  | succ f ih =>
    unfold State.nectarDrain
    split
    · exact .ite (ih h.nectarRecordIn) h
    · exact h

theorem State.Uncounted.closeBlocks (h : s.Uncounted) : s.closeBlocks.Uncounted :=
  .foldl h.nectarDrain fun _ h _ _ => .ite h.closeBlock h

theorem State.Uncounted.nectarOpen (h : s.Uncounted) {id : Nat} : (s.nectarOpen id).Uncounted := h.updNx

theorem State.Uncounted.nxError (h : s.Uncounted) {e : NxErr} : (s.nxError e).Uncounted := by
  unfold State.nxError
  exact .raise (.bump (.same (h.setReg (a := 0x000A_000C))))
end

section
variable {s : State}

/-! ### Hub time -/

theorem State.Uncounted.servo (h : s.Uncounted) : s.servo.Uncounted := h.same
theorem State.Uncounted.enterHoldover (h : s.Uncounted) : s.enterHoldover.Uncounted := h.updTime

theorem State.Uncounted.refuseStep (h : s.Uncounted) {src : Nat} {d : Int} : (s.refuseStep src d).Uncounted := by
  unfold State.refuseStep
  exact .raise (.bump (.updTime h.enterHoldover))

theorem State.Uncounted.startSlew (h : s.Uncounted) {src : Nat} {d : Int} : (s.startSlew src d).Uncounted := h.updTime

theorem State.Uncounted.takeOffset (h : s.Uncounted) {src : Nat} : (s.takeOffset src).Uncounted := by
  unfold State.takeOffset
  exact .ite h.refuseStep h.startSlew

theorem State.Uncounted.switchTo (h : s.Uncounted) {src : Nat} : (s.switchTo src).Uncounted := by
  unfold State.switchTo
  exact .ite (.updTime h.bump) (.takeOffset h.bump)

theorem State.Uncounted.setQ (h : s.Uncounted) {src : Nat} {q : Bool} : (s.setQ src q).Uncounted := h.updTime

theorem State.Uncounted.loseSource (h : s.Uncounted) {src : Nat} : (s.loseSource src).Uncounted := by
  unfold State.loseSource
  refine .ite h ?_
  extract_lets s1 s2
  have h1 : s1.Uncounted := h.setQ
  have h2 : s2.Uncounted := .ite (.raise h1.updTime) (.ite h1.updTime h1)
  refine .ite h2.enterHoldover (.ite ?_ (.ite ?_ h2))
  · split
    · exact h2.switchTo
    · exact h2.enterHoldover
  · split
    · exact h2.switchTo
    · exact h2

theorem State.Uncounted.gainSource (h : s.Uncounted) {src : Nat} : (s.gainSource src).Uncounted := by
  unfold State.gainSource
  exact .ite h (.ite h.setQ.switchTo h.setQ)

theorem State.Uncounted.track (h : s.Uncounted) {src : Nat} : (s.track src).Uncounted := by
  unfold State.track
  exact .ite (.ite h.refuseStep h.servo) h

theorem State.Uncounted.acceptStep (h : s.Uncounted) {d : Option Int} : (s.acceptStep d).2.Uncounted := by
  unfold State.acceptStep
  dsimp only
  split
  · exact h
  · exact h.updTime
  · split
    · exact h
    · exact h.updTime

theorem State.Uncounted.timeSet (h : s.Uncounted) {n u : Nat} : (s.timeSet n u).2.Uncounted := by
  unfold State.timeSet
  dsimp only
  split
  · exact h
  split
  · split
    · exact h.updTime.takeOffset
    · exact h.updTime
  · exact h.updTime.gainSource

theorem State.Uncounted.timeTod (h : s.Uncounted) {n : Nat} : (s.timeTod n).Uncounted := h.updTime

/-! ### Trunk messages -/

theorem State.Uncounted.trunkCrcBad (h : s.Uncounted) {l : Nat} (hl : l < 32) : (s.trunkCrcBad l).Uncounted := by
  unfold State.trunkCrcBad
  exact .bump h.same (tpReg_ne (by omega))

theorem State.Uncounted.trunkMessage (h : s.Uncounted) {l : Nat} {m : List Byte} {f : State → State}
    (hf : ∀ s : State, s.Uncounted → (f s).Uncounted) : (s.trunkMessage l m f).Uncounted := by
  unfold State.trunkMessage
  refine .ite h (.ite (.ite (hf s h) h) ?_)
  split
  · exact h
  · exact h.trunkCrcBad (by omega)

theorem State.Uncounted.trunkOnly (h : s.Uncounted) {l : Nat} {m : List Byte} {f : State → State}
    (hf : l < 28 → ∀ s : State, s.Uncounted → (f s).Uncounted) : (s.trunkOnly l m f).Uncounted := by
  unfold State.trunkOnly
  split
  · exact h
  · exact h.trunkMessage (hf (by omega))

theorem State.Uncounted.pairUnlock (h : s.Uncounted) : s.pairUnlock.Uncounted := by
  unfold State.pairUnlock
  exact .ite h h.same

theorem State.Uncounted.exchFail (h : s.Uncounted) {i : Nat} : (s.exchFail i).Uncounted := by
  unfold State.exchFail
  exact .ite h.updTport.pairUnlock.loseSource h.updTport.pairUnlock

theorem State.Uncounted.tsync (h : s.Uncounted) {l : Nat} {m : List Byte} {t : Int} : (s.tsync l m t).Uncounted := by
  refine h.trunkMessage fun s h => ?_
  have hfresh (c : Prop) [Decidable c] (i : Nat) :
      ((if c then s.exchFail i else s).departs).2.Uncounted := .same (.ite h.exchFail h)
  exact .ite h (hfresh _ _).updTport.egress

theorem State.Uncounted.tdreq (h : s.Uncounted) {l : Nat} {m : List Byte} {t : Int} : (s.tdreq l m t).Uncounted := by
  refine h.trunkMessage fun s h => .ite h ?_
  split
  · exact .ite h.updTport.egress h.exchFail
  · exact h

theorem State.Uncounted.tdresp (h : s.Uncounted) {l : Nat} {m : List Byte} : (s.tdresp l m).Uncounted := by
  refine h.trunkMessage fun s h => .ite h ?_
  have hi := s.exchPort_lt l
  dsimp -zeta only
  split
  · exact h
  refine .ite h.exchFail ?_
  extract_lets _ _ _ _ _ s1 s2 _ s3
  have h1 : s1.Uncounted := h.updTport
  have h2 : s2.Uncounted := .ite (h1.bump (tpReg_ne hi)) h1
  have h3 : s3.Uncounted := .ite h2.same h2
  exact .ite h3 (.ite h3.track.gainSource h3.track)

theorem State.Uncounted.followNeighbours (h : s.Uncounted) : s.followNeighbours.Uncounted := by
  unfold State.followNeighbours
  generalize s.pickNeighbour false = u
  dsimp only
  split
  · exact h.updTime
  · cases u with
    | none => exact h.updTime.loseSource
    | some i => exact .ite h.updTime (.ite h.updTime.loseSource h.updTime.gainSource)

theorem State.Uncounted.followStep (h : s.Uncounted) : s.followStep.Uncounted := by
  unfold State.followStep
  split
  · exact .ite h h.acceptStep.updTport
  · exact h

theorem State.Uncounted.announceIn (h : s.Uncounted) {l : Nat} {m : List Byte} : (s.announceIn l m).Uncounted :=
  h.trunkOnly fun _ _ h => .followStep (.ite h.updTport.followNeighbours.loseSource h.updTport.followNeighbours)

theorem State.Uncounted.followLanes (h : s.Uncounted) : s.followLanes.Uncounted := by
  refine h.foldl fun s h i _ => .ite h ?_
  extract_lets _ s1 s2 s3
  have h1 : s1.Uncounted := .ite h.updTport h
  have h2 : s2.Uncounted := .ite h1 h1.updTport
  have h3 : s3.Uncounted := .ite h2 h2.pairUnlock
  exact .ite h3.loseSource h3

theorem State.Uncounted.tcapsDone (h : s.Uncounted) {l : Nat} (hl : l < 32) : (s.tcapsDone l).Uncounted := by
  unfold State.tcapsDone
  exact .ite (h.capsDone hl) h

theorem State.Uncounted.fmapSend (h : s.Uncounted) {d : Bool} : (s.fmapSend d).Uncounted := h.foldl fun _ h _ _ => h.sendTrunk

theorem State.Uncounted.tcapsIn (h : s.Uncounted) {l : Nat} {m : List Byte} : (s.tcapsIn l m).Uncounted := by
  unfold State.tcapsIn
  split
  · exact h
  case isFalse hl =>
    have hl : l < 32 := by simp at hl; omega
    exact .ite (h.trunkCrcBad hl) (.ite h (.ite (.ite (h.egress.updTport.tcapsDone hl).fmapSend (h.egress.updTport.tcapsDone hl))
      (h.egress.capsDone hl)))

theorem State.Uncounted.tcapsAckIn (h : s.Uncounted) {l : Nat} {m : List Byte} : (s.tcapsAckIn l m).Uncounted := by
  unfold State.tcapsAckIn
  split
  · exact h
  case isFalse hl =>
    have hl : l < 32 := by simp at hl; omega
    exact .ite (h.trunkCrcBad hl) (.ite h (.ite (.ite (h.updTport.updTport.tcapsDone hl).fmapSend (h.updTport.updTport.tcapsDone hl))
      (h.updTport.capsDone hl)))

theorem State.Uncounted.fmapIn (h : s.Uncounted) {l : Nat} {m : List Byte} : (s.fmapIn l m).Uncounted :=
  h.trunkOnly fun _ _ h => .ite h h.updTime

theorem State.Uncounted.foreignIn (h : s.Uncounted) {l : Nat} {m : List Byte} : (s.foreignIn l m).Uncounted :=
  h.trunkOnly fun _ _ h => .ite h (.foldl h fun _ h _ _ => .foldl h fun _ h _ _ => h.combForeign)

theorem State.Uncounted.sendFragment (h : s.Uncounted) {d : Bool} {n : Nat} {m : List Byte} : (s.sendFragment d n m).Uncounted := by
  have hports : ∀ l ∈ (if d then [26, 27] else [24, 25] : List Nat), l - 24 < 8 := by cases d <;> decide
  have hfirst : (if d then [26, 27] else [24, 25] : List Nat).headD 24 - 24 < 8 := by cases d <;> decide
  unfold State.sendFragment
  exact .ite (h.bump (tpReg_ne hfirst)) (.foldl h fun _ h l hl =>
    .ite h (.ite (h.runEgress.bump (tpReg_ne (hports l hl))) h.runEgress.egress))

theorem State.Uncounted.relayBytes (h : s.Uncounted) {d : Bool} {n : Nat} {bs : List Byte} : (s.relayBytes d n bs).Uncounted :=
  .foldl h.updTime fun _ h _ _ => h.sendFragment

theorem State.Uncounted.relayNak (h : s.Uncounted) {a b : Nat} : (s.relayNak a b).Uncounted := h.sendFragment

/-! ### Arming, swarm and fires -/

theorem State.Uncounted.armDue (h : s.Uncounted) {e : Nat} : (s.armDue e).Uncounted := h.updEngine

theorem State.Uncounted.armEngine (h : s.Uncounted) {e : Nat} {t : Int} {x : ArmSource} : (s.armEngine e t x).Uncounted := by
  unfold State.armEngine
  exact .ite h h.updEngine.armDue

theorem State.Uncounted.armSet (h : s.Uncounted) {n : Nat} {t : Int} {x : ArmSource} : (s.armSet n t x).Uncounted :=
  h.foldl fun _ h _ _ => h.armEngine

theorem State.Uncounted.disarm (h : s.Uncounted) {e : Nat} : (s.disarm e).Uncounted := h.updEngine

theorem State.Uncounted.relaySwarm (h : s.Uncounted) {l : Nat} {m : List Byte} : (s.relaySwarm l m).Uncounted := by
  unfold State.relaySwarm
  exact .ite h.sendTrunk h.sendTrunk

theorem State.Uncounted.collectAnswer (h : s.Uncounted) {a b c : Nat} : (s.collectAnswer a b c).Uncounted := by
  unfold State.collectAnswer
  exact .ite h h.same

theorem State.Uncounted.joinArm (h : s.Uncounted) {n set : Nat} {t : Int} : (s.joinArm n t set).Uncounted := by
  unfold State.joinArm
  extract_lets _ s1 _ s2 _ _
  have h1 : s1.Uncounted := h.same
  have h2 : s2.Uncounted := .ite h1 (.foldl h1 fun _ h _ _ => h.armEngine)
  exact h2.noteSeen.collectAnswer.sendTrunk

theorem State.Uncounted.swarmArmOut (h : s.Uncounted) {t : Int} {n : Nat} : (s.swarmArmOut t n).Uncounted := by
  unfold State.swarmArmOut
  exact .ite h.noteSeen.sendTrunk.joinArm (.same h.noteSeen.sendTrunk)

theorem State.Uncounted.swarmArmIn (h : s.Uncounted) {l : Nat} {m : List Byte} : (s.swarmArmIn l m).Uncounted :=
  h.trunkOnly fun _ _ h => .ite h.bump (.ite h.noteSeen.relaySwarm.joinArm h.noteSeen.relaySwarm)

theorem State.Uncounted.armResultIn (h : s.Uncounted) {l : Nat} {m : List Byte} : (s.armResultIn l m).Uncounted :=
  h.trunkOnly fun _ _ h => .ite h.bump (.ite h.noteSeen.relaySwarm.collectAnswer h.noteSeen.relaySwarm)

theorem State.Uncounted.deliverSwarm (h : s.Uncounted) {o n : Nat} {t : Int} {x : Option Int} : (s.deliverSwarm o t n x).Uncounted :=
  .trigSend (.foldl h fun _ h _ he => h.fireAt (State.lt_of_mem_swarmEngines he))

theorem State.Uncounted.hostFire (h : s.Uncounted) {n m : Nat} {b : Bool} : (s.hostFire n m b).Uncounted := by
  unfold State.hostFire
  extract_lets t s1 s2
  have h1 : s1.Uncounted := h.foldl fun _ h _ _ => .ite h.updUnit h
  have h2 : s2.Uncounted := h1.swarmFireOut
  exact .ite (.ite (.foldl h2 fun _ h _ he => h.fireEngine (State.lt_of_mem_swarmEngines he)) h2)
    (.foldl h1 fun _ h _ he => h.fireEngine (lt_of_mem_bitList he))

theorem State.Uncounted.swarmApply (h : s.Uncounted) {o n : Nat} {t : Int} {x : Option (Nat × Nat)} :
    (s.swarmApply o t n x).Uncounted := by
  unfold State.swarmApply
  split
  · exact .deliverSwarm h.same
  · exact h.deliverSwarm

theorem State.Uncounted.swarmFireIn (h : s.Uncounted) {l : Nat} {m : List Byte} : (s.swarmFireIn l m).Uncounted := by
  refine h.trunkOnly fun _ s h => .ite h.bump ?_
  extract_lets s1
  have h1 : s1.Uncounted := .bump h.noteSeen.relaySwarm
  refine .ite h1 (.ite ?_ ?_)
  · split
    · exact h1.updPair.swarmApply
    · exact h1.updPair
  · exact .deliverSwarm (.ite h1.plSend h1)
end

section
variable {s : State}

/-! ### Modes -/

theorem State.Uncounted.setSys (h : s.Uncounted) {x : Sys} : ({ s with sys := x } : State).Uncounted := h.same

theorem State.Uncounted.setMode (h : s.Uncounted) {m : Mode} : (s.setMode m).Uncounted := by
  unfold State.setMode
  refine .ite h ?_
  extract_lets old _ s1 s2 running _ s3 _ s4 _
  have h2 : s2.Uncounted := .raise h.setSys
  have h4 : s4.Uncounted := .ite (.setSys (.ite h2.same h2)) h2
  exact .ite h4.setSys h4

theorem State.Uncounted.followTime (h : s.Uncounted) : s.followTime.Uncounted := by
  unfold State.followTime
  exact .ite (h.setMode) h

theorem State.Uncounted.followSuspect (h : s.Uncounted) {n : Nat} : (s.followSuspect n).Uncounted := by
  unfold State.followSuspect
  exact .ite h (.ite h.plSend.markSuspect h.markSuspect)

theorem State.Uncounted.setExcEnable (h : s.Uncounted) {b : Bool} : (s.setExcEnable b).2.Uncounted := by
  have hset : ({ s with sys := { s.sys with excEn := b } } : State).Uncounted := h.setSys
  unfold State.setExcEnable
  split
  · exact h
  · exact .ite hset hset.drivesOff

theorem State.Uncounted.flushCopies (h : s.Uncounted) {e : Nat} : (s.flushCopies e).Uncounted := by
  unfold State.flushCopies
  split
  · exact h.updEngine
  · exact .updEngine (h.foldl fun _ h _ _ => h.emit)

theorem State.Uncounted.stopEngines (h : s.Uncounted) : s.stopEngines.Uncounted := by
  refine h.foldl fun s h e he => ?_
  have hcut : (((s.cutRecord e).flushCopies e).disarm e).Uncounted := (h.cutRecord (List.mem_range.1 he)).flushCopies.disarm
  exact .ite hcut.updEngine hcut

theorem State.Uncounted.stopUnits (h : s.Uncounted) : s.stopUnits.Uncounted := h.same
theorem State.Uncounted.stopComb (h : s.Uncounted) : s.stopComb.Uncounted := h.same
theorem State.Uncounted.stopGrid (h : s.Uncounted) : s.stopGrid.Uncounted := h.same

theorem State.Uncounted.stopAcquisition (h : s.Uncounted) : s.stopAcquisition.Uncounted :=
  h.stopEngines.stopUnits.stopStreams.stopChains.stopLocals.drivesOff.isolateAll.closeBlocks.stopGrid

theorem State.Uncounted.leaveTest (h : s.Uncounted) : s.leaveTest.Uncounted := by
  unfold State.leaveTest
  extract_lets t
  have ht : t.Uncounted := h.lanesLeaveTest.setReg_of_ne (injectPlace_ne _)
  clear_value t
  exact ht.same

theorem State.Uncounted.leaveSafe (h : s.Uncounted) : s.leaveSafe.Uncounted := h.updTime

theorem State.Uncounted.enterSafe (h : s.Uncounted) {c : Nat} : (s.enterSafe c).Uncounted := by
  unfold State.enterSafe
  extract_lets s1 s2 _ s3 s4
  have h1 : s1.Uncounted := .setMode (.ite h.leaveTest h)
  have h2 : s2.Uncounted := h1.raise
  clear_value s2
  have h3 : s3.Uncounted := h2.setSys
  exact .ite h h3.dropCals.stopAcquisition.stopComb

theorem State.Uncounted.modeRequest (h : s.Uncounted) {n : Nat} {t : State} (ht : s.modeRequest n = some t) : t.Uncounted := by
  unfold State.modeRequest at ht
  split at ht
  · cases ht
  split at ht
  · cases ht
    exact h
  split at ht
  · obtain ⟨-, ht⟩ := Option.ite_none_left_eq_some.1 ht
    cases ht
    exact h.enterSafe
  split at ht
  · obtain rfl := Option.some.inj ht
    exact h.leaveTest.setMode
  split at ht
  · obtain ⟨-, ht⟩ := Option.ite_none_right_eq_some.1 ht
    cases ht
    exact .abortSpotsAndCals (.setSys h.setMode)
  split at ht
  · obtain ⟨-, ht⟩ := Option.ite_none_right_eq_some.1 ht
    cases ht
    exact .setMode (.ite h.leaveSafe h)
  · cases ht

theorem State.Uncounted.requestMode (h : s.Uncounted) {n : Nat} {e : Option Nat} : (s.requestMode n e).2.Uncounted := by
  unfold State.requestMode
  split
  case h_1 t ht => exact h.modeRequest ht
  case h_2 => exact h.raise

theorem State.Uncounted.spanLocals (h : s.Uncounted) {c : Nat} {e : Bool} : (s.spanLocals c e).Uncounted := by
  unfold State.spanLocals
  extract_lets ks firsts s1 start place s2
  have h1 : s1.Uncounted := h.foldl fun _ h _ _ => h.cutWindows
  have h2 : s2.Uncounted := h1.foldl fun _ h _ _ => h.updLocal
  exact .ite h2 h2.openSpans

theorem State.Uncounted.fieldDieReset (h : s.Uncounted) : s.fieldDieReset.2.Uncounted := by
  have ht := (h.drivesOff.spanLocals (c := 6) (e := false)).isolateAll
  unfold State.fieldDieReset
  generalize (s.drivesOff.spanLocals 6 false).isolateAll = t at *
  split
  · exact h
  · exact ht.same

/-! ### Timed actions and clocks -/

theorem State.Uncounted.startWaiting (h : s.Uncounted) : s.startWaiting.Uncounted := h.foldl fun _ h _ _ => .ite h.podStart h

theorem State.Uncounted.storeAct (h : s.Uncounted) {e : Nat} {a : TaEntry} : (s.storeAct e a).Uncounted := by
  unfold State.storeAct
  exact .ite h.updAct.startWaiting h.updAct

theorem State.Uncounted.writeTaCmd (h : s.Uncounted) {v : Nat} : (s.writeTaCmd v).2.Uncounted := by
  unfold State.writeTaCmd
  dsimp only
  split
  · split
    · exact h
    split
    · exact h
    split
    · exact h
    · exact h.storeAct
  split
  · exact .updTime (.setReg (.setReg (.setReg (.setReg h.setReg))))
  split
  · exact h.updAct
  · exact h

theorem State.Uncounted.sense (h : s.Uncounted) {n v : Nat} : (s.sense n v).Uncounted := h.updClk
theorem State.Uncounted.senseAt (h : s.Uncounted) {n : Nat} : (s.senseAt n).Uncounted := h.sense
theorem State.Uncounted.senseNow (h : s.Uncounted) : s.senseNow.Uncounted := h.foldl fun _ h _ _ => h.senseAt

theorem State.Uncounted.failover (h : s.Uncounted) {a b : Nat} : (s.failover a b).Uncounted := .raise (.bump h.updClk)

theorem State.Uncounted.clockFollow (h : s.Uncounted) {u : State} : (s.clockFollow u).Uncounted := by
  unfold State.clockFollow
  exact .ite h.failover h

theorem State.Uncounted.followRefs (h : s.Uncounted) : s.followRefs.Uncounted := by
  unfold State.followRefs
  refine .ite (.ite h h.updClk) ?_
  split
  · exact .ite h (.ite h.updClk h.updClk)
  · refine .ite h (.ite h.updClk ?_)
    split <;> exact h.failover

theorem State.Uncounted.loseRef (h : s.Uncounted) {a b : Nat} : (s.loseRef a b).Uncounted := .raise (.bump h.updClk)

theorem State.Uncounted.writeRefCfg (h : s.Uncounted) {v : Nat} : (s.writeRefCfg v).2.Uncounted := by
  unfold State.writeRefCfg
  dsimp only
  split
  · exact h
  · exact .followRefs (.foldl h.setReg fun _ h _ _ => .ite h.loseRef h)

theorem State.Uncounted.avsTry (h : s.Uncounted) {a : AvsAnswer} : (s.avsTry a).Uncounted := by
  unfold State.avsTry
  exact .ite h.updClk.updClk (.ite h.updClk.updClk (.raise (.bump h.updClk.updClk)))

theorem State.Uncounted.avsRequest (h : s.Uncounted) {n : Nat} {a : AvsAnswer} : (s.avsRequest n a).Uncounted := h.updClk.avsTry

theorem State.Uncounted.avsRetry (h : s.Uncounted) {a : AvsAnswer} : (s.avsRetry a).Uncounted := by
  unfold State.avsRetry
  exact .ite h.updClk h.updClk.avsRequest

theorem State.Uncounted.writeVlimit (h : s.Uncounted) {v : Nat} {a : AvsAnswer} : (s.writeVlimit v a).2.Uncounted := by
  unfold State.writeVlimit
  exact .iteSnd h ((.pair (.ite (.avsRequest (.bump h.setReg)) h.setReg)))

theorem State.Uncounted.writePlanTgt (h : s.Uncounted) {v : Nat} : (s.writePlanTgt v).2.Uncounted := by
  unfold State.writePlanTgt
  exact .iteSnd h h.setReg.pair

theorem State.Uncounted.setPlan (h : s.Uncounted) {a b : Nat} : (s.setPlan a b).Uncounted := by
  unfold State.setPlan
  exact .raise h.same

theorem State.Uncounted.evaluate (h : s.Uncounted) {a : AvsAnswer} : (s.evaluate a).Uncounted := by
  unfold State.evaluate
  dsimp -zeta only
  extract_lets _ _ _ _ _ _ _ _ _ _ _ s1
  have h1 : s1.Uncounted := h.updClk
  exact .ite (.avsRequest h1.bump) (.ite h1.setPlan (.ite (.raise h1.updClk) (.ite (.raise h1.updClk) (.ite h1.setPlan
    (.ite (.avsRequest (.bump h1.updClk)) h1)))))

theorem State.Uncounted.writePlanCmd (h : s.Uncounted) {v : Nat} {a : AvsAnswer} : (s.writePlanCmd v a).2.Uncounted := by
  unfold State.writePlanCmd
  exact .ite (.evaluate (.senseNow (.ite h.avsRetry h))) (.ite h.avsRetry h)
end

section
variable {s : State}

/-- The state of a pair that a match has taken apart. -/
theorem State.Uncounted.of_snd {α : Type} {x : α × State} {a : α} {t : State} (he : x = (a, t)) (h : x.2.Uncounted) : t.Uncounted := by
  subst he
  exact h

/-! ### Registers -/

theorem State.Uncounted.lockTake (h : s.Uncounted) {k : Port} {n : Nat} : (s.lockTake k n).2.Uncounted := by
  unfold State.lockTake
  exact .iteSnd h h.updLock.pair

theorem State.Uncounted.lockRelease (h : s.Uncounted) {k : Port} {n : Nat} : (s.lockRelease k n).2.Uncounted := by
  unfold State.lockRelease
  exact .iteSnd h h.updLock.pair

theorem State.Uncounted.releaseLocks (h : s.Uncounted) {k : Port} : (s.releaseLocks k).Uncounted :=
  h.foldl fun _ h _ _ => .ite h.updLock h

theorem State.Uncounted.clearReg (h : s.Uncounted) {a : Nat} : (s.clearReg a).Uncounted := by
  have hc : (s.setReg a 0).Uncounted := h.setReg_of_ne (by decide)
  unfold State.clearReg
  exact .ite hc.same (.ite hc.same (.ite hc.same (.ite hc.same (.ite hc.updPool hc))))

theorem State.Uncounted.writePhy (h : s.Uncounted) {l q : Nat} {v : Word} : (s.writePhy l q v).2.Uncounted := by
  unfold State.writePhy
  split
  · exact h
  split
  · exact h
  · exact h.setReg (by omega)

/-- The state at the end of a triple. -/
theorem State.Uncounted.triple {α β : Type} {a : α} {b : β} (h : s.Uncounted) : (a, b, s).2.2.Uncounted := h

theorem State.Uncounted.ixAt (h : s.Uncounted) {a : Nat} {w : Option Word} {c : Bool} : (s.ixAt a w c).2.2.Uncounted := by
  unfold State.ixAt
  dsimp only
  split
  · split
    · exact h
    split
    · exact h
    split
    · exact h
    · exact .ite (h.setReg_of_ne (by decide)) h
  split
  · split
    · exact h
    split
    · exact .triple h.writePhy
    · exact h
  split
  · split <;> exact h
  · split <;> exact h

theorem State.Uncounted.ixAccess (h : s.Uncounted) {k : Port} {w : Option Word} {c : Bool} : (s.ixAccess k w c).2.2.Uncounted := by
  unfold State.ixAccess
  dsimp only
  split
  · exact h.ixAt.updPort
  · exact .updPort (.ite h.ixAt.bump h.ixAt)

theorem State.Uncounted.setIxAddr (h : s.Uncounted) {k : Port} {a : Nat} : (s.setIxAddr k a).Uncounted := h.updPort

theorem State.Uncounted.ixReads (h : s.Uncounted) {k : Port} {n : Nat} {ws : List Word} : (s.ixReads k n ws).2.2.Uncounted := by
  induction n generalizing s ws with
  | zero => exact h
  | succ n ih =>
    have hx := h.ixAccess (k := k) (w := none) (c := true)
    unfold State.ixReads
    split
    case h_1 he => rw [he] at hx; exact ih hx
    case h_2 he => rw [he] at hx; exact hx

theorem State.Uncounted.ixWrites (h : s.Uncounted) {k : Port} {ws : List Word} : (s.ixWrites k ws).2.Uncounted := by
  induction ws generalizing s with
  | nil => exact h
  | cons w ws ih =>
    have hx := h.ixAccess (k := k) (w := some w) (c := true)
    unfold State.ixWrites
    split
    case h_1 he => rw [he] at hx; exact ih hx
    case h_2 he => rw [he] at hx; exact hx

theorem State.Uncounted.refresh (h : s.Uncounted) {a : Nat} : (s.refresh a).Uncounted := by
  unfold State.refresh
  split
  case isTrue ha =>
    obtain ⟨q, hq, -⟩ := (Option.any_eq_true ..).1 (Bool.and_eq_true_iff.1 ha).2
    exact h.checkerCount (inGroup_lt hq)
  · exact .ite h.senseAt (.ite h.runBanks.runLanes h)

theorem State.Uncounted.readReg (h : s.Uncounted) {k : Port} {a : Nat} {c : Bool} : (s.readReg k a c).2.2.Uncounted := by
  unfold State.readReg
  split
  · exact h
  · split
    · exact h.ixAccess
    · have hread : (if a = 0x0002_0004 then (s.refresh a).updTime fun t => { t with latch := fullTime t.now } else s.refresh a).Uncounted :=
        .ite h.refresh.updTime h.refresh
      exact .ite (hread.clearReg) hread

theorem State.Uncounted.readRegs (h : s.Uncounted) {k : Port} {a n : Nat} {ws : List Word} : (s.readRegs k a n ws).2.2.Uncounted := by
  induction n generalizing s a ws with
  | zero => exact h
  | succ n ih =>
    have hx := h.readReg (k := k) (a := a) (c := true)
    unfold State.readRegs
    split
    case h_1 he => rw [he] at hx; exact ih hx
    case h_2 he => rw [he] at hx; exact hx

theorem State.Uncounted.writeWm (h : s.Uncounted) {a v n : Nat} (ha : a ≠ 0x0008_0064 := by decide) : (s.writeWm a v n).2.Uncounted := by
  unfold State.writeWm
  exact .iteSnd (h.setReg ha).pair h

theorem State.Uncounted.writeDrCfg (h : s.Uncounted) {v : Nat} : (s.writeDrCfg v).2.Uncounted := by
  unfold State.writeDrCfg
  exact .iteSnd h h.setReg.pair

theorem State.Uncounted.followStop (h : s.Uncounted) : s.followStop.Uncounted := h.updCmdStop

theorem State.Uncounted.writeHostp (h : s.Uncounted) {o v : Nat} : (s.writeHostp o v).2.Uncounted := by
  unfold State.writeHostp
  exact .iteSnd (h.writeWm (a := 0x000B_0008)).followStop.pair
    (.iteSnd (h.writeWm (a := 0x000B_000C)).updDrdy.pair (.iteSnd h.writeDrCfg (.iteSnd (.iteSnd h.setReg.pair h) h)))

theorem State.Uncounted.writeLane (h : s.Uncounted) {o v : Nat} : (s.writeLane o v).2.Uncounted := by
  unfold State.writeLane
  split
  · exact h.retrain
  split
  case h_1 q hq =>
    dsimp only
    split
    · exact h.writeTestCtrl (inGroup_lt hq)
    split
    · exact h.writeInjGo
    split
    · exact h.writeEyeCtrl (inGroup_lt hq)
    · exact h
  · exact h

theorem State.Uncounted.writePod (h : s.Uncounted) {o v : Nat} : (s.writePod o v).2.Uncounted := by
  unfold State.writePod
  exact .iteSnd (.pair (h.foldl fun _ h _ _ => h.releaseQuar)) (.iteSnd h.writePodCmd h)

theorem State.Uncounted.writeHive (h : s.Uncounted) {o v : Nat} : (s.writeHive o v).2.Uncounted := by
  have harb : (if bit v 0 then s.arbCommit else (Reply.ok, s)).2.Uncounted := by
    split
    · exact h.arbCommit
    · exact h
  unfold State.writeHive
  revert harb
  generalize (if bit v 0 then s.arbCommit else (Reply.ok, s)) = x
  intro harb
  split
  · dsimp only
    split
    · exact harb
    · exact harb.egrCommit
  split
  · exact h.writeEccInj
  · exact h

theorem State.Uncounted.writeClk (h : s.Uncounted) {o v : Nat} {a : AvsAnswer} : (s.writeClk o v a).2.Uncounted := by
  unfold State.writeClk
  exact .iteSnd h.writeRefCfg (.iteSnd h.writePlanTgt (.iteSnd h.writeVlimit (.iteSnd h.writePlanCmd h)))

theorem State.Uncounted.lockReq (h : s.Uncounted) {k : Port} {v : Nat} : (s.lockReq k v).2.Uncounted := by
  unfold State.lockReq
  dsimp only
  split
  · exact h.lockTake.updPort
  · exact h.lockRelease.updPort

theorem State.Uncounted.writeLock (h : s.Uncounted) {k : Port} {o v : Nat} : (s.writeLock k o v).2.Uncounted := by
  unfold State.writeLock
  exact .iteSnd (.iteSnd h.setReg.pair h) (.iteSnd h.lockReq h)

theorem State.Uncounted.writeIx (h : s.Uncounted) {k : Port} {o : Nat} {v : Word} : (s.writeIx k o v).2.Uncounted := by
  unfold State.writeIx
  exact .iteSnd h.setIxAddr.pair (.iteSnd h.ixAccess h)

theorem State.Uncounted.writePlain (h : s.Uncounted) {k : Port} {a : Nat} {v : Word} {x : AvsAnswer} : (s.writePlain k a v x).2.Uncounted := by
  unfold State.writePlain
  dsimp only
  split
  case h_1 hm => exact h.setReg (by rintro rfl; exact Bool.false_ne_true (congrArg Option.isSome hm))
  split
  · split
    · exact h.writeTaCmd
    · exact h
  · exact h.writeClk
  · exact h.writeLane
  · exact h.writePod
  · exact h.writeHive
  · exact h.writeHostp
  · exact h.writeIx
  · exact h.writeLock
  · exact h

theorem State.Uncounted.guardFail (h : s.Uncounted) {k : Port} : (s.guardFail k).Uncounted := by
  unfold State.guardFail
  split
  · exact .bump (.raise h.updPort)
  · exact h

/-! ### Images -/

theorem State.Uncounted.opImg (h : s.Uncounted) {k : Packet} {f : Bool} : (s.opImg k f).2.Uncounted := by
  unfold State.opImg
  exact .iteSnd h (.iteSnd h (.iteSnd h ((.pair (.same h.hiveWrite)))))

theorem State.Uncounted.expand (h : s.Uncounted) {cs : List Section} {n : Nat} : (s.expand cs n).2.Uncounted := by
  induction cs generalizing s n with
  | nil => exact h
  | cons c cs ih =>
    unfold State.expand
    split
    · dsimp only
      split
      · exact h
      split
      · dsimp only
        exact h.nxError
      · split
        case h_1 he => exact .of_snd he (ih h.hiveWrite)
        case h_2 he => exact .of_snd he (ih h.hiveWrite)
    · split
      case h_1 he => exact .of_snd he (ih h)
      case h_2 he => exact .of_snd he (ih h)

theorem State.Uncounted.readImage (h : s.Uncounted) {n c : Nat} {f : Bool} : (s.readImage n c f).2.Uncounted := by
  unfold State.readImage
  split
  · exact h
  dsimp only
  split
  · exact h.hiveRead
  split
  · exact h.hiveRead
  split
  · exact h.hiveRead
  split
  · exact h.hiveRead
  · split
    case h_1 he => exact .of_snd he h.hiveRead.expand
    case h_2 he => exact .of_snd he h.hiveRead.expand

theorem State.Uncounted.commitOutcome (h : s.Uncounted) {r : Refuse} : (s.commitOutcome r).Uncounted := by
  unfold State.commitOutcome
  exact .ite h.same (.bump h.same)

theorem State.Uncounted.stageImage (h : s.Uncounted) {i : Image} {k : Port} : (s.stageImage i k).Uncounted := h.same

theorem State.Uncounted.bootPassed (h : s.Uncounted) {k : Port} : (s.bootPassed k).Uncounted := by
  unfold State.bootPassed
  exact .ite h.same h

theorem State.Uncounted.beginRebuild (h : s.Uncounted) {k : Packet} {i : Image} : (s.beginRebuild k i).Uncounted := by
  unfold State.beginRebuild
  exact .same h.stageImage.hiveRead

theorem State.Uncounted.startCommit (h : s.Uncounted) {k : Packet} {n c : Nat} {f : Bool} : (s.startCommit k n c f).2.Uncounted := by
  have h0 : ({ s with cfg := { s.cfg with stagedLen := 0 } } : State).Uncounted := h.same
  have hread := h0.readImage (n := n) (c := c) (f := f)
  unfold State.startCommit
  dsimp only
  split
  · exact h0.commitOutcome
  split
  · exact h0.commitOutcome
  split
  case h_1 he => rw [he] at hread; exact hread.commitOutcome
  case h_2 he =>
    rw [he] at hread
    split
    · exact hread.beginRebuild
    split
    · exact hread.commitOutcome
    · exact .commitOutcome (.ite hread.stageImage.bootPassed hread)

theorem State.Uncounted.opCommit (h : s.Uncounted) {k : Packet} {f : Bool} : (s.opCommit k f).2.Uncounted := by
  unfold State.opCommit
  dsimp only
  split
  · exact h
  split
  · exact h
  · exact h.startCommit

theorem State.Uncounted.writeCfgRef (h : s.Uncounted) {v : Word} : (s.writeCfgRef v).2.Uncounted := h.same
end

section
variable {s : State}

/-! ### The pair -/

theorem State.Uncounted.goStale (h : s.Uncounted) : s.goStale.Uncounted := by
  unfold State.goStale
  exact .ite h (.raise h.updPair)

theorem State.Uncounted.podsTakeOver (h : s.Uncounted) : s.podsTakeOver.Uncounted := by
  refine h.foldl fun s h l _ => ?_
  have hpod {f : PodLane → PodLane} : ((s.fresh Config.partnerDelay).2.updPod l f).Uncounted := .updPod h.same
  exact .ite hpod.send hpod

theorem State.Uncounted.takeOver (h : s.Uncounted) {c : Nat} : (s.takeOver c).Uncounted := by
  unfold State.takeOver
  extract_lets s1 s2 s3 s4 s5 s6 _ s7
  have h2 : s2.Uncounted := h.plSend.updPair
  have h3 : s3.Uncounted := h2.same
  have h4 : s4.Uncounted := h3.raise
  have h5 : s5.Uncounted := h4.bump
  have h6 : s6.Uncounted := .ite h5 (h5.setMode)
  clear_value s6
  have hsys : ({ s6 with sys := { s6.sys with surgeFrom := .takeover } } : State).Uncounted := h6.setSys
  have h7 : s7.Uncounted := .ite (hsys.setMode) h6
  exact h7.podsTakeOver

theorem State.Uncounted.giveUp (h : s.Uncounted) : s.giveUp.Uncounted := by
  have hoff {f : Pair → Pair} : ((s.updPair f).goStale.drivesOff).Uncounted := h.updPair.goStale.drivesOff
  unfold State.giveUp
  exact .ite (hoff.setMode) hoff

theorem State.Uncounted.declareFault (h : s.Uncounted) {c : Nat} : (s.declareFault c).Uncounted := by
  unfold State.declareFault
  exact .ite h (.plSend h.raise)

theorem State.Uncounted.mismatch (h : s.Uncounted) {a b c d : Nat} : (s.mismatch a b c d).Uncounted := by
  unfold State.mismatch
  refine .ite (.bump h.updPair) ?_
  extract_lets own other s1 s2 s3
  have h2 : s2.Uncounted := .raise h.updPair
  have h3 : s3.Uncounted := h2.bump
  exact .ite h3.takeOver h3

theorem State.Uncounted.compared (h : s.Uncounted) {a b c : Nat} {same : Bool} : (s.compared a b c same).Uncounted := by
  unfold State.compared
  extract_lets _ s1 s2
  have h2 : s2.Uncounted := .ite (.bump h.updPair) h.updPair
  exact .ite h2 h2.mismatch

theorem State.Uncounted.ownDigest (h : s.Uncounted) {e : DigestEntry} : (s.ownDigest e).Uncounted := by
  unfold State.ownDigest
  refine .ite h ?_
  split
  · exact h.updPair.compared
  · exact h.updPair

theorem State.Uncounted.takeDigests (h : s.Uncounted) : s.takeDigests.Uncounted := by
  have hdig : ({ s with host := s.host.digestAll } : State).Uncounted := h.same
  unfold State.takeDigests
  exact .ite h (.foldl hdig.same fun _ h _ _ => .ite h.plSend h.ownDigest)

theorem State.Uncounted.joinStream (h : s.Uncounted) {e : JoinEntry} : (s.joinStream e).Uncounted := by
  unfold State.joinStream
  split
  · exact h
  · exact .updNx (.updStream (.ite h.openStream h))

theorem State.Uncounted.joinAtBoundary (h : s.Uncounted) : s.joinAtBoundary.Uncounted := by
  unfold State.joinAtBoundary
  split
  · exact .ite h (.updPair (.foldl h fun _ h _ _ => h.joinStream))
  · exact h

theorem State.Uncounted.checkInStep (h : s.Uncounted) : s.checkInStep.Uncounted := by
  unfold State.checkInStep
  split
  · exact .ite (.raise h.updPair) h
  · exact h

theorem State.Uncounted.rejoin (h : s.Uncounted) : s.rejoin.Uncounted := h.updPair

theorem State.Uncounted.grantPrimary (h : s.Uncounted) {l : Lease} {b : Bool} : (s.grantPrimary l b).2.Uncounted := by
  unfold State.grantPrimary
  extract_lets q inForce given t
  have hgiven : t.Uncounted := h.updPair
  exact .iteSnd h (.iteSnd hgiven.pair (.iteSnd h (.iteSnd h hgiven.takeOver.pair)))

theorem State.Uncounted.grantSuccession (h : s.Uncounted) {l : Lease} : (s.grantSuccession l).2.Uncounted := by
  unfold State.grantSuccession
  extract_lets q inForce t
  exact .iteSnd h (.pair h.updPair)

theorem State.Uncounted.revokeLease (h : s.Uncounted) {n : Nat} {b : Bool} : (s.revokeLease n b).2.Uncounted := by
  unfold State.revokeLease
  dsimp only
  split
  · exact .ite h.updPair.giveUp h.updPair
  split
  · exact h.updPair
  · exact h

theorem State.Uncounted.ownLease (h : s.Uncounted) {k : Packet} : (s.ownLease k).2.Uncounted := by
  unfold State.ownLease
  exact .iteSnd h (.iteSnd h (.iteSnd h (.iteSnd h.grantPrimary (.iteSnd h.grantSuccession (.iteSnd h.revokeLease h)))))

theorem State.Uncounted.opLease (h : s.Uncounted) {k : Packet} : (s.opLease k).2.Uncounted := by
  unfold State.opLease
  split
  · exact h
  split
  · exact h.ownLease
  · exact h.updPair.plSend

theorem State.Uncounted.pairForce (h : s.Uncounted) {v : Nat} {b : Bool} : (s.pairForce v b).2.Uncounted := by
  unfold State.pairForce
  extract_lets no
  split
  · exact .iteSnd h.pair h
  · exact .iteSnd h.takeOver.pair h
  · exact .iteSnd h.pair h
  · exact .iteSnd h.rejoin.pair h
  · exact h.declareFault.pair
  · exact h

theorem State.Uncounted.noteChecks (h : s.Uncounted) {u : State} : (s.noteChecks u).Uncounted :=
  h.foldl fun _ h _ _ => .ite h.noteCheck h

theorem State.Uncounted.faultsFollow (h : s.Uncounted) {u : State} : (s.faultsFollow u).Uncounted := by
  unfold State.faultsFollow
  extract_lets _ _ s1
  have h1 : s1.Uncounted := .ite h.declareFault h
  exact .ite h1.declareFault h1

theorem State.Uncounted.pairFollow (h : s.Uncounted) {u : State} : (s.pairFollow u).Uncounted :=
  h.noteChecks.faultsFollow.joinAtBoundary.takeDigests.checkInStep

/-! ### Guarded writes and register commands -/

theorem State.Uncounted.writeReset (h : s.Uncounted) {v : Nat} : (s.writeReset v).2.Uncounted := by
  unfold State.writeReset
  exact .iteSnd h.same.pair (.iteSnd h.fieldDieReset h)

theorem State.Uncounted.otpProgram (h : s.Uncounted) {v : Nat} : (s.otpProgram v).2.Uncounted := by
  unfold State.otpProgram
  exact .iteSnd h (.iteSnd h (.iteSnd h h.setSys.pair))

theorem State.Uncounted.guardedAct (h : s.Uncounted) {k : Packet} {a : Nat} {v : Word} : (s.guardedAct k a v).2.Uncounted := by
  unfold State.guardedAct
  dsimp only
  split
  · exact h.requestMode
  · exact h.setExcEnable
  · exact h.writeReset
  · exact h.otpProgram
  · exact h.startCommit
  · exact h.writeCfgRef
  · split
    · exact h.acceptStep
    · exact h
  · exact h.pairForce
  · exact h

theorem State.Uncounted.guardedWrite (h : s.Uncounted) {k : Packet} {a : Nat} {v : Word} (ha : isGw a = true) :
    (s.guardedWrite k a v).2.Uncounted :=
  .ite (h.guardedAct.setReg (by rintro rfl; exact absurd ha (by decide))) h.guardedAct

theorem State.Uncounted.guardMiss (h : s.Uncounted) {k : Port} {a : Nat} : (s.guardMiss k a).Uncounted := .bump h.raise

theorem State.Uncounted.guardFirst (h : s.Uncounted) {k : Port} {a : Nat} {v : Word} : (s.guardFirst k a v).2.Uncounted := h.guardFail.updPort

theorem State.Uncounted.guardSecond (h : s.Uncounted) {k : Packet} {a : Nat} {v : Word} (ha : isGw a = true) :
    (s.guardSecond k a v).2.Uncounted := by
  unfold State.guardSecond
  split
  · split
    · exact h.updPort.guardedWrite ha
    · exact .iteSnd h.guardFail.pair h.guardFail.guardMiss.pair
  · exact h.guardMiss.pair

theorem State.Uncounted.opGwr (h : s.Uncounted) {k : Packet} : (s.opGwr k).2.Uncounted := by
  unfold State.opGwr
  dsimp only
  split
  · exact h
  split
  · exact h.guardFail
  case isFalse hg => exact h.guardFail.guardedWrite (by simp at hg; exact hg.1)

theorem State.Uncounted.writeReg (h : s.Uncounted) {k : Packet} {a : Nat} {v : Word} {x : AvsAnswer} : (s.writeReg k a v x).2.Uncounted := by
  unfold State.writeReg
  split
  · exact .ite h h.guardFail
  · exact h
  case h_3 ha _ =>
    split
    · exact h.guardFirst
    split
    case isTrue hg => exact h.guardSecond hg
    case isFalse => exact h.guardFail.writePlain

theorem State.Uncounted.writeRegs (h : s.Uncounted) {k : Packet} {x : AvsAnswer} {a : Nat} {ws : List Word} {b : Bool} :
    (s.writeRegs k x a ws b).2.Uncounted := by
  induction ws generalizing s a b with
  | nil => exact h
  | cons w ws ih =>
    unfold State.writeRegs
    split
    case h_1 he => exact ih (.of_snd he h.writeReg)
    case h_2 he => exact ih (.of_snd he h.writeReg)
    case h_3 he => exact .of_snd he h.writeReg

/-! ### Commands -/

theorem State.Uncounted.opRd (h : s.Uncounted) {k : Packet} : (s.opRd k).2.Uncounted := by
  unfold State.opRd
  split
  · exact h
  case h_2 n _ =>
    have hx := h.readRegs (k := k.port) (a := k.addr.toNat) (n := n) (ws := [])
    split
    case h_1 he => rw [he] at hx; exact hx
    case h_2 he => rw [he] at hx; exact hx

theorem State.Uncounted.opWr (h : s.Uncounted) {k : Packet} {x : AvsAnswer} : (s.opWr k x).2.Uncounted := by
  unfold State.opWr
  split
  · exact h
  · exact h.writeRegs

theorem State.Uncounted.opIxrd (h : s.Uncounted) {k : Packet} : (s.opIxrd k).2.Uncounted := by
  unfold State.opIxrd
  split
  · exact h
  case h_2 n _ =>
    have hx := (h.setIxAddr (k := k.port) (a := k.addr.toNat)).ixReads (k := k.port) (n := n) (ws := [])
    split
    · exact h
    split
    case h_1 he => rw [he] at hx; exact hx
    case h_2 he => rw [he] at hx; exact hx

theorem State.Uncounted.opIxwr (h : s.Uncounted) {k : Packet} : (s.opIxwr k).2.Uncounted := by
  unfold State.opIxwr
  dsimp only
  split
  · exact h.guardFail
  split
  · exact h.guardFail
  · exact h.guardFail.setIxAddr.ixWrites

theorem State.Uncounted.opLock (h : s.Uncounted) {k : Packet} : (s.opLock k).2.Uncounted := by
  unfold State.opLock
  split
  · exact h
  · exact h.lockTake

theorem State.Uncounted.opUnlock (h : s.Uncounted) {k : Packet} : (s.opUnlock k).2.Uncounted := by
  unfold State.opUnlock
  split
  · exact h
  · exact h.lockRelease

theorem State.Uncounted.opTime (h : s.Uncounted) {k : Packet} : (s.opTime k).2.Uncounted := by
  unfold State.opTime
  extract_lets op n
  exact .iteSnd h (.iteSnd h (.iteSnd h (.iteSnd h.timeSet h.timeTod)))

theorem State.Uncounted.opArm (h : s.Uncounted) {k : Packet} : (s.opArm k).2.Uncounted := by
  unfold State.opArm
  extract_lets set timed t s1
  have h1 : s1.Uncounted := h.swarmArmOut
  exact .iteSnd h (.iteSnd h (.iteSnd h (.iteSnd (.iteSnd h h1) h.armSet)))

theorem State.Uncounted.opFire (h : s.Uncounted) {k : Packet} : (s.opFire k).2.Uncounted := by
  unfold State.opFire
  split
  · exact h
  split
  · exact h
  · exact h.hostFire

theorem State.Uncounted.opStreamOpen (h : s.Uncounted) {k : Packet} : (s.opStreamOpen k).2.Uncounted := by
  unfold State.opStreamOpen
  dsimp only
  split
  · exact h
  split
  · exact h
  · exact h.nectarOpen.openStream

theorem State.Uncounted.flushStream (h : s.Uncounted) {r : Route} : (s.flushStream r).Uncounted := by
  unfold State.flushStream
  exact .ite h (.closeBlock (.foldl h fun _ h _ _ => h.nectarRecordIn))

theorem State.Uncounted.flushClosing (h : s.Uncounted) : s.flushClosing.Uncounted := h.foldl fun _ h _ _ => .ite h.flushStream h

theorem State.Uncounted.opStreamClose (h : s.Uncounted) {k : Packet} : (s.opStreamClose k).2.Uncounted := by
  unfold State.opStreamClose
  dsimp only
  split
  · exact h
  split
  · exact h
  split
  · exact .ite h.updStream.endOpening h.updStream
  split <;> exact h

theorem State.Uncounted.relayAck (h : s.Uncounted) {es : List (Nat × Nat)} : (s.relayAck es).Uncounted := by
  unfold State.relayAck
  exact .ite h.plSend h

theorem State.Uncounted.portRewind (h : s.Uncounted) {k : Port} : (s.portRewind k).Uncounted := by
  unfold State.portRewind
  exact .ite h.rewindDrip (.ite h.rewindHost h)

theorem State.Uncounted.opAck (h : s.Uncounted) {k : Packet} : (s.opAck k).2.Uncounted := by
  unfold State.opAck
  dsimp only
  split
  · exact h
  · exact .ite h.ackAll.relayAck.portRewind h.ackAll.relayAck

theorem State.Uncounted.portReset (h : s.Uncounted) {k : Port} : (s.portReset k).Uncounted :=
  .portRewind (.releaseLocks h.same)

theorem State.Uncounted.opUnitReset (h : s.Uncounted) {k : Packet} : (s.opUnitReset k).2.Uncounted := by
  have hpods : s.podLanes ≤ 24 := by unfold State.podLanes; split <;> omega
  unfold State.opUnitReset
  dsimp only
  split
  · split
    · exact h
    · exact h.retrain
  · split
    · exact h
    · exact h.drainLane (by omega)
  · split
    · exact h
    · exact h.disarm
  · exact h.portReset.updPort
  · exact h

theorem State.Uncounted.applyPacket (h : s.Uncounted) {k : Packet} {x : AvsAnswer} : (s.applyPacket k x).2.Uncounted := by
  unfold State.applyPacket
  split
  · exact h.opRd
  · exact h.opWr
  · exact h.opIxrd
  · exact h.opIxwr
  · exact h.opGwr
  · exact h.opRdb
  · exact h.opWrb
  · exact h.opImg
  · exact h.opCommit
  · exact h.opLock
  · exact h.opUnlock
  · exact h.opSpot
  · exact h.opCal
  · exact h.opArm
  · exact h.opFire
  · exact h.opTime
  · exact h.opLease
  · exact h.opStreamOpen
  · exact h.opStreamClose
  · exact h.opAck
  · exact h.opUnitReset
  · exact h

/-! ### Ports -/

theorem State.Uncounted.answer (h : s.Uncounted) {k : Packet} {r : Reply} : (s.answer k r).Uncounted := by
  cases r with
  | done st body => exact h.complete
  | later => exact h

theorem State.Uncounted.applyNow (h : s.Uncounted) {k : Packet} {x : AvsAnswer} : (s.applyNow k x).Uncounted := h.applyPacket.answer

theorem State.Uncounted.forward (h : s.Uncounted) {k : Packet} {n : Nat} {b : Bool} : (s.forward k n b).Uncounted := h.updPair.plSend

theorem State.Uncounted.serveAt (h : s.Uncounted) {k : Packet} : (s.serveAt k).Uncounted := by
  unfold State.serveAt
  exact .ite h.complete (.ite h.answer (.ite h.forward h.updPair))

theorem State.Uncounted.serve (h : s.Uncounted) {k : Packet} {x : AvsAnswer} : (s.serve k x).Uncounted := by
  unfold State.serve
  exact .ite h.complete (.ite (.ite h.serveAt h.complete) (.ite h.serveAt (.ite h.forward h.applyNow)))

theorem State.Uncounted.start (h : s.Uncounted) {k : Packet} {x : AvsAnswer} : (s.start k x).Uncounted := by
  unfold State.start
  exact .ite (.ite h.relayBytes h.answer) h.serve

theorem State.Uncounted.accept (h : s.Uncounted) {k : Packet} {x : AvsAnswer} : (s.accept k x).Uncounted := by
  unfold State.accept
  exact .ite h.bump (.ite h.same h.updPort.start)

theorem State.Uncounted.setPorts (h : s.Uncounted) {x : Ports} : ({ s with ports := x } : State).Uncounted := h.same

theorem State.Uncounted.drainInbound {x : AvsAnswer} {n : Nat} (h : s.Uncounted) : (State.drainInbound x n s).Uncounted := by
  induction n generalizing s with
  | zero => exact h
  | succ n ih =>
    unfold State.drainInbound
    split
    · exact ih h.setPorts.start
    · exact h

theorem State.Uncounted.serveInbound (h : s.Uncounted) : s.serveInbound.Uncounted := by
  unfold State.serveInbound
  exact .ite h (.drainInbound h.same)

theorem State.Uncounted.takeHeld {x : AvsAnswer} {n : Nat} (h : s.Uncounted) : (State.takeHeld x n s).Uncounted := by
  induction n generalizing s with
  | zero => exact h
  | succ n ih =>
    unfold State.takeHeld
    split
    · exact ih h.setPorts.accept
    · exact h.setPorts

theorem State.Uncounted.inOrder (h : s.Uncounted) {k : Packet} {x : AvsAnswer} : (s.inOrder k x).Uncounted := by
  unfold State.inOrder
  exact .ite h.setPorts.accept.takeHeld (.ite h.setPorts h.bump)

theorem State.Uncounted.receive {k : Packet} (h : s.Uncounted) {x : AvsAnswer} : (State.receive k s x).Uncounted := by
  unfold State.receive
  exact .ite h (.ite h.bump (.ite h.bump (.ite h.inOrder (.ite h h.accept))))

theorem State.Uncounted.take {k : Packet} (h : s.Uncounted) : (State.take k s).Uncounted := .receive h.same

theorem State.Uncounted.followForward (h : s.Uncounted) : s.followForward.Uncounted := by
  unfold State.followForward
  refine .ite h ?_
  split
  · exact .ite h.updTport.forward h.updTport.acceptStep
  · exact h

theorem State.Uncounted.throughIn (h : s.Uncounted) {bs : List Byte} : (s.throughIn bs).Uncounted := by
  have hput {t : State} (ht : t.Uncounted) : (t.putHost (throughPkt bs)).Uncounted := ht.putHost
  unfold State.throughIn
  dsimp only
  split
  · split
    · exact hput h
    · split
      · exact h.same
      · exact h.same
      · exact hput h.updPort
  · exact hput h

theorem State.Uncounted.relayPacket (h : s.Uncounted) {bs : List Byte} : (s.relayPacket bs).Uncounted := by
  unfold State.relayPacket
  refine .ite h.throughIn ?_
  split
  · exact h.take
  · exact h.bump

theorem State.Uncounted.relayMine (h : s.Uncounted) {a b c : Nat} {bs : List Byte} : (s.relayMine a b c bs).Uncounted := by
  unfold State.relayMine
  refine .ite h.rewindHost ?_
  dsimp only
  split
  · split
    · exact h.updTime.relayNak.relayPacket
    · exact h.updTime.relayPacket
  · split
    · exact h.updTime.relayNak
    · exact h.updTime

theorem State.Uncounted.relayIn (h : s.Uncounted) {l : Nat} {m : List Byte} : (s.relayIn l m).Uncounted :=
  h.trunkOnly fun _ _ h => .ite h (.ite h.relayMine h.sendFragment)

theorem State.Uncounted.unknownMessage (h : s.Uncounted) {l : Nat} : (s.unknownMessage l).Uncounted := by
  unfold State.unknownMessage
  split
  case isTrue hl => exact .ite (h.podError hl (by decide)) h
  case isFalse =>
    split
    case isTrue hl =>
      simp only [Bool.and_eq_true, decide_eq_true_eq] at hl
      exact h.bump (tpReg_ne (by omega))
    case isFalse => exact h

/-! ### What follows from a command -/

theorem State.Uncounted.loopIn (h : s.Uncounted) {x : Sent} : (s.loopIn x).Uncounted := by
  unfold State.loopIn
  refine .ite h.unknownMessage (.ite ?_ ?_)
  · split
    · exact h.take
    · exact h
  · split
    · exact h.tsync
    · exact h.tdreq
    · exact h.tdresp
    · exact h.announceIn
    · exact h.tcapsIn
    · exact h.tcapsAckIn
    · exact h.swarmArmIn
    · exact h.armResultIn
    · exact h.swarmFireIn
    · exact h.foreignIn
    · exact h.fmapIn
    · exact h.relayIn
    · exact h

theorem State.Uncounted.takeLooped {n : Nat} (h : s.Uncounted) : (State.takeLooped n s).Uncounted := by
  induction n generalizing s with
  | zero => exact h
  | succ n ih =>
    unfold State.takeLooped
    exact .ite h (ih (.foldl h.same fun _ h _ _ => h.loopIn))

theorem State.Uncounted.flushExports (h : s.Uncounted) : s.flushExports.Uncounted :=
  .updTime (.foldl h fun _ h _ _ => h.sendTrunk)

/-- What follows from a command sends no such event. -/
theorem State.Uncounted.finish (h : s.Uncounted) {u : State} : (s.finish u).Uncounted := by
  unfold State.finish
  refine .ite h ?_
  have hfirst := (h.takeLooped (n := 8)).followLanes.clockFollow (u := u) |>.followTime
  exact hfirst.followSuspect.followForward.serveInbound.flushClosing.poolsRelease.poolsStarve.flushExports.flushLanes.settle.updDrdy.followStop
    |>.pairFollow
end

/-! ### A lane whose count of drainings lies at the register -/

/-- A unit's words in a region of one word, wherever they begin there (log entry 122). -/
theorem Region.wordsOf_of_size_le {r : Region} (h : r.size ≤ 8) (n len : Nat) :
    r.wordsOf n len = List.replicate ((n % 8 + len + 7) / 8) r.base := by
  have hmax : max 8 r.size = 8 := max_eq_left h
  unfold Region.wordsOf
  rw [List.eq_replicate_iff, hmax]
  refine ⟨by simp, fun w hw => ?_⟩
  obtain ⟨i, -, rfl⟩ := List.mem_map.1 hw
  omega

/-- The words of a range of a region, in a form that evaluates where the region is of one word. -/
def Region.knownWordsOf (r : Region) (n len : Nat) : List Nat :=
  if r.size ≤ 8 then List.replicate ((n % 8 + len + 7) / 8) r.base else r.wordsOf n len

theorem Region.wordsOf_eq_knownWordsOf : @Region.wordsOf = @Region.knownWordsOf := by
  funext r n len
  unfold Region.knownWordsOf
  split
  case isTrue h => exact r.wordsOf_of_size_le h n len
  case isFalse => rfl

/-- A lane whose count of drainings is `HIVE_ECC_INJ`. -/
def farLane : Nat := 1534

theorem podReg_farLane : podReg farLane 0x64 = 0x0008_0064 := rfl

/-- A frame's output that a chain still holds. -/
def heldOut : ChainOut := { tapB := false, centre := 0, samp := { miss := true }, settling := false, decim := 1 }

/-- The lane has missed as many frames as it may, and its first chain holds an output. A trigger engine that records that chain keeps its ring in
a region of one word, and an error is armed for that word. -/
def drainBrink : State :=
  { Tests.base with
    cfg := { body := [(6, List.replicate 800 0 ++ [1, 0] ++ toLE 2 1 ++ toLE 2 (32 * farLane)),
      (9, [0, 2, 0, 0, 0, 0, 0, 0] ++ toLE 4 0 ++ toLE 4 8)] }
    pods := [(farLane, { running := true, missRun := 4 })]
    chains := [(32 * farLane, { insts := [{ cfg := [], first := 0, stopAt := some 0, held := [heldOut] }] })]
    hive := { inject := some (0, 1) }
    regs := [(0x0008_0064, 0xFFFF_FFFF)] }

/-- What `exec` answers as the lag expires: the ring's word is struck, which clears bit 28, before the draining counts. -/
theorem exec_drainBrink :
    (match exec (.ingestLagExpiry 0 farLane) drainBrink with | .next s => s.reg 0x0008_0064 == 0xF000_0000#32 | _ => false) = true := by
  rw [exec_ingestLagExpiry]
  unfold State.lagDeadline State.lagTick State.takeTick State.drainChains State.chainOuts State.tapA State.ringWord State.unitWrite
  rw [Region.wordsOf_eq_knownWordsOf]
  decide +kernel

/-- Refutes O24: of a lane with a number no hub has, the count of drainings is `HIVE_ECC_INJ`. The stores of what its chains still hold clear
bit 28 of it before the draining counts, so that a count that stands at its end does not stay there; and nothing that follows gives the register
the value it has then. -/
theorem not_podMessagesComplete : ¬ Obligations.PodMessagesComplete := by
  unfold Obligations.PodMessagesComplete
  intro h
  obtain ⟨-, -, -, -, -, -, hmissing, -⟩ := h drainBrink _ 0 farLane [] rfl (by decide +kernel)
  obtain ⟨v, hexec, -, hdrain, -⟩ := hmissing (by decide +kernel) (by decide +kernel) (by decide +kernel)
  obtain ⟨-, -, -, hreg⟩ := hdrain (by decide +kernel)
  have hv : v.Uncounted := by
    unfold State.Uncounted
    rw [← podReg_farLane, hreg]
    decide +kernel
  have hend := exec_drainBrink
  rw [hexec] at hend
  exact hv.finish (eq_of_beq hend)

end Sys2Proof.Machine

/-! SUPPORT. Serial lanes: the addresses of their block (R211), what an operation on one lane leaves of the rest, and the states
that a lane enters (R188 to R190). -/

namespace Sys2Proof.Machine

/-! ## Addresses of the block -/

theorem laneReg_inj {l o o' : Nat} (h : o ≠ o') : laneReg l o ≠ laneReg l o' := by
  unfold laneReg
  omega

theorem laneReg_ne_evtDrop (l : Nat) {o : Nat} (h : o < 0x50) : laneReg l o ≠ aEvtDrop := by
  unfold laneReg aEvtDrop
  omega

theorem laneReg_ne_evtLost (l : Nat) {o : Nat} (h : o < 0x50) : laneReg l o ≠ aEvtLost := by
  unfold laneReg aEvtLost
  omega

/-! ## Counters of the block (R543) -/

theorem State.raise_laneReg (s : State) (c u : Nat) (x : List Word) (l : Nat) {o : Nat} (h : o < 0x50) :
    (s.raise c u x).reg (laneReg l o) = s.reg (laneReg l o) :=
  State.raise_reg c u x (laneReg_ne_evtDrop l h) (laneReg_ne_evtLost l h)

theorem State.bump_laneReg (s : State) (l : Nat) {o : Nat} (h : o < 0x50) :
    (s.bump (laneReg l o)).reg (laneReg l o)
      = if s.reg (laneReg l o) = 0xFFFF_FFFF then 0xFFFF_FFFF else s.reg (laneReg l o) + 1 := by
  rw [State.bump_reg (laneReg_ne_evtDrop l h) (laneReg_ne_evtLost l h)]
  split <;> simp_all

theorem State.bump_laneReg_ne (s : State) {a l o : Nat} (h : o < 0x50) (ha : laneReg l o ≠ a) :
    (s.bump a).reg (laneReg l o) = s.reg (laneReg l o) :=
  State.bump_reg_ne ha (laneReg_ne_evtDrop l h) (laneReg_ne_evtLost l h)

theorem State.bumpBy_laneReg_ne (s : State) {a l o : Nat} (n : Nat) (h : o < 0x50) (ha : laneReg l o ≠ a) :
    (s.bumpBy a n).reg (laneReg l o) = s.reg (laneReg l o) := by
  unfold State.bumpBy
  dsimp only
  split
  · rw [State.raise_laneReg _ _ _ _ _ h, State.reg_setReg, if_neg ha]
  · rw [State.reg_setReg, if_neg ha]

/-- A counter that advances by a number stops at its end. -/
theorem State.bumpBy_laneReg (s : State) (l n : Nat) {o : Nat} (h : o < 0x50) :
    (s.bumpBy (laneReg l o) n).regN (laneReg l o) = min 0xFFFF_FFFF (s.regN (laneReg l o) + n) := by
  have hset : ∀ v, v ≤ 0xFFFF_FFFF → ((s.setReg (laneReg l o) (BitVec.ofNat 32 v)).reg (laneReg l o)).toNat = v := fun v hv => by
    rw [State.reg_setReg_self, ofNat32_toNat (by omega)]
  unfold State.bumpBy State.regN
  dsimp only
  split
  · rw [State.raise_laneReg _ _ _ _ _ h, hset _ (Nat.min_le_left ..)]
  · exact hset _ (Nat.min_le_left ..)

@[simp] theorem State.updLane_reg (s : State) (l : Nat) (f : Lane → Lane) (a : Nat) : (s.updLane l f).reg a = s.reg a := rfl

@[simp] theorem State.updLane_regN (s : State) (l : Nat) (f : Lane → Lane) (a : Nat) : (s.updLane l f).regN a = s.regN a := rfl

@[simp] theorem State.enterLane_reg (s : State) (l st a : Nat) : (s.enterLane l st).reg a = s.reg a := rfl

/-! ## What an operation on one lane leaves -/

/-- Every other lane, Hive, the cycle and the mode are as before. -/
structure State.OnlyLane (s v : State) (l : Nat) : Prop where
  others : ∀ j, j ≠ l → v.lane j = s.lane j
  hive : v.hive = s.hive
  cyc : v.time.cyc = s.time.cyc
  sys : v.sys = s.sys

theorem State.lane_of_lanes {s t : State} (h : t.lanes = s.lanes) (j : Nat) : t.lane j = s.lane j := by
  unfold State.lane
  rw [h]

/-- A lane changed as a command's time has passed leaves every other as before it. -/
theorem State.elapse_updLane_others (s : State) (t l : Nat) (f : Lane → Lane) :
    ∀ j, j ≠ l → ((s.elapse t).updLane l f).lane j = s.lane j := fun _ hj => State.updLane_ne _ f hj

namespace State.OnlyLane

variable {s v w : State} {l : Nat}

theorem refl (s : State) (l : Nat) : s.OnlyLane s l := ⟨fun _ _ => rfl, rfl, rfl, rfl⟩

theorem trans (h : s.OnlyLane v l) (h' : v.OnlyLane w l) : s.OnlyLane w l :=
  ⟨fun j hj => (h'.others j hj).trans (h.others j hj), h'.hive.trans h.hive, h'.cyc.trans h.cyc, h'.sys.trans h.sys⟩

theorem of_lanes (hl : v.lanes = s.lanes) (hh : v.hive = s.hive) (ht : v.time = s.time) (hs : v.sys = s.sys) : s.OnlyLane v l :=
  ⟨fun j _ => State.lane_of_lanes hl j, hh, congrArg Time.cyc ht, hs⟩

theorem updLane (h : s.OnlyLane v l) (f : Lane → Lane) : s.OnlyLane (v.updLane l f) l :=
  h.trans ⟨fun _ hj => State.updLane_ne _ f hj, rfl, rfl, rfl⟩

theorem raise (h : s.OnlyLane v l) (c u : Nat) (x : List Word) : s.OnlyLane (v.raise c u x) l :=
  h.trans (.of_lanes (State.raise_lanes ..) (State.raise_hive ..) (State.raise_time ..) (State.raise_sys ..))

theorem bump (h : s.OnlyLane v l) (a : Nat) : s.OnlyLane (v.bump a) l :=
  h.trans (.of_lanes (State.bump_lanes ..) (State.bump_hive ..) (State.bump_time ..) (State.bump_sys ..))

theorem bumpBy (h : s.OnlyLane v l) (a n : Nat) : s.OnlyLane (v.bumpBy a n) l :=
  h.trans (.of_lanes (State.bumpBy_lanes ..) (State.bumpBy_hive ..) (State.bumpBy_time ..) (State.bumpBy_sys ..))

theorem podDown (h : s.OnlyLane v l) (p : Nat) : s.OnlyLane (v.podDown p) l := h.trans (.of_lanes rfl rfl rfl rfl)

theorem ite {c : Prop} [Decidable c] (hv : s.OnlyLane v l) (hw : s.OnlyLane w l) : s.OnlyLane (if c then v else w) l := by
  split
  · exact hv
  · exact hw

end State.OnlyLane

/-! ## States entered (R188 to R190) -/

theorem State.enterLane_self (s : State) (l st : Nat) : (s.enterLane l st).lane l =
    { s.lane l with
      st := st, entered := s.time.cyc, cleanFrom := s.time.cyc, huntFrom := if st = 4 then s.time.cyc else (s.lane l).huntFrom
      tries := if (s.lane l).st = 7 then [] else (s.lane l).tries } :=
  State.updLane_self ..

/-- Outside `CAPS`, entering `DETECT` changes the lane alone; a pod lane in `CAPS` leaves it (R175). -/
theorem State.enterDetect_eq (s : State) (l : Nat) : s.enterDetect l =
    (if l < 24 && (s.lane l).st = 5 then s.podDown l else s).updLane l fun x =>
      { x with st := 1, entered := s.time.cyc, medium := s.laneFlag l 1, preset := s.lanePreset l, search := s.laneSearch l
               farPreset := s.laneFar l, rxReady := false, locked := false, scan := none
               tries := if x.st = 7 then [] else x.tries } := by
  unfold State.enterDetect
  split <;> rfl

theorem State.enterDetect_self (s : State) (l : Nat) : (s.enterDetect l).lane l =
    { s.lane l with
      st := 1, entered := s.time.cyc, medium := s.laneFlag l 1, preset := s.lanePreset l, search := s.laneSearch l
      farPreset := s.laneFar l, rxReady := false, locked := false, scan := none
      tries := if (s.lane l).st = 7 then [] else (s.lane l).tries } := by
  rw [State.enterDetect_eq, State.updLane_self]
  split <;> rfl

theorem State.enterDetect_regs (s : State) (l : Nat) : (s.enterDetect l).regs = s.regs := by
  rw [State.enterDetect_eq]
  split <;> rfl

namespace State.OnlyLane

variable {s v : State} {l : Nat}

theorem enterLane (h : s.OnlyLane v l) (n : Nat) : s.OnlyLane (v.enterLane l n) l := h.updLane _

theorem enterTrain (h : s.OnlyLane v l) : s.OnlyLane (v.enterTrain l) l := h.updLane _

theorem enterDetect (h : s.OnlyLane v l) : s.OnlyLane (v.enterDetect l) l := by
  rw [State.enterDetect_eq]
  exact (ite (h.podDown l) h).updLane _

end State.OnlyLane

/-! ## Failures (R190) -/

/-- A failure counted and recorded, before the lane goes on. -/
def State.failNoted (s : State) (l code : Nat) : State :=
  let v := (s.bump (laneReg l 0x3C)).updLane l fun x =>
    { x with lastCode := code, tries := Tab.upd (fun _ => 0) x.tries (s.lane l).st (· + 1) }
  if l < 24 && (s.lane l).st = 5 then v.podDown l else v

theorem State.laneFail_eq (s : State) (l code : Nat) : s.laneFail l code =
    let v := s.failNoted l code
    if (s.lane l).st != 1 && 3 ≤ Tab.get (fun _ => 0) (v.lane l).tries (s.lane l).st then (v.enterLane l 7).raise 0x0401 l
    else if afterFailure (s.lane l).st = 1 then v.enterDetect l
    else if afterFailure (s.lane l).st = 2 then v.enterTrain l
    else (v.enterLane l 3).updLane l fun x => { x with locked := false } := rfl

theorem State.failNoted_self (s : State) (l code : Nat) : (s.failNoted l code).lane l =
    { s.lane l with lastCode := code, tries := Tab.upd (fun _ => 0) (s.lane l).tries (s.lane l).st (· + 1) } := by
  have hnoted := State.updLane_self (s.bump (laneReg l 0x3C)) l fun x =>
    { x with lastCode := code, tries := Tab.upd (fun _ => 0) x.tries (s.lane l).st (· + 1) }
  rw [State.lane_of_lanes (State.bump_lanes s (laneReg l 0x3C)) l] at hnoted
  unfold State.failNoted
  dsimp only
  split <;> exact hnoted

theorem State.failNoted_onlyLane (s : State) (l code : Nat) : s.OnlyLane (s.failNoted l code) l :=
  have h := ((State.OnlyLane.refl s l).bump (laneReg l 0x3C)).updLane fun x =>
    { x with lastCode := code, tries := Tab.upd (fun _ => 0) x.tries (s.lane l).st (· + 1) }
  .ite (h.podDown l) h

theorem State.failNoted_counts (s : State) (l code : Nat) : (s.failNoted l code).reg (laneReg l 0x3C)
    = if s.reg (laneReg l 0x3C) = 0xFFFF_FFFF then 0xFFFF_FFFF else s.reg (laneReg l 0x3C) + 1 := by
  rw [← State.bump_laneReg s l (by decide)]
  unfold State.failNoted
  dsimp only
  split <;> rfl

theorem afterFailure_cases (st : Nat) : afterFailure st = 1 ∨ afterFailure st = 2 ∨ afterFailure st = 3 := by
  unfold afterFailure
  split
  · exact .inr (.inl rfl)
  · split
    · exact .inr (.inr rfl)
    · exact .inl rfl

/-- A failure leads to `BACKOFF` after two before it in the same state, but for `DETECT`, and else to the state that the failed
one follows. -/
theorem State.laneFail_self (s : State) (l code : Nat) : ((s.laneFail l code).lane l).lastCode = code ∧
    ((s.laneFail l code).lane l).st = if (s.lane l).st ≠ 1 ∧ 2 ≤ Tab.get (fun _ => 0) (s.lane l).tries (s.lane l).st then 7
      else afterFailure (s.lane l).st := by
  have hgives : ((s.lane l).st != 1
      && decide (3 ≤ Tab.get (fun _ => 0) ((s.failNoted l code).lane l).tries (s.lane l).st)) = true
        ↔ (s.lane l).st ≠ 1 ∧ 2 ≤ Tab.get (fun _ => 0) (s.lane l).tries (s.lane l).st := by
    simp [State.failNoted_self]
  have hcode := congrArg Lane.lastCode (s.failNoted_self l code)
  rw [State.laneFail_eq]
  dsimp only
  split
  · next h =>
    rw [if_pos (hgives.1 h), State.lane_of_lanes (State.raise_lanes ..), State.enterLane_self]
    exact ⟨hcode, rfl⟩
  · next h =>
    rw [if_neg (mt hgives.2 h)]
    rcases afterFailure_cases (s.lane l).st with ha | ha | ha
    · rw [if_pos ha, State.enterDetect_self]
      exact ⟨hcode, ha.symm⟩
    · rw [if_neg (by omega), if_pos ha, State.enterTrain, State.updLane_self]
      exact ⟨hcode, ha.symm⟩
    · rw [if_neg (by omega), if_neg (by omega), State.updLane_self, State.enterLane_self]
      exact ⟨hcode, ha.symm⟩

theorem State.laneFail_onlyLane (s : State) (l code : Nat) : s.OnlyLane (s.laneFail l code) l := by
  rw [State.laneFail_eq]
  have h := s.failNoted_onlyLane l code
  exact .ite ((h.enterLane 7).raise ..) (.ite h.enterDetect (.ite h.enterTrain ((h.enterLane 3).updLane _)))

theorem State.laneFail_counts (s : State) (l code : Nat) : (s.laneFail l code).reg (laneReg l 0x3C)
    = if s.reg (laneReg l 0x3C) = 0xFFFF_FFFF then 0xFFFF_FFFF else s.reg (laneReg l 0x3C) + 1 := by
  have hreg : ∀ {v w : State}, v.regs = w.regs → v.reg (laneReg l 0x3C) = w.reg (laneReg l 0x3C) := fun h => by
    unfold State.reg
    rw [h]
  rw [← s.failNoted_counts l code, State.laneFail_eq]
  dsimp only
  split
  · exact State.raise_laneReg _ _ _ _ l (by decide)
  · split
    · exact hreg (State.enterDetect_regs ..)
    · split <;> rfl

end Sys2Proof.Machine

/-! Bring-up of a lane (R189 to R197, R200). -/

namespace Sys2Proof.Machine

/-! ## Events of a state -/

/-- What the detection saw is noted on the lane. -/
def State.lineNoted (s : State) (l : Nat) (term energy : Bool) : State :=
  s.updLane l fun x => { x with termSeen := term, energy := energy }

/-- A lane in `DETECT` goes on to `TRAIN` with energy or, where it may answer, with a terminated line (R191). -/
theorem State.laneDetected_of_detect {s : State} {l : Nat} (term energy : Bool) (h : (s.lane l).st = 1) :
    s.laneDetected l term energy
      = if energy || (term && !s.silent l) then (s.lineNoted l term energy).enterTrain l else s.lineNoted l term energy := by
  unfold State.laneDetected
  rw [if_neg (by simp [h])]
  rfl

theorem State.laneDetected_parts {s : State} {l : Nat} (term energy : Bool) (h : (s.lane l).st = 1) :
    ((s.laneDetected l term energy).lane l).st = (if energy || (term && !s.silent l) then 2 else 1)
    ∧ ((s.laneDetected l term energy).lane l).termSeen = term ∧ ((s.laneDetected l term energy).lane l).energy = energy
    ∧ (∀ j, j ≠ l → (s.laneDetected l term energy).lane j = s.lane j) ∧ (s.laneDetected l term energy).pods = s.pods
    ∧ (s.laneDetected l term energy).regs = s.regs := by
  have hnoted : (s.lineNoted l term energy).lane l = { s.lane l with termSeen := term, energy := energy } := State.updLane_self ..
  have hne : ∀ j, j ≠ l → (s.lineNoted l term energy).lane j = s.lane j := fun j hj => State.updLane_ne _ _ hj
  rw [State.laneDetected_of_detect term energy h]
  split
  · rw [State.enterTrain, State.updLane_self, hnoted]
    exact ⟨rfl, rfl, rfl, fun j hj => (State.updLane_ne _ _ hj).trans (hne j hj), rfl, rfl⟩
  · rw [hnoted]
    exact ⟨h, rfl, rfl, hne, rfl, rfl⟩

/-- A training block for the lane's class takes it no further, but asks for a preset and may confirm (R193). -/
theorem State.trainingBlock_of_class {s : State} {l w : Nat} (h : (s.lane l).st = 2) (hv : tcwValid w = true)
    (hc : bits w 9 2 = laneClass l) :
    s.trainingBlock l w = s.updLane l fun x =>
      { x.confirm s.time.cyc (bit w 8) with
        tcwAt := s.time.cyc, txPreset := if w % 16 ≤ 10 then w % 16 else x.txPreset } := by
  simp [State.trainingBlock, h, hv, hc]

theorem Lane.confirm_st (x : Lane) (now : Nat) (good : Bool) : (x.confirm now good).st = x.st := by
  unfold Lane.confirm
  split
  · rfl
  · split <;> rfl

theorem Lane.confirm_of_ready {x : Lane} {c : Nat} (now : Nat) (good : Bool) (h : x.readyAt = some c) : x.confirm now good = x := by
  simp [Lane.confirm, h]

/-- A block confirms where it is ready and this end is; the eighth in a row begins the last 16 blocks. -/
theorem Lane.confirm_of_not_ready {x : Lane} (now : Nat) (good : Bool) (h : x.readyAt = none) :
    (x.confirm now good).confirms = (if good && x.rxReady then x.confirms + 1 else 0) ∧
    (x.confirm now good).readyAt = (if good && x.rxReady && decide (7 ≤ x.confirms) then some now else none) := by
  unfold Lane.confirm
  rw [if_neg (by simp [h]), ← Bool.not_and]
  generalize (good && x.rxReady) = b
  cases b <;> simp [h]

theorem State.presetStep_due {s : State} {l : Nat} (o : Nat) (h : (s.lane l).st = 2) (hs : (s.lane l).searching = true)
    (ht : (s.lane l).entered + ((s.lane l).rxPreset + 1) * 1000 * cycPerUs ≤ s.time.cyc) :
    s.presetStep l o = s.updLane l fun x =>
      let b := betterPreset (s.lane l).best o (s.lane l).rxPreset
      if x.rxPreset < 10 then { x with best := some b, rxPreset := x.rxPreset + 1 }
      else { x with best := some b, rxPreset := b.2, searching := false } := by
  unfold State.presetStep
  dsimp only
  rw [if_neg (by simp [h, hs]; omega)]

theorem State.rxAdapted_due {s : State} {l : Nat} (ctle : Nat) (dfe : Word) (h : (s.lane l).st = 2)
    (hs : (s.lane l).searching = false) (hr : (s.lane l).rxReady = false)
    (ht : (s.lane l).entered + (if (s.lane l).best.isSome then 12 else 1) * 1000 * cycPerUs ≤ s.time.cyc) :
    s.rxAdapted l ctle dfe = s.updLane l fun x =>
      let o := s.regN (phyReg l 4)
      { x with rxReady := true, ctle := if bit o 0 then bits o 1 4 else ctle % 16
               dfe := if bit o 0 && bit o 5 then x.dfe else BitVec.ofNat 32 (dfe.toNat % 2 ^ 30) } := by
  unfold State.rxAdapted
  dsimp only
  rw [if_neg]
  simp only [h, hs, hr, bne_self_eq_false, Bool.or_false, Bool.false_or, decide_eq_true_eq]
  exact Nat.not_lt.2 ht

theorem State.handshakeDone_due {s : State} {l c : Nat} (h : (s.lane l).st = 2) (hr : (s.lane l).readyAt = some c)
    (ht : c + lineCycles l (16 * 1024) ≤ s.time.cyc) (hs : s.silent l = false) : s.handshakeDone l = s.enterLane l 3 := by
  simp only [State.handshakeDone, Lane.handshakeOver, h, hr, ht, hs, decide_true, Bool.not_false, Bool.and_self, if_true]

theorem State.farTrainingEnd_silent {s : State} {l : Nat} (h : (s.lane l).st = 2) (hs : s.silent l = true) :
    s.farTrainingEnd l = s.enterLane l 3 := by
  simp only [State.farTrainingEnd, h, hs, decide_true, Bool.and_self, if_true]

theorem State.bitLocked_due {s : State} {l : Nat} (h : (s.lane l).st = 3)
    (ht : (s.lane l).cleanFrom + lineCycles l 2048 ≤ s.time.cyc) : s.bitLocked l = s.enterLane l 4 := by
  simp only [State.bitLocked, h, ht, decide_true, Bool.and_self, if_true]

/-! ## Timers (R189, R190, R193) -/

theorem State.laneDeadline_due {s : State} {l us code : Nat} (h : laneTimeout (s.lane l).st = some (us, code))
    (ht : (s.lane l).entered + us * cycPerUs ≤ s.time.cyc)
    (hs : (s.lane l).entered + us * cycPerUs = s.time.cyc → s.successComes l = false) :
    s.laneDeadline l = s.laneFail l code := by
  unfold State.laneDeadline State.laneTimedOut
  simp only [h]
  rw [if_neg (by simpa using hs), if_pos ht]

theorem State.tcwDeadline_due {s : State} {l : Nat} (h : (s.lane l).st = 2) (ht : (s.lane l).tcwAt + 1000 * cycPerUs ≤ s.time.cyc)
    (hs : (s.lane l).tcwAt + 1000 * cycPerUs = s.time.cyc → s.successComes l = false) : s.tcwDeadline l = s.laneFail l 4 := by
  unfold State.tcwDeadline State.tcwTimedOut
  dsimp only
  rw [if_neg (by simpa using hs), if_pos (by simpa [h] using ht)]

/-! ## Symbol lock (R183, R197) -/

/-- A part of the state that sending and a pod's own entries leave alone, a pod's entry to `CAPS` leaves alone. -/
theorem State.podEnterCaps_keeps {β : Type} {g : State → β} (hu : ∀ s p f, g (State.updPod s p f) = g s)
    (hs : ∀ s l m, g (State.send s l m) = g s) (s : State) (l : Nat) : g (s.podEnterCaps l) = g s := by
  unfold State.podEnterCaps
  dsimp only
  split
  · exact hu ..
  · exact (foldl_keeps (fun s i => hs ..) _ _).trans (hu ..)

theorem two_le_laneClass {l : Nat} (h : ¬ l < 24) (h1 : laneClass l ≠ 1) : 2 ≤ laneClass l := by
  unfold laneClass at h1 ⊢
  rw [if_neg h] at h1 ⊢
  split at h1
  · exact absurd rfl h1
  · rw [if_neg ‹_›]
    split <;> decide

/-- A lane that is no pod's reaches `ACTIVE` by itself. -/
theorem State.enterActive_of_no_pod (s : State) {l : Nat} (h : ¬ l < 24) :
    s.enterActive l = (s.enterLane l 6).updLane l fun x => { x with tries := [], reached := true } := by
  unfold State.enterActive
  dsimp only
  rw [if_neg h]

/-- A lane enters `CAPS`, or goes on to `ACTIVE` where its class has no block to exchange. -/
theorem State.enterCaps_self (s : State) (l : Nat) :
    ((s.enterCaps l).lane l).st = (if laneClass l ≤ 1 then 5 else 6) ∧ ((s.enterCaps l).lane l).locked = (s.lane l).locked := by
  have hcaps : ((s.enterLane l 5).lane l).st = 5 ∧ ((s.enterLane l 5).lane l).locked = (s.lane l).locked := by
    rw [State.enterLane_self]
    exact ⟨rfl, rfl⟩
  unfold State.enterCaps
  dsimp only
  split
  · next h =>
    rw [if_pos (by simp [laneClass, h]),
      State.lane_of_lanes (State.podEnterCaps_keeps State.updPod_lanes State.send_lanes _ l)]
    exact hcaps
  · split
    · next h =>
      rw [if_pos h.le, State.sendTcaps, State.lane_of_lanes (State.send_lanes ..)]
      exact hcaps
    · next h24 h1 =>
      rw [if_neg (Nat.not_le.2 (two_le_laneClass h24 h1)), State.enterActive_of_no_pod _ h24, State.updLane_self, State.enterLane_self,
        State.enterLane_self]
      exact ⟨rfl, rfl⟩

theorem State.enterCaps_onlyLane (s : State) (l : Nat) : s.OnlyLane (s.enterCaps l) l := by
  have hcaps := (State.OnlyLane.refl s l).enterLane 5
  unfold State.enterCaps
  dsimp only
  split
  · exact hcaps.trans <| .of_lanes (State.podEnterCaps_keeps State.updPod_lanes State.send_lanes _ l)
      (State.podEnterCaps_keeps State.updPod_hive State.send_hive _ l)
      (State.podEnterCaps_keeps State.updPod_time State.send_time _ l) (State.podEnterCaps_keeps State.updPod_sys State.send_sys _ l)
  · split
    · exact hcaps.trans ⟨fun j _ => State.lane_of_lanes (State.send_lanes ..) j, State.send_hive ..,
        (congrArg Time.cyc (State.send_time ..)).trans rfl, State.send_sys ..⟩
    · next h24 _ =>
      rw [State.enterActive_of_no_pod _ h24]
      exact (hcaps.enterLane 6).updLane _

theorem State.enterCaps_regs (s : State) (l : Nat) : (s.enterCaps l).regs = s.regs := by
  unfold State.enterCaps
  dsimp only
  split
  · exact State.podEnterCaps_keeps State.updPod_regs State.send_regs _ l
  · split
    · exact State.send_regs ..
    · next h24 _ =>
      rw [State.enterActive_of_no_pod _ h24]
      rfl

theorem State.symlocked_due {s : State} {l : Nat} (h : (s.lane l).st = 4)
    (ht : (s.lane l).huntFrom + lineCycles l (3 * 1024 + 32) ≤ s.time.cyc) :
    s.symlocked l = (s.updLane l fun x => { x with locked := true, missRun := 0 }).enterCaps l := by
  simp only [State.symlocked, Lane.huntOver, h, ht, decide_true, Bool.not_true, Bool.false_eq_true, if_false, if_true]

/-! ## The obligation -/

/-- Settles O26: each event as what it makes of its own lane, and each timer as the failure of the lane's state. -/
theorem laneBringUpComplete : Obligations.LaneBringUpComplete := by
  unfold Obligations.LaneBringUpComplete
  rintro s u t l rfl hm
  have hothers := s.elapse_updLane_others t l
  refine ⟨fun term energy h => ?_, fun us code h ht hs => ?_, fun w h hv hc => ?_, fun h ht hs => ?_, fun o h hs ht => ?_,
    fun ctle dfe h hs hr ht => ?_, fun c h hr ht hs => ?_, fun h hs => ?_, fun h ht => ?_, fun h ht => ?_⟩
  · refine ⟨_, by rw [exec_laneDetect, State.runOn_eq hm], ?_⟩
    obtain ⟨hst, hterm, henergy, hne, hpods, hregs⟩ := State.laneDetected_parts (s := s.elapse t) term energy h
    exact ⟨hst, hterm, henergy, hne, hpods, hregs⟩
  · obtain ⟨hcode, hst⟩ := (s.elapse t).laneFail_self l code
    have honly := (s.elapse t).laneFail_onlyLane l code
    refine ⟨_, by rw [exec_laneStateTimeout, State.runOn_eq hm, State.laneDeadline_due (s := s.elapse t) h ht hs],
      hcode, fun h1 => ?_, fun h1 => hst.trans ?_, State.laneFail_counts .., honly.others, honly.hive⟩
    · have h1' : ((s.elapse t).lane l).st = 1 := h1
      rw [hst, if_neg fun hc => hc.1 h1', h1']
      rfl
    · exact if_congr (and_iff_right h1) rfl rfl
  · refine ⟨_, by rw [exec_trainingBlock, State.runOn_eq hm, State.trainingBlock_of_class (s := s.elapse t) h hv hc], ?_⟩
    have hself := State.updLane_self (s.elapse t) l fun x =>
      { x.confirm (s.elapse t).time.cyc (bit w.toNat 8) with
        tcwAt := (s.elapse t).time.cyc, txPreset := if w.toNat % 16 ≤ 10 then w.toNat % 16 else x.txPreset }
    rw [hself]
    refine ⟨(Lane.confirm_st ..).trans h, rfl, rfl, fun hr => Lane.confirm_of_not_ready _ _ hr, fun c hr => ?_, hothers _, rfl, rfl⟩
    exact (congrArg Lane.readyAt (Lane.confirm_of_ready _ _ hr)).trans hr
  · obtain ⟨hcode, -⟩ := (s.elapse t).laneFail_self l 4
    have honly := (s.elapse t).laneFail_onlyLane l 4
    exact ⟨_, by rw [exec_tcwTimeout, State.runOn_eq hm, State.tcwDeadline_due (s := s.elapse t) h ht hs],
      hcode, State.laneFail_counts .., honly.others, honly.hive⟩
  · refine ⟨_, by rw [exec_presetSearchStep, State.runOn_eq hm, State.presetStep_due (s := s.elapse t) o h hs ht], ?_⟩
    rw [State.updLane_self]
    dsimp only
    by_cases hp : (s.lane l).rxPreset < 10
    · rw [if_pos hp, if_pos (show ((s.elapse t).lane l).rxPreset < 10 from hp)]
      exact ⟨rfl, rfl, iff_of_true hs hp, hothers _, rfl, rfl⟩
    · rw [if_neg hp, if_neg (show ¬ ((s.elapse t).lane l).rxPreset < 10 from hp)]
      exact ⟨rfl, rfl, iff_of_false Bool.false_ne_true hp, hothers _, rfl, rfl⟩
  · refine ⟨_, by rw [exec_rxAdaptDone, State.runOn_eq hm, State.rxAdapted_due (s := s.elapse t) ctle dfe h hs hr ht], ?_⟩
    rw [State.updLane_self]
    have hreg : (s.elapse t).regN (phyReg l 4) = s.regN (phyReg l 4) := rfl
    exact ⟨rfl, fun hb => by simp [hreg, hb], fun hb => by simp [hreg, hb], hothers _, rfl, rfl⟩
  · refine ⟨_, by rw [exec_trainHandshakeDone, State.runOn_eq hm, State.handshakeDone_due (s := s.elapse t) h hr ht hs], ?_⟩
    rw [State.enterLane_self]
    exact ⟨rfl, rfl, hothers _, rfl, rfl⟩
  · refine ⟨_, by rw [exec_farTrainingEnd, State.runOn_eq hm, State.farTrainingEnd_silent (s := s.elapse t) h hs], ?_⟩
    rw [State.enterLane_self]
    exact ⟨rfl, rfl, hothers _, rfl, rfl⟩
  · refine ⟨_, by rw [exec_bitLock, State.runOn_eq hm, State.bitLocked_due (s := s.elapse t) h ht], ?_⟩
    rw [State.enterLane_self]
    exact ⟨rfl, rfl, hothers _, rfl, rfl⟩
  · refine ⟨_, by rw [exec_symlockAcquired, State.runOn_eq hm, State.symlocked_due (s := s.elapse t) h ht], ?_⟩
    let v := (s.elapse t).updLane l fun x => { x with locked := true, missRun := 0 }
    obtain ⟨hst, hlock⟩ := v.enterCaps_self l
    have honly := v.enterCaps_onlyLane l
    refine ⟨hst, hlock.trans ?_, fun j hj => (honly.others j hj).trans (hothers _ j hj), v.enterCaps_regs l, honly.hive⟩
    rw [State.updLane_self]

end Sys2Proof.Machine

/-! Lanes in service (R181, R183, R184, R190, R196, R198, R204, R208). -/

namespace Sys2Proof.Machine

/-! ## Leaving `ACTIVE` (R198) -/

/-- What events, the two counters of rewinds and of blindness, the pair, the host FIFO and a pod's own entries leave alone, the loss of a
lane leaves but for the end of its eye scan. -/
theorem State.laneLeft_keeps {β : Type} {g : State → β} (hr : ∀ s c u x, g (State.raise s c u x) = g s)
    (hb : ∀ s a, a = 0x000B_004C ∨ a = 0x000C_0048 → g (State.bump s a) = g s)
    (hp : ∀ (s : State) p, g { s with pair := p } = g s) (hf : ∀ (s : State) f, g { s with host := f } = g s)
    (hd : ∀ s p f, g (State.updPod s p f) = g s) (s : State) (l c : Nat) :
    g (s.laneLeft l c) = g (s.updLane l fun x => { x with scan := none }) := by
  have hlink : ∀ v : State, g v.pairLinkCheck = g v := fun v => by
    unfold State.pairLinkCheck
    split
    · rfl
    · exact (hb _ _ (.inr rfl)).trans ((hr ..).trans (hp ..))
  unfold State.laneLeft
  dsimp only
  split
  · exact (hd ..).trans (hr ..)
  · split
    · exact (hb _ _ (.inl rfl)).trans ((hf ..).trans (hr ..))
    · split
      · exact (hlink _).trans (hr ..)
      · exact hr ..

theorem State.laneLeft_lanes (s : State) (l c : Nat) : (s.laneLeft l c).lanes = (s.updLane l fun x => { x with scan := none }).lanes :=
  State.laneLeft_keeps State.raise_lanes (fun s a _ => State.bump_lanes s a) (fun _ _ => rfl) (fun _ _ => rfl) State.updPod_lanes s l c

theorem State.laneLeft_self (s : State) (l c : Nat) : (s.laneLeft l c).lane l = { s.lane l with scan := none } :=
  (State.lane_of_lanes (s.laneLeft_lanes l c) l).trans (State.updLane_self ..)

theorem State.OnlyLane.laneLeft {s v : State} {l : Nat} (h : s.OnlyLane v l) (c : Nat) : s.OnlyLane (v.laneLeft l c) l :=
  (h.updLane fun x => { x with scan := none }).trans <| .of_lanes (State.laneLeft_lanes ..)
    (State.laneLeft_keeps State.raise_hive (fun s a _ => State.bump_hive s a) (fun _ _ => rfl) (fun _ _ => rfl) State.updPod_hive v l c)
    (State.laneLeft_keeps State.raise_time (fun s a _ => State.bump_time s a) (fun _ _ => rfl) (fun _ _ => rfl) State.updPod_time v l c)
    (State.laneLeft_keeps State.raise_sys (fun s a _ => State.bump_sys s a) (fun _ _ => rfl) (fun _ _ => rfl) State.updPod_sys v l c)

/-- The loss of a lane counts nothing in the lanes' own registers. -/
theorem State.laneLeft_laneReg (s : State) (l c k : Nat) {o : Nat} (h : o < 0x48) :
    (s.laneLeft l c).reg (laneReg k o) = s.reg (laneReg k o) :=
  State.laneLeft_keeps (g := fun s => s.reg (laneReg k o)) (fun s c u x => s.raise_laneReg c u x k (by omega))
    (fun s a ha => s.bump_laneReg_ne (by omega) (by unfold laneReg; omega)) (fun _ _ => rfl) (fun _ _ => rfl) (fun _ _ _ => rfl) s l c

/-! ## Symbol lock lost (R183, R184, R198) -/

/-- The misses that no command has told are counted with the loss (R184). -/
def State.missesNoted (s : State) (l : Nat) : State :=
  if (s.lane l).locked then s.bumpBy (laneReg l 0x34) (4 - (s.lane l).run l s.time.cyc) else s

theorem State.missesNoted_onlyLane (s : State) (l : Nat) : s.OnlyLane (s.missesNoted l) l :=
  .ite ((State.OnlyLane.refl s l).bumpBy ..) (.refl s l)

theorem State.missesNoted_losses (s : State) (l : Nat) : (s.missesNoted l).reg (laneReg l 0x38) = s.reg (laneReg l 0x38) := by
  unfold State.missesNoted
  split
  · exact State.bumpBy_laneReg_ne _ _ (by decide) (laneReg_inj (by decide))
  · rfl

theorem State.symlockLost_of_active {s : State} {l : Nat} (h : (s.lane l).st = 6) :
    s.symlockLost l = ((((s.missesNoted l).bump (laneReg l 0x38)).enterLane l 4).updLane l fun x =>
      { x with lastCode := 9, tries := [], locked := false, missRun := 0 }).laneLeft l 9 := by
  unfold State.symlockLost
  dsimp only
  rw [if_pos h]
  rfl

theorem State.symlockLost_self {s : State} {l : Nat} (h : (s.lane l).st = 6) : ((s.symlockLost l).lane l).st = 4
    ∧ ((s.symlockLost l).lane l).locked = false ∧ ((s.symlockLost l).lane l).lastCode = 9 := by
  rw [State.symlockLost_of_active h, State.laneLeft_self, State.updLane_self, State.enterLane_self]
  exact ⟨rfl, rfl, rfl⟩

theorem State.symlockLost_onlyLane {s : State} {l : Nat} (h : (s.lane l).st = 6) : s.OnlyLane (s.symlockLost l) l := by
  rw [State.symlockLost_of_active h]
  exact ((((s.missesNoted_onlyLane l).bump _).enterLane 4).updLane _).laneLeft 9

theorem State.symlockLost_counts {s : State} {l : Nat} (h : (s.lane l).st = 6) : (s.symlockLost l).reg (laneReg l 0x38)
    = if s.reg (laneReg l 0x38) = 0xFFFF_FFFF then 0xFFFF_FFFF else s.reg (laneReg l 0x38) + 1 := by
  rw [State.symlockLost_of_active h, State.laneLeft_laneReg _ _ _ _ (by decide), State.updLane_reg, State.enterLane_reg,
    State.bump_laneReg _ l (by decide), s.missesNoted_losses l]

theorem State.backoffEnd_due {s : State} {l : Nat} (h : (s.lane l).st = 7) (ht : (s.lane l).entered + 1000 * cycPerMs ≤ s.time.cyc) :
    s.backoffEnd l = s.enterDetect l := by
  simp only [State.backoffEnd, h, ht, decide_true, Bool.and_self, if_true]

/-! ## Line errors (R181, R183, R184) -/

theorem State.stuffErr_self (s : State) (l : Nat) : (s.stuffErr l).lane l = { s.lane l with cleanFrom := s.time.cyc } := by
  rw [State.stuffErr, State.updLane_self, State.lane_of_lanes (State.bump_lanes ..)]

theorem State.stuffErr_onlyLane (s : State) (l : Nat) : s.OnlyLane (s.stuffErr l) l :=
  ((State.OnlyLane.refl s l).bump _).updLane _

theorem State.syncMiss_locked {s : State} {l : Nat} (h : (s.lane l).locked = true) : s.syncMiss l =
    (s.bump (laneReg l 0x34)).updLane l fun x => { x with missRun := x.run l s.time.cyc + 1, missAt := s.time.cyc } := if_pos h

theorem State.syncMiss_self {s : State} {l : Nat} (h : (s.lane l).locked = true) : (s.syncMiss l).lane l =
    { s.lane l with missRun := (s.lane l).run l s.time.cyc + 1, missAt := s.time.cyc } := by
  rw [State.syncMiss_locked h, State.updLane_self, State.lane_of_lanes (State.bump_lanes ..)]

theorem State.syncMiss_onlyLane {s : State} {l : Nat} (h : (s.lane l).locked = true) : s.OnlyLane (s.syncMiss l) l := by
  rw [State.syncMiss_locked h]
  exact ((State.OnlyLane.refl s l).bump _).updLane _

/-! ## The checker (R204) -/

theorem State.checkerSync_due {s : State} {l : Nat} (hm : s.sys.mode = .test) (hc : s.chkCode l ≠ 0) (hs : (s.lane l).chkSync = false)
    (ht : (s.lane l).chkFrom + lineCycles l (checkerSeed (s.chkCode l) + 64) ≤ s.time.cyc) (hclean : s.checkerClean l = true) :
    s.checkerSync l = s.updLane l fun x => { x with chkSync := true, chkFrom := s.time.cyc, chkDone := 0, chkErrs := 0 } := by
  simp [State.checkerSync, State.inTest, hm, hc, hs, ht, hclean]

/-- A loss of sync counts the errors and units not yet counted, and itself; then the checker seeks sync anew. -/
def State.checkerNoted (s : State) (l errs mi : Nat) : State :=
  ((s.bumpBy (laneReg l 0x40) (errs - (s.lane l).chkErrs)).bumpBy (laneReg l 0x44) (mi - (s.lane l).chkDone)).bump (laneReg l 0x48)

theorem State.checkerLost_due {s : State} {l errs : Nat} (mi : Nat) (hs : (s.lane l).chkSync = true) (he : 256 ≤ errs) :
    s.checkerLost l errs mi = (s.checkerNoted l errs mi).updLane l fun x =>
      { x with chkSync := false, chkFrom := s.time.cyc, chkDone := 0, chkErrs := 0 } := by
  simp only [State.checkerLost, State.checkerNoted, hs, he, decide_true, Bool.and_self, if_true, State.bump_time, State.bumpBy_time]

theorem State.checkerNoted_counts (s : State) (l errs mi : Nat) :
    (s.checkerNoted l errs mi).reg (laneReg l 0x48)
      = (if s.reg (laneReg l 0x48) = 0xFFFF_FFFF then 0xFFFF_FFFF else s.reg (laneReg l 0x48) + 1)
    ∧ (s.checkerNoted l errs mi).regN (laneReg l 0x40)
      = min 0xFFFF_FFFF (s.regN (laneReg l 0x40) + (errs - (s.lane l).chkErrs))
    ∧ (s.checkerNoted l errs mi).regN (laneReg l 0x44)
      = min 0xFFFF_FFFF (s.regN (laneReg l 0x44) + (mi - (s.lane l).chkDone)) := by
  have hne : ∀ {o o' : Nat}, o ≠ o' → laneReg l o ≠ laneReg l o' := laneReg_inj
  refine ⟨?_, ?_, ?_⟩
  · rw [State.checkerNoted, State.bump_laneReg _ _ (by decide), State.bumpBy_laneReg_ne _ _ (by decide) (hne (by decide)),
      State.bumpBy_laneReg_ne _ _ (by decide) (hne (by decide))]
  · rw [State.checkerNoted, State.regN, State.bump_laneReg_ne _ (by decide) (hne (by decide)),
      State.bumpBy_laneReg_ne _ _ (by decide) (hne (by decide))]
    exact State.bumpBy_laneReg _ _ _ (by decide)
  · rw [State.checkerNoted, State.regN, State.bump_laneReg_ne _ (by decide) (hne (by decide))]
    refine (State.bumpBy_laneReg _ _ _ (by decide)).trans ?_
    rw [State.regN, State.bumpBy_laneReg_ne _ _ (by decide) (hne (by decide))]
    rfl

theorem State.checkerNoted_onlyLane (s : State) (l errs mi : Nat) : s.OnlyLane (s.checkerNoted l errs mi) l :=
  (((State.OnlyLane.refl s l).bumpBy ..).bumpBy ..).bump _

/-! ## Eye scans (R208, R210) -/

theorem EyeScan.dwelt_of_le {e : EyeScan} {l now : Nat} (h : e.from' + lineCycles l (10 ^ (6 + e.dwell)) ≤ now) :
    e.dwelt l now = true := decide_eq_true h

/-- A step without disagreement, short of the last, leads to the next. -/
theorem State.eyeStep_next {s : State} {l : Nat} {e : EyeScan} (h : (s.lane l).scan = some e)
    (ht : e.from' + lineCycles l (10 ^ (6 + e.dwell)) ≤ s.time.cyc) (hn : e.steps + 1 < 32) :
    s.eyeStep l false = s.updLane l fun x => { x with scan := some { e with from' := s.time.cyc, steps := e.steps + 1 } } := by
  unfold State.eyeStep
  rw [h]
  simp [EyeScan.dwelt_of_le ht, Nat.not_le.2 hn]

/-- A direction ends with a disagreement or with its last step. -/
theorem State.eyeStep_ends {s : State} {l n : Nat} {e : EyeScan} {dis : Bool} (h : (s.lane l).scan = some e)
    (ht : e.from' + lineCycles l (10 ^ (6 + e.dwell)) ≤ s.time.cyc) (hd : dis = true ∨ 31 ≤ e.steps)
    (hn : n = if dis then e.steps else e.steps + 1) :
    s.eyeStep l dis =
      let v := s.updLane l fun x => x.setEye e.dir n
      if 3 ≤ e.dir then v.eyeDone l
      else v.updLane l fun x => { x with scan := some { e with from' := s.time.cyc, dir := e.dir + 1, steps := 0 } } := by
  have hend : (dis || decide (32 ≤ n)) = true := by
    rcases hd with rfl | hd
    · rfl
    · cases dis
      · simp only [Bool.false_or, decide_eq_true_eq, Bool.false_eq_true, if_false] at hn ⊢
        omega
      · rfl
  unfold State.eyeStep
  rw [h]
  simp only [EyeScan.dwelt_of_le ht, ← hn, hend, Bool.not_true, Bool.false_eq_true, if_false, if_true]

/-- What the planner's queue and the lanes' own entries leave alone, the start of the next planned scan leaves alone. -/
theorem State.nextPlanned_keeps {β : Type} {g : State → β} (hc : ∀ (s : State) c, g { s with clk := c } = g s)
    (hu : ∀ s l f, g (State.updLane s l f) = g s) (s : State) : g s.nextPlanned = g s := by
  unfold State.nextPlanned
  dsimp only
  split
  · rfl
  · split
    · exact (hu ..).trans (hc ..)
    · exact hc ..

/-- The next planned scan may start on any lane, and changes what that lane has of a scan under way. -/
theorem State.nextPlanned_lane (s : State) (j : Nat) :
    ∃ e b, s.nextPlanned.lane j = { s.lane j with scan := e, eyePlanner := b } := by
  unfold State.nextPlanned
  dsimp only
  split
  · exact ⟨_, _, rfl⟩
  · split
    · next l _ _ =>
      by_cases hj : j = l
      · subst hj
        exact ⟨_, _, State.updLane_self ..⟩
      · exact ⟨_, _, State.updLane_ne _ _ hj⟩
    · exact ⟨_, _, rfl⟩

/-- A scan that ends is judged by its openings. -/
theorem State.eyeDone_self (s : State) (l : Nat) : ((s.eyeDone l).lane l).eyeValid = true
    ∧ ((s.eyeDone l).lane l).eyeD = (s.lane l).eyeD
    ∧ (((s.eyeDone l).lane l).eyeLow = true ↔ (s.lane l).eyeL + (s.lane l).eyeR < s.eyeHMin l
      ∨ (s.lane l).eyeU + (s.lane l).eyeD < s.eyeVMin l) := by
  unfold State.eyeDone
  extract_lets x low v w
  obtain ⟨e, b, hw⟩ := w.nextPlanned_lane l
  have hlane : w.lane l = { x with scan := none, eyeValid := true, eyeLow := low } := by
    unfold w
    split
    · rw [State.lane_of_lanes (State.raise_lanes ..)]
      exact State.updLane_self ..
    · exact State.updLane_self ..
  rw [hw, hlane]
  refine ⟨rfl, rfl, ?_⟩
  simp [low, x]

theorem State.eyeDone_keeps {β : Type} {g : State → β} (hc : ∀ (s : State) c, g { s with clk := c } = g s)
    (hu : ∀ s l f, g (State.updLane s l f) = g s) (hr : ∀ s c u x, g (State.raise s c u x) = g s) (s : State) (l : Nat) :
    g (s.eyeDone l) = g s := by
  unfold State.eyeDone
  extract_lets x low v w
  rw [State.nextPlanned_keeps hc hu]
  unfold w
  split
  · exact (hr ..).trans (hu ..)
  · exact hu ..

/-! ## The obligation -/

/-- Settles O27: each command as the operation on its lane, and the counters of the lane's block that it advances. -/
theorem laneServiceComplete : Obligations.LaneServiceComplete := by
  unfold Obligations.LaneServiceComplete
  rintro s u t l rfl hm
  have hothers := s.elapse_updLane_others t l
  refine ⟨fun h => ?_, fun h ht => ?_, ?_, fun h => ?_, fun hmode hc hs ht hclean => ?_, fun errs mi hs he => ?_, fun e h ht hn => ?_,
    fun e dis n h ht hdir hd hn => ?_, fun e dis n h ht hdir hd hn => ?_⟩
  · obtain ⟨hst, hlock, hcode⟩ := State.symlockLost_self (s := s.elapse t) h
    have honly := State.symlockLost_onlyLane (s := s.elapse t) h
    exact ⟨_, by rw [exec_symlockLost, State.runOn_eq hm], hst, hlock, hcode, State.symlockLost_counts (s := s.elapse t) h,
      honly.others, honly.hive⟩
  · have honly := (State.OnlyLane.refl (s.elapse t) l).enterDetect
    have hseven : ((s.elapse t).lane l).st = 7 := h
    refine ⟨_, by rw [exec_laneBackoffEnd, State.runOn_eq hm, State.backoffEnd_due (s := s.elapse t) h ht], ?_⟩
    rw [State.enterDetect_self, if_pos hseven]
    refine ⟨rfl, rfl, rfl, honly.others, State.enterDetect_regs .., ?_⟩
    rw [State.enterDetect_eq, if_neg (by simp [hseven])]
    rfl
  · have honly := (s.elapse t).stuffErr_onlyLane l
    exact ⟨(s.elapse t).stuffErr l, by rw [exec_stuffErr, State.runOn_eq hm], State.bump_laneReg (s.elapse t) l (by decide),
      (s.elapse t).stuffErr_self l, honly.others, State.bump_pods .., honly.hive⟩
  · have honly := State.syncMiss_onlyLane (s := s.elapse t) h
    refine ⟨(s.elapse t).syncMiss l, by rw [exec_syncMiss, State.runOn_eq hm], ?_, State.syncMiss_self (s := s.elapse t) h,
      honly.others, ?_, honly.hive⟩
    · rw [State.syncMiss_locked (s := s.elapse t) h, State.updLane_reg, State.bump_laneReg _ l (by decide)]
      rfl
    · rw [State.syncMiss_locked (s := s.elapse t) h]
      exact State.bump_pods ..
  · refine ⟨_, by rw [exec_checkerSync, State.runOn_eq hm, State.checkerSync_due (s := s.elapse t) hmode hc hs ht hclean], ?_⟩
    rw [State.updLane_self]
    exact ⟨rfl, rfl, rfl, hothers _, rfl, rfl⟩
  · obtain ⟨hlosses, herrs, hunits⟩ := (s.elapse t).checkerNoted_counts l errs mi
    have honly := ((s.elapse t).checkerNoted_onlyLane l errs mi).updLane fun x =>
      { x with chkSync := false, chkFrom := (s.elapse t).time.cyc, chkDone := 0, chkErrs := 0 }
    refine ⟨_, by rw [exec_checkerSyncLoss, State.runOn_eq hm, State.checkerLost_due (s := s.elapse t) mi hs he], ?_⟩
    simp only [State.updLane_self, State.updLane_reg, State.updLane_regN]
    exact ⟨trivial, hlosses, herrs, hunits, honly.others, honly.hive⟩
  · refine ⟨_, by rw [exec_eyeScanStep, State.runOn_eq hm, State.eyeStep_next (s := s.elapse t) h ht hn], ?_⟩
    rw [State.updLane_self]
    exact ⟨rfl, hothers _, rfl, rfl⟩
  · refine ⟨_, by rw [exec_eyeScanStep, State.runOn_eq hm, State.eyeStep_ends (s := s.elapse t) h ht hd hn], ?_⟩
    dsimp only
    rw [if_neg (by omega), State.updLane_self, State.updLane_self]
    refine ⟨rfl, fun h0 => ?_, fun h1 => ?_, fun h2 => ?_, fun j hj => (State.updLane_ne _ _ hj).trans (hothers _ j hj), rfl, rfl⟩
    · simp [Lane.setEye, h0]
    · simp [Lane.setEye, h1]
    · simp [Lane.setEye, h2]
  · refine ⟨_, by rw [exec_eyeScanStep, State.runOn_eq hm, State.eyeStep_ends (s := s.elapse t) h ht hd hn], ?_⟩
    let v := (s.elapse t).updLane l fun x => x.setEye e.dir n
    have hv : v.lane l = { s.lane l with eyeD := n } := (State.updLane_self ..).trans (by rw [hdir]; rfl)
    obtain ⟨hvalid, hdown, hlow⟩ := v.eyeDone_self l
    rw [hv] at hdown hlow
    dsimp only
    rw [if_pos hdir.ge]
    exact ⟨hvalid, hdown, hlow, State.eyeDone_keeps (g := State.pods) (fun _ _ => rfl) State.updLane_pods State.raise_pods v l,
      State.eyeDone_keeps (g := State.hive) (fun _ _ => rfl) State.updLane_hive State.raise_hive v l⟩

end Sys2Proof.Machine

/-! Commands on lanes (R198, R202 to R206, R209). -/

namespace Sys2Proof.Machine

/-! ## `LANE_RETRAIN` (R198) -/

/-- One lane is retrained, where it is enabled and not in `PATTERN`. -/
def State.retrainOne (s : State) (l : Nat) : State :=
  if !(s.lane l).enable || (s.lane l).st = 8 then s
  else
    let v := (s.updLane l fun x => { x with lastCode := 10 }).enterDetect l
    if (s.lane l).st = 6 then v.laneLeft l 10 else v

theorem State.retrain_eq (s : State) (v : Nat) : s.retrain v = (bitList 32 v).foldl State.retrainOne s := rfl

/-- A lane that a retrain has taken back to `DETECT`. -/
structure Lane.Retrained (x : Lane) : Prop where
  st : x.st = 1
  code : x.lastCode = 10
  enabled : x.enable = true

theorem State.retrainOne_of_not {s : State} {l : Nat} (h : (s.lane l).enable = false ∨ (s.lane l).st = 8) : s.retrainOne l = s :=
  if_pos (by simpa using h)

theorem State.retrainOne_onlyLane (s : State) (l : Nat) : s.OnlyLane (s.retrainOne l) l := by
  have h := ((State.OnlyLane.refl s l).updLane fun x => { x with lastCode := 10 }).enterDetect
  exact .ite (.refl s l) (.ite (h.laneLeft 10) h)

theorem State.retrainOne_retrains {s : State} {l : Nat} (he : (s.lane l).enable = true) (hst : (s.lane l).st ≠ 8) :
    ((s.retrainOne l).lane l).Retrained := by
  unfold State.retrainOne
  rw [if_neg (by simp [he, hst])]
  dsimp only
  split
  · rw [State.laneLeft_self, State.enterDetect_self, State.updLane_self]
    exact ⟨rfl, rfl, he⟩
  · rw [State.enterDetect_self, State.updLane_self]
    exact ⟨rfl, rfl, he⟩

theorem State.retrains_hive (s : State) (ls : List Nat) : (ls.foldl State.retrainOne s).hive = s.hive :=
  foldl_keeps (fun s l => (s.retrainOne_onlyLane l).hive) ls s

/-- A lane that no retrain names, or that none takes, stays as it is. -/
theorem State.retrains_leave {s : State} {ls : List Nat} {j : Nat} (h : j ∉ ls ∨ (s.lane j).enable = false ∨ (s.lane j).st = 8) :
    (ls.foldl State.retrainOne s).lane j = s.lane j := by
  induction ls generalizing s with
  | nil => rfl
  | cons l ls ih =>
    have hone : (s.retrainOne l).lane j = s.lane j := by
      by_cases hj : j = l
      · subst hj
        rw [State.retrainOne_of_not (h.resolve_left fun hn => hn List.mem_cons_self)]
      · exact (s.retrainOne_onlyLane l).others j hj
    refine (ih (s := s.retrainOne l) ?_).trans hone
    rw [hone]
    exact h.imp_left fun hn => mt (List.mem_cons_of_mem l) hn

/-- A lane that has been retrained stays so. -/
theorem State.retrains_retrained {s : State} {j : Nat} (h : (s.lane j).Retrained) (ls : List Nat) :
    ((ls.foldl State.retrainOne s).lane j).Retrained := by
  induction ls generalizing s with
  | nil => exact h
  | cons l ls ih =>
    refine ih (s := s.retrainOne l) ?_
    by_cases hj : j = l
    · subst hj
      exact State.retrainOne_retrains h.enabled (by rw [h.st]; decide)
    · rwa [(s.retrainOne_onlyLane l).others j hj]

theorem State.retrains_retrain {s : State} {ls : List Nat} {j : Nat} (hj : j ∈ ls) (he : (s.lane j).enable = true)
    (hst : (s.lane j).st ≠ 8) : ((ls.foldl State.retrainOne s).lane j).Retrained := by
  induction ls generalizing s with
  | nil => exact absurd hj List.not_mem_nil
  | cons l ls ih =>
    by_cases hl : j = l
    · subst hl
      exact State.retrains_retrained (State.retrainOne_retrains he hst) ls
    · have hone := (s.retrainOne_onlyLane l).others j hl
      exact ih (s := s.retrainOne l) (List.mem_of_ne_of_mem hl hj) (by rwa [hone]) (by rwa [hone])

theorem State.writePlain_retrain (s : State) (v : Word) (avs : AvsAnswer) :
    s.writePlain .host 0x0004_000C v avs = (Reply.ok, s.retrain v.toNat) := rfl

theorem State.badAddr_retrain (s : State) : s.badAddr 0x0004_000C = none := rfl

/-- A write of `LANE_RETRAIN` names an absent lane where it names one that the variant lacks (R4). -/
theorem State.namesAbsent_retrain (s : State) (v : Nat) :
    s.namesAbsent 0x0004_000C v = ((bitList 32 v).find? (!s.lanePresent ·)).map fun l => Reply.of stUnitAbsent 0x04 0 l := rfl

theorem State.namesAbsent_retrain_none {s : State} {v : Nat} (h : ∀ l, l < 32 → bit v l = true → s.lanePresent l = true) :
    s.namesAbsent 0x0004_000C v = none := by
  have hfind : (bitList 32 v).find? (!s.lanePresent ·) = none := by
    refine List.find?_eq_none.2 fun l hl => ?_
    rw [mem_bitList] at hl
    simpa using h l hl.1 hl.2
  rw [State.namesAbsent_retrain, hfind]
  rfl

theorem State.namesAbsent_retrain_some {s : State} {v l : Nat} (hl : l < 32) (hb : bit v l = true) (ha : s.lanePresent l = false) :
    ∃ j, s.namesAbsent 0x0004_000C v = some (Reply.of stUnitAbsent 0x04 0 j) := by
  have hfind : ((bitList 32 v).find? (!s.lanePresent ·)).isSome = true :=
    List.find?_isSome.2 ⟨l, mem_bitList.2 ⟨hl, hb⟩, by simpa using ha⟩
  obtain ⟨j, hj⟩ := Option.isSome_iff_exists.1 hfind
  exact ⟨j, by rw [State.namesAbsent_retrain, hj]; rfl⟩

/-! ## Writes of a lane's registers -/

theorem State.lt_of_lanePresent {s : State} {l : Nat} (h : s.lanePresent l = true) : l < 32 := by
  simp only [State.lanePresent, Bool.and_eq_true, decide_eq_true_eq] at h
  exact h.1

theorem laneReg_block {l o : Nat} (hl : l < 32) (ho : o < 0x100) : laneReg l o / 65536 = 4 := by
  unfold laneReg
  omega

theorem laneReg_offset {l o : Nat} (hl : l < 32) (ho : o < 0x100) : laneReg l o % 65536 = 0x1000 + 0x100 * l + o := by
  unfold laneReg
  omega

theorem inGroup_laneReg {l o : Nat} (hl : l < 32) (ho : o < 0x100) : inGroup (0x1000 + 0x100 * l + o) 0x1000 0x100 32 = some o := by
  unfold inGroup
  rw [if_pos (by simp only [Bool.and_eq_true, decide_eq_true_eq]; omega),
    show (0x1000 + 0x100 * l + o - 0x1000) % 0x100 = o by omega]

/-- The registers of a lane the hub has can be accessed. -/
theorem State.badAddr_laneReg {s : State} {l o : Nat} (hl : s.lanePresent l = true) (ho : o < 0x100) (h4 : o % 4 = 0) :
    s.badAddr (laneReg l o) = none := by
  have h32 := State.lt_of_lanePresent hl
  have hal : (laneReg l o % 4 != 0 || decide (0x000F_0000 ≤ laneReg l o)) = false := by
    unfold laneReg
    simp only [Bool.or_eq_false_iff, bne_eq_false_iff_eq, decide_eq_false_iff_not]
    omega
  have hlane : (0x1000 + 0x100 * l + o - 0x1000) / 0x100 = l := by omega
  have hab : s.absentAt (laneReg l o) = false := by
    simp only [State.absentAt, laneReg_block h32 ho, laneReg_offset h32 ho, hlane, hl, Bool.not_true, Bool.and_false]
  simp [State.badAddr, hal, hab]

theorem not_isGw_of_lane_block {a : Nat} (h : a / 65536 = 4) : isGw a = false := by
  simp only [isGw, List.contains_eq_mem, List.mem_cons, List.not_mem_nil, or_false, decide_eq_false_iff_not]
  omega

theorem State.namesAbsent_laneReg (s : State) {l o : Nat} (hl : l < 32) (ho : o < 0x100) (v : Nat) :
    s.namesAbsent (laneReg l o) v = none := by
  unfold State.namesAbsent laneReg
  rw [if_neg (by omega), if_neg (by omega), if_neg (by simp only [Bool.and_eq_true, decide_eq_true_eq]; omega)]

/-- A lane's register that has a rule of its own is written by that rule. -/
theorem State.writePlain_laneReg (s : State) {l o : Nat} (hl : l < 32) (ho : o = 0x10 ∨ o = 0x24 ∨ o = 0x28) (v : Word)
    (avs : AvsAnswer) : s.writePlain .host (laneReg l o) v avs =
      (if o = 0x10 then s.writeTestCtrl l v.toNat else if o = 0x24 then s.writeInjGo l v.toNat else s.writeEyeCtrl l v.toNat) := by
  have h100 : o < 0x100 := by omega
  have hm : heldMask (laneReg l o) = none := by
    simp only [heldMask, laneReg_block hl h100, laneReg_offset hl h100, inGroup_laneReg hl h100]
    rcases ho with rfl | rfl | rfl <;> rfl
  have hlane : (0x1000 + 0x100 * l + o - 0x1000) / 0x100 = l := by omega
  simp only [State.writePlain, hm, laneReg_block hl h100, laneReg_offset hl h100, State.writeLane, inGroup_laneReg hl h100, hlane]
  rw [if_neg (by omega)]
  rcases ho with rfl | rfl | rfl <;> rfl

theorem State.unguarded_onlyLane (s : State) (q : Packet) (l : Nat) : s.OnlyLane (s.unguarded q) l :=
  .of_lanes (State.guardFail_lanes ..) (State.guardFail_hive ..) (State.guardFail_time ..) (State.guardFail_sys ..)

theorem State.unguarded_lane (s : State) (q : Packet) (l : Nat) : (s.unguarded q).lane l = s.lane l :=
  State.lane_of_lanes (State.guardFail_lanes ..) l

/-- It has the lanes' registers as they were. -/
theorem State.unguarded_laneReg (s : State) (q : Packet) (l : Nat) {o : Nat} (h : o < 0x50) :
    (s.unguarded q).regN (laneReg l o) = s.regN (laneReg l o) := by
  have hreg : (s.unguarded q).reg (laneReg l o) = s.reg (laneReg l o) :=
    State.guardFail_reg _ _ (by unfold laneReg; omega) (laneReg_ne_evtDrop l h) (laneReg_ne_evtLost l h)
  rw [State.regN, hreg]
  rfl

/-- A command of one word to such a register of a present lane, as the rule's write. -/
theorem State.effect_laneReg {s y : State} {q : Packet} {l o : Nat} {v : Word} (h2 : q.opcode = 2) (hp : q.port = .host)
    (ha : q.addr = BitVec.ofNat 32 (laneReg l o)) (hw : q.words = some [v]) (hl : s.lanePresent l = true)
    (ho : o = 0x10 ∨ o = 0x24 ∨ o = 0x28)
    (hy : (s.unguarded q).writePlain .host (laneReg l o) v (Config.avsAnswer s.free) = (Reply.ok, y)) :
    s.effect q = (Reply.ok, y) := by
  have h32 := State.lt_of_lanePresent hl
  have h100 : o < 0x100 := by omega
  have hblock := laneReg_block h32 h100
  have haddr : q.addr.toNat = laneReg l o := by
    rw [ha]
    exact ofNat32_toNat (by omega)
  unfold State.unguarded at hy
  rw [State.effect_wr h2 hp hw, haddr, hy]
  · rfl
  · rw [haddr]
    exact State.badAddr_laneReg hl h100 (by omega)
  · rw [haddr]
    exact State.namesAbsent_laneReg _ h32 h100 _
  · rw [haddr]
    exact not_isGw_of_lane_block hblock
  · rw [haddr]
    exact not_isGw_of_lane_block (by unfold laneReg at *; omega)

/-! ## The checker seeks (R204) -/

theorem State.checkerCount_onlyLane (s : State) (l : Nat) : s.OnlyLane (s.checkerCount l) l := by
  have hfree : s.OnlyLane { s with free := s.free + 1 } l := .of_lanes rfl rfl rfl rfl
  unfold State.checkerCount
  dsimp only
  split
  · exact .refl s l
  · split
    · exact (((State.OnlyLane.refl s l).bumpBy ..).bumpBy ..).updLane _
    · exact ((hfree.bumpBy ..).bumpBy ..).updLane _

/-- What the checker has compared so far shows in its lane's counts alone. -/
theorem State.checkerCount_self (s : State) (l : Nat) :
    ∃ d e, (s.checkerCount l).lane l = { s.lane l with chkDone := d, chkErrs := e } := by
  unfold State.checkerCount
  dsimp only
  split
  · exact ⟨_, _, rfl⟩
  · split
    · rw [State.updLane_self, State.lane_of_lanes (State.bumpBy_lanes ..), State.lane_of_lanes (State.bumpBy_lanes ..)]
      exact ⟨_, _, rfl⟩
    · rw [State.updLane_self, State.lane_of_lanes (State.bumpBy_lanes ..), State.lane_of_lanes (State.bumpBy_lanes ..)]
      exact ⟨_, _, rfl⟩

theorem State.checkerCount_laneReg (s : State) (l : Nat) {o : Nat} (h : o < 0x40) :
    (s.checkerCount l).reg (laneReg l o) = s.reg (laneReg l o) := by
  have hne : ∀ {o' : Nat}, 0x40 ≤ o' → laneReg l o ≠ laneReg l o' := fun ho => laneReg_inj (by omega)
  unfold State.checkerCount
  dsimp only
  split
  · rfl
  · split
    · rw [State.updLane_reg, State.bumpBy_laneReg_ne _ _ (by omega) (hne (by decide)),
        State.bumpBy_laneReg_ne _ _ (by omega) (hne (by decide))]
    · rw [State.updLane_reg, State.bumpBy_laneReg_ne _ _ (by omega) (hne (by decide)),
        State.bumpBy_laneReg_ne _ _ (by omega) (hne (by decide))]
      rfl

theorem State.checkerSeeks_self (s : State) (l : Nat) :
    (s.checkerSeeks l).lane l = { s.lane l with chkSync := false, chkFrom := s.time.cyc, chkDone := 0, chkErrs := 0 } := by
  obtain ⟨d, e, h⟩ := s.checkerCount_self l
  rw [State.checkerSeeks, State.updLane_self, h]

/-! ## The generator (R202) -/

/-- A lane in `PATTERN` stays there, and starts another pattern where one is set. -/
theorem State.setGen_stays {s : State} {l : Nat} (h : (s.lane l).st = 8) (anew : Bool) :
    s.setGen l true anew = if anew then s.enterLane l 8 else s := by
  unfold State.setGen
  dsimp only
  rw [if_pos rfl, if_pos h]

theorem State.setGen_enters {s : State} {l : Nat} (h : (s.lane l).st ≠ 8) (anew : Bool) : s.setGen l true anew =
    let v := (s.enterLane l 8).updLane l fun x => { x with locked := false, scan := none }
    if (s.lane l).st = 6 then v.laneLeft l (s.lane l).lastCode else if l < 24 then v.podDown l else v := by
  unfold State.setGen
  dsimp only
  rw [if_pos rfl, if_neg h]

theorem State.setGen_enters_self {s : State} {l : Nat} (h : (s.lane l).st ≠ 8) (anew : Bool) :
    (s.setGen l true anew).lane l = { (s.enterLane l 8).lane l with locked := false, scan := none } := by
  have hv := State.updLane_self (s.enterLane l 8) l fun x => { x with locked := false, scan := none }
  rw [State.setGen_enters h]
  dsimp only
  split
  · rw [State.laneLeft_self, hv]
  · split <;> exact hv

theorem State.setGen_leaves {s : State} {l : Nat} (h : (s.lane l).st = 8) (anew : Bool) : s.setGen l false anew =
    let v := s.updLane l fun x => { x with inject := none, scan := none }
    if (s.lane l).enable then v.enterDetect l else v.enterLane l 0 := by
  unfold State.setGen
  dsimp only
  rw [if_neg Bool.false_ne_true, if_neg (by simp [h])]

theorem State.setGen_idle {s : State} {l : Nat} (h : (s.lane l).st ≠ 8) (anew : Bool) : s.setGen l false anew = s := by
  unfold State.setGen
  dsimp only
  rw [if_neg Bool.false_ne_true, if_pos (by simpa using h)]

theorem State.setGen_onlyLane (s : State) (l : Nat) (on anew : Bool) : s.OnlyLane (s.setGen l on anew) l := by
  have h := State.OnlyLane.refl s l
  by_cases hst : (s.lane l).st = 8
  · cases on
    · rw [State.setGen_leaves hst]
      exact .ite (h.updLane _).enterDetect ((h.updLane _).enterLane 0)
    · rw [State.setGen_stays hst]
      exact .ite (h.enterLane 8) h
  · cases on
    · rw [State.setGen_idle hst]
      exact h
    · rw [State.setGen_enters hst]
      have hv := (h.enterLane 8).updLane fun x => { x with locked := false, scan := none }
      exact .ite (hv.laneLeft _) (.ite (hv.podDown l) hv)

theorem State.setGen_laneReg (s : State) (l : Nat) (on anew : Bool) {o : Nat} (h : o < 0x48) :
    (s.setGen l on anew).reg (laneReg l o) = s.reg (laneReg l o) := by
  by_cases hst : (s.lane l).st = 8
  · cases on
    · rw [State.setGen_leaves hst]
      dsimp only
      split
      · rw [State.reg, State.enterDetect_regs]
        rfl
      · rfl
    · rw [State.setGen_stays hst]
      split <;> rfl
  · cases on
    · rw [State.setGen_idle hst]
    · rw [State.setGen_enters hst]
      dsimp only
      split
      · rw [State.laneLeft_laneReg _ _ _ _ h, State.updLane_reg, State.enterLane_reg]
      · split <;> rfl

/-- What the generator leaves of its lane's checker. -/
theorem State.setGen_checker (s : State) (l : Nat) (on anew : Bool) : ((s.setGen l on anew).lane l).chkSync = (s.lane l).chkSync
    ∧ ((s.setGen l on anew).lane l).chkFrom = (s.lane l).chkFrom ∧ ((s.setGen l on anew).lane l).chkErrs = (s.lane l).chkErrs := by
  by_cases hst : (s.lane l).st = 8
  · cases on
    · rw [State.setGen_leaves hst]
      dsimp only
      split
      · rw [State.enterDetect_self, State.updLane_self]
        exact ⟨rfl, rfl, rfl⟩
      · rw [State.enterLane_self, State.updLane_self]
        exact ⟨rfl, rfl, rfl⟩
    · rw [State.setGen_stays hst]
      split
      · rw [State.enterLane_self]
        exact ⟨rfl, rfl, rfl⟩
      · exact ⟨rfl, rfl, rfl⟩
  · cases on
    · rw [State.setGen_idle hst]
      exact ⟨rfl, rfl, rfl⟩
    · rw [State.setGen_enters_self hst, State.enterLane_self]
      exact ⟨rfl, rfl, rfl⟩

/-- With a pattern set the lane is in `PATTERN`, and has just begun it where it came in or the pattern is another. -/
theorem State.setGen_on (s : State) (l : Nat) (anew : Bool) : ((s.setGen l true anew).lane l).st = 8
    ∧ ((s.lane l).st ≠ 8 ∨ anew = true → ((s.setGen l true anew).lane l).entered = s.time.cyc) := by
  by_cases hst : (s.lane l).st = 8
  · rw [State.setGen_stays hst]
    split
    · rw [State.enterLane_self]
      exact ⟨rfl, fun _ => rfl⟩
    · next ha => exact ⟨hst, fun h => absurd (h.resolve_left (not_not_intro hst)) ha⟩
  · rw [State.setGen_enters_self hst, State.enterLane_self]
    exact ⟨rfl, fun _ => rfl⟩

/-- Without one it leaves `PATTERN`. -/
theorem State.setGen_off {s : State} {l : Nat} (h : (s.lane l).st = 8) (anew : Bool) :
    ((s.setGen l false anew).lane l).st = if (s.lane l).enable then 1 else 0 := by
  rw [State.setGen_leaves h]
  dsimp only
  split
  · rw [State.enterDetect_self]
  · rw [State.enterLane_self]

/-! ## `LANE_TEST_CTRL` (R202, R204) -/

/-- The value is held, and a checker given another pattern seeks it. -/
def State.testHeld (s : State) (l v : Nat) : State :=
  let w := s.setReg (laneReg l 0x10) (BitVec.ofNat 32 v)
  if s.chkCode l = v / 8 % 8 then w else w.checkerSeeks l

theorem State.writeTestCtrl_taken {s : State} {l v : Nat} (hm : s.sys.mode = .test) (hgen : v % 8 ≠ 7) (hchk : v / 8 % 8 ≠ 7)
    (hloop : v % 256 / 64 ≠ 3) (huser : v % 8 = 6 → patternOk (s.userBits l) = true) :
    s.writeTestCtrl l v = (Reply.ok, (s.testHeld l (v % 256)).setGen l (v % 8 != 0) (v % 8 != s.genCode l)) := by
  have h8 : v % 256 % 8 = v % 8 := by omega
  have h64 : v % 256 / 8 % 8 = v / 8 % 8 := by omega
  have hok : ((v % 256 != 0 && !s.inTest) || decide (v % 8 = 7) || decide (v / 8 % 8 = 7) || decide (v % 256 / 64 = 3)
      || (decide (v % 8 = 6) && !patternOk (s.userBits l))) = false := by
    simpa [State.inTest, hm, hgen, hchk, hloop] using huser
  simp only [State.writeTestCtrl, h8, h64, hok, Bool.false_eq_true, if_false, State.testHeld]
  rfl

theorem State.testHeld_reg (s : State) (l v : Nat) : (s.testHeld l v).reg (laneReg l 0x10) = BitVec.ofNat 32 v := by
  unfold State.testHeld
  dsimp only
  split
  · exact State.reg_setReg_self ..
  · rw [State.checkerSeeks, State.updLane_reg, State.checkerCount_laneReg _ _ (by decide), State.reg_setReg_self]

theorem State.testHeld_onlyLane (s : State) (l v : Nat) : s.OnlyLane (s.testHeld l v) l := by
  have hset : s.OnlyLane (s.setReg (laneReg l 0x10) (BitVec.ofNat 32 v)) l := .of_lanes rfl rfl rfl rfl
  exact .ite hset ((hset.trans (State.checkerCount_onlyLane ..)).updLane _)

theorem State.testHeld_seeks {s : State} {l v : Nat} (h : v / 8 % 8 ≠ s.chkCode l) : (s.testHeld l v).lane l =
    { s.lane l with chkSync := false, chkFrom := s.time.cyc, chkDone := 0, chkErrs := 0 } := by
  unfold State.testHeld
  dsimp only
  rw [if_neg h.symm]
  exact State.checkerSeeks_self ..

/-- The state of the lane and whether it is enabled are not the checker's. -/
theorem State.testHeld_st (s : State) (l v : Nat) :
    ((s.testHeld l v).lane l).st = (s.lane l).st ∧ ((s.testHeld l v).lane l).enable = (s.lane l).enable := by
  by_cases h : v / 8 % 8 = s.chkCode l
  · rw [State.testHeld, if_pos h.symm]
    exact ⟨rfl, rfl⟩
  · rw [State.testHeld_seeks h]
    exact ⟨rfl, rfl⟩

/-- A value that the register takes: the lane goes into `PATTERN` or out of it, and a checker given another pattern seeks it. -/
theorem State.writeTestCtrl_parts {s : State} {l v : Nat} (hm : s.sys.mode = .test) (hgen : v % 8 ≠ 7) (hchk : v / 8 % 8 ≠ 7)
    (hloop : v % 256 / 64 ≠ 3) (huser : v % 8 = 6 → patternOk (s.userBits l) = true) :
    ∃ y, s.writeTestCtrl l v = (Reply.ok, y) ∧ s.OnlyLane y l ∧ y.regN (laneReg l 0x10) = v % 256
      ∧ (v % 8 ≠ 0 → (y.lane l).st = 8)
      ∧ (v % 8 = 0 → (s.lane l).st = 8 → (y.lane l).st = if (s.lane l).enable then 1 else 0)
      ∧ (v / 8 % 8 ≠ s.chkCode l → (y.lane l).chkSync = false ∧ (y.lane l).chkFrom = s.time.cyc ∧ (y.lane l).chkErrs = 0)
      ∧ (v % 8 ≠ 0 → (s.lane l).st ≠ 8 ∨ v % 8 ≠ s.genCode l → (y.lane l).entered = s.time.cyc) := by
  have hheld := s.testHeld_onlyLane l (v % 256)
  obtain ⟨hst, hen⟩ := s.testHeld_st l (v % 256)
  refine ⟨_, State.writeTestCtrl_taken hm hgen hchk hloop huser, hheld.trans (State.setGen_onlyLane ..), ?_, fun hon => ?_,
    fun hoff hpat => ?_, fun hseek => ?_, fun hon hnew => ?_⟩
  · rw [State.regN, State.setGen_laneReg _ _ _ _ (by decide), State.testHeld_reg, ofNat32_toNat (by omega)]
  · rw [bne_iff_ne.2 hon]
    exact (State.setGen_on ..).1
  · rw [hoff, bne_self_eq_false, State.setGen_off (hst.trans hpat), hen]
  · obtain ⟨hsync, hfrom, herrs⟩ := (s.testHeld l (v % 256)).setGen_checker l (v % 8 != 0) (v % 8 != s.genCode l)
    rw [State.testHeld_seeks (by omega)] at hsync hfrom herrs
    exact ⟨hsync, hfrom, herrs⟩
  · rw [bne_iff_ne.2 hon]
    refine ((State.setGen_on ..).2 ?_).trans hheld.cyc
    rw [hst]
    exact hnew.imp_right bne_iff_ne.2

/-! ## Injection and eye scans (R206, R209) -/

/-- The injection that a lane's registers ask for, begun now. -/
def State.askedInjection (s : State) (l : Nat) : Injection :=
  { mode := s.regN (laneReg l 0x1C) % 4, from' := s.time.cyc, n := s.regN (laneReg l 0x20), len := s.regN (laneReg l 0x1C) / 4 % 65536 }

theorem State.writeInjGo_go {s : State} {l : Nat} (hm : s.sys.mode = .test)
    (h2 : s.regN (laneReg l 0x1C) % 4 = 2 → 2 ≤ s.regN (laneReg l 0x20))
    (h3 : s.regN (laneReg l 0x1C) % 4 = 3 → s.regN (laneReg l 0x1C) / 4 % 65536 ≠ 0) :
    s.writeInjGo l 1 = (Reply.ok, s.updLane l fun x =>
      { x with inject := if s.regN (laneReg l 0x1C) % 4 != 0 then some (s.askedInjection l) else x.inject }) := by
  have hgo : bit 1 0 = true := rfl
  have hstop : bit 1 1 = false := rfl
  have hok : (!s.inTest || (decide (s.regN (laneReg l 0x1C) % 4 = 2) && decide (s.regN (laneReg l 0x20) < 2))
      || (decide (s.regN (laneReg l 0x1C) % 4 = 3) && decide (s.regN (laneReg l 0x1C) / 4 % 65536 = 0))) = false := by
    simpa [State.inTest, hm] using And.intro (Nat.lt_of_succ_le ∘ h2) h3
  simp only [State.writeInjGo, hgo, hstop, hok, Bool.true_and, Bool.false_eq_true, if_false]
  rfl

theorem State.writeInjGo_stop (s : State) (l : Nat) :
    s.writeInjGo l 2 = (Reply.ok, s.updLane l fun x => { x with inject := x.inject.filter (·.mode != 2) }) := by
  have hgo : bit 2 0 = false := rfl
  have hstop : bit 2 1 = true := rfl
  simp only [State.writeInjGo, hgo, hstop, Bool.false_and, Bool.false_eq_true, if_false, if_true]

theorem State.writeEyeCtrl_starts {s : State} {l v : Nat} (hb : bit v 0 = true) (hn : (s.lane l).scan = none)
    (hst : (s.lane l).st = 6 ∨ (s.lane l).st = 8) :
    s.writeEyeCtrl l v = (Reply.ok, (s.setReg (laneReg l 0x28) (BitVec.ofNat 32 (v % 8 / 2 * 2))).updLane l fun x =>
      { x with scan := some { dwell := v / 2 % 4, from' := s.time.cyc }, eyePlanner := false }) := by
  have hst' : ((s.lane l).st != 6 && (s.lane l).st != 8) = false := by
    rcases hst with h | h <;> rw [h] <;> rfl
  simp only [State.writeEyeCtrl, hb, hn, hst', Option.isSome_none, Bool.not_true, Bool.false_eq_true, if_false]

/-! ## The obligation -/

theorem exec_of_mem_testCtrl {c : Instr} {t : Nat} {p : Packet}
    (h : c ∈ [Instr.laneGenSet t p, .laneChkSet t p, .laneLoopSet t p]) (s : State) :
    exec c s = s.runOn t fun s => State.take (p.asWrite (laneReg p.onLane 0x10)) s := by
  simp only [List.mem_cons, List.not_mem_nil, or_false] at h
  rcases h with rfl | rfl | rfl
  · exact exec_laneGenSet ..
  · exact exec_laneChkSet ..
  · exact exec_laneLoopSet ..

/-- Settles O28: a retrain as what each lane it names makes of it, and each other write as its rule's effect on the one lane. -/
theorem laneCommandsComplete : Obligations.LaneCommandsComplete := by
  unfold Obligations.LaneCommandsComplete
  rintro s u t p v0 rfl hm
  refine ⟨fun hq hw hpres => ?_, fun l hq hw hl hb habs => ?_, fun l hl hpres hq hw hmode hgen hchk hloop huser c hc => ?_,
    fun l hl hpres hq hmode h2 h3 => ?_, fun l hl hpres hq => ?_, fun l hl hpres hq hw hb hscan hst => ?_⟩
  · let v := (s.elapse t).unguarded (p.asWrite 0x0004_000C)
    have hlane : ∀ j, v.lane j = s.lane j := (s.elapse t).unguarded_lane _
    have hop : (s.elapse t).effect (p.asWrite 0x0004_000C) = (Reply.ok, (bitList 32 v0.toNat).foldl State.retrainOne v) := by
      have haddr : (p.asWrite 0x0004_000C).addr.toNat = 0x0004_000C := rfl
      rw [State.effect_wr (s := s.elapse t) rfl hq.port hw (State.badAddr_retrain _) (State.namesAbsent_retrain_none hpres) rfl rfl,
        haddr, State.writePlain_retrain, State.retrain_eq]
      rfl
    refine ⟨_, exec_answers (exec_laneRetrain t p s) hq hop, fun l hl hb he hst => ?_, fun l h => ?_, ?_⟩
    · have hre := State.retrains_retrain (s := v) (mem_bitList.2 ⟨hl, hb⟩) (by rwa [hlane]) (by rwa [hlane])
      exact ⟨hre.st, hre.code⟩
    · rw [State.retrains_leave, hlane]
      rw [hlane]
      exact h.imp_left fun hb hmem => Bool.false_ne_true (hb.symm.trans (mem_bitList.1 hmem).2)
    · exact (State.retrains_hive ..).trans (State.guardFail_hive ..)
  · obtain ⟨j, hj⟩ := State.namesAbsent_retrain_some (s := (s.elapse t).admitted (p.asWrite 0x0004_000C)) hl hb habs
    exact ⟨_, _, exec_answers (exec_laneRetrain t p s) hq (State.effect_wr_absent rfl hw (State.badAddr_retrain _) hj),
      rfl, rfl, rfl, rfl⟩
  · let v := (s.elapse t).unguarded (p.asWrite (laneReg l 0x10))
    have hv := (s.elapse t).unguarded_onlyLane (p.asWrite (laneReg l 0x10)) l
    have hlane : v.lane l = s.lane l := (s.elapse t).unguarded_lane _ l
    have hreg : ∀ {o}, o < 0x50 → v.regN (laneReg l o) = s.regN (laneReg l o) := (s.elapse t).unguarded_laneReg _ l
    have hgenOld : v.genCode l = s.genCode l := congrArg (· % 8) (hreg (by decide))
    have hchkOld : v.chkCode l = s.chkCode l := congrArg (· / 8 % 8) (hreg (by decide))
    have huser' : v.userBits l = s.regN (laneReg l 0x18) * 2 ^ 32 + s.regN (laneReg l 0x14) := by
      rw [State.userBits, hreg (by decide), hreg (by decide)]
    obtain ⟨y, hwrite, hy, hval, hon, hoff, hseek, hbegun⟩ := State.writeTestCtrl_parts (s := v) (l := l)
      ((congrArg Sys.mode hv.sys).trans hmode) hgen hchk hloop fun h => huser' ▸ huser h
    rw [hlane] at hoff hbegun
    rw [hv.cyc, hchkOld] at hseek
    rw [hv.cyc, hgenOld] at hbegun
    have hop : (s.elapse t).effect (p.asWrite (laneReg l 0x10)) = (Reply.ok, y) := by
      refine State.effect_laneReg (s := s.elapse t) rfl hq.port rfl hw hpres (.inl rfl) ?_
      rw [State.writePlain_laneReg _ (State.lt_of_lanePresent hpres) (.inl rfl), if_pos rfl]
      exact hwrite
    exact ⟨y, exec_answers (hl ▸ exec_of_mem_testCtrl hc s) hq hop, hval, hon, hoff, hseek, hbegun, (hv.trans hy).others,
      (hv.trans hy).hive⟩
  · let v := (s.elapse t).unguarded (p.writing (laneReg l 0x24) 1)
    have hv := (s.elapse t).unguarded_onlyLane (p.writing (laneReg l 0x24) 1) l
    have hlane : v.lane l = s.lane l := (s.elapse t).unguarded_lane _ l
    have hreg : ∀ {o}, o < 0x50 → v.regN (laneReg l o) = s.regN (laneReg l o) := (s.elapse t).unguarded_laneReg _ l
    have hctl := hreg (o := 0x1C) (by decide)
    have hn := hreg (o := 0x20) (by decide)
    have hop : (s.elapse t).effect (p.writing (laneReg l 0x24) 1) = (Reply.ok, v.updLane l fun x =>
        { x with inject := if v.regN (laneReg l 0x1C) % 4 != 0 then some (v.askedInjection l) else x.inject }) := by
      refine State.effect_laneReg (s := s.elapse t) rfl hq.port rfl (words_toLE (by decide) _ rfl) hpres (.inr (.inl rfl)) ?_
      rw [State.writePlain_laneReg _ (State.lt_of_lanePresent hpres) (.inr (.inl rfl)), if_neg (by decide), if_pos rfl]
      exact State.writeInjGo_go ((congrArg Sys.mode hv.sys).trans hmode) (by rwa [hctl, hn]) (by rwa [hctl])
    refine ⟨_, exec_answers (hl ▸ exec_laneInjGo t p s) hq hop, fun h0 => ?_, fun h0 => ?_, (hv.updLane _).others,
      State.guardFail_pods .., hv.hive⟩
    · rw [State.updLane_self, hctl, hlane]
      simp [h0]
    · rw [State.updLane_self, State.askedInjection, hctl, hn, hv.cyc]
      simp [h0]
  · have hv := (s.elapse t).unguarded_onlyLane (p.writing (laneReg l 0x24) 2) l
    have hlane := (s.elapse t).unguarded_lane (p.writing (laneReg l 0x24) 2) l
    have hop := State.effect_laneReg (s := s.elapse t) (q := p.writing (laneReg l 0x24) 2) rfl hq.port rfl (words_toLE (by decide) _ rfl)
      hpres (.inr (.inl rfl)) (by
        rw [State.writePlain_laneReg _ (State.lt_of_lanePresent hpres) (.inr (.inl rfl)), if_neg (by decide), if_pos rfl]
        exact State.writeInjGo_stop ..)
    refine ⟨_, exec_answers (hl ▸ exec_laneInjStop t p s) hq hop, ?_, (hv.updLane _).others, State.guardFail_pods .., hv.hive⟩
    rw [State.updLane_self, hlane]
    rfl
  · have hv := (s.elapse t).unguarded_onlyLane (p.asWrite (laneReg l 0x28)) l
    have hlane : ((s.elapse t).unguarded (p.asWrite (laneReg l 0x28))).lane l = s.lane l := (s.elapse t).unguarded_lane _ l
    have hop := State.effect_laneReg (s := s.elapse t) (q := p.asWrite (laneReg l 0x28)) rfl hq.port rfl hw hpres (.inr (.inr rfl)) (by
        rw [State.writePlain_laneReg _ (State.lt_of_lanePresent hpres) (.inr (.inr rfl)), if_neg (by decide), if_neg (by decide)]
        exact State.writeEyeCtrl_starts hb (by rwa [hlane]) (by rwa [hlane]))
    refine ⟨_, exec_answers (hl ▸ exec_eyeScanStart t p s) hq hop, ?_, ?_, ?_, (hv.updLane _).others, ?_, hv.hive⟩
    · rw [State.updLane_self, hv.cyc]
    · rw [State.updLane_self]
    · rw [State.updLane_regN, State.regN, State.reg_setReg_self, ofNat32_toNat (by omega)]
    · exact State.guardFail_pods ..

end Sys2Proof.Machine

/-! The indirect window (R213, R547, R548). -/

namespace Sys2Proof.Machine

/-! ## One access -/

/-- A part of the state that an answer of the window carries. -/
theorem triple_state {α β γ : Type} (g : State → γ) (a : α) (b : β) (s : State) : g (a, b, s).2.2 = g s := rfl

/-- An access writes a register of the window at most. -/
theorem State.ixAt_keeps {β : Type} {g : State → β} (h : ∀ s a v, g (State.setReg s a v) = g s) (s : State) (a : Nat)
    (w : Option Word) (c : Bool) : g (s.ixAt a w c).2.2 = g s := by
  have hphy : ∀ l q v, g (s.writePhy l q v).2 = g s := fun l q v => by
    unfold State.writePhy
    split
    · rfl
    · split
      · rfl
      · exact h ..
  unfold State.ixAt
  dsimp only
  split
  · split
    · exact triple_state ..
    · split
      · exact triple_state ..
      · split
        · exact triple_state ..
        · refine (triple_state ..).trans ?_
          split
          · exact h ..
          · rfl
  · split
    · split
      · exact triple_state ..
      · split
        · exact (triple_state ..).trans (hphy ..)
        · exact triple_state ..
    · split
      · split <;> exact triple_state ..
      · split <;> exact triple_state ..

/-- The hub with its ports, and the count of its free values, given. -/
def State.onPorts (s : State) (ps : Ports) (n : Nat) : State := { s with ports := ps, free := n }

theorem State.setReg_onPorts (s : State) (ps : Ports) (n a : Nat) (v : Word) :
    (s.onPorts ps n).setReg a v = (s.setReg a v).onPorts ps n := rfl

theorem State.readField_onPorts (s : State) (ps : Ports) (n o : Nat) : (s.onPorts ps n).readField o = s.readField o := rfl

theorem State.readPhy_onPorts (s : State) (ps : Ports) (n l q : Nat) : (s.onPorts ps n).readPhy l q = s.readPhy l q := rfl

/-- An answer of the window, its state with the ports given. -/
theorem triple_onPorts (r : Reply) (v : Word) (s : State) (ps : Ports) (n : Nat) :
    (r, v, s.onPorts ps n) = ((r, v, s).1, (r, v, s).2.1, (r, v, s).2.2.onPorts ps n) := rfl

/-- No answer of the window rests on the ports. -/
theorem State.ixAt_onPorts (s : State) (ps : Ports) (n a : Nat) (c : Bool) : (s.onPorts ps n).ixAt a none c
    = ((s.ixAt a none c).1, (s.ixAt a none c).2.1, (s.ixAt a none c).2.2.onPorts ps n) := by
  have hchs : (s.onPorts ps n).localChs = s.localChs := rfl
  have hsys : (s.onPorts ps n).sys = s.sys := rfl
  have hfield : (s.onPorts ps n).field = s.field := rfl
  have hreg : (s.onPorts ps n).reg a = s.reg a := rfl
  have hlane : ∀ l, (s.onPorts ps n).lanePresent l = s.lanePresent l := fun _ => rfl
  unfold State.ixAt
  dsimp only
  rw [hchs, hsys, hfield, hreg, hlane, State.readField_onPorts, State.readPhy_onPorts, State.setReg_onPorts]
  split_ifs <;> exact triple_onPorts ..

/-- An access that is served is at an address below the end of the window's spaces. -/
theorem State.lt_of_ixAt_served {s y : State} {a : Nat} {w : Option Word} {c : Bool} {body : List Byte} {v : Word}
    (h : s.ixAt a w c = (.done 0 body, v, y)) : a < 0x0400_0000 := by
  by_contra hge
  unfold State.ixAt at h
  rw [if_neg, if_neg, if_neg, if_neg] at h
  · exact absurd (congrArg (fun r => r.1.status) h) (show stBadAddr ≠ 0 by decide)
  all_goals
    simp only [Bool.and_eq_true, decide_eq_true_eq]
    omega

/-- A served access of `IX_DATA` moves `IX_ADDR` on by a word. -/
theorem State.ixAccess_served {s y : State} {p : Port} {w : Option Word} {c : Bool} {body : List Byte} {v : Word}
    (h : s.ixAt (s.port p).ixAddr.toNat w c = (.done 0 body, v, y)) :
    s.ixAccess p w c = (.done 0 body, v, y.updPort p fun x => { x with ixAddr := x.ixAddr + 4 }) := by
  unfold State.ixAccess
  rw [h]
  rfl

/-- A served access leaves its port's `IX_ADDR` to be moved on. -/
theorem State.ixAt_port {s y : State} {a : Nat} {w : Option Word} {c : Bool} {r : Reply} {v : Word}
    (h : s.ixAt a w c = (r, v, y)) (p : Port) : y.port p = s.port p := by
  have := State.ixAt_keeps (g := fun s => s.port p) (fun _ _ _ => rfl) s a w c
  rwa [h] at this

theorem State.ixAt_field {s y : State} {a : Nat} {w : Option Word} {c : Bool} {r : Reply} {v : Word}
    (h : s.ixAt a w c = (r, v, y)) : y.field = s.field := by
  have := State.ixAt_keeps State.setReg_field s a w c
  rwa [h] at this

theorem State.ixAt_hive {s y : State} {a : Nat} {w : Option Word} {c : Bool} {r : Reply} {v : Word}
    (h : s.ixAt a w c = (r, v, y)) : y.hive = s.hive := by
  have := State.ixAt_keeps State.setReg_hive s a w c
  rwa [h] at this

/-! ## Words in sequence -/

/-- `IX_ADDR` of the host port stands at an address. -/
def State.IxStands (s : State) (a : Nat) : Prop := (s.port .host).ixAddr = BitVec.ofNat 32 a

theorem State.setIxAddr_stands (s : State) {a : Nat} (h : a % 4 = 0) : (s.setIxAddr .host a).IxStands a := by
  unfold State.IxStands State.setIxAddr
  rw [State.updPort_self, show a / 4 * 4 = a by omega]

/-- After an access the address stands a word further. -/
theorem State.IxStands.next {s : State} {a : Nat} (h : s.IxStands a) :
    (s.updPort .host fun x => { x with ixAddr := x.ixAddr + 4 }).IxStands (a + 4) := by
  unfold State.IxStands at h ⊢
  rw [State.updPort_self, h]
  exact (BitVec.ofNat_add ..).symm

/-- Words that are read without effect are read in order. -/
theorem State.ixReads_serves {u : State} {a : Nat} {vs : List Word}
    (h : ∀ i y, vs[i]? = some y → ∃ body, u.ixAt (a + 4 * i) none true = (.done 0 body, y, u)) (acc : List Word)
    {ps : Ports} (n : Nat) (ha : (u.onPorts ps n).IxStands a) :
    ∃ ps', (u.onPorts ps n).ixReads .host vs.length acc = (Reply.ok, acc.reverse ++ vs, u.onPorts ps' n)
      ∧ (u.onPorts ps' n).IxStands (a + 4 * vs.length) := by
  induction vs generalizing a acc ps with
  | nil => exact ⟨ps, by simp [State.ixReads], ha⟩
  | cons v vs ih =>
    obtain ⟨body, hbody⟩ := h 0 v rfl
    have hread : (u.onPorts ps n).ixAt ((u.onPorts ps n).port .host).ixAddr.toNat none true = (.done 0 body, v, u.onPorts ps n) := by
      have hlt : a < 0x0400_0000 := State.lt_of_ixAt_served hbody
      rw [ha, ofNat32_toNat (by omega), State.ixAt_onPorts, show a = a + 4 * 0 from rfl, hbody]
    obtain ⟨ps', hvs, hend⟩ := ih (a := a + 4) (fun i y hy => by
      rw [show a + 4 + 4 * i = a + 4 * (i + 1) by omega]
      exact h (i + 1) y hy) (v :: acc) ha.next
    refine ⟨ps', ?_, by rwa [List.length_cons, show a + 4 * (vs.length + 1) = a + 4 + 4 * vs.length by omega]⟩
    simp only [List.length_cons, State.ixReads, State.ixAccess_served hread]
    exact hvs.trans (by rw [List.reverse_cons, List.append_assoc, List.singleton_append])

/-- A word written at the address changes nothing: the field die's own registers and OTP, over its link, and the user OTP, are no place to
write (log entry 29). -/
def State.IxIgnores (s : State) (a : Nat) : Prop :=
  (0x0100_0000 ≤ a ∧ a < 0x0100_1000 + 0x40 * s.localChs ∧ s.sys.fdLink = true)
    ∨ (0x0300_0000 ≤ a ∧ a < 0x0300_1000 ∧ s.sys.fdLink = true) ∨ (0x0300_1000 ≤ a ∧ a < 0x0300_1100)

theorem State.ixAt_ignored {s : State} {a : Nat} (h : s.IxIgnores a) (v : Word) (c : Bool) :
    s.ixAt a (some v) c = (.done 0 [], 0, s) := by
  have hchs := s.localChs_le
  have hin : ∀ {lo hi : Nat}, lo ≤ a → a < hi → (decide (lo ≤ a) && decide (a < hi)) = true := fun h h' => by simp [h, h']
  have hout : ∀ {lo hi : Nat}, hi ≤ a → ¬ (decide (lo ≤ a) && decide (a < hi)) = true := fun h => by
    simp only [Bool.and_eq_true, decide_eq_true_eq]
    omega
  have hpresent : a < 0x0100_1000 + 0x40 * s.localChs →
      ¬ (decide (0x1000 ≤ a - 0x0100_0000) && decide (s.localChs ≤ (a - 0x0100_0000 - 0x1000) / 0x40)) = true := fun h => by
    simp only [Bool.and_eq_true, decide_eq_true_eq]
    omega
  unfold State.ixAt
  dsimp only
  rcases h with ⟨hlo, hhi, hlink⟩ | ⟨hlo, hhi, hlink⟩ | ⟨hlo, hhi⟩
  · rw [if_pos (hin hlo (by omega)), if_neg (hpresent hhi), hlink]
    rfl
  · rw [if_neg (hout (by omega)), if_neg (hout (by omega)), if_pos (hin hlo hhi), hlink]
    rfl
  · rw [if_neg (hout (by omega)), if_neg (hout (by omega)), if_neg (hout (by omega)), if_pos (hin hlo hhi)]
    rfl

/-- Words so written leave all but `IX_ADDR`. -/
theorem State.ixWrites_ignored {s : State} {a : Nat} {ws : List Word} (h : ∀ i, i < ws.length → s.IxIgnores (a + 4 * i))
    {ps : Ports} (n : Nat) (ha : (s.onPorts ps n).IxStands a) :
    ∃ ps', (s.onPorts ps n).ixWrites .host ws = (Reply.ok, s.onPorts ps' n)
      ∧ (s.onPorts ps' n).IxStands (a + 4 * ws.length) := by
  induction ws generalizing a ps with
  | nil => exact ⟨ps, rfl, ha⟩
  | cons v ws ih =>
    have hhere : (s.onPorts ps n).IxIgnores a := h 0 (by simp)
    have hlt : a < 2 ^ 32 := State.lt_of_ixAt_served (State.ixAt_ignored hhere v true) |>.trans (by decide)
    have hwrite : (s.onPorts ps n).ixAt ((s.onPorts ps n).port .host).ixAddr.toNat (some v) true = (.done 0 [], 0, s.onPorts ps n) := by
      rw [ha, ofNat32_toNat hlt]
      exact State.ixAt_ignored hhere v true
    obtain ⟨ps', hws, hend⟩ := ih (a := a + 4) (fun i hi => by
      rw [show a + 4 + 4 * i = a + 4 * (i + 1) by omega]
      exact h (i + 1) (by simpa using hi)) ha.next
    refine ⟨ps', ?_, by rwa [List.length_cons, show a + 4 * (ws.length + 1) = a + 4 + 4 * ws.length by omega]⟩
    simp only [State.ixWrites, State.ixAccess_served hwrite]
    exact hws

/-! ## The commands of the window -/

theorem State.admitted_ixAddr (s : State) (q : Packet) : ((s.admitted q).port .host).ixAddr = (s.port .host).ixAddr := by
  rw [State.admitted, State.updPort_self]
  rfl

/-- With no guarded write waiting, a command's effect begins in the state that admitted it. -/
theorem State.guardFail_admitted {s : State} (q : Packet) (hg : (s.port .host).guard = none) :
    (s.admitted q).guardFail .host = s.admitted q := State.guardFail_none ((State.admitted_guard s q).trans hg)

theorem State.writePlain_ixAddr (s : State) (v : Word) (avs : AvsAnswer) :
    s.writePlain .host 0x000D_0000 v avs = (Reply.ok, s.setIxAddr .host v.toNat) := rfl

theorem State.writePlain_ixData (s : State) (v : Word) (avs : AvsAnswer) :
    s.writePlain .host 0x000D_0004 v avs
      = ((s.ixAccess .host (some v) true).1, (s.ixAccess .host (some v) true).2.2) := rfl

theorem State.readReg_ixData (s : State) : s.readReg .host 0x000D_0004 true = s.ixAccess .host none true := rfl

theorem State.badAddr_ix (s : State) : s.badAddr 0x000D_0000 = none ∧ s.badAddr 0x000D_0004 = none := ⟨rfl, rfl⟩

theorem State.effect_ixrd {s : State} {q : Packet} {n : Nat} {vs : List Word} {y : State} (h3 : q.opcode = 3) (hp : q.port = .host)
    (hn : q.count = some n) (ha : q.addr.toNat % 4 = 0)
    (hy : ((s.admitted q).setIxAddr .host q.addr.toNat).ixReads .host n [] = (.done 0 [], vs, y)) :
    s.effect q = (.done stOk (bytesOf vs), y) := by
  have hop : q.opcode.toNat = 3 := by rw [h3]; rfl
  simp only [State.effect, State.applyPacket, hop, State.opIxrd, hn, ha, hp, hy, bne_self_eq_false, Bool.false_eq_true, if_false]

theorem State.effect_ixwr {s : State} {q : Packet} {ws : List Word} (h4 : q.opcode = 4) (hp : q.port = .host)
    (hg : (s.port .host).guard = none) (hw : q.words = some ws) (ha : q.addr.toNat % 4 = 0) :
    s.effect q = ((s.admitted q).setIxAddr .host q.addr.toNat).ixWrites .host ws := by
  have hop : q.opcode.toNat = 4 := by rw [h4]; rfl
  simp only [State.effect, State.applyPacket, hop, State.opIxwr, hp, State.guardFail_admitted q hg, hw, ha, bne_self_eq_false,
    Bool.false_eq_true, if_false]

/-! ## Overrides of a PHY (R213) -/

/-- An override written in TEST is held. -/
theorem State.ixAt_override {s : State} {l k a : Nat} {v : Word} (hm : s.sys.mode = .test) (hl : s.lanePresent l = true)
    (ha : a = 0x0200_0000 + 0x1000 * l + k) (hk : (k = 0 ∧ bits v.toNat 1 4 ≤ 10) ∨ k = 4) (c : Bool) :
    s.ixAt a (some v) c = (.done 0 [], 0, s.setReg a (v &&& (if k = 0 then 0xFF else 0x3F))) := by
  have h32 := State.lt_of_lanePresent hl
  have hlane : (a - 0x0200_0000) / 0x1000 = l := by omega
  have hoff : (a - 0x0200_0000) % 0x1000 = k := by omega
  have hwrite : s.writePhy l k v = (Reply.ok, s.setReg a (v &&& (if k = 0 then 0xFF else 0x3F))) := by
    subst ha
    rcases hk with ⟨rfl, hb⟩ | rfl
    · simp [State.writePhy, State.inTest, hm, Nat.not_lt.2 hb]
    · simp [State.writePhy, State.inTest, hm]
  have hfield : ¬ (decide (0x0100_0000 ≤ a) && decide (a < 0x0100_1800)) = true := by
    simp only [Bool.and_eq_true, decide_eq_true_eq]
    omega
  have hphy : (decide (0x0200_0000 ≤ a) && decide (a < 0x0202_0000)) = true := by
    simp only [Bool.and_eq_true, decide_eq_true_eq]
    omega
  unfold State.ixAt
  dsimp only
  rw [hlane, hoff, hl, hwrite, if_neg hfield, if_pos hphy]
  rfl

/-! ## The obligation -/

/-- Settles O52: each command as accesses of the window, and each access by its unit's answer. -/
theorem windowComplete : Obligations.WindowComplete := by
  unfold Obligations.WindowComplete
  rintro s u x t a p q v rfl rfl hg
  have hguard : ((s.elapse t).port .host).guard = none := hg
  refine ⟨?_, fun body y => ?_, fun body r y => ?_, fun n vs => ?_, fun ws => ?_, fun l k => ?_⟩
  · rintro rfl hq hw
    have hop : (s.elapse t).effect (p.asWrite 0x000D_0000)
        = (Reply.ok, ((s.elapse t).admitted (p.asWrite 0x000D_0000)).setIxAddr .host v.toNat) := by
      have haddr : (p.asWrite 0x000D_0000).addr.toNat = 0x000D_0000 := rfl
      rw [State.effect_wr (s := s.elapse t) rfl hq.port hw (State.badAddr_ix _).1 rfl rfl rfl, State.guardFail_admitted _ hguard, haddr,
        State.writePlain_ixAddr]
      rfl
    refine ⟨_, exec_answers (exec_ixAddrWrite t p s) hq hop, ?_⟩
    rw [State.setIxAddr, State.updPort_self]
    exact ⟨rfl, rfl, rfl, rfl, rfl, rfl, rfl⟩
  · rintro rfl hq hread
    have hix : (((s.elapse t).admitted (p.reading 0x000D_0004)).port .host).ixAddr = (s.port .host).ixAddr := State.admitted_ixAddr ..
    rw [← hix] at hread
    have hop := State.effect_reading (s := s.elapse t) (p := p) (a := 0x000D_0004) hq.port (by decide)
    rw [State.readReg_ixData, State.ixAccess_served hread] at hop
    have hfield := State.ixAt_field hread
    have hhive := State.ixAt_hive hread
    refine ⟨_, exec_answers (exec_ixDataRead t p s) hq hop, ?_, rfl, hfield, hhive⟩
    rw [State.updPort_self, State.ixAt_port hread, hix]
  · rintro rfl hq hw hwrite
    have hix : (((s.elapse t).admitted (p.asWrite 0x000D_0004)).port .host).ixAddr = (s.port .host).ixAddr := State.admitted_ixAddr ..
    rw [← hix] at hwrite
    have hop : (s.elapse t).effect (p.asWrite 0x000D_0004)
        = (Reply.ok, y.updPort .host fun x => { x with ixAddr := x.ixAddr + 4 }) := by
      have haddr : (p.asWrite 0x000D_0004).addr.toNat = 0x000D_0004 := rfl
      rw [State.effect_wr (s := s.elapse t) rfl hq.port hw (State.badAddr_ix _).2 rfl rfl rfl, State.guardFail_admitted _ hguard, haddr,
        State.writePlain_ixData, State.ixAccess_served hwrite]
      rfl
    have hfield := State.ixAt_field hwrite
    have hhive := State.ixAt_hive hwrite
    refine ⟨_, exec_answers (exec_ixDataWrite t p s) hq hop, ?_, rfl, hfield, hhive⟩
    rw [State.updPort_self, State.ixAt_port hwrite, hix]
  · rintro rfl hq hn rfl ha rfl hvs
    obtain ⟨ps, hread, hend⟩ := State.ixReads_serves hvs [] (s.free + 1)
      (ps := (((s.elapse t).admitted (p.withOp 3)).setIxAddr .host p.addr.toNat).ports) (State.setIxAddr_stands _ ha)
    exact ⟨_, exec_answers (exec_ixrd t p s) hq (State.effect_ixrd rfl hq.port hn ha hread), hend, rfl, rfl, rfl⟩
  · rintro rfl hq hw rfl ha hwhere
    have hignored : ∀ i, i < ws.length → (s.elapse t).IxIgnores (p.addr.toNat + 4 * i) := fun i hi => by
      have hchs : (s.elapse t).localChs = s.localChs := rfl
      unfold State.IxIgnores
      rw [hchs]
      rcases hwhere with ⟨hlo, hhi, hlink⟩ | ⟨hlo, hhi, hlink⟩ | ⟨hlo, hhi⟩
      · exact .inl ⟨by omega, by omega, hlink⟩
      · exact .inr (.inl ⟨by omega, by omega, hlink⟩)
      · exact .inr (.inr ⟨by omega, by omega⟩)
    obtain ⟨ps, hwrite, hend⟩ := State.ixWrites_ignored hignored (s.free + 1)
      (ps := (((s.elapse t).admitted (p.withOp 4)).setIxAddr .host p.addr.toNat).ports) (State.setIxAddr_stands _ ha)
    exact ⟨_, exec_answers (exec_ixwr t p s) hq ((State.effect_ixwr rfl hq.port hguard hw ha).trans hwrite), hend, rfl, rfl, rfl⟩
  · rintro rfl hq hw hm hl haddr hk
    have ha : p.addr.toNat % 4 = 0 := by omega
    let y := ((s.elapse t).admitted (p.withOp 4)).setIxAddr .host p.addr.toNat
    have hstands : y.IxStands p.addr.toNat := State.setIxAddr_stands _ ha
    have hwrite : y.ixAt (y.port .host).ixAddr.toNat (some v) true
        = (.done 0 [], 0, y.setReg p.addr.toNat (v &&& (if k = 0 then 0xFF else 0x3F))) := by
      rw [hstands, ofNat32_toNat p.addr.isLt]
      exact State.ixAt_override (s := y) hm hl haddr hk true
    have hop : (s.elapse t).effect (p.withOp 4) = (Reply.ok, (y.setReg p.addr.toNat (v &&& (if k = 0 then 0xFF else 0x3F))).updPort .host
        fun x => { x with ixAddr := x.ixAddr + 4 }) := by
      refine (State.effect_ixwr rfl hq.port hguard hw ha).trans ?_
      show y.ixWrites .host [v] = _
      simp only [State.ixWrites, State.ixAccess_served hwrite]
    refine ⟨_, exec_answers (exec_ixwr t p s) hq hop, State.reg_setReg_self .., fun b hb => ?_, rfl, rfl⟩
    exact (State.reg_setReg ..).trans (if_neg hb)

end Sys2Proof.Machine

/-! SUPPORT. Lists with their places, as the Comb and the images number them. -/

namespace Sys2Proof.Machine

theorem mem_zip_range {α : Type} {l : List α} {x : α} {k : Nat} : (x, k) ∈ l.zip (List.range l.length) ↔ l[k]? = some x := by
  rw [List.range_eq_range', ← List.zipIdx_eq_zip_range', List.mk_mem_zipIdx_iff_getElem?]

/-- An entry of a list whose entries change by their places. -/
theorem getElem?_map_zip_range {α β : Type} (l : List α) (f : α × Nat → β) (j : Nat) :
    ((l.zip (List.range l.length)).map f)[j]? = l[j]?.map fun x => f (x, j) := by
  rw [List.range_eq_range', ← List.zipIdx_eq_zip_range', List.getElem?_map, List.getElem?_zipIdx]
  cases l[j]? <;> simp

/-- One entry changed by its place is the list with that entry set. -/
theorem map_zip_range_eq_set {α : Type} {l : List α} {k : Nat} {x : α} (h : l[k]? = some x) (f : α → α) :
    (l.zip (List.range l.length)).map (fun y => if y.2 = k then f y.1 else y.1) = l.set k (f x) := by
  refine List.ext_getElem? fun j => ?_
  rw [getElem?_map_zip_range, List.getElem?_set]
  by_cases hj : k = j
  · subst hj
    obtain ⟨hk, rfl⟩ := List.getElem?_eq_some_iff.1 h
    simp [hk]
  · simp [hj, Ne.symm hj]

/-- A fold of operations that each leave something as it was leaves it so. -/
theorem foldl_fixes {σ α β : Type} {g : σ → β} {f : σ → α → σ} (h : ∀ s x, g (f s x) = g s) (l : List α) (s : σ) :
    g (l.foldl f s) = g s := by
  induction l generalizing s with
  | nil => rfl
  | cons x l ih => rw [List.foldl_cons, ih, h]

end Sys2Proof.Machine

/-! The Comb at work (R258, R262, R300, R302, R310, R314). -/

namespace Sys2Proof.Machine

/-! ## Epochs' work -/

/-- How far an epoch's work has come, its span and the parity hits it met: no accumulation changes them. -/
def Work.pace (w : Work) := (w.next, w.start, w.stop, w.parity)

theorem srpSample_pace (i : ProgInst) (hits : List ParityHit) (m : Nat) (w : Work) : (srpSample i hits m w).1.pace = w.pace := by
  unfold srpSample
  exact foldl_fixes (g := fun wr : Work × List (Nat × Nat × HistEntry) => wr.1.pace) (by intro wr p; rfl) _ (w, [])

theorem Work.addTo_pace (w : Work) (k : Nat) (a b lim lo : Int) : (w.addTo k a b lim lo).pace = w.pace := by
  unfold Work.addTo
  split <;> rfl

/-- A block counts itself and the parity hits it met (R258, R262). The block's definition is exchanged as a function, so that the kernel does
not evaluate its fold. -/
theorem srpBlock_pace (i : ProgInst) (hits : List ParityHit) (w : Work) :
    (srpBlock i hits w).pace = (w.next + 1, w.start, w.stop, w.parity + hits.length) := by
  suffices h : ∀ f, f = srpBlock → (f i hits w).pace = (w.next + 1, w.start, w.stop, w.parity + hits.length) from h srpBlock rfl
  intro f hf
  delta srpBlock at hf
  subst hf
  beta_reduce
  extract_lets m0 stop all
  generalize hx : List.foldl _ (w, []) _ = x
  have hpace : x.1.pace = w.pace := by
    subst hx
    refine foldl_fixes (g := fun wr : Work × List (Nat × Nat × HistEntry) => wr.1.pace) (fun wr m => ?_) _ (w, [])
    have h := srpSample_pace i hits m wr.1
    revert h
    generalize srpSample i hits m wr.1 = y
    obtain ⟨a, b⟩ := y
    exact id
  clear hx
  obtain ⟨w', reads⟩ := x
  simp only [Work.pace, Prod.mk.injEq] at hpace
  obtain ⟨-, hstart, hstop, hpar⟩ := hpace
  simp only [Work.pace, Work.count, hstart, hstop, hpar]
/-- A frame counts itself and the parity hits it met (R302, R310). -/
theorem State.specFrame_pace (s : State) (i : ProgInst) (hits : List ParityHit) (w : Work) :
    (s.specFrame i hits w).pace = (w.next + 1, w.start, w.stop, w.parity + hits.length) := by
  suffices h : ∀ f, f = State.specFrame → (f s i hits w).pace = (w.next + 1, w.start, w.stop, w.parity + hits.length) from
    h State.specFrame rfl
  intro f hf
  delta State.specFrame at hf
  subst hf
  beta_reduce
  extract_lets r n k0 slots data w1 w2 w3 bins spec xs ps w4
  have h2 : w2.pace = (w.next + 1, w.start, w.stop, w.parity + hits.length) := rfl
  have h3 : w3.pace = w2.pace :=
    foldl_fixes (g := Work.pace) (fun w h => by cases h <;> rfl) hits w2
  rw [← h2, ← h3]
  split
  · split
    · rfl
    · rw [← show w4.pace = w3.pace from rfl]
      exact foldl_fixes (g := Work.pace) (fun w b => foldl_fixes (g := Work.pace) (fun w pe => Work.addTo_pace ..) _ w) _ w4
  · refine foldl_fixes (g := Work.pace) (fun w dc => ?_) _ _
    split
    · rfl
    · exact foldl_fixes (g := Work.pace) (fun w b => Work.addTo_pace ..) _ _

/-! ## The next block or frame -/

theorem State.nextWork_some {s : State} {p ii wi : Nat} {i : ProgInst} {w : Work} (h : s.nextWork p = some (ii, i, wi, w)) :
    s.comb.insts[ii]? = some i := by
  obtain ⟨x, hx, hf⟩ := List.exists_of_findSome?_eq_some h
  split at hf
  · obtain ⟨y, -, hy⟩ := List.exists_of_findSome?_eq_some hf
    split at hy
    · cases hy
      exact mem_zip_range.1 hx
    · cases hy
  · cases hf

theorem State.setWork_insts_self {s : State} {ii : Nat} {i : ProgInst} (h : s.comb.insts[ii]? = some i) (wi : Nat) (w : Work) :
    (s.setWork ii wi w).comb.insts[ii]? = some { i with works := i.works.set wi w } := by
  simp only [State.setWork, getElem?_map_zip_range, h, Option.map_some, if_true]

theorem State.setWork_insts_ne {ii j : Nat} (s : State) (wi : Nat) (w : Work) (h : j ≠ ii) :
    (s.setWork ii wi w).comb.insts[j]? = s.comb.insts[j]? := by
  simp only [State.setWork, getElem?_map_zip_range, if_neg h, Option.map_id']

/-- The system, the streams and Hive: a block or frame leaves them as they were. -/
def State.besideWork (s : State) := (s.sys, s.streams, s.hive)

theorem State.besideWork_parts {s t : State} (h : t.besideWork = s.besideWork) :
    t.sys = s.sys ∧ t.streams = s.streams ∧ t.hive = s.hive := by
  simpa only [State.besideWork, Prod.mk.injEq] using h

theorem State.parityError_besideWork (s : State) (f : Nat) : (s.parityError f).besideWork = s.besideWork := by
  simp [State.parityError, State.besideWork]

theorem State.parityError_comb (s : State) (f : Nat) : (s.parityError f).comb = { s.comb with parity := true } := by
  simp [State.parityError]

theorem State.parityErrors_besideWork (hits : List ParityHit) (s : State) :
    (hits.foldl (fun s h => s.parityError (hitFrame h)) s).besideWork = s.besideWork :=
  foldl_keeps (fun s _ => State.parityError_besideWork s _) hits s

/-- Parity errors mark the Comb, and change nothing else of it. -/
theorem State.parityErrors_comb (hits : List ParityHit) (s : State) :
    (hits.foldl (fun s h => s.parityError (hitFrame h)) s).comb = { s.comb with parity := s.comb.parity || !hits.isEmpty } := by
  induction hits generalizing s with
  | nil => simp
  | cons h hits ih => rw [List.foldl_cons, ih, State.parityError_comb]; simp

/-- Points that saturate are counted. -/
theorem State.bumps_besideWork {α : Type} (l : List α) (a : Nat) (s : State) :
    (l.foldl (fun s _ => s.bump a) s).besideWork = s.besideWork :=
  foldl_keeps (fun s _ => by simp [State.besideWork]) l s

theorem State.bumps_comb {α : Type} (l : List α) (a : Nat) (s : State) : (l.foldl (fun s _ => s.bump a) s).comb = s.comb :=
  foldl_keeps (fun s _ => State.bump_comb s a) l s

/-- What a block or frame leaves: its work in its place, and the mark of parity errors. -/
theorem State.runWork_spec (s : State) (hits : List ParityHit) (ii : Nat) (i : ProgInst) (wi : Nat) (w : Work) :
    (s.runWork hits ii i wi w).besideWork = s.besideWork
      ∧ (s.runWork hits ii i wi w).comb = { (s.setWork ii wi (if recType i.cfg = 0 then srpBlock i hits w else s.specFrame i hits w)).comb
          with parity := s.comb.parity || !hits.isEmpty } := by
  unfold State.runWork
  extract_lets w' n t t'
  have hb : t'.besideWork = s.besideWork := ite_keeps (g := State.besideWork) (t := (List.range n).foldl _ t) (State.bumps_besideWork _ _ t)
  have hc : t'.comb = t.comb := ite_keeps (g := State.comb) (State.bumps_comb _ _ t)
  refine ⟨(State.parityErrors_besideWork hits t').trans hb, ?_⟩
  rw [State.parityErrors_comb, hc]
  rfl

theorem State.combWork_next {s : State} {p ii wi : Nat} {i : ProgInst} {w : Work} {spectral : Bool} (hits : List ParityHit)
    (h : s.nextWork p = some (ii, i, wi, w)) (hk : (recType i.cfg != 0) = spectral) (ht : workNext i.cfg w + s.workLag i w ≤ s.sub) :
    s.combWork spectral p hits = s.runWork hits ii i wi w := by
  simp [State.combWork, h, hk, ht]

/-- The next block or frame, as both rows state it: its work counts it, and nothing beside its program's entry changes. -/
theorem State.combWork_spec {s : State} {p ii wi : Nat} {i : ProgInst} {w w' : Work} {spectral : Bool} {hits : List ParityHit}
    (h : s.nextWork p = some (ii, i, wi, w)) (hk : (recType i.cfg != 0) = spectral) (ht : workNext i.cfg w + s.workLag i w ≤ s.sub)
    (hw : (if recType i.cfg = 0 then srpBlock i hits w else s.specFrame i hits w) = w') :
    ∃ v, v = s.combWork spectral p hits ∧ v.comb.insts[ii]? = some { i with works := i.works.set wi w' }
      ∧ w'.next = w.next + 1 ∧ w'.start = w.start ∧ w'.stop = w.stop ∧ w'.parity = w.parity + hits.length
      ∧ (hits ≠ [] → v.comb.parity = true) ∧ (∀ j, j ≠ ii → v.comb.insts[j]? = s.comb.insts[j]?)
      ∧ v.streams = s.streams ∧ v.sys = s.sys ∧ v.hive = s.hive := by
  have hpace : w'.pace = (w.next + 1, w.start, w.stop, w.parity + hits.length) := by
    rw [← hw]
    split
    · exact srpBlock_pace i hits w
    · exact s.specFrame_pace i hits w
  obtain ⟨hn, hstart, hstop, hpar⟩ : w'.next = _ ∧ w'.start = _ ∧ w'.stop = _ ∧ w'.parity = _ := by
    simpa only [Work.pace, Prod.mk.injEq] using hpace
  obtain ⟨hbeside, hcomb⟩ := s.runWork_spec hits ii i wi w
  rw [hw] at hcomb
  obtain ⟨hsys, hstr, hhive⟩ := State.besideWork_parts hbeside
  refine ⟨_, (State.combWork_next hits h hk ht).symm, ?_, hn, hstart, hstop, hpar, fun hne => ?_, fun j hj => ?_, hstr, hsys, hhive⟩
  · rw [hcomb]
    exact State.setWork_insts_self (State.nextWork_some h) wi w'
  · rw [hcomb]
    simp [hne]
  · rw [hcomb]
    exact State.setWork_insts_ne s wi w' hj

/-! ## Products held and sent (R31, R331) -/

/-- What records on their way to their streams leave: the system, time, the bytes of Hive, and the Comb but for the records it holds. -/
def State.besideHeld (s : State) := (s.sys, s.time, s.hive.mem, { s.comb with held := [] })

theorem State.besideHeld_of_still {s t : State} (h : t.still = s.still) : t.besideHeld = s.besideHeld := by
  obtain ⟨hsys, htime, -, -, -, -, -, -, hmem, hcomb, -⟩ := State.still_parts h
  rw [State.besideHeld, hsys, htime, hmem, hcomb, State.besideHeld]

theorem State.flushProducts_besideHeld (all : Bool) (n : Nat) (s : State) : (State.flushProducts all n s).besideHeld = s.besideHeld := by
  induction n generalizing s with
  | zero => rfl
  | succ n ih =>
    unfold State.flushProducts
    extract_lets ready
    clear_value ready
    cases ready with
    | nil => rfl
    | cons h _ =>
      dsimp only
      rw [ih]
      split
      · exact (State.besideHeld_of_still (State.emits_still ..)).trans rfl
      · rfl

theorem State.holdProducts_besideHeld (s : State) (p gen : Nat) (ps : List (Int × Nat × List Record)) :
    (s.holdProducts p gen ps).besideHeld = s.besideHeld :=
  State.flushProducts_besideHeld ..

theorem State.besideHeld_parts {s t : State} (h : t.besideHeld = s.besideHeld) :
    t.sys = s.sys ∧ t.time = s.time ∧ t.hive.mem = s.hive.mem ∧ t.comb.insts = s.comb.insts ∧ t.comb.miss = s.comb.miss := by
  simp only [State.besideHeld, Prod.mk.injEq, Comb.mk.injEq] at h
  tauto

/-- The totals of a closed epoch, frame by frame (R253). -/
theorem State.showCounts_miss (s : State) (r : List Byte) (miss settle : Tab Nat) {q : Nat} (h : q < recFrames r) :
    Tab.get (fun _ => 0) (s.showCounts r miss settle).comb.miss (recFirst r + q) = Tab.get (fun _ => 0) miss (recFirst r + q) := by
  unfold State.showCounts
  generalize recFrames r = n at h
  induction n with
  | zero => omega
  | succ n ih =>
    rw [List.range_succ, List.foldl_append]
    by_cases hq : q = n
    · subst hq
      exact Tab.get_set_self ..
    · exact (Tab.get_set_ne _ _ (by omega)).trans (ih (by omega))

/-- What showing totals leaves: the system, time, the bytes of Hive and the programs at work. -/
theorem State.showCounts_beside (s : State) (r : List Byte) (miss settle : Tab Nat) :
    (s.showCounts r miss settle).sys = s.sys ∧ (s.showCounts r miss settle).time = s.time
      ∧ (s.showCounts r miss settle).hive = s.hive ∧ (s.showCounts r miss settle).comb.insts = s.comb.insts := by
  have h : (fun t : State => (t.sys, t.time, t.hive, t.comb.insts)) (s.showCounts r miss settle) = (s.sys, s.time, s.hive, s.comb.insts) := by
    unfold State.showCounts
    exact foldl_keeps (g := fun t : State => (t.sys, t.time, t.hive, t.comb.insts)) (by intro t q; rfl) _ s
  simpa only [Prod.mk.injEq] using h

/-! ## Products of an epoch (R300, R314) -/

/-- An epoch whose work is done and whose boundary has come gives its products. -/
theorem State.productEmit_due {s : State} {p ii : Nat} {i : ProgInst} {w : Work} (h : s.oldestWork p = some (ii, i, w))
    (he : w.emitted = false) (hn : workTotal i.cfg w ≤ w.next) (hs : w.closed = true ∨ w.stop ≤ s.ns) :
    s.productEmit p = s.emitWork p ii i w false := by
  have hn' : ¬ w.next < workTotal i.cfg w := by omega
  have hs' : w.closed = false → ¬ s.ns < w.stop := fun hc => by
    rcases hs with hs | hs
    · simp [hc] at hs
    · omega
  unfold State.productEmit
  rw [h]
  cases hc : w.closed <;> simp_all

theorem State.svdDone_due {s : State} {p ii c : Nat} {i : ProgInst} {w : Work} (h : s.oldestWork p = some (ii, i, w))
    (hc : w.svdAt = some c) (ht : c ≤ s.time.cyc) : s.svdDone p = s.emitPairs p ii i w := by
  unfold State.svdDone
  simp only [h, hc, if_neg (show ¬ s.time.cyc < c by omega)]

/-- Records held for a stream on which programs that owe nothing then go: what that leaves. -/
theorem State.holdProducts_dropDone (s : State) (p gen : Nat) (ps : List (Int × Nat × List Record)) :
    (s.holdProducts p gen ps).dropDone.comb.insts
        = s.comb.insts.filter (fun i => !(i.stopped && i.works.isEmpty && i.dets.isEmpty && i.spans.isEmpty))
      ∧ (s.holdProducts p gen ps).dropDone.comb.miss = s.comb.miss
      ∧ (s.holdProducts p gen ps).dropDone.sys = s.sys ∧ (s.holdProducts p gen ps).dropDone.time = s.time
      ∧ (s.holdProducts p gen ps).dropDone.hive.mem = s.hive.mem := by
  obtain ⟨hsys, htime, hmem, hinsts, hmiss⟩ := State.besideHeld_parts (s.holdProducts_besideHeld p gen ps)
  exact ⟨congrArg _ hinsts, hmiss, hsys, htime, hmem⟩

/-- The entry of a program once an epoch's products have gone: the work has left, or waits for its singular pairs (R314). -/
def ProgInst.emitted (i : ProgInst) (w : Work) (cyc : Nat) : ProgInst :=
  if recType i.cfg = 1 ∧ bit (xsOutputs i.cfg) 1 = true then
    { i with works := { w with emitted := true, svdAt := some (cyc + (svdTime i.cfg w.derate * 800000000).ceil.toNat) } :: i.works.tail }
  else { i with works := i.works.tail }

/-- The totals of a closed epoch shown, and its program's entry in its place. -/
def State.workShown (s : State) (ii : Nat) (i : ProgInst) (w : Work) : State :=
  { s.showCounts i.cfg w.miss w.settle with
    comb := { (s.showCounts i.cfg w.miss w.settle).comb with insts := s.comb.insts.set ii (i.emitted w s.time.cyc) } }

/-- The products of an epoch go to their stream (R300). -/
theorem State.emitWork_eq (s : State) (p ii : Nat) (i : ProgInst) (w : Work) :
    s.emitWork p ii i w false
      = ((s.workShown ii i w).holdProducts p w.gen ((s.workProducts i w).map fun x => (subNs w.start, x))).dropDone := by
  obtain ⟨-, htime, -, hinsts⟩ := s.showCounts_beside i.cfg w.miss w.settle
  unfold State.emitWork State.workShown ProgInst.emitted
  simp only [htime, hinsts, Bool.false_and, Bool.false_eq_true, if_false, List.append_nil, Bool.not_false, Bool.and_true,
    Bool.and_eq_true, beq_iff_eq]
  split <;> rfl

/-! ## The obligation -/

/-- Settles O29: each row is its operation where its conditions hold, and the operation is followed through its parts. -/
theorem combWorkComplete : Obligations.CombWorkComplete := by
  unfold Obligations.CombWorkComplete
  rintro s u t p rfl hm
  refine ⟨fun hits ii wi i w hw hr ht => ?_, fun hits ii wi i w hw hr ht => ?_, fun ii i w hw he hn hs => ?_, fun ii c i w hw hc ht => ?_⟩
  · obtain ⟨v, hv, hinsts, hnext, hstart, hstop, hpar, hrest⟩ :=
      State.combWork_spec (spectral := false) (hits := hits) hw (by simp [hr]) ht (if_pos hr)
    refine ⟨v, _, ?_, hinsts, rfl, hnext, hstart, hstop, hpar, hrest⟩
    rw [exec_combBlock, State.runOn_eq hm, hv]
  · obtain ⟨v, hv, hinsts, hnext, hstart, hstop, hpar, hrest⟩ :=
      State.combWork_spec (spectral := true) (hits := hits) hw (by simp [hr]) ht (if_neg hr)
    refine ⟨v, _, ?_, hinsts, rfl, hnext, hstart, hstop, hpar, hrest⟩
    rw [exec_spectralFrame, State.runOn_eq hm, hv]
  · obtain ⟨hsys, htime, hhive, -⟩ := (s.elapse t).showCounts_beside i.cfg w.miss w.settle
    obtain ⟨hinsts', hmiss', hsys', htime', hmem'⟩ := State.holdProducts_dropDone ((s.elapse t).workShown ii i w) p w.gen
      (((s.elapse t).workProducts i w).map fun x => (subNs w.start, x))
    refine ⟨_, _, _, ?_, rfl, rfl, rfl, hinsts', fun q hq => ?_, hsys'.trans hsys, htime'.trans htime, hmem'.trans (congrArg _ hhive)⟩
    · rw [exec_productEmit, State.runOn_eq hm, State.productEmit_due hw he hn hs, State.emitWork_eq]
      rfl
    · exact (congrArg (Tab.get _ · _) hmiss').trans (State.showCounts_miss _ _ _ _ hq)
  · obtain ⟨hinsts', -, hsys', htime', hmem'⟩ := State.holdProducts_dropDone
      ({ s.elapse t with comb := { s.comb with insts := s.comb.insts.set ii { i with works := i.works.tail } } } : State)
      p w.gen (((s.elapse t).xsPairs i w).map fun x => (subNs w.start, x))
    refine ⟨_, _, ?_, rfl, rfl, hinsts', hsys', htime', hmem'⟩
    rw [exec_svdDone, State.runOn_eq hm, State.svdDone_due hw hc ht]
    rfl

end Sys2Proof.Machine

/-! SUPPORT. `MATCH` programs at work (R319 to R323): what a detection changes of its program's entry, and what it leaves. -/

namespace Sys2Proof.Machine

theorem State.updInst_insts (s : State) (ii j : Nat) (f : ProgInst → ProgInst) :
    (s.updInst ii f).comb.insts[j]? = if j = ii then s.comb.insts[j]?.map f else s.comb.insts[j]? := by
  rw [State.updInst, getElem?_map_zip_range]
  split <;> simp

theorem State.matchInsts_mem {s : State} {p ii : Nat} {i : ProgInst} (h : (i, ii) ∈ s.matchInsts p) :
    s.comb.insts[ii]? = some i ∧ recProg i.cfg = p := by
  obtain ⟨hm, hf⟩ := List.mem_filter.1 h
  exact ⟨mem_zip_range.1 hm, by simpa using (Bool.and_eq_true_iff.1 hf).1⟩

/-! ## What entries struck and counted leave of a program's entry -/

/-- The record, sample period, next interval, detections and stretches of a program's entry. -/
def ProgInst.detecting (i : ProgInst) := (i.cfg, i.period, i.interval, i.dets, i.spans)

theorem State.strikeMatch_detecting (s : State) (i : ProgInst) (hits : List ParityHit) :
    (s.strikeMatch i hits).detecting = i.detecting := by
  unfold State.strikeMatch
  refine foldl_fixes (g := ProgInst.detecting) (fun i h => ?_) hits i
  cases h with
  | history f j n => dsimp only; split <;> rfl
  | anchor f b => rfl
  | accumulator f e => rfl

theorem State.countRun_detecting (s : State) (i : ProgInst) (n : Nat) : (s.countRun i n).detecting = i.detecting := by
  unfold State.countRun
  split <;> rfl

theorem ProgInst.detecting_parts {i j : ProgInst} (h : j.detecting = i.detecting) :
    j.cfg = i.cfg ∧ j.period = i.period ∧ j.interval = i.interval ∧ j.dets = i.dets ∧ j.spans = i.spans := by
  simpa only [ProgInst.detecting, Prod.mk.injEq] using h

/-! ## What detections leave of the hub -/

/-- What a detection leaves: all but the trigger network and the instances at work, and of these their records, periods, next intervals
and lags. -/
def State.besideDets (s : State) :=
  (({ s with comb := { s.comb with insts := [] }, trig := {} } : State),
    s.comb.insts.map fun i => (i.cfg, i.period, i.interval))

theorem State.updInst_besideDets (s : State) (ii : Nat) {f : ProgInst → ProgInst}
    (h : ∀ i, ((f i).cfg, (f i).period, (f i).interval) = (i.cfg, i.period, i.interval)) :
    (s.updInst ii f).besideDets = s.besideDets := by
  refine Prod.ext rfl (List.ext_getElem? fun j => ?_)
  show ((s.updInst ii f).comb.insts.map _)[j]? = (s.comb.insts.map _)[j]?
  rw [List.getElem?_map, List.getElem?_map, State.updInst_insts]
  split
  · rw [Option.map_map]
    exact congrArg (Option.map · _) (funext h)
  · rfl

theorem State.detect_besideDets (s : State) (ii si n : Nat) (d : Detection) : (s.detect ii si n d).besideDets = s.besideDets := by
  unfold State.detect
  extract_lets cfg t
  have ht : t.besideDets = s.besideDets := State.updInst_besideDets s ii fun _ => rfl
  split
  · exact ht
  · exact ht

theorem State.runPair_besideDets (ii si slot ch t b l : Nat) (e : Bool) (n : Nat) (s : State) :
    (State.runPair ii si slot ch t b l e n s).besideDets = s.besideDets := by
  induction n generalizing s with
  | zero => rfl
  | succ n ih =>
    unfold State.runPair
    split
    · rfl
    · split
      · rfl
      · split
        · rw [ih, State.detect_besideDets]
        · rfl

theorem State.runWindows_besideDets (s : State) (ii b l : Nat) (e : Bool) : (s.runWindows ii b l e).besideDets = s.besideDets := by
  unfold State.runWindows
  split
  · rfl
  · exact foldl_keeps (fun s si => foldl_keeps (fun s x => foldl_keeps (fun s t => State.runPair_besideDets ..) _ s) _ s) _ s

/-- A program's entry after detections has its record, period and next interval. -/
theorem State.besideDets_inst {s t : State} (h : t.besideDets = s.besideDets) {ii : Nat} {i : ProgInst}
    (hi : s.comb.insts[ii]? = some i) :
    ∃ j, t.comb.insts[ii]? = some j ∧ j.cfg = i.cfg ∧ j.period = i.period ∧ j.interval = i.interval := by
  have hm := congrArg (·[ii]?) (congrArg Prod.snd h)
  simp only [State.besideDets, List.getElem?_map, hi, Option.map_some, Option.map_eq_some_iff, Prod.mk.injEq] at hm
  obtain ⟨j, hj, hcfg, hper, hint⟩ := hm
  exact ⟨j, hj, hcfg, hper, hint⟩

theorem State.besideDets_parts {s t : State} (h : t.besideDets = s.besideDets) :
    t.sys = s.sys ∧ t.time = s.time ∧ t.hive = s.hive ∧ (∀ i, t.arrived i t.sub = s.arrived i s.sub)
      ∧ t.streams = s.streams ∧ t.cfg = s.cfg ∧ t.comb.resid = s.comb.resid := by
  have h1 := congrArg Prod.fst h
  exact ⟨(congrArg State.sys h1 :), (congrArg State.time h1 :), (congrArg State.hive h1 :),
    fun i => (congrArg (fun x : State => x.arrived i x.sub) h1 :), (congrArg State.streams h1 :), (congrArg State.cfg h1 :),
    (congrArg (fun x : State => x.comb.resid) h1 :)⟩

theorem MatchSpan.limit_zero (sp : MatchSpan) : sp.limit 0 = 0 := by
  cases h : sp.stop <;> simp [MatchSpan.limit, h]

/-- No window opens before index 0. -/
theorem State.runPair_zero (ii si slot ch t l : Nat) (e : Bool) (n : Nat) (s : State) : State.runPair ii si slot ch t 0 l e n s = s := by
  cases n with
  | zero => rfl
  | succ n =>
    unfold State.runPair
    split
    · rfl
    · split
      · rfl
      · simp [MatchSpan.limit_zero, State.matchFind, firstCrossing]

theorem State.runWindows_zero (s : State) (ii l : Nat) (e : Bool) : s.runWindows ii 0 l e = s := by
  unfold State.runWindows
  split
  · rfl
  · exact foldl_keeps (g := id) (fun s si => foldl_keeps (g := id) (fun s x => foldl_keeps (g := id) (fun s t =>
      State.runPair_zero ..) _ s) _ s) _ s

end Sys2Proof.Machine

/-! `MATCH` windows and intervals (R249, R320 to R323, R329). -/

namespace Sys2Proof.Machine

/-! ## A window that has ended (R321) -/

/-- What a window that has ended gives (R320, R321). -/
theorem State.matchFind_some {s : State} {i : ProgInst} {sp : MatchSpan} {hits : List ParityHit} {slot chan t before limit next : Nat}
    {det : Detection} (h : s.matchFind i sp hits slot chan t before limit false = some (next, det)) :
    ∃ n ex, firstCrossing i hits slot t (before - Tab.get (fun _ => sp.base) sp.pos (pairKey chan t))
        (Tab.get (fun _ => sp.base) sp.pos (pairKey chan t)) = some n
      ∧ n + matchWin i.cfg ≤ limit
      ∧ bestInWindow i hits slot t n (matchWin i.cfg) = some (det.idx, det.score, ex, det.settling)
      ∧ next = max (det.idx + matchHold i.cfg + 1) (n + matchWin i.cfg)
      ∧ det.chan = chan ∧ det.templ = t
      ∧ det.stamp = subNs ((det.idx + 1 - matchL i.cfg) * i.period) - s.residAt i.period chan := by
  unfold State.matchFind at h
  dsimp only at h
  split at h
  · cases h
  · next n hn =>
    split at h
    · cases h
    · next hlim =>
      have hle : n + matchWin i.cfg ≤ limit := by simpa using hlim
      rw [Nat.min_eq_left (by omega)] at h
      split at h
      · cases h
      · next d c ex st hbest =>
        cases h
        exact ⟨n, ex, hn, hle, hbest, rfl, rfl, rfl, rfl⟩

/-- The window that ends is one of a pair of a running program, in a stretch of it. -/
theorem State.matchEnded_some {s : State} {p chan t ii si next : Nat} {hits : List ParityHit} {det : Detection} {i : ProgInst}
    {sp : MatchSpan} (h : s.matchEnded p chan t hits = some (ii, si, next, det)) (hi : s.comb.insts[ii]? = some i)
    (hsp : i.spans[si]? = some sp) :
    (i, ii) ∈ s.matchInsts p ∧ t < matchT i.cfg ∧ ∃ slot rho, (slot, chan, rho) ∈ recSlots i.cfg
      ∧ s.matchFind i sp hits slot chan t (sp.limit (s.arrived i s.sub)) (sp.limit (s.arrived i s.sub)) false = some (next, det) := by
  obtain ⟨⟨i', k⟩, hx, hf⟩ := List.exists_of_findSome?_eq_some h
  dsimp only at hf
  split at hf
  · cases hf
  · next ht =>
    split at hf
    · cases hf
    · next y hy =>
      obtain ⟨⟨sp', k'⟩, hz, hg⟩ := List.exists_of_findSome?_eq_some hf
      obtain ⟨r, hr, hr'⟩ := Option.map_eq_some_iff.1 hg
      obtain ⟨rfl, rfl, rfl⟩ : k = ii ∧ k' = si ∧ r = (next, det) := by simpa using hr'
      obtain rfl : i' = i := by simpa [(State.matchInsts_mem hx).1] using hi
      obtain rfl : sp' = sp := by simpa [mem_zip_range.1 hz] using hsp
      obtain ⟨slot, c, rho⟩ := y
      obtain rfl : c = chan := by simpa using List.find?_some hy
      exact ⟨hx, by omega, slot, rho, List.mem_of_find?_eq_some hy, hr⟩

/-- The pair looks on from `next`, in its stretch. -/
def MatchSpan.lookOn (sp : MatchSpan) (chan t next : Nat) : MatchSpan :=
  { sp with pos := Tab.set (fun _ => sp.base) sp.pos (pairKey chan t) next }

/-- A detection, in its program's entry and on its way to the trigger network (R321, R322). -/
theorem State.detect_spec {s : State} {ii si : Nat} {i : ProgInst} {sp : MatchSpan} (next : Nat) (det : Detection)
    (hi : s.comb.insts[ii]? = some i) (hsp : i.spans[si]? = some sp) :
    (s.detect ii si next det).comb.insts[ii]? = some { i with
        dets := i.dets ++ [det], spans := i.spans.set si (sp.lookOn det.chan det.templ next) }
      ∧ (∀ j, j ≠ ii → (s.detect ii si next det).comb.insts[j]? = s.comb.insts[j]?)
      ∧ (s.detect ii si next det).trig = { s.trig with transit := s.trig.transit ++ if bit (matchThr i.cfg det.templ) 63 = true then
          [{ t := det.stamp, src := 0x800 + 256 * recProg i.cfg + det.templ, chan := some det.chan }] else [] }
      ∧ (s.detect ii si next det).besideWork = s.besideWork := by
  unfold State.detect
  rw [hi]
  extract_lets cfg t
  have hself : t.comb.insts[ii]? = some { i with
      dets := i.dets ++ [det], spans := i.spans.set si (sp.lookOn det.chan det.templ next) } := by
    refine (State.updInst_insts ..).trans ?_
    rw [if_pos rfl, hi, Option.map_some]
    exact congrArg (fun l => some { i with dets := i.dets ++ [det], spans := l })
      (map_zip_range_eq_set hsp fun sp => sp.lookOn det.chan det.templ next)
  have hne : ∀ j, j ≠ ii → t.comb.insts[j]? = s.comb.insts[j]? := fun j hj => (State.updInst_insts ..).trans (if_neg hj)
  by_cases hb : bit (matchThr i.cfg det.templ) 63 = true
  · rw [if_pos (show bit (matchThr cfg det.templ) 63 = true from hb), if_pos hb]
    exact ⟨hself, hne, rfl, rfl⟩
  · rw [if_neg (show ¬ bit (matchThr cfg det.templ) 63 = true from hb), if_neg hb, List.append_nil]
    exact ⟨hself, hne, rfl, rfl⟩

theorem State.parityErrors_trig (hits : List ParityHit) (s : State) :
    (hits.foldl (fun s h => s.parityError (hitFrame h)) s).trig = s.trig :=
  foldl_keeps (fun s h => by simp [State.parityError]) hits s

/-- A window that has ended makes its detection; the entries parity struck count as missing (R249, R321). -/
theorem State.matchWindow_found {s : State} {p chan t ii si next : Nat} {hits : List ParityHit} {det : Detection} {i : ProgInst}
    {sp : MatchSpan} (h : s.matchEnded p chan t hits = some (ii, si, next, det)) (hi : s.comb.insts[ii]? = some i)
    (hsp : i.spans[si]? = some sp) :
    s.matchWindow p chan t hits
      = hits.foldl (fun s h => s.parityError (hitFrame h)) ((s.updInst ii fun i => s.strikeMatch i hits).detect ii si next det) := by
  obtain ⟨hmem, ht, slot, rho, hslot, -⟩ := State.matchEnded_some h hi hsp
  have hany : ((s.matchInsts p).any fun x => decide (t < matchT x.1.cfg) && (recFeeds x.1.cfg).contains chan) = true := by
    refine List.any_eq_true.2 ⟨_, hmem, ?_⟩
    have hfeed : chan ∈ recFeeds i.cfg := List.mem_map.2 ⟨_, hslot, rfl⟩
    simp [ht, hfeed]
  unfold State.matchWindow
  simp only [hany, h, Bool.not_true, Bool.false_eq_true, if_false, Option.elim_some]

/-! ## An interval that ends (R323) -/

/-- An interval whose time has come is that of the program's first entry. -/
theorem State.matchInterval_due {s : State} {p ii : Nat} {i : ProgInst} {rest : List (ProgInst × Nat)}
    (h : s.matchInsts p = (i, ii) :: rest)
    (ht : subNs ((i.interval + 1) * 100_000_000) + subNs ((matchL i.cfg - 1 + matchWin i.cfg) * i.period) + s.instLag i ≤ s.sub) :
    s.matchInterval p = s.closeInterval ii := by
  unfold State.matchInterval
  rw [h]
  exact if_neg (not_lt.2 ht)

/-- A program's entry whose interval has ended, `j` being the entry once its reads are counted (R323): what is stamped before the interval's
end `t1` in ns is done with. -/
def ProgInst.intervalClosed (j : ProgInst) (t1 : Nat) : ProgInst :=
  { j with
    interval := j.interval + 1, dets := j.dets.filter fun d => !(d.stamp < subNs t1)
    spans := j.spans.filter fun sp => sp.stop.all fun u => j.indexAt t1 < u
    degr := j.degr.filter fun q => j.interval < q }

/-- The detections of a program's entry stamped before a time in ns, in order. -/
def ProgInst.due (j : ProgInst) (t1 : Nat) : List Detection :=
  (j.dets.filter fun d => d.stamp < subNs t1).foldl (fun l d => insertDet d l) []

theorem ProgInst.due_of_detecting {i j : ProgInst} (h : j.detecting = i.detecting) (t1 : Nat) : j.due t1 = i.due t1 := by
  obtain ⟨-, -, -, hdets, -⟩ := ProgInst.detecting_parts h
  unfold ProgInst.due
  rw [hdets]

/-- The hub once the windows in stretches that are over have run, before the interval closes. -/
def State.windowsRun (s : State) (ii : Nat) (i : ProgInst) : State :=
  s.runWindows ii ((i.spans.filterMap (·.stop)).foldl max 0) (s.arrived i s.sub) false

theorem State.windowsRun_besideDets (s : State) (ii : Nat) (i : ProgInst) : (s.windowsRun ii i).besideDets = s.besideDets :=
  State.runWindows_besideDets ..

theorem State.windowsRun_running {s : State} {i : ProgInst} (ii : Nat) (h : ∀ sp ∈ i.spans, sp.stop = none) : s.windowsRun ii i = s := by
  have hn : i.spans.filterMap (·.stop) = [] := List.filterMap_eq_nil_iff.2 h
  unfold State.windowsRun
  rw [hn]
  exact State.runWindows_zero ..

/-- One entry in its place. -/
def State.setInst (s : State) (ii : Nat) (i : ProgInst) : State := { s with comb := { s.comb with insts := s.comb.insts.set ii i } }

/-- The end of an interval, through the hub `y` once windows have run, its entry `j` and that entry once its reads are counted, `k`
(R323, R329). -/
theorem State.closeInterval_eq {s y : State} {ii : Nat} {i j k : ProgInst} (hi : s.comb.insts[ii]? = some i) (hy : s.windowsRun ii i = y)
    (hj : y.comb.insts[ii]? = some j) (hk : y.countRun j (y.arrived i y.sub) = k) :
    s.closeInterval ii
      = ((y.setInst ii (k.intervalClosed ((i.interval + 1) * 100_000_000))).holdProducts (recProg k.cfg) y.comb.gen
          (y.matchRecords k (k.due ((i.interval + 1) * 100_000_000)))).dropDone := by
  subst hk
  unfold State.windowsRun at hy
  unfold State.closeInterval
  simp only [hi, hy, hj, Option.getD_some]
  rfl

/-! ## The obligation -/

/-- Settles O30: what ends is followed through the operation that the row runs. -/
theorem matchComplete : Obligations.MatchComplete := by
  unfold Obligations.MatchComplete
  rintro s u t p rfl hm
  refine ⟨fun hits chan tm ii si next i sp det h hi hsp => ?_, fun ii i rest t1 h ht1 ht => ?_⟩
  · obtain ⟨hmem, -, slot, rho, hslot, hfind⟩ := State.matchEnded_some h hi hsp
    obtain ⟨n, ex, hcross, hle, hbest, hnext, rfl, rfl, hstamp⟩ := State.matchFind_some hfind
    obtain ⟨-, rfl⟩ := State.matchInsts_mem hmem
    obtain ⟨hcfg, -, -, hdets, hspans⟩ := ProgInst.detecting_parts ((s.elapse t).strikeMatch_detecting i hits)
    have hself : ((s.elapse t).updInst ii fun i => (s.elapse t).strikeMatch i hits).comb.insts[ii]?
        = some ((s.elapse t).strikeMatch i hits) := by
      rw [State.updInst_insts, if_pos rfl]
      exact congrArg (Option.map _) hi
    obtain ⟨hinst, hne, htrig, hbeside⟩ := State.detect_spec next det hself (by rw [hspans]; exact hsp)
    rw [hdets, hspans] at hinst
    rw [hcfg] at htrig
    obtain ⟨hsys, hstr, hhive⟩ := State.besideWork_parts ((State.parityErrors_besideWork hits _).trans hbeside)
    refine ⟨_, ?_, ?_, fun j hj => ?_, ⟨n, slot, rho, ex, hslot, hcross, hle, hbest, hnext⟩, rfl, rfl, rfl, hstamp,
      (State.parityErrors_trig hits _).trans htrig, fun hhits => ?_, hsys, hstr, hhive⟩
    · rw [exec_matchWindowEnd, State.runOn_eq hm, State.matchWindow_found h hi hsp]
    · rw [State.parityErrors_comb]
      exact hinst
    · rw [State.parityErrors_comb]
      exact (hne j hj).trans ((State.updInst_insts ..).trans (if_neg hj))
    · rw [State.parityErrors_comb]
      simp [hhits]
  · subst ht1
    have hfirst : (i, ii) ∈ (s.elapse t).matchInsts p := List.mem_of_mem_head? (congrArg List.head? h)
    obtain ⟨hi, hp⟩ := State.matchInsts_mem hfirst
    have hb := (s.elapse t).windowsRun_besideDets ii i
    generalize hy : (s.elapse t).windowsRun ii i = y at hb
    obtain ⟨j, hj, hjcfg, hjper, hjint⟩ := State.besideDets_inst hb hi
    obtain ⟨hsys, htime, hhive, harr, -⟩ := State.besideDets_parts hb
    generalize hk : y.countRun j ((s.elapse t).arrived i (s.elapse t).sub) = k
    have hkj : k.detecting = j.detecting := hk ▸ y.countRun_detecting j _
    obtain ⟨hkcfg, hkper, hkint, hkdets, -⟩ := ProgInst.detecting_parts hkj
    have hkp : recProg k.cfg = p := by rw [hkcfg, hjcfg, hp]
    obtain ⟨-, -, hsys', htime', hmem'⟩ := State.holdProducts_dropDone
      (y.setInst ii (k.intervalClosed ((i.interval + 1) * 100_000_000))) p y.comb.gen
      (y.matchRecords (y.countRun j ((s.elapse t).arrived i (s.elapse t).sub)) (j.due ((i.interval + 1) * 100_000_000)))
    refine ⟨_, y, j, k.intervalClosed ((i.interval + 1) * 100_000_000), ?_, hj, fun hrun => ?_, rfl,
      congrArg (· + 1) (hkint.trans hjint), congrArg _ hkdets, hkcfg.trans hjcfg, fun sp hsp x hx => ?_, hsys'.trans hsys, htime'.trans htime, hmem'.trans (congrArg Hive.mem hhive)⟩
    · rw [exec_matchIntervalEnd, State.runOn_eq hm, State.matchInterval_due (s := s.elapse t) h ht,
        State.closeInterval_eq hi hy hj (by rw [harr, hk]), hkp, ProgInst.due_of_detecting hkj, hk]
      rfl
    · have hyu : y = s.elapse t := hy.symm.trans (State.windowsRun_running ii hrun)
      subst hyu
      exact ⟨rfl, Option.some.inj (hj.symm.trans hi)⟩
    · have hall := (List.mem_filter.1 hsp).2
      rw [Option.mem_def.1 hx, Option.all_some, decide_eq_true_eq] at hall
      unfold ProgInst.indexAt at hall ⊢
      rwa [hkper, hjper] at hall

end Sys2Proof.Machine

/-! SUPPORT. Egress arbiters (R383, R394, R441): a message asked for waits until it is granted, and no grant of an earlier cycle is
its own. -/

namespace Sys2Proof.Machine

/-! ## Arbitrations -/

theorem ticketPick_mem (tickets : List Nat) {xs : List Nat} (h : xs ≠ []) (v : Nat) : ticketPick tickets xs v ∈ xs := by
  induction xs generalizing v with
  | nil => exact absurd rfl h
  | cons r rs ih =>
    cases rs with
    | nil => simp [ticketPick]
    | cons q qs =>
      unfold ticketPick
      dsimp only
      split
      · simp
      · exact List.mem_cons_of_mem _ (ih (by simp) _)

theorem longestWait_mem (waits : List Nat) {xs : List Nat} (h : xs ≠ []) : longestWait waits xs ∈ xs := by
  induction xs with
  | nil => exact absurd rfl h
  | cons r rs ih =>
    cases rs with
    | nil => simp [longestWait]
    | cons q qs =>
      unfold longestWait
      dsimp only
      split
      · simp
      · exact List.mem_cons_of_mem _ (ih (by simp))

/-- The winner is a contender, or requester 0 where nobody contends. -/
theorem Arbiter.arbitrate_winner (e : Bool) (a : Arbiter) (cs : List Nat) :
    (a.arbitrate e cs).1 ∈ cs ∨ (a.arbitrate e cs).1 = 0 := by
  have hpick : ∀ (xs : List Nat) (v : Nat), (∀ x ∈ xs, x ∈ cs) →
      (if 0 < v then ticketPick a.tickets xs ((lfsrStep a.lfsr).toNat % v) else longestWait a.waits xs) ∈ cs
        ∨ (if 0 < v then ticketPick a.tickets xs ((lfsrStep a.lfsr).toNat % v) else longestWait a.waits xs) = 0 := by
    intro xs v hxs
    by_cases h0 : xs = []
    · subst h0
      right
      split <;> simp [ticketPick, longestWait]
    · left
      refine hxs _ ?_
      split
      · exact ticketPick_mem _ h0 _
      · exact longestWait_mem _ h0
  unfold Arbiter.arbitrate
  dsimp only
  split
  · next f hf => exact .inl (by simpa using List.find?_some hf)
  · refine hpick _ _ fun x hx => ?_
    split at hx
    · exact hx
    · exact (List.mem_filter.1 hx).1

theorem Arbiter.takeSettings_wants (set : ArbSet) (e : Bool) (b : Nat) (a : Arbiter) : (a.takeSettings set e b).wants = a.wants := by
  have hready : (a.ready e b).wants = a.wants := by
    unfold Arbiter.ready
    split
    · rfl
    · split <;> rfl
  unfold Arbiter.takeSettings
  dsimp only
  split
  · exact hready
  · exact hready

/-- A contender's first transfer is asked for by then. -/
theorem Arbiter.contend_since {a : Arbiter} {c r : Nat} (h : r ∈ a.contend c) {y : Xfer}
    (hy : a.wants.find? (fun x => x.req == r) = some y) : y.since ≤ c := by
  simpa [hy] using (List.mem_filter.1 h).2

/-! ## Messages that wait -/

/-- A message waits at an arbiter in a slot, asked for in a cycle or later. -/
def Arbiter.holds (a : Arbiter) (slot : Nat) (m : List Byte) (now : Nat) : Prop :=
  ∃ x ∈ a.wants, x.req = slot ∧ x.msg = m ∧ now ≤ x.since

theorem Arbiter.give_holds {v : Serves} {a : Arbiter} {slot now r n : Nat} {m : List Byte} {f : Bool} (h : a.holds slot m now)
    (hr : ∀ y, a.wants.find? (fun x => x.req == r) = some y → y.req ≠ slot ∨ y.since < now) : (a.give v r n f).1.holds slot m now := by
  obtain ⟨x, hx, hreq, hmsg, hsince⟩ := h
  unfold Arbiter.give
  split
  · next y hy =>
    have hxy : x ≠ y := by
      rintro rfl
      rcases hr _ hy with h | h
      · exact h hreq
      · omega
    refine ⟨_, List.mem_map_of_mem ((List.mem_erase_of_ne hxy).2 hx), ?_⟩
    split
    · exact ⟨hreq, hmsg, hsince.trans (Nat.le_max_left ..)⟩
    · exact ⟨hreq, hmsg, hsince⟩
  · exact ⟨x, hx, hreq, hmsg, hsince⟩

/-- A grant decided in an earlier cycle leaves a message waiting: its requester contends with what it asked for before. -/
theorem Arbiter.serve_holds {v : Serves} {take : Arbiter → Arbiter} (htake : ∀ a, (take a).wants = a.wants) {a : Arbiter}
    {slot now c : Nat} {m : List Byte} (hslot : slot ≠ 0) (hc : c < now) (h : a.holds slot m now) :
    (a.serve v take c).1.holds slot m now := by
  have hcontend : ∀ r ∈ a.contend c, ∀ y, a.wants.find? (fun x => x.req == r) = some y → y.req ≠ slot ∨ y.since < now :=
    fun r hr y hy => .inr ((Arbiter.contend_since hr hy).trans_lt hc)
  unfold Arbiter.serve
  dsimp only
  split
  · next hpark =>
    obtain ⟨r, -, hr⟩ := (Option.any_eq_true ..).1 hpark
    have hcs : a.contend c = [r] := by simpa using hr
    refine Arbiter.give_holds h (hcontend _ ?_)
    rw [hcs]
    exact List.mem_singleton_self r
  · have hw : (((take a).arbitrate v.egress (a.contend c)).2).wants = a.wants := htake a
    have h' : ((take a).arbitrate v.egress (a.contend c)).2.holds slot m now := by
      unfold Arbiter.holds at h ⊢
      rwa [hw]
    refine Arbiter.give_holds h' fun y hy => ?_
    rw [hw] at hy
    rcases (take a).arbitrate_winner v.egress (a.contend c) with hmem | h0
    · exact hcontend _ hmem y hy
    · have hreq : y.req = 0 := by simpa [h0] using List.find?_some hy
      exact .inl (by omega)

theorem Arbiter.advance_holds {v : Serves} {take : Arbiter → Arbiter} (htake : ∀ a, (take a).wants = a.wants) {slot now : Nat}
    {m : List Byte} (hslot : slot ≠ 0) (n : Nat) {a : Arbiter} (h : a.holds slot m now) :
    (Arbiter.advance v take now n a).1.holds slot m now := by
  induction n generalizing a with
  | zero => exact h
  | succ n ih =>
    unfold Arbiter.advance
    split
    · exact h
    · split
      · exact h
      · next c _ hc => exact ih (Arbiter.serve_holds htake hslot (by omega) h)

/-- No grant is given before the first cycle in which anything is asked for. -/
theorem Arbiter.advance_still {v : Serves} {take : Arbiter → Arbiter} {a : Arbiter} {now : Nat} (h : ∀ x ∈ a.wants, now ≤ x.since)
    (n : Nat) : Arbiter.advance v take now n a = (a, []) := by
  cases n with
  | zero => rfl
  | succ n =>
    unfold Arbiter.advance
    split
    · rfl
    · next c hc =>
      obtain ⟨d, hd, rfl⟩ := Option.map_eq_some_iff.1 hc
      obtain ⟨x, hx, rfl⟩ := List.mem_map.1 (List.min?_mem hd)
      rw [if_pos ((h x hx).trans (Nat.le_max_left ..))]

/-- An egress arbiter takes a request behind those that wait. -/
theorem Arbiter.request_egress (a : Arbiter) (now : Nat) (x : Xfer) (h : now ≤ x.since) :
    ∃ y, (a.request egressServes now x).1.wants = a.wants ++ [y] ∧ y.req = x.req ∧ y.msg = x.msg ∧ now ≤ y.since := by
  unfold Arbiter.request
  dsimp only
  split
  · exact ⟨x, rfl, rfl, rfl, h⟩
  · split
    · exact ⟨x, rfl, rfl, rfl, h⟩
    · split
      · exact ⟨_, rfl, rfl, rfl, by dsimp only; omega⟩
      · split
        · next hpre => simp [egressServes] at hpre
        · exact ⟨x, rfl, rfl, rfl, h⟩

theorem Arbiter.request_holds {a : Arbiter} {slot now : Nat} {m : List Byte} {x : Xfer} (hx : now ≤ x.since) (h : a.holds slot m now) :
    (a.request egressServes now x).1.holds slot m now := by
  obtain ⟨y, hw, -⟩ := a.request_egress now x hx
  obtain ⟨z, hz, hrest⟩ := h
  exact ⟨z, by rw [hw]; exact List.mem_append_left _ hz, hrest⟩

theorem Arbiter.request_holds_self (a : Arbiter) {now : Nat} {x : Xfer} (hx : now ≤ x.since) :
    (a.request egressServes now x).1.holds x.req x.msg now := by
  obtain ⟨y, hw, hreq, hmsg, hsince⟩ := a.request_egress now x hx
  exact ⟨y, by rw [hw]; simp, hreq, hmsg, hsince⟩

end Sys2Proof.Machine

/-! SUPPORT. Trunk lanes (R394, R432, R441): what a message at an egress arbiter changes, and what it leaves. -/

namespace Sys2Proof.Machine

/-! ## Reads of `TRUNK_BUF` -/

/-- Time, the lanes, the egress arbiters, and the registers of the blocks before Hive's. -/
def State.besideReads (s : State) := (s.time, s.lanes, s.hive.egress, fun a : { a : Nat // a < 0x0008_0000 } => s.reg a)

theorem State.setReg_besideReads (s : State) {a : Nat} (h : 0x0008_0000 ≤ a) (v : Word) : (s.setReg a v).besideReads = s.besideReads := by
  have hr : ∀ b : { a : Nat // a < 0x0008_0000 }, (s.setReg a v).reg b = s.reg b := fun b => by
    rw [State.reg_setReg, if_neg (by have := b.2; omega)]
  simp [State.besideReads, hr]

theorem State.raise_besideReads (s : State) (c u : Nat) (x : List Word) : (s.raise c u x).besideReads = s.besideReads := by
  have hr : ∀ b : { a : Nat // a < 0x0008_0000 }, (s.raise c u x).reg b = s.reg b := fun b =>
    State.raise_reg _ _ _ (by have := b.2; unfold aEvtDrop; omega) (by have := b.2; unfold aEvtLost; omega)
  simp [State.besideReads, hr]

theorem State.bump_besideReads (s : State) {a : Nat} (h : 0x0008_0000 ≤ a) : (s.bump a).besideReads = s.besideReads := by
  have hr : ∀ b : { a : Nat // a < 0x0008_0000 }, (s.bump a).reg b = s.reg b := fun b =>
    State.bump_reg_ne (by have := b.2; omega) (by have := b.2; unfold aEvtDrop; omega) (by have := b.2; unfold aEvtLost; omega)
  simp [State.besideReads, hr]

theorem State.countGrant_besideReads (s : State) (g : Grant) : (s.countGrant g).besideReads = s.besideReads := by
  unfold State.countGrant
  extract_lets o t t'
  rw [State.setReg_besideReads _ (by omega)]
  exact (ite_keeps (State.bump_besideReads _ (by omega))).trans (State.bump_besideReads _ (by omega))

theorem State.runBank_besideReads (s : State) (b : Nat) : (s.runBank b).besideReads = s.besideReads := by
  unfold State.runBank
  dsimp only
  split
  · rfl
  · exact foldl_keeps State.countGrant_besideReads _ _

theorem State.grant_besideReads (s : State) (b r n : Nat) : (s.grant b r n).besideReads = s.besideReads := by
  unfold State.grant
  dsimp only
  refine Eq.trans ?_ (s.runBank_besideReads b)
  split
  · exact State.bump_besideReads _ (by omega)
  · rfl

theorem State.wordGrants_besideReads (s : State) (q : Nat) (ws : List Nat) : (s.wordGrants q ws).besideReads = s.besideReads :=
  foldl_keeps (g := State.besideReads) (fun s _ => foldl_keeps (g := State.besideReads) (fun s _ => s.grant_besideReads ..) _ s) _ s

theorem State.eccRead_besideReads (q : Nat) (l : List Nat) (ns : List Word) (s : State) :
    (s.eccRead q l ns).1.besideReads = s.besideReads := by
  have hue : ∀ (s : State) (w : Nat), (s.eccUe w q ns).besideReads = s.besideReads := fun s w => by
    unfold State.eccUe aCntUe
    extract_lets reg t
    rw [State.raise_besideReads, State.bump_besideReads _ (by omega)]
    rfl
  induction l generalizing s with
  | nil => rfl
  | cons w ws ih =>
    unfold State.eccRead
    dsimp only
    split
    · exact (ih _).trans (State.bump_besideReads _ (by unfold aCntCe; omega))
    · split
      · exact (ih _).trans (hue s w)
      · exact ih s

theorem State.unitRead_besideReads (s : State) (q : Nat) (r : Option Region) (n k : Nat) :
    (s.unitRead q r n k).besideReads = s.besideReads := by
  unfold State.unitRead
  split
  · rfl
  · dsimp only
    split
    · exact s.wordGrants_besideReads ..
    · exact (State.eccRead_besideReads ..).trans (s.wordGrants_besideReads ..)

theorem State.send_besideReads (s : State) (l : Nat) (m : List Byte) : (s.send l m).besideReads = s.besideReads := by
  simp [State.besideReads, State.reg]

theorem State.egressOut_besideReads (l : Nat) (s : State) (g : Grant) : (State.egressOut l s g).besideReads = s.besideReads := by
  have hb : (s.egressBytes l g.xfer).2.besideReads = s.besideReads := by
    unfold State.egressBytes
    split
    · rfl
    · dsimp only
      split <;> exact s.unitRead_besideReads ..
  exact (State.send_besideReads ..).trans hb

/-! ## A trunk lane's arbiter runs -/

/-- An arbiter with the grants of the cycles before `limit` given. -/
def State.egressRun (s : State) (limit lane : Nat) : Arbiter :=
  ((s.egressArb lane).advance egressServes (·.takeSettings s.hive.egrSet true (lane - 24)) limit (s.egressArb lane).wants.length).1

/-- Grants given on a lane change its arbiter alone. -/
theorem State.runEgress_besideReads (s : State) (limit lane : Nat) :
    (s.runEgress limit lane).besideReads = (s.setEgress lane (s.egressRun limit lane)).besideReads
      ∨ (s.runEgress limit lane).besideReads = s.besideReads ∧ (s.egressArb lane).wants = [] := by
  unfold State.runEgress
  extract_lets a
  split
  · next h => exact .inr ⟨rfl, List.isEmpty_iff.1 h⟩
  · exact .inl (foldl_keeps (State.egressOut_besideReads lane) _ _)

theorem State.besideReads_parts {s t : State} (h : t.besideReads = s.besideReads) :
    t.time = s.time ∧ t.lanes = s.lanes ∧ (∀ l, t.egressArb l = s.egressArb l) ∧ ∀ a, a < 0x0008_0000 → t.reg a = s.reg a := by
  simp only [State.besideReads, Prod.mk.injEq] at h
  obtain ⟨htime, hlanes, hegr, hreg⟩ := h
  exact ⟨htime, hlanes, fun l => by unfold State.egressArb; rw [hegr], fun a ha => congrFun hreg ⟨a, ha⟩⟩

theorem State.setEgress_arb (s : State) (l k : Nat) (a : Arbiter) :
    (s.setEgress l a).egressArb k = if k = l then a else s.egressArb k := Tab.get_set ..

/-! ## A message at an egress arbiter -/

/-- What trunk messages leave as it was: modes, time, lanes, streams, the bytes of Hive and the registers before Hive's. -/
structure State.TrunkKeeps (s t : State) : Prop where
  unread : t.unread = s.unread
  time : t.time = s.time
  lanes : t.lanes = s.lanes
  regs : ∀ a, a < 0x0008_0000 → t.reg a = s.reg a

theorem State.TrunkKeeps.refl (s : State) : s.TrunkKeeps s := ⟨rfl, rfl, rfl, fun _ _ => rfl⟩

theorem State.TrunkKeeps.trans {s t u : State} (h : s.TrunkKeeps t) (h' : t.TrunkKeeps u) : s.TrunkKeeps u :=
  ⟨h'.unread.trans h.unread, h'.time.trans h.time, h'.lanes.trans h.lanes, fun a ha => (h'.regs a ha).trans (h.regs a ha)⟩

theorem State.TrunkKeeps.carries {s t : State} (h : s.TrunkKeeps t) {l : Nat} (hl : l < 28) : t.carries l = s.carries l := by
  unfold State.carries State.laneLoop State.regN
  rw [h.lanes, h.regs _ (by omega)]

theorem State.TrunkKeeps.laneActive {s t : State} (h : s.TrunkKeeps t) (l : Nat) : t.laneActive l = s.laneActive l := by
  unfold State.laneActive
  rw [h.lanes]

/-- A message waits at a lane's arbiter, asked for in this cycle or later. -/
def State.waitsOut (s : State) (lane slot : Nat) (m : List Byte) : Prop := (s.egressArb lane).holds slot m s.time.cyc

theorem State.waitsOut.asks {s : State} {lane slot : Nat} {m : List Byte} (h : s.waitsOut lane slot m) : s.egressAsks lane slot m = true := by
  obtain ⟨x, hx, hreq, hmsg, -⟩ := h
  exact List.any_eq_true.2 ⟨x, hx, by simp [hreq, hmsg]⟩

/-- Grants of earlier cycles change their lane's arbiter only, and leave waiting what waits. -/
theorem State.runEgress_spec (s : State) (lane : Nat) :
    s.TrunkKeeps (s.runEgress s.time.cyc lane)
      ∧ (∀ l, l ≠ lane → (s.runEgress s.time.cyc lane).egressArb l = s.egressArb l)
      ∧ ∀ l slot m, slot ≠ 0 → s.waitsOut l slot m → (s.runEgress s.time.cyc lane).waitsOut l slot m := by
  rcases s.runEgress_besideReads s.time.cyc lane with h | ⟨h, -⟩
  · obtain ⟨htime, hlanes, harb, hreg⟩ := State.besideReads_parts h
    refine ⟨⟨State.runEgress_unread .., htime, hlanes, hreg⟩, fun l hl => ?_, fun l slot m hslot hw => ?_⟩
    · rw [harb, State.setEgress_arb, if_neg hl]
    · unfold State.waitsOut
      rw [harb, State.setEgress_arb, show (s.runEgress s.time.cyc lane).time.cyc = s.time.cyc from congrArg Time.cyc htime]
      split
      · next hl =>
        subst hl
        exact Arbiter.advance_holds (fun a => Arbiter.takeSettings_wants ..) hslot _ hw
      · exact hw
  · obtain ⟨htime, hlanes, harb, hreg⟩ := State.besideReads_parts h
    refine ⟨⟨State.runEgress_unread .., htime, hlanes, hreg⟩, fun l _ => harb l, fun l slot m _ hw => ?_⟩
    unfold State.waitsOut at hw ⊢
    rwa [harb, show (s.runEgress s.time.cyc lane).time.cyc = s.time.cyc from congrArg Time.cyc htime]

/-- A message of a slot of the hub's own, at the arbiter of a lane that carries it. -/
theorem State.egress_eq {s : State} {lane slot : Nat} (m : List Byte) (hl : lane < 28) (hslot : slot < 4) (hc : s.carries lane = true) :
    ∃ x : Xfer, x.req = slot ∧ x.msg = m ∧ x.since = (s.runEgress s.time.cyc lane).time.cyc
      ∧ s.egress lane slot m = (s.runEgress s.time.cyc lane).setEgress lane
          (((s.runEgress s.time.cyc lane).egressArb lane).request egressServes (s.runEgress s.time.cyc lane).time.cyc x).1 := by
  unfold State.egress
  rw [if_neg (by simp [hc]; omega)]
  simp only [hslot, if_true]
  exact ⟨_, rfl, rfl, rfl, rfl⟩

theorem State.egress_send {s : State} {lane : Nat} (slot : Nat) (m : List Byte) (hc : s.carries lane = false) :
    s.egress lane slot m = s.send lane m := by
  unfold State.egress
  rw [if_pos (by simp [hc])]

/-- A message at a trunk lane's arbiter changes that arbiter only, and leaves waiting what waits. -/
theorem State.egress_spec (s : State) {lane slot : Nat} (m : List Byte) (hl : lane < 28) (hslot : slot < 4) :
    s.TrunkKeeps (s.egress lane slot m) ∧ (∀ l, l ≠ lane → (s.egress lane slot m).egressArb l = s.egressArb l)
      ∧ ∀ l slot' m', slot' ≠ 0 → s.waitsOut l slot' m' → (s.egress lane slot m).waitsOut l slot' m' := by
  cases hc : s.carries lane
  · rw [State.egress_send slot m hc]
    obtain ⟨htime, hlanes, harb, hreg⟩ := State.besideReads_parts (s.send_besideReads lane m)
    refine ⟨⟨State.send_unread .., htime, hlanes, hreg⟩, fun l _ => harb l, fun l slot' m' _ hw => ?_⟩
    unfold State.waitsOut at hw ⊢
    rwa [harb, htime]
  · obtain ⟨x, -, -, hsince, hx⟩ := State.egress_eq (slot := slot) m hl hslot hc
    obtain ⟨hkeeps, hother, hwaits⟩ := s.runEgress_spec lane
    rw [hx]
    refine ⟨hkeeps.trans ⟨rfl, rfl, rfl, fun _ _ => rfl⟩, fun l hne => ?_, fun l slot' m' h0 hw => ?_⟩
    · rw [State.setEgress_arb, if_neg hne, hother l hne]
    · have hr := hwaits l slot' m' h0 hw
      unfold State.waitsOut at hr ⊢
      rw [State.setEgress_arb]
      split
      · next he => subst he; exact Arbiter.request_holds hsince.ge hr
      · exact hr

/-- A message asked for waits. -/
theorem State.egress_waitsOut {s : State} {lane slot : Nat} (m : List Byte) (hl : lane < 28) (hslot : slot < 4)
    (hc : s.carries lane = true) : (s.egress lane slot m).waitsOut lane slot m := by
  obtain ⟨x, rfl, rfl, hsince, hx⟩ := State.egress_eq (slot := slot) m hl hslot hc
  rw [hx]
  unfold State.waitsOut
  rw [State.setEgress_arb, if_pos rfl]
  exact Arbiter.request_holds_self _ hsince.ge

/-! ## Where nothing was asked for before -/

/-- What waits at the trunk lanes was asked for in this cycle or later. -/
def State.egressFresh (s : State) : Prop := ∀ l, 24 ≤ l → l < 28 → ∀ x ∈ (s.egressArb l).wants, s.time.cyc ≤ x.since

theorem State.runEgress_fresh {s : State} {lane : Nat} (h : ∀ x ∈ (s.egressArb lane).wants, s.time.cyc ≤ x.since) :
    s.runEgress s.time.cyc lane = s ∨ s.runEgress s.time.cyc lane = s.setEgress lane (s.egressArb lane) := by
  unfold State.runEgress
  extract_lets a
  split
  · exact .inl rfl
  · rw [Arbiter.advance_still h]
    exact .inr rfl

/-- There a message sends nothing and counts nothing. -/
theorem State.egress_fresh {s : State} {lane slot : Nat} (m : List Byte) (h : s.egressFresh) (hl : 24 ≤ lane) (hl' : lane < 28)
    (hslot : slot < 4) :
    (s.egress lane slot m).egressFresh ∧ (s.egress lane slot m).regs = s.regs ∧ (s.egress lane slot m).wire = s.wire := by
  cases hc : s.carries lane
  · rw [State.egress_send slot m hc]
    obtain ⟨htime, -, harb, -⟩ := State.besideReads_parts (s.send_besideReads lane m)
    refine ⟨fun l h1 h2 => by rw [harb, htime]; exact h l h1 h2, State.send_regs .., ?_⟩
    unfold State.send
    rw [hc, if_neg (by simp)]
    split <;> rfl
  · obtain ⟨x, -, -, hsince, hx⟩ := State.egress_eq (slot := slot) m hl' hslot hc
    have hrun : (s.runEgress s.time.cyc lane).time = s.time ∧ (s.runEgress s.time.cyc lane).regs = s.regs
        ∧ (s.runEgress s.time.cyc lane).wire = s.wire ∧ ∀ l, (s.runEgress s.time.cyc lane).egressArb l = s.egressArb l := by
      rcases State.runEgress_fresh (h lane hl hl') with h | h
      · rw [h]; exact ⟨rfl, rfl, rfl, fun _ => rfl⟩
      · rw [h]
        refine ⟨rfl, rfl, rfl, fun l => ?_⟩
        rw [State.setEgress_arb]
        split
        · next he => rw [he]
        · rfl
    obtain ⟨htime, hregs, hwire, harb⟩ := hrun
    rw [hx]
    refine ⟨fun l h1 h2 z hz => ?_, hregs, hwire⟩
    show (s.runEgress s.time.cyc lane).time.cyc ≤ z.since
    rw [State.setEgress_arb] at hz
    split at hz
    · obtain ⟨y, hw, -, -, hy⟩ := Arbiter.request_egress ((s.runEgress s.time.cyc lane).egressArb lane) _ x hsince.ge
      rw [hw, harb] at hz
      rcases List.mem_append.1 hz with hz | hz
      · rw [htime]; exact h lane hl hl' z hz
      · rw [List.mem_singleton.1 hz]; exact hy
    · rw [harb] at hz
      rw [htime]; exact h l h1 h2 z hz

end Sys2Proof.Machine

/-! Anchor rebuilds, foreign samples and channel maps (R272, R276, R436, R437). -/

namespace Sys2Proof.Machine

/-! ## Maps sent (R432, R436) -/

/-- The trunk lanes that lead in a direction (R432). -/
def lanesOf (down : Bool) : List Nat := if down then [26, 27] else [24, 25]

theorem lanesOf_trunk {down : Bool} {l : Nat} (h : l ∈ lanesOf down) : 24 ≤ l ∧ l < 28 := by
  cases down <;> simp [lanesOf] at h <;> omega

theorem State.sendTrunk_eq (s : State) (down : Bool) (slot : Nat) (m : List Byte) :
    s.sendTrunk (!down) down slot m = (lanesOf down).foldl (fun s l => if s.laneActive l then s.egress l slot m else s) s := by
  cases down <;> rfl

/-- What a message at each lane's arbiter keeps, messages on the lanes in service keep. -/
theorem State.lanesSend_keeps {P : State → Prop} {slot : Nat} {m : List Byte} {L : List Nat}
    (h : ∀ s, ∀ l ∈ L, P s → P (s.egress l slot m)) {s : State} (hs : P s) :
    P (L.foldl (fun s l => if s.laneActive l then s.egress l slot m else s) s) := by
  induction L generalizing s with
  | nil => exact hs
  | cons l L ih =>
    rw [List.foldl_cons]
    refine ih (fun s k hk => h s k (List.mem_cons_of_mem _ hk)) ?_
    split
    · exact h s l List.mem_cons_self hs
    · exact hs

/-- What a message at a lane's arbiter keeps, the maps of a direction keep. -/
theorem State.mapsSend_keeps {P : State → Prop} {down : Bool} {ms : List (List Byte)}
    (h : ∀ s m, ∀ l ∈ lanesOf down, P s → P (s.egress l 3 m)) {s : State} (hs : P s) :
    P (ms.foldl (fun s m => s.sendTrunk (!down) down 3 m) s) := by
  induction ms generalizing s with
  | nil => exact hs
  | cons m ms ih =>
    rw [List.foldl_cons, State.sendTrunk_eq]
    refine ih ?_
    exact State.lanesSend_keeps (fun s l hl => h s m l hl) hs

/-- A message sent waits at every lane in service that carries messages. -/
theorem State.lanesSend_waitsOut {slot : Nat} {m : List Byte} (h0 : slot ≠ 0) (h4 : slot < 4) {L : List Nat} (hL : ∀ l ∈ L, l < 28)
    {s : State} {l : Nat} (hl : l ∈ L) (ha : s.laneActive l = true) (hc : s.carries l = true) :
    (L.foldl (fun s l => if s.laneActive l then s.egress l slot m else s) s).waitsOut l slot m := by
  induction L generalizing s with
  | nil => cases hl
  | cons k L ih =>
    have hL' : ∀ l ∈ L, l < 28 := fun l hl => hL l (List.mem_cons_of_mem _ hl)
    rw [List.foldl_cons]
    by_cases hk : l = k
    · subst hk
      rw [if_pos ha]
      exact State.lanesSend_keeps (P := fun t => t.waitsOut l slot m)
        (fun t j hj ht => (t.egress_spec m (hL' j hj) h4).2.2 l slot m h0 ht) (State.egress_waitsOut m (hL l List.mem_cons_self) h4 hc)
    · have hl' : l ∈ L := (List.mem_cons.1 hl).resolve_left hk
      have hkeeps : s.TrunkKeeps (if s.laneActive k then s.egress k slot m else s) := by
        split
        · exact (s.egress_spec m (hL k List.mem_cons_self) h4).1
        · exact State.TrunkKeeps.refl s
      exact ih hL' hl' ((hkeeps.laneActive l).trans ha) ((hkeeps.carries (hL' l hl')).trans hc)

theorem State.mapsSend_waitsOut {down : Bool} {ms : List (List Byte)} {m : List Byte} (hm : m ∈ ms) {s : State} {l : Nat}
    (hl : l ∈ lanesOf down) (ha : s.laneActive l = true) (hc : s.carries l = true) :
    (ms.foldl (fun s m => s.sendTrunk (!down) down 3 m) s).waitsOut l 3 m := by
  induction ms generalizing s with
  | nil => cases hm
  | cons k ms ih =>
    rw [List.foldl_cons]
    by_cases hk : m = k
    · subst hk
      refine State.mapsSend_keeps (P := fun t => t.waitsOut l 3 m) (fun t k j hj ht => (t.egress_spec k (lanesOf_trunk hj).2 (by omega)).2.2 l 3 m (by omega) ht) ?_
      rw [State.sendTrunk_eq]
      exact State.lanesSend_waitsOut (by omega) (by omega) (fun j hj => (lanesOf_trunk hj).2) hl ha hc
    · have hkeeps : s.TrunkKeeps (s.sendTrunk (!down) down 3 k) := by
        rw [State.sendTrunk_eq]
        exact State.lanesSend_keeps (P := s.TrunkKeeps) (fun t j hj ht => ht.trans (t.egress_spec k (lanesOf_trunk hj).2 (by omega)).1)
          (State.TrunkKeeps.refl s)
      exact ih ((List.mem_cons.1 hm).resolve_left hk) ((hkeeps.laneActive l).trans ha)
        ((hkeeps.carries (lanesOf_trunk hl).2).trans hc)

/-- The maps of a direction: each waits at every lane in service that carries messages, and the other direction's lanes are left alone. -/
theorem State.fmapSend_spec (s : State) (down : Bool) :
    s.TrunkKeeps (s.fmapSend down)
      ∧ (∀ m ∈ s.fmapMessages down, ∀ l ∈ lanesOf down, s.laneActive l = true → s.carries l = true →
          (s.fmapSend down).egressAsks l 3 m = true)
      ∧ (∀ l, l ∉ lanesOf down → (s.fmapSend down).egressArb l = s.egressArb l)
      ∧ (s.egressFresh → (s.fmapSend down).regs = s.regs ∧ (s.fmapSend down).wire = s.wire) := by
  refine ⟨State.mapsSend_keeps (P := s.TrunkKeeps)
      (fun t m j hj ht => ht.trans (t.egress_spec m (lanesOf_trunk hj).2 (by omega)).1) (State.TrunkKeeps.refl s),
    fun m hm l hl ha hc => (State.mapsSend_waitsOut hm hl ha hc).asks, fun l hl => ?_, fun hfresh => ?_⟩
  · exact State.mapsSend_keeps (P := fun t => t.egressArb l = s.egressArb l)
      (fun t m j hj ht => ((t.egress_spec m (lanesOf_trunk hj).2 (by omega)).2.1 l (fun h => hl (h ▸ hj))).trans ht) rfl
  · refine (State.mapsSend_keeps (P := fun t => t.egressFresh ∧ t.regs = s.regs ∧ t.wire = s.wire) (fun t m j hj ht => ?_)
      ⟨hfresh, rfl, rfl⟩).2
    obtain ⟨hf, hregs, hwire⟩ := ht
    obtain ⟨hf', hregs', hwire'⟩ := State.egress_fresh (slot := 3) m hf (lanesOf_trunk hj).1 (lanesOf_trunk hj).2 (by omega)
    exact ⟨hf', hregs'.trans hregs, hwire'.trans hwire⟩

/-- The time of a direction's maps is taken (R436). -/
def State.stampMaps (s : State) (down : Bool) : State :=
  s.updTime fun t => if down then { t with fmapDownAt := some (s.ns / 100_000_000) } else { t with fmapUpAt := some (s.ns / 100_000_000) }

theorem State.fmapTick_due {s : State} {down : Bool} (h : (if down then s.time.fmapDownAt else s.time.fmapUpAt) ≠ some (s.ns / 100_000_000)) :
    s.fmapTick down = (s.stampMaps down).fmapSend down := by
  unfold State.fmapTick
  extract_lets n
  exact if_neg h

theorem State.stampMaps_at (s : State) (down : Bool) :
    (if down then (s.stampMaps down).time.fmapDownAt else (s.stampMaps down).time.fmapUpAt) = some (s.ns / 100_000_000) := by
  cases down <;> rfl

theorem State.egressFresh_of_idle {s : State} (h : s.egressIdle = true) : s.egressFresh := by
  intro l h1 h2 x hx
  have hl : l ∈ [24, 25, 26, 27] := by simp; omega
  have he := List.all_eq_true.1 h l hl
  rw [List.isEmpty_iff.1 he] at hx
  cases hx

/-! ## Maps taken (R437) -/

/-- The entries of one map message: those of its group are its own. -/
def fmapPut (m : List Byte) (t : Tab Nat) : Tab Nat :=
  (List.range 16).foldl (fun t j => Tab.set (fun _ => 0xFFFF) t (byteAt m 1 + j)
    (if j < byteAt m 2 then leAt m (3 + 2 * j) 2 else 0xFFFF)) t

/-- A table after entries from a place on are written. -/
theorem get_foldl_set (f : Nat → Nat) (a n k : Nat) (t : Tab Nat) :
    Tab.get (fun _ => 0xFFFF) ((List.range n).foldl (fun t j => Tab.set (fun _ => 0xFFFF) t (a + j) (f j)) t) k
      = if a ≤ k ∧ k < a + n then f (k - a) else Tab.get (fun _ => 0xFFFF) t k := by
  induction n with
  | zero => rw [if_neg (by omega)]; rfl
  | succ n ih =>
    rw [List.range_succ, List.foldl_append, List.foldl_cons, List.foldl_nil, Tab.get_set, ih]
    by_cases h : k = a + n
    · rw [if_pos h, if_pos (by omega), h, Nat.add_sub_cancel_left]
    · rw [if_neg h]
      by_cases h' : a ≤ k ∧ k < a + n
      · rw [if_pos h', if_pos (by omega)]
      · rw [if_neg h', if_neg (by omega)]

theorem fmapPut_group (m : List Byte) (t : Tab Nat) {j : Nat} (h : j < 16) :
    Tab.get (fun _ => 0xFFFF) (fmapPut m t) (byteAt m 1 + j) = if j < byteAt m 2 then leAt m (3 + 2 * j) 2 else 0xFFFF := by
  rw [fmapPut, get_foldl_set, if_pos (by omega), Nat.add_sub_cancel_left]

theorem fmapPut_outside (m : List Byte) (t : Tab Nat) {k : Nat} (h : k < byteAt m 1 ∨ byteAt m 1 + 16 ≤ k) :
    Tab.get (fun _ => 0xFFFF) (fmapPut m t) k = Tab.get (fun _ => 0xFFFF) t k := by
  rw [fmapPut, get_foldl_set, if_neg (by omega)]

/-- A good message on a trunk lane in service is acted on (R433). -/
theorem State.trunkOnly_good {s : State} {lane : Nat} {m : List Byte} (h1 : 24 ≤ lane) (h2 : lane < 28)
    (ha : s.laneActive lane = true) (hg : crcGood m = true) (f : State → State) : s.trunkOnly lane m f = f s := by
  have hp : (s.exchPort lane).isNone = false := by simp [State.exchPort, h1, h2]
  have hh : s.laneHears lane = true := by simp [State.laneHears, ha]
  unfold State.trunkOnly State.trunkMessage
  rw [if_neg (by omega), hp, hh, hg, ha]
  rfl

theorem State.fmapIn_good {s : State} {lane : Nat} {m : List Byte} (h1 : 24 ≤ lane) (h2 : lane < 28)
    (ha : s.laneActive lane = true) (hg : crcGood m = true) (hn : s.fromNeighbour lane = true) :
    s.fmapIn lane m = s.updTime fun t =>
      if lane < 26 then { t with fmapUp := fmapPut m t.fmapUp } else { t with fmapDown := fmapPut m t.fmapDown } := by
  unfold State.fmapIn
  rw [State.trunkOnly_good h1 h2 ha hg, hn]
  rfl

/-! ## Foreign samples (R276) -/

theorem State.countTo_besideDets (s : State) (ii n : Nat) : (s.updInst ii fun i => s.countTo i n).besideDets = s.besideDets :=
  State.updInst_besideDets _ _ fun _ => rfl

theorem State.readRings_besideDets (s : State) (ch k : Nat) : (s.readRings ch k).besideDets = s.besideDets := by
  unfold State.readRings
  split
  · rfl
  · refine foldl_keeps (g := State.besideDets) (fun s x => ?_) _ s
    extract_lets lost t
    have ht : t.besideDets = s.besideDets := State.runWindows_besideDets ..
    split
    · exact (t.countTo_besideDets x.2 lost).trans ht
    · exact ht

/-- What a sample that enters history leaves. -/
theorem State.combStore_keeps (s : State) (ch k : Nat) (e : HistEntry) :
    (s.combStore ch k e).sys = s.sys ∧ (s.combStore ch k e).time = s.time ∧ (s.combStore ch k e).hive = s.hive
      ∧ (s.combStore ch k e).streams = s.streams ∧ (s.combStore ch k e).cfg = s.cfg
      ∧ (s.combStore ch k e).comb.resid = s.comb.resid := by
  obtain ⟨hsys, htime, hhive, -, hstr, hcfg, hresid⟩ := State.besideDets_parts (s.readRings_besideDets ch k)
  exact ⟨hsys, htime, hhive, hstr, hcfg, hresid⟩

/-- Modes, time, the configuration, streams and Hive: a foreign sample leaves them as they were. -/
def State.besideForeign (s : State) := (s.sys, s.time, s.cfg, s.streams, s.hive)

theorem State.combForeign_besideForeign (s : State) (ch : Nat) (stamp v : Int) (st : Bool) :
    (s.combForeign ch stamp v st).besideForeign = s.besideForeign := by
  unfold State.combForeign
  split
  · rfl
  · split
    · simp [State.besideForeign]
    · refine Eq.trans ?_ (Eq.refl _)
      obtain ⟨hsys, htime, hhive, hstr, hcfg, -⟩ := State.combStore_keeps ({ s with comb := { s.comb with
        resid := Tab.set (fun _ => 0) s.comb.resid ch ((-stamp) % subNs 2500).toNat } }) ch (indexOfStamp stamp 2500)
        { val := v, settling := st }
      exact Prod.ext hsys (Prod.ext htime (Prod.ext hcfg (Prod.ext hstr hhive)))

/-- A sample that is not late enters history, and its channel's residual is its stamp's (R252, R276). -/
theorem State.combForeign_timely {s : State} {ch : Nat} {stamp : Int} (v : Int) (st : Bool) (hc : s.hasComb = true)
    (ht : s.sub ≤ stamp + s.feedLag ch) :
    s.combForeign ch stamp v st
      = ({ s with comb := { s.comb with
            resid := Tab.set (fun _ => 0) s.comb.resid ch ((-stamp) % subNs 2500).toNat } } : State).combStore ch
          (indexOfStamp stamp 2500) { val := v, settling := st } := by
  unfold State.combForeign
  rw [hc, if_neg (by simp), if_neg (not_lt.2 ht)]

/-- Folds of two operations agree where each step does, on what the steps keep. -/
theorem foldl_congr_keeps {σ α β : Type} {g : σ → β} {f f' : σ → α → σ} {s : σ} (hk : ∀ t x, g (f t x) = g t)
    (he : ∀ t x, g t = g s → f t x = f' t x) (l : List α) : l.foldl f s = l.foldl f' s := by
  have h : ∀ t, g t = g s → l.foldl f t = l.foldl f' t := by
    induction l with
    | nil => exact fun _ _ => rfl
    | cons x l ih =>
      intro t ht
      rw [List.foldl_cons, List.foldl_cons, he t x ht]
      exact ih _ (by rw [← he t x ht, hk, ht])
  exact h s rfl

/-- The map a lane's neighbour sent last (R437). -/
def State.mapOf (s : State) (lane : Nat) : Tab Nat := if 26 ≤ lane then s.time.fmapDown else s.time.fmapUp

/-- One bit's sample, into each channel that is bound to its chain. -/
def State.foreignBit (s : State) (lane : Nat) (m : List Byte) (w : State) (j : Nat) : State :=
  (if Tab.get (fun _ => 0xFFFF) (s.mapOf lane) (byteAt m 1 + j) = 0xFFFF then []
    else s.foreignChannels (decide (26 ≤ lane)) (Tab.get (fun _ => 0xFFFF) (s.mapOf lane) (byteAt m 1 + j))).foldl
    (fun w ch => w.combForeign ch (s.extend (leAt m 2 6)) (sleAt m (12 + 3 * onesBelow (leAt m 8 2) j) 3) (bit (leAt m 10 2) j)) w

theorem State.foreignBit_besideForeign (s : State) (lane : Nat) (m : List Byte) (w : State) (j : Nat) :
    (s.foreignBit lane m w j).besideForeign = w.besideForeign :=
  foldl_keeps (fun w _ => w.combForeign_besideForeign ..) _ w

theorem State.foreignIn_good {s : State} {lane : Nat} {m : List Byte} (h1 : 24 ≤ lane) (h2 : lane < 28)
    (ha : s.laneActive lane = true) (hg : crcGood m = true) (hn : s.fromNeighbour lane = true) :
    s.foreignIn lane m = (bitList 16 (leAt m 8 2)).foldl (s.foreignBit lane m) s := by
  unfold State.foreignIn
  rw [State.trunkOnly_good h1 h2 ha hg, hn]
  refine foldl_congr_keeps (g := State.besideForeign) (fun w j => foldl_keeps (fun w _ => w.combForeign_besideForeign ..) _ w)
    (fun w j hw => ?_) _
  have hcfg : w.cfg = s.cfg := congrArg (fun x => x.2.2.1) hw
  unfold State.foreignBit State.foreignChannels State.body
  rw [hcfg]
  rfl

/-- A message of one sample, of the group's first index. -/
theorem State.foreignIn_single {s : State} {lane ch : Nat} {m : List Byte} (h1 : leAt m 8 2 = 1)
    (hc : Tab.get (fun _ => 0xFFFF) (s.mapOf lane) (byteAt m 1) ≠ 0xFFFF)
    (hch : s.foreignChannels (decide (26 ≤ lane)) (Tab.get (fun _ => 0xFFFF) (s.mapOf lane) (byteAt m 1)) = [ch]) :
    (bitList 16 (leAt m 8 2)).foldl (s.foreignBit lane m) s
      = s.combForeign ch (s.extend (leAt m 2 6)) (sleAt m 12 3) (bit (leAt m 10 2) 0) := by
  have hbits : bitList 16 1 = [0] := by decide
  have hones : onesBelow 1 0 = 0 := by decide
  rw [h1, hbits, List.foldl_cons, List.foldl_nil]
  unfold State.foreignBit
  rw [Nat.add_zero, if_neg hc, hch, h1, hones]
  rfl

/-! ## A rebuild that is done (R272) -/

theorem State.extendLeases_keeps (s : State) (p : Port) (n : Nat) :
    (s.extendLeases p n).sys = s.sys ∧ (s.extendLeases p n).streams = s.streams ∧ (s.extendLeases p n).hive = s.hive
      ∧ (s.extendLeases p n).comb = s.comb ∧ (s.extendLeases p n).cfg = s.cfg := by
  have h : (fun t : State => (t.sys, t.streams, t.hive, t.comb, t.cfg)) (s.extendLeases p n) = (s.sys, s.streams, s.hive, s.comb, s.cfg) := by
    unfold State.extendLeases
    refine foldl_keeps (g := fun t : State => (t.sys, t.streams, t.hive, t.comb, t.cfg)) (fun t k => ?_) _ s
    exact ite_keeps (g := fun t : State => (t.sys, t.streams, t.hive, t.comb, t.cfg)) rfl
  simpa only [Prod.mk.injEq] using h

theorem State.writeInactive_keeps (s : State) (fs : List (List Byte)) (v : Bool) :
    (s.writeInactive fs v).sys = s.sys ∧ (s.writeInactive fs v).streams = s.streams ∧ (s.writeInactive fs v).hive = s.hive
      ∧ (s.writeInactive fs v).cfg = s.cfg := by
  have h : (fun t : State => (t.sys, t.streams, t.hive, t.cfg)) (s.writeInactive fs v) = (s.sys, s.streams, s.hive, s.cfg) := by
    unfold State.writeInactive
    exact foldl_keeps (g := fun t : State => (t.sys, t.streams, t.hive, t.cfg)) (by intro t k; rfl) _ s
  simpa only [Prod.mk.injEq] using h

/-- A commit's outcome is shown, and counted where it failed (R532). -/
theorem State.commitOutcome_spec (s : State) (r : Refuse) :
    (s.commitOutcome r).cfg = { s.cfg with result := r.status, runit := r.runit, reason := r.reason, detail := r.detail }
      ∧ (s.commitOutcome r).sys = s.sys ∧ (s.commitOutcome r).streams = s.streams ∧ (s.commitOutcome r).hive = s.hive
      ∧ (s.commitOutcome r).comb = s.comb := by
  unfold State.commitOutcome
  extract_lets t
  split
  · exact ⟨rfl, rfl, rfl, rfl, rfl⟩
  · exact ⟨State.bump_cfg .., State.bump_sys .., State.bump_streams .., State.bump_hive .., State.bump_comb ..⟩

/-- What a rebuild that is done is judged by: its own reads, then the checks of its image (R272, R274). -/
def Rebuild.verdict (b : Rebuild) (g : Staged) (y : State) : Option Refuse :=
  if b.poisoned then some (refused 0x08 0x0012 0)
  else y.imageChecks { isFull := false, imageId := g.imageId, epochDs := g.epochDs, compressed := b.compressed, secs := g.sections
                       anchorsNx := b.compressed }

/-- A rebuild that passed: its frames are in, and its commit succeeds. -/
def State.rebuilt (y : State) (b : Rebuild) : State :=
  ({ y.writeInactive b.frames true with
      comb := { (y.writeInactive b.frames true).comb with rebuild := some { b with finished := true } } } : State).commitOutcome commitOk

/-- A rebuild that failed: it goes, and all that its commit staged with it. -/
def State.unbuilt (y : State) (b : Rebuild) (r : Refuse) : State :=
  ({ y.writeInactive b.frames false with
      comb := { (y.writeInactive b.frames false).comb with rebuild := none }
      cfg := { (y.writeInactive b.frames false).cfg with staged := none } } : State).commitOutcome r

theorem State.rebuilt_spec (y : State) (b : Rebuild) :
    (y.rebuilt b).comb.rebuild = some { b with finished := true } ∧ (y.rebuilt b).cfg.staged = y.cfg.staged
      ∧ (y.rebuilt b).cfg.result = stOk ∧ (y.rebuilt b).sys = y.sys ∧ (y.rebuilt b).streams = y.streams ∧ (y.rebuilt b).hive = y.hive := by
  unfold State.rebuilt
  obtain ⟨hsys, hstr, hhive, hcfg⟩ := y.writeInactive_keeps b.frames true
  generalize y.writeInactive b.frames true = z at hsys hstr hhive hcfg ⊢
  obtain ⟨hc, hs, hst, hh, hcomb⟩ := State.commitOutcome_spec
    ({ z with comb := { z.comb with rebuild := some { b with finished := true } } }) commitOk
  rw [hc, hs, hst, hh, hcomb]
  exact ⟨rfl, (congrArg Cfg.staged hcfg :), rfl, hsys, hstr, hhive⟩

theorem State.unbuilt_spec (y : State) (b : Rebuild) (r : Refuse) :
    (y.unbuilt b r).comb.rebuild = none ∧ (y.unbuilt b r).cfg.staged = none
      ∧ (y.unbuilt b r).cfg.result = r.status ∧ (y.unbuilt b r).cfg.reason = r.reason ∧ (y.unbuilt b r).sys = y.sys
      ∧ (y.unbuilt b r).streams = y.streams ∧ (y.unbuilt b r).hive = y.hive := by
  unfold State.unbuilt
  obtain ⟨hsys, hstr, hhive, -⟩ := y.writeInactive_keeps b.frames false
  generalize y.writeInactive b.frames false = z at hsys hstr hhive ⊢
  obtain ⟨hc, hs, hst, hh, hcomb⟩ := State.commitOutcome_spec
    ({ z with comb := { z.comb with rebuild := none }, cfg := { z.cfg with staged := none } }) r
  rw [hc, hs, hst, hh, hcomb]
  exact ⟨rfl, rfl, rfl, rfl, hsys, hstr, hhive⟩

theorem State.rebuildDone_passed {s y : State} {b : Rebuild} {g : Staged} (hb : s.comb.rebuild = some b) (hg : s.cfg.staged = some g)
    (hf : b.finished = false) (hy : s.extendLeases b.pkt.port ((s.ns - b.startAt) * 4 / 5) = y) (hv : b.verdict g y = none) :
    s.rebuildDone = (y.rebuilt b).complete b.pkt stOk := by
  unfold Rebuild.verdict at hv
  unfold State.rebuildDone
  simp only [hb, hg, hf, hy, hv, Bool.false_eq_true, if_false]
  rfl

theorem State.rebuildDone_refused {s y : State} {b : Rebuild} {g : Staged} {r : Refuse} {st : Nat} {body : List Byte}
    (hb : s.comb.rebuild = some b) (hg : s.cfg.staged = some g)
    (hf : b.finished = false) (hy : s.extendLeases b.pkt.port ((s.ns - b.startAt) * 4 / 5) = y) (hv : b.verdict g y = some r)
    (hr : r.reply = .done st body) :
    s.rebuildDone = (y.unbuilt b r).complete b.pkt st body := by
  unfold Rebuild.verdict at hv
  unfold State.rebuildDone
  simp only [hb, hg, hf, hy, hv, hr, Bool.false_eq_true, if_false]
  rfl

/-! ## The obligation -/

/-- Settles O31: a rebuild by its verdict; a message by what it does on a lane in service; the maps of a direction by the arbiters
of its lanes. -/
theorem foreignComplete : Obligations.ForeignComplete := by
  unfold Obligations.ForeignComplete
  rintro s u t rfl hm
  refine ⟨fun b g y i bad hb hg hf hy hi hbad => ⟨fun hv => ?_, fun r st body hv hr => ?_⟩, fun lane m h1 h2 ha hg hn => ⟨?_, ?_⟩,
    fun down hat => ?_⟩
  · subst hi hbad
    have hex := exec_rebuildDone t s
    rw [State.runOn_eq hm, State.rebuildDone_passed (s := s.elapse t) hb hg hf hy.symm hv] at hex
    obtain ⟨hsys, hstr, hhive, -, hcfg⟩ := (s.elapse t).extendLeases_keeps b.pkt.port (((s.elapse t).ns - b.startAt) * 4 / 5)
    rw [← hy] at hsys hstr hhive hcfg
    obtain ⟨hre, hst, hres, hsys', hstr', hhive'⟩ := y.rebuilt_spec b
    exact ⟨_, hex, hre, hst.trans ((congrArg Cfg.staged hcfg).trans hg), hres, hsys'.trans hsys, hstr'.trans hstr,
      hhive'.trans hhive⟩
  · subst hi hbad
    have hex := exec_rebuildDone t s
    rw [State.runOn_eq hm, State.rebuildDone_refused (s := s.elapse t) hb hg hf hy.symm hv hr] at hex
    obtain ⟨hsys, hstr, hhive, -, -⟩ := (s.elapse t).extendLeases_keeps b.pkt.port (((s.elapse t).ns - b.startAt) * 4 / 5)
    rw [← hy] at hsys hstr hhive
    obtain ⟨hre, hst, hres, hwhy, hsys', hstr', hhive'⟩ := y.unbuilt_spec b r
    exact ⟨_, hex, hre, hst, hres, hwhy, hsys'.trans hsys, hstr'.trans hstr, hhive'.trans hhive⟩
  · have hex := exec_foreign t lane m s
    rw [State.runOn_eq hm, State.foreignIn_good (s := s.elapse t) h1 h2 ha hg hn] at hex
    have hk : ((bitList 16 (leAt m 8 2)).foldl ((s.elapse t).foreignBit lane m) (s.elapse t)).besideForeign = (s.elapse t).besideForeign :=
      foldl_keeps (fun w j => (s.elapse t).foreignBit_besideForeign lane m w j) _ _
    simp only [State.besideForeign, Prod.mk.injEq] at hk
    obtain ⟨hsys, htime, -, hstr, hhive⟩ := hk
    refine ⟨_, hex, rfl, fun ch c rho hone hcomb hrho hc hcu hch hlate => ?_, hsys, htime, hstr, hhive⟩
    subst hc hrho
    rw [State.foreignIn_single (s := s.elapse t) hone hcu hch, State.combForeign_timely (s := s.elapse t) _ _ hcomb hlate]
    refine ⟨rfl, ?_⟩
    rw [(State.combStore_keeps _ _ _ _).2.2.2.2.2]
    exact Tab.get_set_self ..
  · have hex := exec_fmap t lane m s
    rw [State.runOn_eq hm, State.fmapIn_good (s := s.elapse t) h1 h2 ha hg hn] at hex
    refine ⟨_, hex, ?_⟩
    by_cases hup : lane < 26
    · have hn26 : ¬ 26 ≤ lane := by omega
      simp only [if_pos hup, if_neg hn26]
      exact ⟨fun j hj => fmapPut_group m _ hj, fun k hk => ⟨rfl, fmapPut_outside m _ hk⟩, rfl, rfl, rfl, rfl⟩
    · have h26 : 26 ≤ lane := by omega
      simp only [if_neg hup, if_pos h26]
      exact ⟨fun j hj => fmapPut_group m _ hj, fun k hk => ⟨fmapPut_outside m _ hk, rfl⟩, rfl, rfl, rfl, rfl⟩
  · have hex := exec_fmapSend t down s
    rw [State.runOn_eq hm, State.fmapTick_due (s := s.elapse t) hat] at hex
    obtain ⟨hkeeps, hasks, hother, hidle⟩ := ((s.elapse t).stampMaps down).fmapSend_spec down
    obtain ⟨hsys, hstr, hmem⟩ := State.unread_parts hkeeps.unread
    refine ⟨_, hex, hasks, fun l hl => hother l ?_, ?_, hsys, fun hi => hidle (State.egressFresh_of_idle hi), hstr, hmem⟩
    · cases down <;> simp [lanesOf] at hl ⊢ <;> omega
    · rw [hkeeps.time]
      exact State.stampMaps_at ..

end Sys2Proof.Machine

/-! ## Images (O54): a hub without a Comb rebuilds nothing

The statement has every commit of a partial image with `ANCHORS` begin a rebuild. A hub whose variant has no Comb (R1) has nothing to rebuild, and
its commit is answered at once (R5). The refutation shows such a commit: no rebuild runs after it, while after any state with a rebuild, which
the statement asks for, `State.finish` leaves a rebuild. What `State.finish` calls keeps `Comb.rebuild`, but for a commit, which begins a rebuild
only where none runs. -/

namespace Sys2Proof.Machine
-- As in the section on spot conversions: side by side, the short proofs below take more threads than the check allows.
set_option Elab.async false

/-! ### What leaves the rebuild as it is -/

theorem State.rebuild_of_still {s t : State} (h : t.still = s.still) : t.comb.rebuild = s.comb.rebuild := by
  simp only [State.still, Prod.mk.injEq] at h
  obtain ⟨-, -, -, -, -, -, -, -, -, hcomb, -⟩ := h
  rw [hcomb]

@[simp] theorem rebuild_ite {c : Prop} [Decidable c] (s t : State) :
    (if c then s else t).comb.rebuild = if c then s.comb.rebuild else t.comb.rebuild := apply_ite (·.comb.rebuild) c s t

@[simp] theorem rebuild_ite_snd {α : Type} {c : Prop} [Decidable c] (x y : α × State) :
    (if c then x else y).2.comb.rebuild = if c then x.2.comb.rebuild else y.2.comb.rebuild := apply_ite (·.2.comb.rebuild) c x y

@[simp] theorem rebuild_foldl {α : Type} {f : State → α → State} (h : ∀ s x, (f s x).comb.rebuild = s.comb.rebuild) (l : List α)
    (s : State) : (l.foldl f s).comb.rebuild = s.comb.rebuild := foldl_keeps (g := fun s => s.comb.rebuild) h l s

/-! ### Flow to the host -/

section
variable (s : State)

@[simp] theorem State.ackOne_rebuild (routed : Nat → Bool) (id r : Nat) : (State.ackOne routed s id r).1.comb.rebuild = s.comb.rebuild := by
  unfold State.ackOne
  dsimp only
  repeat' split
  all_goals simp

@[simp] theorem State.ackAll_rebuild (routed : Nat → Bool) (es : List (List Byte)) :
    (State.ackAll routed s es).1.comb.rebuild = s.comb.rebuild := by
  induction es generalizing s with
  | nil => rfl
  | cons e es ih => simp [State.ackAll, ih]

@[simp] theorem State.rewindHost_rebuild : s.rewindHost.comb.rebuild = s.comb.rebuild := by simp [State.rewindHost]
@[simp] theorem State.rewindDrip_rebuild : s.rewindDrip.comb.rebuild = s.comb.rebuild := by simp [State.rewindDrip]
@[simp] theorem State.updDrdy_rebuild (standby : Bool) : (State.updDrdy standby s).comb.rebuild = s.comb.rebuild := by simp [State.updDrdy]
@[simp] theorem State.updCmdStop_rebuild (cleared : Bool) : (State.updCmdStop cleared s).comb.rebuild = s.comb.rebuild := by
  simp [State.updCmdStop]
end

/-! ### Marks -/

section
variable (s : State)

@[simp] theorem State.markSuspect_rebuild (ns : Nat) (v : Bool) : (s.markSuspect ns v).comb.rebuild = s.comb.rebuild := by
  simp [State.markSuspect]
end

/-! ### Hive and its arbiters -/

section
variable (s : State)

@[simp] theorem State.runBank_rebuild (b : Nat) : (s.runBank b).comb.rebuild = s.comb.rebuild := State.rebuild_of_still (by simp)
@[simp] theorem State.runBanks_rebuild : s.runBanks.comb.rebuild = s.comb.rebuild := by simp [State.runBanks]
@[simp] theorem State.eccCorrect_rebuild (word : Nat) : (s.eccCorrect word).comb.rebuild = s.comb.rebuild := by simp [State.eccCorrect]
@[simp] theorem State.eccUe_rebuild (word req : Nat) (names : List Word) : (s.eccUe word req names).comb.rebuild = s.comb.rebuild := by
  simp [State.eccUe]

@[simp] theorem State.eccRead_rebuild (r : Nat) (l : List Nat) (names : List Word) :
    (s.eccRead r l names).1.comb.rebuild = s.comb.rebuild := by
  induction l generalizing s with
  | nil => rfl
  | cons w ws ih =>
    unfold State.eccRead
    dsimp only
    repeat' split
    all_goals simp [ih]

@[simp] theorem State.grants_rebuild (req a len : Nat) : (s.grants req a len).comb.rebuild = s.comb.rebuild :=
  State.rebuild_of_still (by simp)
@[simp] theorem State.hiveRead_rebuild (req a len : Nat) : (s.hiveRead req a len).2.2.comb.rebuild = s.comb.rebuild := by
  simp [State.hiveRead]
@[simp] theorem State.strike_rebuild (ws : List Nat) : (s.strike ws).comb.rebuild = s.comb.rebuild := State.rebuild_of_still (by simp)
@[simp] theorem State.hiveWrite_rebuild (req a : Nat) (bs : List Byte) : (s.hiveWrite req a bs).comb.rebuild = s.comb.rebuild := by
  simp [State.hiveWrite]
@[simp] theorem State.wordGrants_rebuild (req : Nat) (ws : List Nat) : (s.wordGrants req ws).comb.rebuild = s.comb.rebuild :=
  State.rebuild_of_still (by simp)
@[simp] theorem State.unitWrite_rebuild (req : Nat) (r : Option Region) (n len : Nat) :
    (s.unitWrite req r n len).comb.rebuild = s.comb.rebuild := State.rebuild_of_still (by simp)

@[simp] theorem State.unitRead_rebuild (req : Nat) (r : Option Region) (n len : Nat) :
    (s.unitRead req r n len).comb.rebuild = s.comb.rebuild := by
  unfold State.unitRead
  split <;> simp

@[simp] theorem State.setEgress_rebuild (lane : Nat) (a : Arbiter) : (s.setEgress lane a).comb.rebuild = s.comb.rebuild := by
  simp [State.setEgress]
@[simp] theorem State.egressBytes_rebuild (lane : Nat) (x : Xfer) : (s.egressBytes lane x).2.comb.rebuild = s.comb.rebuild := by
  simp [State.egressBytes]
@[simp] theorem State.egressOut_rebuild (lane : Nat) (g : Grant) : (State.egressOut lane s g).comb.rebuild = s.comb.rebuild := by
  simp [State.egressOut]
@[simp] theorem State.runEgress_rebuild (limit lane : Nat) : (s.runEgress limit lane).comb.rebuild = s.comb.rebuild := by
  simp [State.runEgress]
@[simp] theorem State.runLanes_rebuild (limit : Nat) : (s.runLanes limit).comb.rebuild = s.comb.rebuild := by simp [State.runLanes]
@[simp] theorem State.flushLanes_rebuild : s.flushLanes.comb.rebuild = s.comb.rebuild := by simp [State.flushLanes]
@[simp] theorem State.egress_rebuild (lane slot : Nat) (m : List Byte) : (s.egress lane slot m).comb.rebuild = s.comb.rebuild := by
  simp [State.egress]
@[simp] theorem State.arbCommit_rebuild : s.arbCommit.2.comb.rebuild = s.comb.rebuild := by simp [State.arbCommit]
@[simp] theorem State.egrCommit_rebuild : s.egrCommit.2.comb.rebuild = s.comb.rebuild := by simp [State.egrCommit]
@[simp] theorem State.writeEccInj_rebuild (v : Word) : (s.writeEccInj v).2.comb.rebuild = s.comb.rebuild := by simp [State.writeEccInj]
@[simp] theorem State.regionRead_rebuild (r : Region) (a n : Nat) : (s.regionRead r a n).2.2.comb.rebuild = s.comb.rebuild := by
  simp [State.regionRead]

@[simp] theorem State.opRdb_rebuild (p : Packet) : (s.opRdb p).2.comb.rebuild = s.comb.rebuild := by
  unfold State.opRdb
  dsimp only
  repeat' split
  all_goals simp

@[simp] theorem State.opWrb_rebuild (p : Packet) : (s.opWrb p).2.comb.rebuild = s.comb.rebuild := by
  unfold State.opWrb
  dsimp only
  repeat' split
  all_goals simp
end

/-! ### Streams and their records -/

section
variable (s : State)

@[simp] theorem State.emit_rebuild (r : Route) (x : Record) : (s.emit r x).comb.rebuild = s.comb.rebuild := State.rebuild_of_still (by simp)
@[simp] theorem State.endOpening_rebuild (r : Route) : (s.endOpening r).comb.rebuild = s.comb.rebuild := State.rebuild_of_still (by simp)
@[simp] theorem State.stopStreams_rebuild : s.stopStreams.comb.rebuild = s.comb.rebuild := State.rebuild_of_still (by simp)
@[simp] theorem State.emitParts_rebuild (r : Route) (g : Gap) (chs : List Nat) (parts : List (Nat × Nat)) :
    (s.emitParts r g chs parts).comb.rebuild = s.comb.rebuild := State.rebuild_of_still (by simp)
@[simp] theorem State.deliver_rebuild (ch : Nat) (w : SlotWord) : (s.deliver ch w).comb.rebuild = s.comb.rebuild :=
  State.rebuild_of_still (by simp)
@[simp] theorem State.openSpans_rebuild (chs : List Nat) (start : Nat → Nat) (cause subject : Nat) (est : Bool) :
    (s.openSpans chs start cause subject est).comb.rebuild = s.comb.rebuild := State.rebuild_of_still (by simp)
@[simp] theorem State.resumeSpans_rebuild (chs : List Nat) (start : Nat → Nat) (cause subject : Nat) (est : Bool) :
    (s.resumeSpans chs start cause subject est).comb.rebuild = s.comb.rebuild := State.rebuild_of_still (by simp)
@[simp] theorem State.closeSpans_rebuild (chs : List Nat) (stop : Nat → Nat) : (s.closeSpans chs stop).comb.rebuild = s.comb.rebuild :=
  State.rebuild_of_still (by simp)
@[simp] theorem State.splitSpans_rebuild : s.splitSpans.comb.rebuild = s.comb.rebuild := by simp [State.splitSpans]
@[simp] theorem State.openStream_rebuild (r : Route) : (s.openStream r).comb.rebuild = s.comb.rebuild := by simp [State.openStream]

@[simp] theorem State.completeCloses_rebuild : s.completeCloses.comb.rebuild = s.comb.rebuild := by
  refine rebuild_foldl (fun s r => ?_) _ s
  dsimp only
  split <;> simp

@[simp] theorem State.recordWords_rebuild (req : Nat) (x : Record) (ws : List (Nat × Nat)) :
    (s.recordWords req x ws).comb.rebuild = s.comb.rebuild := by
  induction ws generalizing s with
  | nil => rfl
  | cons w ws ih => simp [State.recordWords, ih]

@[simp] theorem State.recordRead_rebuild (req : Nat) (x : Record) : (s.recordRead req x).2.comb.rebuild = s.comb.rebuild := by
  simp [State.recordRead]

@[simp] theorem State.recordsRead_rebuild (req : Record → Nat) (xs : List Record) :
    (s.recordsRead req xs).2.comb.rebuild = s.comb.rebuild := by
  induction xs generalizing s with
  | nil => rfl
  | cons x xs ih => simp [State.recordsRead, ih]

@[simp] theorem State.packHost_rebuild : s.packHost.comb.rebuild = s.comb.rebuild := by simp [State.packHost]
@[simp] theorem State.packDrip_rebuild : s.packDrip.comb.rebuild = s.comb.rebuild := by simp [State.packDrip]
@[simp] theorem State.settle_rebuild : s.settle.comb.rebuild = s.comb.rebuild := by simp [State.settle]
end

/-! ### Trigger engines -/

section
variable (s : State)

@[simp] theorem State.trigSend_rebuild (src : Nat) (t : Int) (chan : Option Nat) : (s.trigSend src t chan).comb.rebuild = s.comb.rebuild := by
  simp [State.trigSend]
@[simp] theorem State.ringWord_rebuild (ch : Nat) (w : SlotWord) : (s.ringWord ch w).comb.rebuild = s.comb.rebuild := by
  simp [State.ringWord]
@[simp] theorem State.collect_rebuild (e : Nat) (f : Fire) (dead : Nat) : (s.collect e f dead).comb.rebuild = s.comb.rebuild := by
  simp [State.collect]
@[simp] theorem State.ignoreBusy_rebuild (e : Nat) : (s.ignoreBusy e).comb.rebuild = s.comb.rebuild := by simp [State.ignoreBusy]
@[simp] theorem State.ignorePre_rebuild (e : Nat) (t : Int) : (s.ignorePre e t).comb.rebuild = s.comb.rebuild := by simp [State.ignorePre]
@[simp] theorem State.missFire_rebuild (e : Nat) (t : Int) : (s.missFire e t).comb.rebuild = s.comb.rebuild := by simp [State.missFire]
@[simp] theorem State.mergeFire_rebuild (e : Nat) (c : Collect) (f : Fire) : (s.mergeFire e c f).comb.rebuild = s.comb.rebuild := by
  simp [State.mergeFire]

@[simp] theorem State.judgeFire_rebuild (e : Nat) (f : Fire) : (s.judgeFire e f).comb.rebuild = s.comb.rebuild := by
  unfold State.judgeFire
  dsimp only
  repeat' split
  all_goals simp

@[simp] theorem State.fireAt_rebuild (e : Nat) (f : Fire) : (s.fireAt e f).comb.rebuild = s.comb.rebuild := by simp [State.fireAt]
@[simp] theorem State.fireEngine_rebuild (e : Nat) (t : Int) (kind num : Nat) :
    (s.fireEngine e t kind num).comb.rebuild = s.comb.rebuild := by simp [State.fireEngine]
@[simp] theorem State.ringCopy_rebuild (e : Nat) (first : Int) (n : Nat) : (s.ringCopy e first n).comb.rebuild = s.comb.rebuild := by
  simp [State.ringCopy]
@[simp] theorem State.startCopy_rebuild (e first slots : Nat) (parts : List Record) :
    (s.startCopy e first slots parts).comb.rebuild = s.comb.rebuild := by simp [State.startCopy]

@[simp] theorem State.closeCapture_rebuild (e : Nat) : (s.closeCapture e).comb.rebuild = s.comb.rebuild := by
  unfold State.closeCapture
  dsimp only
  repeat' split
  all_goals simp

@[simp] theorem State.closeSegment_rebuild (e : Nat) : (s.closeSegment e).comb.rebuild = s.comb.rebuild := by
  unfold State.closeSegment
  split <;> simp

@[simp] theorem State.cutRecord_rebuild (e : Nat) : (s.cutRecord e).comb.rebuild = s.comb.rebuild := by simp [State.cutRecord]
@[simp] theorem State.ringAnew_rebuild (ch place : Nat) (fill : Int) : (s.ringAnew ch place fill).comb.rebuild = s.comb.rebuild := by
  simp [State.ringAnew]
@[simp] theorem State.sendTrunk_rebuild (up down : Bool) (slot : Nat) (m : List Byte) :
    (s.sendTrunk up down slot m).comb.rebuild = s.comb.rebuild := by simp [State.sendTrunk]
@[simp] theorem State.noteSeen_rebuild (kind a b : Nat) : (s.noteSeen kind a b).comb.rebuild = s.comb.rebuild := by simp [State.noteSeen]
@[simp] theorem State.swarmFireOut_rebuild (t : Int) (engines : Nat) : (s.swarmFireOut t engines).comb.rebuild = s.comb.rebuild := by
  simp [State.swarmFireOut]
end

/-! ### The Comb -/

section
variable (s : State)

@[simp] theorem State.updInst_rebuild (ii : Nat) (f : ProgInst → ProgInst) : (s.updInst ii f).comb.rebuild = s.comb.rebuild := by
  simp [State.updInst]
@[simp] theorem State.detect_rebuild (ii si next : Nat) (det : Detection) : (s.detect ii si next det).comb.rebuild = s.comb.rebuild := by
  simp [State.detect]

@[simp] theorem State.runPair_rebuild (ii si slot chan t before limit : Nat) (early : Bool) (f : Nat) :
    (State.runPair ii si slot chan t before limit early f s).comb.rebuild = s.comb.rebuild := by
  induction f generalizing s with
  | zero => rfl
  | succ f ih =>
    unfold State.runPair
    repeat' split
    all_goals simp [ih]

@[simp] theorem State.runWindows_rebuild (ii before limit : Nat) (early : Bool) :
    (s.runWindows ii before limit early).comb.rebuild = s.comb.rebuild := by
  unfold State.runWindows
  split
  · rfl
  · exact rebuild_foldl (fun s _ => rebuild_foldl (fun s _ => rebuild_foldl (fun s _ => by simp) _ s) _ s) _ s

@[simp] theorem State.readRings_rebuild (ch k : Nat) : (s.readRings ch k).comb.rebuild = s.comb.rebuild := by simp [State.readRings]
@[simp] theorem State.combStore_rebuild (ch k : Nat) (e : HistEntry) : (s.combStore ch k e).comb.rebuild = s.comb.rebuild := by
  simp [State.combStore]
@[simp] theorem State.combTapB_rebuild (c : Nat) (stamp : Int) (period : Nat) (v : Int) (miss settling : Bool) :
    (s.combTapB c stamp period v miss settling).comb.rebuild = s.comb.rebuild := by simp [State.combTapB]
@[simp] theorem State.combForeign_rebuild (ch : Nat) (stamp v : Int) (settling : Bool) :
    (s.combForeign ch stamp v settling).comb.rebuild = s.comb.rebuild := by simp [State.combForeign]
end

/-! ### Chains and pods -/

section
variable (s : State)

@[simp] theorem State.chainSaturated_rebuild (c n m : Nat) : (s.chainSaturated c n m).comb.rebuild = s.comb.rebuild := by
  simp [State.chainSaturated]
@[simp] theorem State.tapA_rebuild (ch : Nat) (o : ChainOut) : (s.tapA ch o).comb.rebuild = s.comb.rebuild := by simp [State.tapA]
@[simp] theorem State.tapB_rebuild (ch : Nat) (o : ChainOut) : (s.tapB ch o).comb.rebuild = s.comb.rebuild := by simp [State.tapB]
@[simp] theorem State.exportOut_rebuild (ch : Nat) (o : ChainOut) : (s.exportOut ch o).comb.rebuild = s.comb.rebuild := by
  simp [State.exportOut]
@[simp] theorem State.chainOuts_rebuild (ch : Nat) (os : List ChainOut) : (s.chainOuts ch os).comb.rebuild = s.comb.rebuild := by
  simp [State.chainOuts]
@[simp] theorem State.feedTick_rebuild (p n : Nat) (h : Option Held) : (s.feedTick p n h).comb.rebuild = s.comb.rebuild := by
  simp [State.feedTick]

@[simp] theorem State.renumberChains_rebuild (chs : List Nat) (b : Nat) (d : Nat → Nat) :
    (s.renumberChains chs b d).comb.rebuild = s.comb.rebuild := by
  unfold State.renumberChains
  refine (rebuild_foldl (fun s ch => ?_) _ _).trans (by simp)
  split
  · simp
  · rfl

@[simp] theorem State.drainChains_rebuild (p m cause : Nat) (est : Bool) : (s.drainChains p m cause est).comb.rebuild = s.comb.rebuild := by
  unfold State.drainChains
  extract_lets last chs live grids s1 live' start s2 s3 turns bs s4 s5
  have h1 : s1.comb.rebuild = s.comb.rebuild := rebuild_foldl (fun s ch => by simp) _ s
  have h3 : s3.comb.rebuild = s1.comb.rebuild := (rebuild_foldl (fun s ch => by simp) _ s2).trans (by simp [s2])
  have h4 : s4.comb.rebuild = s3.comb.rebuild := rebuild_foldl (fun s b => by simp) _ s3
  simp [s5, h1, h3, h4]

@[simp] theorem State.takeTick_rebuild (p : Nat) : (s.takeTick p).comb.rebuild = s.comb.rebuild := by
  unfold State.takeTick
  dsimp only
  split <;> simp

@[simp] theorem State.feedUpTo_rebuild (p m f : Nat) : (State.feedUpTo p m f s).comb.rebuild = s.comb.rebuild := by
  induction f generalizing s with
  | zero => rfl
  | succ f ih => simp [State.feedUpTo, ih]

@[simp] theorem State.drainLane_rebuild (p m cause : Nat) (est : Bool) : (s.drainLane p m cause est).comb.rebuild = s.comb.rebuild := by
  simp [State.drainLane]
@[simp] theorem State.quarantine_rebuild (p : Nat) : (s.quarantine p).comb.rebuild = s.comb.rebuild := by simp [State.quarantine]
@[simp] theorem State.podError_rebuild (p o : Nat) : (s.podError p o).comb.rebuild = s.comb.rebuild := by simp [State.podError]

@[simp] theorem State.podStart_rebuild (p : Nat) : (s.podStart p).comb.rebuild = s.comb.rebuild := by
  unfold State.podStart
  dsimp only
  repeat' split
  all_goals simp

@[simp] theorem State.podDown_rebuild (p : Nat) : (s.podDown p).comb.rebuild = s.comb.rebuild := by simp [State.podDown]
@[simp] theorem State.writePodCmd_rebuild (p : Nat) (v : Word) : (s.writePodCmd p v).2.comb.rebuild = s.comb.rebuild := by
  simp [State.writePodCmd]
@[simp] theorem State.releaseQuar_rebuild (p : Nat) : (s.releaseQuar p).comb.rebuild = s.comb.rebuild := by simp [State.releaseQuar]
@[simp] theorem State.stopChains_rebuild : s.stopChains.comb.rebuild = s.comb.rebuild := by simp [State.stopChains]
end

/-! ### Lanes -/

section
variable (s : State)

@[simp] theorem State.enterDetect_rebuild (l : Nat) : (s.enterDetect l).comb.rebuild = s.comb.rebuild := by simp [State.enterDetect]
@[simp] theorem State.enterTrain_rebuild (l : Nat) : (s.enterTrain l).comb.rebuild = s.comb.rebuild := by simp [State.enterTrain]
@[simp] theorem State.enterLane_rebuild (l st : Nat) : (s.enterLane l st).comb.rebuild = s.comb.rebuild := by simp [State.enterLane]
@[simp] theorem State.pairLinkCheck_rebuild : s.pairLinkCheck.comb.rebuild = s.comb.rebuild := by simp [State.pairLinkCheck]
@[simp] theorem State.laneLeft_rebuild (l code : Nat) : (s.laneLeft l code).comb.rebuild = s.comb.rebuild := by simp [State.laneLeft]
@[simp] theorem State.laneFail_rebuild (l code : Nat) : (s.laneFail l code).comb.rebuild = s.comb.rebuild := by simp [State.laneFail]
@[simp] theorem State.enterActive_rebuild (l : Nat) : (s.enterActive l).comb.rebuild = s.comb.rebuild := by simp [State.enterActive]
@[simp] theorem State.capsDone_rebuild (l : Nat) (ok : Bool) : (s.capsDone l ok).comb.rebuild = s.comb.rebuild := by simp [State.capsDone]
@[simp] theorem State.retrain_rebuild (v : Nat) : (s.retrain v).comb.rebuild = s.comb.rebuild := by simp [State.retrain]
@[simp] theorem State.setGen_rebuild (l : Nat) (on anew : Bool) : (s.setGen l on anew).comb.rebuild = s.comb.rebuild := by
  simp [State.setGen]
@[simp] theorem State.checkerCount_rebuild (l : Nat) : (s.checkerCount l).comb.rebuild = s.comb.rebuild := by simp [State.checkerCount]
@[simp] theorem State.checkerSeeks_rebuild (l : Nat) : (s.checkerSeeks l).comb.rebuild = s.comb.rebuild := by simp [State.checkerSeeks]
@[simp] theorem State.writeTestCtrl_rebuild (l v : Nat) : (s.writeTestCtrl l v).2.comb.rebuild = s.comb.rebuild := by
  simp [State.writeTestCtrl]
@[simp] theorem State.writeInjGo_rebuild (l v : Nat) : (s.writeInjGo l v).2.comb.rebuild = s.comb.rebuild := by simp [State.writeInjGo]
@[simp] theorem State.lanesLeaveTest_rebuild : s.lanesLeaveTest.comb.rebuild = s.comb.rebuild := by simp [State.lanesLeaveTest]
@[simp] theorem State.writeEyeCtrl_rebuild (l v : Nat) : (s.writeEyeCtrl l v).2.comb.rebuild = s.comb.rebuild := by
  simp [State.writeEyeCtrl]
end

/-! ### Local channels -/

section
variable (s : State)

@[simp] theorem State.markFault_rebuild (k : Nat) : (s.markFault k).comb.rebuild = s.comb.rebuild := by simp [State.markFault]
@[simp] theorem State.setDrive_rebuild (k : Nat) (on : Bool) : (s.setDrive k on).comb.rebuild = s.comb.rebuild := by simp [State.setDrive]
@[simp] theorem State.pulseDone_rebuild (k : Nat) : (s.pulseDone k).comb.rebuild = s.comb.rebuild := by simp [State.pulseDone]
@[simp] theorem State.drivesOff_rebuild : s.drivesOff.comb.rebuild = s.comb.rebuild := by simp [State.drivesOff]
@[simp] theorem State.setExcEnable_rebuild (on : Bool) : (s.setExcEnable on).2.comb.rebuild = s.comb.rebuild := by simp [State.setExcEnable]
@[simp] theorem State.spotDriveEnd_rebuild (k : Nat) (drove : Bool) : (s.spotDriveEnd k drove).comb.rebuild = s.comb.rebuild := by
  simp [State.spotDriveEnd]
@[simp] theorem State.setCode_rebuild (k code : Nat) (downs : List ℚ) : (s.setCode k code downs).comb.rebuild = s.comb.rebuild := by
  simp [State.setCode]
@[simp] theorem State.fixCode_rebuild (k : Nat) : (s.fixCode k).comb.rebuild = s.comb.rebuild := by simp [State.fixCode]
@[simp] theorem State.opSpot_rebuild (p : Packet) : (s.opSpot p).2.comb.rebuild = s.comb.rebuild := by simp [State.opSpot]
@[simp] theorem State.runDisplaced_rebuild (k j start : Nat) : (s.runDisplaced k j start).comb.rebuild = s.comb.rebuild := by
  simp [State.runDisplaced]

@[simp] theorem State.abortSpot_rebuild (k : Nat) : (s.abortSpot k).comb.rebuild = s.comb.rebuild := by
  unfold State.abortSpot
  dsimp only
  split <;> simp

@[simp] theorem State.calRefuse_rebuild (k reason code : Nat) (mean : Int) (sd : Nat) :
    (s.calRefuse k reason code mean sd).comb.rebuild = s.comb.rebuild := by
  unfold State.calRefuse
  split <;> simp

@[simp] theorem State.calDrop_rebuild (k : Nat) : (s.calDrop k).comb.rebuild = s.comb.rebuild := by simp [State.calDrop]
@[simp] theorem State.opCal_rebuild (p : Packet) : (s.opCal p).2.comb.rebuild = s.comb.rebuild := by simp [State.opCal]
@[simp] theorem State.cutWindows_rebuild (k : Nat) : (s.cutWindows k).comb.rebuild = s.comb.rebuild := by simp [State.cutWindows]

@[simp] theorem State.spanLocals_rebuild (cause : Nat) (est : Bool) : (s.spanLocals cause est).comb.rebuild = s.comb.rebuild := by
  unfold State.spanLocals
  extract_lets ks firsts s1 start place s2
  have h1 : s1.comb.rebuild = s.comb.rebuild := rebuild_foldl (fun s k => by simp) _ s
  have h2 : s2.comb.rebuild = s1.comb.rebuild := rebuild_foldl (fun s k => by simp) _ s1
  simp [h1, h2]

@[simp] theorem State.stopLocals_rebuild : s.stopLocals.comb.rebuild = s.comb.rebuild := by simp [State.stopLocals]

@[simp] theorem State.abortSpotsAndCals_rebuild : s.abortSpotsAndCals.comb.rebuild = s.comb.rebuild := by
  refine rebuild_foldl (fun s k => ?_) _ s
  dsimp only
  split <;> simp
end

/-! ### Nectar -/

section
variable (s : State)

@[simp] theorem State.putDescriptor_rebuild (p i len st : Nat) : (s.putDescriptor p i len st).comb.rebuild = s.comb.rebuild := by
  simp [State.putDescriptor]

@[simp] theorem State.poolPut_rebuild (p key tw f : Nat) (bs : List Byte) : (s.poolPut p key tw f bs).1.comb.rebuild = s.comb.rebuild := by
  induction f generalizing s bs with
  | zero => rfl
  | succ f ih =>
    unfold State.poolPut
    dsimp only
    split
    · rw [State.putDescriptor_rebuild, State.updPool_comb, State.hiveWrite_rebuild]
    · rw [ih, State.putDescriptor_rebuild, State.putDescriptor_rebuild, State.updPool_comb, State.hiveWrite_rebuild]

@[simp] theorem State.poolRelease_rebuild (p : Nat) : (s.poolRelease p).comb.rebuild = s.comb.rebuild := by
  unfold State.poolRelease
  dsimp only
  repeat' split
  all_goals simp

@[simp] theorem State.poolsRelease_rebuild : s.poolsRelease.comb.rebuild = s.comb.rebuild := by simp [State.poolsRelease]
@[simp] theorem State.poolStarve_rebuild (p : Nat) : (s.poolStarve p).comb.rebuild = s.comb.rebuild := by simp [State.poolStarve]
@[simp] theorem State.poolsStarve_rebuild : s.poolsStarve.comb.rebuild = s.comb.rebuild := by simp [State.poolsStarve]
@[simp] theorem State.countKib_rebuild (a rem n : Nat) : (s.countKib a rem n).1.comb.rebuild = s.comb.rebuild := by simp [State.countKib]

@[simp] theorem State.closeBlock_rebuild (rt : Route) : (s.closeBlock rt).1.comb.rebuild = s.comb.rebuild := by
  unfold State.closeBlock
  dsimp -zeta only
  extract_lets x
  split
  · extract_lets n
    split
    · simp
    · rename_i s1 s2 _ s3 s4 _ _ s5 _
      have h1 : s1.comb.rebuild = s.comb.rebuild := by simp [s1]
      have h2 : s2.comb.rebuild = s1.comb.rebuild := by simp [s2]
      have h4 : s4.comb.rebuild = s2.comb.rebuild := by simp [s4, s3]
      simp [s5, h4, h2, h1]
  · rfl

@[simp] theorem State.nectarRecordIn_rebuild (id : Nat) : (s.nectarRecordIn id).comb.rebuild = s.comb.rebuild := by
  unfold State.nectarRecordIn
  dsimp only
  repeat' split
  all_goals simp

@[simp] theorem State.nectarDrain_rebuild (f : Nat) : (State.nectarDrain f s).comb.rebuild = s.comb.rebuild := by
  induction f generalizing s with
  | zero => rfl
  | succ f ih =>
    unfold State.nectarDrain
    split
    · simp [ih]
    · rfl

@[simp] theorem State.closeBlocks_rebuild : s.closeBlocks.comb.rebuild = s.comb.rebuild := by simp [State.closeBlocks]
@[simp] theorem State.nectarOpen_rebuild (id : Nat) : (s.nectarOpen id).comb.rebuild = s.comb.rebuild := by simp [State.nectarOpen]
end

/-! ### Hub time -/

section
variable (s : State)

@[simp] theorem State.servo_rebuild : s.servo.comb.rebuild = s.comb.rebuild := by simp [State.servo]
@[simp] theorem State.enterHoldover_rebuild : s.enterHoldover.comb.rebuild = s.comb.rebuild := by simp [State.enterHoldover]
@[simp] theorem State.refuseStep_rebuild (src : Nat) (d : Int) : (s.refuseStep src d).comb.rebuild = s.comb.rebuild := by
  simp [State.refuseStep]
@[simp] theorem State.startSlew_rebuild (src : Nat) (d : Int) : (s.startSlew src d).comb.rebuild = s.comb.rebuild := by
  simp [State.startSlew]
@[simp] theorem State.takeOffset_rebuild (src : Nat) : (s.takeOffset src).comb.rebuild = s.comb.rebuild := by simp [State.takeOffset]
@[simp] theorem State.switchTo_rebuild (src : Nat) : (s.switchTo src).comb.rebuild = s.comb.rebuild := by simp [State.switchTo]
@[simp] theorem State.setQ_rebuild (src : Nat) (q : Bool) : (s.setQ src q).comb.rebuild = s.comb.rebuild := by simp [State.setQ]

@[simp] theorem State.loseSource_rebuild (src : Nat) : (s.loseSource src).comb.rebuild = s.comb.rebuild := by
  unfold State.loseSource
  dsimp only
  repeat' split
  all_goals simp

@[simp] theorem State.gainSource_rebuild (src : Nat) : (s.gainSource src).comb.rebuild = s.comb.rebuild := by simp [State.gainSource]
@[simp] theorem State.track_rebuild (src : Nat) : (s.track src).comb.rebuild = s.comb.rebuild := by simp [State.track]

@[simp] theorem State.acceptStep_rebuild (fixed : Option Int) : (s.acceptStep fixed).2.comb.rebuild = s.comb.rebuild := by
  unfold State.acceptStep
  split <;> simp

@[simp] theorem State.timeSet_rebuild (full u : Nat) : (s.timeSet full u).2.comb.rebuild = s.comb.rebuild := by simp [State.timeSet]
@[simp] theorem State.timeTod_rebuild (sec : Nat) : (s.timeTod sec).comb.rebuild = s.comb.rebuild := by simp [State.timeTod]
end

/-! ### Trunk messages -/

section
variable (s : State)

@[simp] theorem State.trunkCrcBad_rebuild (lane : Nat) : (s.trunkCrcBad lane).comb.rebuild = s.comb.rebuild := by simp [State.trunkCrcBad]

@[simp] theorem State.trunkMessage_rebuild {f : State → State} (h : ∀ s, (f s).comb.rebuild = s.comb.rebuild) (s : State) (lane : Nat)
    (m : List Byte) : (s.trunkMessage lane m f).comb.rebuild = s.comb.rebuild := by
  simp [State.trunkMessage, h]

@[simp] theorem State.trunkOnly_rebuild {f : State → State} (h : ∀ s, (f s).comb.rebuild = s.comb.rebuild) (s : State) (lane : Nat)
    (m : List Byte) : (s.trunkOnly lane m f).comb.rebuild = s.comb.rebuild := by
  simp [State.trunkOnly, h]

@[simp] theorem State.pairUnlock_rebuild : s.pairUnlock.comb.rebuild = s.comb.rebuild := by simp [State.pairUnlock]
@[simp] theorem State.exchFail_rebuild (i : Nat) : (s.exchFail i).comb.rebuild = s.comb.rebuild := by simp [State.exchFail]
@[simp] theorem State.departs_rebuild : s.departs.2.comb.rebuild = s.comb.rebuild := by simp [State.departs]
@[simp] theorem State.tsync_rebuild (lane : Nat) (m : List Byte) (arrival : Int) :
    (s.tsync lane m arrival).comb.rebuild = s.comb.rebuild := by simp [State.tsync]

@[simp] theorem State.tdreq_rebuild (lane : Nat) (m : List Byte) (arrival : Int) :
    (s.tdreq lane m arrival).comb.rebuild = s.comb.rebuild := by
  refine State.trunkMessage_rebuild (fun s => ?_) ..
  dsimp only
  split
  · rfl
  · split <;> simp

@[simp] theorem State.tdresp_rebuild (lane : Nat) (m : List Byte) : (s.tdresp lane m).comb.rebuild = s.comb.rebuild := by
  refine State.trunkMessage_rebuild (fun s => ?_) ..
  dsimp -zeta only
  extract_lets i
  split
  · rfl
  split
  · rfl
  split
  · simp
  · extract_lets rtt d th med out s1 s2 src s3 s4
    have h2 : s2.comb.rebuild = s.comb.rebuild := by simp [s2, s1]
    have h3 : s3.comb.rebuild = s2.comb.rebuild := by simp [s3, src]
    simp [s4, h2, h3]

@[simp] theorem State.followNeighbours_rebuild : s.followNeighbours.comb.rebuild = s.comb.rebuild := by
  unfold State.followNeighbours
  dsimp only
  repeat' split
  all_goals simp

@[simp] theorem State.followStep_rebuild : s.followStep.comb.rebuild = s.comb.rebuild := by
  unfold State.followStep
  split <;> simp

@[simp] theorem State.announceIn_rebuild (lane : Nat) (m : List Byte) : (s.announceIn lane m).comb.rebuild = s.comb.rebuild := by
  simp [State.announceIn]
@[simp] theorem State.followLanes_rebuild : s.followLanes.comb.rebuild = s.comb.rebuild := by simp [State.followLanes]
@[simp] theorem State.tcapsDone_rebuild (lane : Nat) : (s.tcapsDone lane).comb.rebuild = s.comb.rebuild := by simp [State.tcapsDone]
@[simp] theorem State.fmapSend_rebuild (down : Bool) : (s.fmapSend down).comb.rebuild = s.comb.rebuild := by simp [State.fmapSend]
@[simp] theorem State.tcapsIn_rebuild (lane : Nat) (m : List Byte) : (s.tcapsIn lane m).comb.rebuild = s.comb.rebuild := by
  simp [State.tcapsIn]
@[simp] theorem State.tcapsAckIn_rebuild (lane : Nat) (m : List Byte) : (s.tcapsAckIn lane m).comb.rebuild = s.comb.rebuild := by
  simp [State.tcapsAckIn]
@[simp] theorem State.fmapIn_rebuild (lane : Nat) (m : List Byte) : (s.fmapIn lane m).comb.rebuild = s.comb.rebuild := by
  simp [State.fmapIn]

@[simp] theorem State.foreignIn_rebuild (lane : Nat) (m : List Byte) : (s.foreignIn lane m).comb.rebuild = s.comb.rebuild := by
  refine State.trunkOnly_rebuild (fun s => ?_) ..
  dsimp only
  split
  · rfl
  · exact rebuild_foldl (fun s _ => rebuild_foldl (fun s _ => by simp) _ s) _ s

@[simp] theorem State.sendFragment_rebuild (down : Bool) (slot : Nat) (m : List Byte) :
    (s.sendFragment down slot m).comb.rebuild = s.comb.rebuild := by simp [State.sendFragment]
@[simp] theorem State.relayBytes_rebuild (down : Bool) (dst : Nat) (bs : List Byte) :
    (s.relayBytes down dst bs).comb.rebuild = s.comb.rebuild := by simp [State.relayBytes]
@[simp] theorem State.relayNak_rebuild (src pseq : Nat) : (s.relayNak src pseq).comb.rebuild = s.comb.rebuild := by simp [State.relayNak]
end

/-! ### Arming and swarm -/

section
variable (s : State)

@[simp] theorem State.armDue_rebuild (e : Nat) : (s.armDue e).comb.rebuild = s.comb.rebuild := by simp [State.armDue]
@[simp] theorem State.armEngine_rebuild (e : Nat) (t : Int) (source : ArmSource) :
    (s.armEngine e t source).comb.rebuild = s.comb.rebuild := by simp [State.armEngine]
@[simp] theorem State.armSet_rebuild (set : Nat) (t : Int) (source : ArmSource) : (s.armSet set t source).comb.rebuild = s.comb.rebuild := by
  simp [State.armSet]
@[simp] theorem State.disarm_rebuild (e : Nat) : (s.disarm e).comb.rebuild = s.comb.rebuild := by simp [State.disarm]
@[simp] theorem State.relaySwarm_rebuild (lane : Nat) (m : List Byte) : (s.relaySwarm lane m).comb.rebuild = s.comb.rebuild := by
  simp [State.relaySwarm]
@[simp] theorem State.collectAnswer_rebuild (seq hub result : Nat) : (s.collectAnswer seq hub result).comb.rebuild = s.comb.rebuild := by
  simp [State.collectAnswer]
@[simp] theorem State.joinArm_rebuild (seq : Nat) (t : Int) (set : Nat) : (s.joinArm seq t set).comb.rebuild = s.comb.rebuild := by
  simp [State.joinArm]
@[simp] theorem State.swarmArmOut_rebuild (t : Int) (set : Nat) : (s.swarmArmOut t set).comb.rebuild = s.comb.rebuild := by
  simp [State.swarmArmOut]
@[simp] theorem State.swarmArmIn_rebuild (lane : Nat) (m : List Byte) : (s.swarmArmIn lane m).comb.rebuild = s.comb.rebuild := by
  simp [State.swarmArmIn]
@[simp] theorem State.armResultIn_rebuild (lane : Nat) (m : List Byte) : (s.armResultIn lane m).comb.rebuild = s.comb.rebuild := by
  simp [State.armResultIn]
@[simp] theorem State.deliverSwarm_rebuild (origin : Nat) (t : Int) (set : Nat) (latency : Option Int) :
    (s.deliverSwarm origin t set latency).comb.rebuild = s.comb.rebuild := by simp [State.deliverSwarm]
@[simp] theorem State.hostFire_rebuild (units engines : Nat) (swarm : Bool) :
    (s.hostFire units engines swarm).comb.rebuild = s.comb.rebuild := by simp [State.hostFire]
end

/-! ### Modes -/

section
variable (s : State)

@[simp] theorem State.setMode_rebuild (m : Mode) : (s.setMode m).comb.rebuild = s.comb.rebuild := by simp [State.setMode]
@[simp] theorem State.followTime_rebuild : s.followTime.comb.rebuild = s.comb.rebuild := by simp [State.followTime]
@[simp] theorem State.followSuspect_rebuild (pairLat : Nat) : (s.followSuspect pairLat).comb.rebuild = s.comb.rebuild := by
  simp [State.followSuspect]
@[simp] theorem State.isolateAll_rebuild : s.isolateAll.comb.rebuild = s.comb.rebuild := rebuild_foldl (fun s k => by simp) _ s
@[simp] theorem State.dropCals_rebuild : s.dropCals.comb.rebuild = s.comb.rebuild := by simp [State.dropCals]

@[simp] theorem State.flushCopies_rebuild (e : Nat) : (s.flushCopies e).comb.rebuild = s.comb.rebuild := by
  unfold State.flushCopies
  split <;> simp

@[simp] theorem State.stopEngines_rebuild : s.stopEngines.comb.rebuild = s.comb.rebuild := by simp [State.stopEngines]
@[simp] theorem State.stopUnits_rebuild : s.stopUnits.comb.rebuild = s.comb.rebuild := by simp [State.stopUnits]
@[simp] theorem State.stopComb_rebuild : s.stopComb.comb.rebuild = s.comb.rebuild := by simp [State.stopComb]
@[simp] theorem State.stopGrid_rebuild : s.stopGrid.comb.rebuild = s.comb.rebuild := by simp [State.stopGrid]
@[simp] theorem State.stopAcquisition_rebuild : s.stopAcquisition.comb.rebuild = s.comb.rebuild := by simp [State.stopAcquisition]
@[simp] theorem State.leaveTest_rebuild : s.leaveTest.comb.rebuild = s.comb.rebuild := by simp [State.leaveTest]
@[simp] theorem State.enterSafe_rebuild (cause : Nat) : (s.enterSafe cause).comb.rebuild = s.comb.rebuild := by simp [State.enterSafe]
@[simp] theorem State.leaveSafe_rebuild : s.leaveSafe.comb.rebuild = s.comb.rebuild := by simp [State.leaveSafe]

theorem State.modeRequest_rebuild {s t : State} {n : Nat} (h : s.modeRequest n = some t) : t.comb.rebuild = s.comb.rebuild := by
  unfold State.modeRequest at h
  split at h
  · cases h
  split at h
  · obtain rfl := Option.some.inj h
    rfl
  split at h
  · obtain ⟨-, h⟩ := Option.ite_none_left_eq_some.1 h
    obtain rfl := Option.some.inj h
    simp
  split at h
  · obtain rfl := Option.some.inj h
    simp
  split at h
  · obtain ⟨-, h⟩ := Option.ite_none_right_eq_some.1 h
    obtain rfl := Option.some.inj h
    simp
  split at h
  · obtain ⟨-, h⟩ := Option.ite_none_right_eq_some.1 h
    obtain rfl := Option.some.inj h
    simp
  · cases h

@[simp] theorem State.requestMode_rebuild (n : Nat) (e : Option Nat) : (s.requestMode n e).2.comb.rebuild = s.comb.rebuild := by
  unfold State.requestMode
  split
  · next ht => exact State.modeRequest_rebuild ht
  · simp

@[simp] theorem State.fieldDieReset_rebuild : s.fieldDieReset.2.comb.rebuild = s.comb.rebuild := by simp [State.fieldDieReset]
end

/-! ### Timed actions -/

section
variable (s : State)

@[simp] theorem State.startWaiting_rebuild : s.startWaiting.comb.rebuild = s.comb.rebuild := by simp [State.startWaiting]
@[simp] theorem State.storeAct_rebuild (e : Nat) (a : TaEntry) : (s.storeAct e a).comb.rebuild = s.comb.rebuild := by simp [State.storeAct]

@[simp] theorem State.writeTaCmd_rebuild (v : Nat) : (s.writeTaCmd v).2.comb.rebuild = s.comb.rebuild := by
  unfold State.writeTaCmd
  dsimp only
  repeat' split
  all_goals simp
end

/-! ### Clocks -/

section
variable (s : State)

@[simp] theorem State.sense_rebuild (n v : Nat) : (s.sense n v).comb.rebuild = s.comb.rebuild := by simp [State.sense]
@[simp] theorem State.senseAt_rebuild (n : Nat) : (s.senseAt n).comb.rebuild = s.comb.rebuild := by simp [State.senseAt]
@[simp] theorem State.senseNow_rebuild : s.senseNow.comb.rebuild = s.comb.rebuild := by simp [State.senseNow]
@[simp] theorem State.failover_rebuild (new old : Nat) : (s.failover new old).comb.rebuild = s.comb.rebuild := by simp [State.failover]

@[simp] theorem State.followRefs_rebuild : s.followRefs.comb.rebuild = s.comb.rebuild := by
  unfold State.followRefs
  split
  · simp
  split
  · simp
  · split
    · rfl
    split
    · simp
    · split <;> simp

@[simp] theorem State.loseRef_rebuild (c cause : Nat) : (s.loseRef c cause).comb.rebuild = s.comb.rebuild := by simp [State.loseRef]
@[simp] theorem State.writeRefCfg_rebuild (v : Nat) : (s.writeRefCfg v).2.comb.rebuild = s.comb.rebuild := by simp [State.writeRefCfg]

@[simp] theorem State.avsTry_rebuild (a : AvsAnswer) : (s.avsTry a).comb.rebuild = s.comb.rebuild := by
  unfold State.avsTry
  dsimp only
  repeat' split
  all_goals simp

@[simp] theorem State.avsRequest_rebuild (mv : Nat) (a : AvsAnswer) : (s.avsRequest mv a).comb.rebuild = s.comb.rebuild := by
  simp [State.avsRequest]
@[simp] theorem State.avsRetry_rebuild (a : AvsAnswer) : (s.avsRetry a).comb.rebuild = s.comb.rebuild := by simp [State.avsRetry]
@[simp] theorem State.writeVlimit_rebuild (v : Nat) (a : AvsAnswer) : (s.writeVlimit v a).2.comb.rebuild = s.comb.rebuild := by
  simp [State.writeVlimit]
@[simp] theorem State.writePlanTgt_rebuild (v : Nat) : (s.writePlanTgt v).2.comb.rebuild = s.comb.rebuild := by simp [State.writePlanTgt]
@[simp] theorem State.setPlan_rebuild (p mComb : Nat) : (s.setPlan p mComb).comb.rebuild = s.comb.rebuild := by simp [State.setPlan]
@[simp] theorem State.evaluate_rebuild (a : AvsAnswer) : (s.evaluate a).comb.rebuild = s.comb.rebuild := by simp [State.evaluate]
@[simp] theorem State.writePlanCmd_rebuild (v : Nat) (a : AvsAnswer) : (s.writePlanCmd v a).2.comb.rebuild = s.comb.rebuild := by
  simp [State.writePlanCmd]
end

/-! ### Registers -/

section
variable (s : State)

@[simp] theorem State.lockTake_rebuild (p : Port) (n : Nat) : (s.lockTake p n).2.comb.rebuild = s.comb.rebuild := by simp [State.lockTake]
@[simp] theorem State.lockRelease_rebuild (p : Port) (n : Nat) : (s.lockRelease p n).2.comb.rebuild = s.comb.rebuild := by
  simp [State.lockRelease]
@[simp] theorem State.releaseLocks_rebuild (p : Port) : (s.releaseLocks p).comb.rebuild = s.comb.rebuild := by simp [State.releaseLocks]
@[simp] theorem State.clearReg_rebuild (a : Nat) : (s.clearReg a).comb.rebuild = s.comb.rebuild := by simp [State.clearReg]
@[simp] theorem State.ixAt_rebuild (a : Nat) (w : Option Word) (clear : Bool) : (s.ixAt a w clear).2.2.comb.rebuild = s.comb.rebuild :=
  State.ixAt_keeps (g := fun s => s.comb.rebuild) (fun _ _ _ => rfl) ..

@[simp] theorem State.ixAccess_rebuild (p : Port) (w : Option Word) (clear : Bool) :
    (s.ixAccess p w clear).2.2.comb.rebuild = s.comb.rebuild := by
  have hx := s.ixAt_rebuild (s.port p).ixAddr.toNat w clear
  unfold State.ixAccess
  generalize s.ixAt (s.port p).ixAddr.toNat w clear = x at hx ⊢
  obtain ⟨r, v, t⟩ := x
  dsimp only at hx ⊢
  split
  · simpa using hx
  · simpa using hx

@[simp] theorem State.setIxAddr_rebuild (p : Port) (a : Nat) : (s.setIxAddr p a).comb.rebuild = s.comb.rebuild := by simp [State.setIxAddr]

@[simp] theorem State.ixReads_rebuild (p : Port) (n : Nat) (acc : List Word) : (s.ixReads p n acc).2.2.comb.rebuild = s.comb.rebuild := by
  induction n generalizing s acc with
  | zero => rfl
  | succ n ih =>
    have hx := s.ixAccess_rebuild p none true
    unfold State.ixReads
    split
    · next he =>
      rw [he] at hx
      exact (ih ..).trans hx
    · next he =>
      rw [he] at hx
      exact hx

@[simp] theorem State.ixWrites_rebuild (p : Port) (ws : List Word) : (s.ixWrites p ws).2.comb.rebuild = s.comb.rebuild := by
  induction ws generalizing s with
  | nil => rfl
  | cons w ws ih =>
    have hx := s.ixAccess_rebuild p (some w) true
    unfold State.ixWrites
    split
    · next he =>
      rw [he] at hx
      exact (ih ..).trans hx
    · next he =>
      rw [he] at hx
      exact hx

@[simp] theorem State.refresh_rebuild (a : Nat) : (s.refresh a).comb.rebuild = s.comb.rebuild := by simp [State.refresh]

@[simp] theorem State.readReg_rebuild (p : Port) (a : Nat) (clear : Bool) : (s.readReg p a clear).2.2.comb.rebuild = s.comb.rebuild := by
  unfold State.readReg
  dsimp only
  repeat' split
  all_goals simp

@[simp] theorem State.readRegs_rebuild (p : Port) (a n : Nat) (acc : List Word) :
    (s.readRegs p a n acc).2.2.comb.rebuild = s.comb.rebuild := by
  induction n generalizing s a acc with
  | zero => rfl
  | succ n ih =>
    have hx := s.readReg_rebuild p a true
    unfold State.readRegs
    split
    · next he =>
      rw [he] at hx
      exact (ih ..).trans hx
    · next he =>
      rw [he] at hx
      exact hx

@[simp] theorem State.writeWm_rebuild (a v hi : Nat) : (s.writeWm a v hi).2.comb.rebuild = s.comb.rebuild := by simp [State.writeWm]
@[simp] theorem State.writeDrCfg_rebuild (v : Nat) : (s.writeDrCfg v).2.comb.rebuild = s.comb.rebuild := by simp [State.writeDrCfg]
@[simp] theorem State.followStop_rebuild : s.followStop.comb.rebuild = s.comb.rebuild := by simp [State.followStop]
@[simp] theorem State.writeHostp_rebuild (o v : Nat) : (s.writeHostp o v).2.comb.rebuild = s.comb.rebuild := by simp [State.writeHostp]

@[simp] theorem State.writeLane_rebuild (o v : Nat) : (s.writeLane o v).2.comb.rebuild = s.comb.rebuild := by
  unfold State.writeLane
  dsimp only
  repeat' split
  all_goals simp

@[simp] theorem State.writePod_rebuild (o v : Nat) : (s.writePod o v).2.comb.rebuild = s.comb.rebuild := by simp [State.writePod]
@[simp] theorem State.writeHive_rebuild (o v : Nat) : (s.writeHive o v).2.comb.rebuild = s.comb.rebuild := by simp [State.writeHive]
@[simp] theorem State.writeClk_rebuild (o v : Nat) (avs : AvsAnswer) : (s.writeClk o v avs).2.comb.rebuild = s.comb.rebuild := by
  simp [State.writeClk]
@[simp] theorem State.lockReq_rebuild (p : Port) (v : Nat) : (s.lockReq p v).2.comb.rebuild = s.comb.rebuild := by simp [State.lockReq]
@[simp] theorem State.writeLock_rebuild (p : Port) (o v : Nat) : (s.writeLock p o v).2.comb.rebuild = s.comb.rebuild := by
  simp [State.writeLock]
@[simp] theorem State.writeIx_rebuild (p : Port) (o : Nat) (v : Word) : (s.writeIx p o v).2.comb.rebuild = s.comb.rebuild := by
  simp [State.writeIx]

@[simp] theorem State.writePlain_rebuild (p : Port) (a : Nat) (v : Word) (avs : AvsAnswer) :
    (s.writePlain p a v avs).2.comb.rebuild = s.comb.rebuild := by
  unfold State.writePlain
  dsimp only
  repeat' split
  all_goals simp
end

/-! ### Images -/

section
variable (s : State)

@[simp] theorem State.opImg_rebuild (p : Packet) (forwarded : Bool) : (s.opImg p forwarded).2.comb.rebuild = s.comb.rebuild := by
  simp [State.opImg]
@[simp] theorem State.writeCfgRef_rebuild (v : Word) : (s.writeCfgRef v).2.comb.rebuild = s.comb.rebuild := by simp [State.writeCfgRef]
@[simp] theorem State.commitOutcome_rebuild (r : Refuse) : (s.commitOutcome r).comb.rebuild = s.comb.rebuild := by
  simp [State.commitOutcome]
end

/-! ### The pair -/

section
variable (s : State)

@[simp] theorem State.goStale_rebuild : s.goStale.comb.rebuild = s.comb.rebuild := by simp [State.goStale]
@[simp] theorem State.podsTakeOver_rebuild : s.podsTakeOver.comb.rebuild = s.comb.rebuild := by simp [State.podsTakeOver]
@[simp] theorem State.takeOver_rebuild (cause : Nat) : (s.takeOver cause).comb.rebuild = s.comb.rebuild := by simp [State.takeOver]
@[simp] theorem State.giveUp_rebuild : s.giveUp.comb.rebuild = s.comb.rebuild := by simp [State.giveUp]
@[simp] theorem State.declareFault_rebuild (code : Nat) : (s.declareFault code).comb.rebuild = s.comb.rebuild := by
  simp [State.declareFault]
@[simp] theorem State.mismatch_rebuild (cause stream rseq frag : Nat) :
    (s.mismatch cause stream rseq frag).comb.rebuild = s.comb.rebuild := by simp [State.mismatch]
@[simp] theorem State.compared_rebuild (stream rseq frag : Nat) (same : Bool) :
    (s.compared stream rseq frag same).comb.rebuild = s.comb.rebuild := by simp [State.compared]

@[simp] theorem State.ownDigest_rebuild (e : DigestEntry) : (s.ownDigest e).comb.rebuild = s.comb.rebuild := by
  unfold State.ownDigest
  split
  · rfl
  · split <;> simp

@[simp] theorem State.takeDigests_rebuild : s.takeDigests.comb.rebuild = s.comb.rebuild := by simp [State.takeDigests]

@[simp] theorem State.joinStream_rebuild (e : JoinEntry) : (s.joinStream e).comb.rebuild = s.comb.rebuild := by
  unfold State.joinStream
  split <;> simp

@[simp] theorem State.joinAtBoundary_rebuild : s.joinAtBoundary.comb.rebuild = s.comb.rebuild := by
  unfold State.joinAtBoundary
  split <;> simp

@[simp] theorem State.checkInStep_rebuild : s.checkInStep.comb.rebuild = s.comb.rebuild := by
  unfold State.checkInStep
  split <;> simp

@[simp] theorem State.rejoin_rebuild : s.rejoin.comb.rebuild = s.comb.rebuild := by simp [State.rejoin]

@[simp] theorem State.swarmApply_rebuild (origin : Nat) (t : Int) (set : Nat) (mark : Option (Nat × Nat)) :
    (s.swarmApply origin t set mark).comb.rebuild = s.comb.rebuild := by
  unfold State.swarmApply
  split <;> simp

@[simp] theorem State.grantPrimary_rebuild (l : Lease) (preempt : Bool) : (s.grantPrimary l preempt).2.comb.rebuild = s.comb.rebuild := by
  simp [State.grantPrimary]
@[simp] theorem State.grantSuccession_rebuild (l : Lease) : (s.grantSuccession l).2.comb.rebuild = s.comb.rebuild := by
  simp [State.grantSuccession]
@[simp] theorem State.revokeLease_rebuild (id : Nat) (host : Bool) : (s.revokeLease id host).2.comb.rebuild = s.comb.rebuild := by
  simp [State.revokeLease]
@[simp] theorem State.ownLease_rebuild (p : Packet) : (s.ownLease p).2.comb.rebuild = s.comb.rebuild := by simp [State.ownLease]
@[simp] theorem State.opLease_rebuild (p : Packet) : (s.opLease p).2.comb.rebuild = s.comb.rebuild := by simp [State.opLease]

@[simp] theorem State.pairForce_rebuild (v : Nat) (forwarded : Bool) : (s.pairForce v forwarded).2.comb.rebuild = s.comb.rebuild := by
  unfold State.pairForce
  split <;> simp

@[simp] theorem State.noteChecks_rebuild (old : State) : (s.noteChecks old).comb.rebuild = s.comb.rebuild := by simp [State.noteChecks]
@[simp] theorem State.faultsFollow_rebuild (old : State) : (s.faultsFollow old).comb.rebuild = s.comb.rebuild := by
  simp [State.faultsFollow]
@[simp] theorem State.pairFollow_rebuild (old : State) : (s.pairFollow old).comb.rebuild = s.comb.rebuild := by simp [State.pairFollow]
end

/-! ### Guarded writes -/

section
variable (s : State)

@[simp] theorem State.writeReset_rebuild (v : Nat) : (s.writeReset v).2.comb.rebuild = s.comb.rebuild := by simp [State.writeReset]
@[simp] theorem State.otpProgram_rebuild (v : Nat) : (s.otpProgram v).2.comb.rebuild = s.comb.rebuild := by simp [State.otpProgram]
@[simp] theorem State.guardMiss_rebuild (port : Port) (a : Nat) : (s.guardMiss port a).comb.rebuild = s.comb.rebuild := by
  simp [State.guardMiss]
@[simp] theorem State.guardFirst_rebuild (port : Port) (a : Nat) (v : Word) : (s.guardFirst port a v).2.comb.rebuild = s.comb.rebuild := by
  simp [State.guardFirst]
end

/-! ### Commands -/

section
variable (s : State)

@[simp] theorem State.opRd_rebuild (p : Packet) : (s.opRd p).2.comb.rebuild = s.comb.rebuild := by
  unfold State.opRd
  split
  · rfl
  · next n _ =>
    have hx := s.readRegs_rebuild p.port p.addr.toNat n []
    split <;> next he => (rw [he] at hx; exact hx)

@[simp] theorem State.opIxrd_rebuild (p : Packet) : (s.opIxrd p).2.comb.rebuild = s.comb.rebuild := by
  unfold State.opIxrd
  split
  · rfl
  · next n _ =>
    have hx := (s.setIxAddr p.port p.addr.toNat).ixReads_rebuild p.port n []
    rw [State.setIxAddr_rebuild] at hx
    split
    · rfl
    · split <;> next he => (rw [he] at hx; exact hx)

@[simp] theorem State.opIxwr_rebuild (p : Packet) : (s.opIxwr p).2.comb.rebuild = s.comb.rebuild := by
  unfold State.opIxwr
  split <;> simp

@[simp] theorem State.opLock_rebuild (p : Packet) : (s.opLock p).2.comb.rebuild = s.comb.rebuild := by simp [State.opLock]
@[simp] theorem State.opUnlock_rebuild (p : Packet) : (s.opUnlock p).2.comb.rebuild = s.comb.rebuild := by simp [State.opUnlock]
@[simp] theorem State.opTime_rebuild (p : Packet) : (s.opTime p).2.comb.rebuild = s.comb.rebuild := by simp [State.opTime]
@[simp] theorem State.opArm_rebuild (p : Packet) : (s.opArm p).2.comb.rebuild = s.comb.rebuild := by simp [State.opArm]
@[simp] theorem State.opFire_rebuild (p : Packet) : (s.opFire p).2.comb.rebuild = s.comb.rebuild := by simp [State.opFire]

@[simp] theorem State.opStreamOpen_rebuild (p : Packet) : (s.opStreamOpen p).2.comb.rebuild = s.comb.rebuild := by
  unfold State.opStreamOpen
  dsimp only
  split <;> simp

@[simp] theorem State.flushStream_rebuild (r : Route) : (s.flushStream r).comb.rebuild = s.comb.rebuild := by simp [State.flushStream]
@[simp] theorem State.flushClosing_rebuild : s.flushClosing.comb.rebuild = s.comb.rebuild := by simp [State.flushClosing]

@[simp] theorem State.opStreamClose_rebuild (p : Packet) : (s.opStreamClose p).2.comb.rebuild = s.comb.rebuild := by
  unfold State.opStreamClose
  dsimp only
  split <;> simp

@[simp] theorem State.relayAck_rebuild (entries : List (Nat × Nat)) : (s.relayAck entries).comb.rebuild = s.comb.rebuild := by
  simp [State.relayAck]
@[simp] theorem State.portRewind_rebuild (p : Port) : (s.portRewind p).comb.rebuild = s.comb.rebuild := by simp [State.portRewind]
@[simp] theorem State.opAck_rebuild (p : Packet) : (s.opAck p).2.comb.rebuild = s.comb.rebuild := by simp [State.opAck]
@[simp] theorem State.portReset_rebuild (port : Port) : (s.portReset port).comb.rebuild = s.comb.rebuild := by simp [State.portReset]

@[simp] theorem State.opUnitReset_rebuild (p : Packet) : (s.opUnitReset p).2.comb.rebuild = s.comb.rebuild := by
  unfold State.opUnitReset
  split <;> simp
end

/-! ### Ports -/

section
variable (s : State)

@[simp] theorem State.answer_rebuild (p : Packet) (r : Reply) : (s.answer p r).comb.rebuild = s.comb.rebuild := by
  cases r <;> simp [State.answer]
@[simp] theorem State.forward_rebuild (p : Packet) (tick : Nat) (answers : Bool) :
    (s.forward p tick answers).comb.rebuild = s.comb.rebuild := by simp [State.forward]
@[simp] theorem State.serveAt_rebuild (p : Packet) : (s.serveAt p).comb.rebuild = s.comb.rebuild := by simp [State.serveAt]

@[simp] theorem State.followForward_rebuild : s.followForward.comb.rebuild = s.comb.rebuild := by
  unfold State.followForward
  dsimp only
  repeat' split
  all_goals simp

@[simp] theorem State.throughIn_rebuild (bs : List Byte) : (s.throughIn bs).comb.rebuild = s.comb.rebuild := by
  unfold State.throughIn
  dsimp only
  repeat' split
  all_goals simp

@[simp] theorem State.swarmFireIn_rebuild (lane : Nat) (m : List Byte) : (s.swarmFireIn lane m).comb.rebuild = s.comb.rebuild := by
  refine State.trunkOnly_rebuild (fun s => ?_) ..
  dsimp only
  split
  · simp
  split
  · simp
  split
  · split <;> simp
  · simp
end

/-! ### Arrivals -/

section
variable (s : State)

@[simp] theorem State.unknownMessage_rebuild (lane : Nat) : (s.unknownMessage lane).comb.rebuild = s.comb.rebuild := by
  simp [State.unknownMessage]
@[simp] theorem State.clockFollow_rebuild (old : State) : (s.clockFollow old).comb.rebuild = s.comb.rebuild := by simp [State.clockFollow]
@[simp] theorem State.flushExports_rebuild : s.flushExports.comb.rebuild = s.comb.rebuild := by simp [State.flushExports]
end

/-! ### A commit begins a rebuild only where none runs -/

/-- A rebuild is under way, or done and not yet applied. -/
def State.Building (s : State) : Prop := s.comb.rebuild ≠ none

section
variable {s : State}

theorem State.Building.same {t : State} (h : s.Building) (ht : t.comb.rebuild = s.comb.rebuild := by simp) : t.Building := by
  unfold State.Building at *
  rwa [ht]

theorem State.Building.ite {t : State} {c : Prop} [Decidable c] (hs : s.Building) (ht : t.Building) : (if c then s else t).Building := by
  split <;> assumption

theorem State.Building.iteSnd {α : Type} {c : Prop} [Decidable c] {x y : α × State} (hx : x.2.Building) (hy : y.2.Building) :
    (if c then x else y).2.Building := by
  split <;> assumption

theorem State.Building.foldl {α : Type} {f : State → α → State} {l : List α} (h : s.Building)
    (hf : ∀ s : State, s.Building → ∀ x, (f s x).Building) : (l.foldl f s).Building :=
  List.foldlRecOn l f h fun s h x _ => hf s h x

/-- While a rebuild is noted a commit is answered `BUSY`, or refused for want of the lock. -/
theorem State.Building.startCommit (h : s.Building) {k : Packet} {n c : Nat} {f : Bool} : (s.startCommit k n c f).2.Building := by
  have hsome : s.comb.rebuild.isSome = true := Option.isSome_iff_ne_none.2 h
  unfold State.startCommit
  extract_lets src t fail lock
  have hfail (r : Refuse) : (fail r t).2.Building := h.same (State.commitOutcome_rebuild ..)
  split
  · exact hfail _
  · rw [if_pos (by simp [t, hsome])]
    exact hfail _

theorem State.Building.opCommit (h : s.Building) {k : Packet} {f : Bool} : (s.opCommit k f).2.Building := by
  unfold State.opCommit
  exact .iteSnd h (.iteSnd h h.startCommit)

theorem State.Building.guardedAct (h : s.Building) {k : Packet} {a : Nat} {v : Word} : (s.guardedAct k a v).2.Building := by
  unfold State.guardedAct
  dsimp only
  split
  · exact h.same
  · exact h.same
  · exact h.same
  · exact h.same
  · exact h.startCommit
  · exact h.same
  · exact .iteSnd h.same h
  · exact h.same
  · exact h

theorem State.Building.guardedWrite (h : s.Building) {k : Packet} {a : Nat} {v : Word} : (s.guardedWrite k a v).2.Building := by
  have hact : (s.guardedAct k a v).2.Building := h.guardedAct
  unfold State.guardedWrite
  exact .ite (c := (s.guardedAct k a v).1.status = stOk) hact.same hact

theorem State.Building.guardSecond (h : s.Building) {k : Packet} {a : Nat} {v : Word} : (s.guardSecond k a v).2.Building := by
  unfold State.guardSecond
  split
  · split
    · exact .guardedWrite h.same
    · exact .iteSnd h.same h.same
  · exact h.same

theorem State.Building.opGwr (h : s.Building) {k : Packet} : (s.opGwr k).2.Building := by
  unfold State.opGwr
  exact .iteSnd h (.iteSnd h.same (.guardedWrite h.same))

theorem State.Building.writeReg (h : s.Building) {k : Packet} {a : Nat} {v : Word} {x : AvsAnswer} : (s.writeReg k a v x).2.Building := by
  unfold State.writeReg
  split
  · exact .ite h h.same
  · exact h
  · exact .iteSnd h.same (.iteSnd h.guardSecond h.same)

theorem State.Building.writeRegs (h : s.Building) {k : Packet} {x : AvsAnswer} {a : Nat} {ws : List Word} {b : Bool} :
    (s.writeRegs k x a ws b).2.Building := by
  induction ws generalizing s a b with
  | nil => exact h
  | cons w ws ih =>
    have hw : (s.writeReg k a w x).2.Building := h.writeReg
    unfold State.writeRegs
    split
    · next he =>
      rw [he] at hw
      exact ih hw
    · next he =>
      rw [he] at hw
      exact ih hw
    · next he =>
      rw [he] at hw
      exact hw

theorem State.Building.opWr (h : s.Building) {k : Packet} {x : AvsAnswer} : (s.opWr k x).2.Building := by
  unfold State.opWr
  split
  · exact h
  · exact h.writeRegs

theorem State.Building.applyPacket (h : s.Building) {k : Packet} {x : AvsAnswer} : (s.applyPacket k x).2.Building := by
  unfold State.applyPacket
  split
  case h_2 => exact h.opWr
  case h_5 => exact h.opGwr
  case h_9 => exact h.opCommit
  all_goals exact h.same

/-! ### Commands served, and what follows -/

theorem State.Building.applyNow (h : s.Building) {k : Packet} {x : AvsAnswer} : (s.applyNow k x).Building := by
  have hpkt : (s.applyPacket k x).2.Building := h.applyPacket
  unfold State.applyNow
  exact hpkt.same

theorem State.Building.serve (h : s.Building) {k : Packet} {x : AvsAnswer} : (s.serve k x).Building := by
  unfold State.serve
  exact .ite h.same (.ite (.ite h.same h.same) (.ite h.same (.ite h.same h.applyNow)))

theorem State.Building.start (h : s.Building) {k : Packet} {x : AvsAnswer} : (s.start k x).Building := by
  unfold State.start
  exact .ite (.ite h.same h.same) h.serve

theorem State.Building.accept (h : s.Building) {k : Packet} {x : AvsAnswer} : (s.accept k x).Building := by
  unfold State.accept
  exact .ite h.same (.ite h.same (.start h.same))

theorem State.Building.takeHeld {x : AvsAnswer} {n : Nat} (h : s.Building) : (State.takeHeld x n s).Building := by
  induction n generalizing s with
  | zero => exact h
  | succ n ih =>
    unfold State.takeHeld
    split
    · exact ih (.accept h.same)
    · exact h.same

theorem State.Building.inOrder (h : s.Building) {k : Packet} {x : AvsAnswer} : (s.inOrder k x).Building := by
  unfold State.inOrder
  exact .ite (.takeHeld (.accept h.same)) (.ite h.same h.same)

theorem State.Building.receive (h : s.Building) {k : Packet} {x : AvsAnswer} : (State.receive k s x).Building := by
  unfold State.receive
  exact .ite h (.ite h.same (.ite h.same (.ite h.inOrder (.ite h h.accept))))

theorem State.Building.take (h : s.Building) {k : Packet} : (State.take k s).Building := .receive h.same

theorem State.Building.relayPacket (h : s.Building) {bs : List Byte} : (s.relayPacket bs).Building := by
  unfold State.relayPacket
  refine .ite h.same ?_
  split
  · exact h.take
  · exact h.same

theorem State.Building.relayMine (h : s.Building) {a b c : Nat} {bs : List Byte} : (s.relayMine a b c bs).Building := by
  unfold State.relayMine
  refine .ite h.same ?_
  dsimp only
  split
  · split
    · exact .relayPacket h.same
    · exact .relayPacket h.same
  · split
    · exact h.same
    · exact h.same

theorem State.Building.relayIn (h : s.Building) {l : Nat} {m : List Byte} : (s.relayIn l m).Building := by
  unfold State.relayIn State.trunkOnly State.trunkMessage
  exact .ite h (.ite h (.ite (.ite (.ite h (.ite h.relayMine h.same)) h) (.ite h h.same)))

theorem State.Building.loopIn (h : s.Building) {x : Sent} : (s.loopIn x).Building := by
  unfold State.loopIn
  refine .ite h.same (.ite ?_ ?_)
  · split
    · exact h.take
    · exact h
  · split
    case h_12 => exact h.relayIn
    all_goals exact h.same

theorem State.Building.takeLooped {n : Nat} (h : s.Building) : (State.takeLooped n s).Building := by
  induction n generalizing s with
  | zero => exact h
  | succ n ih =>
    unfold State.takeLooped
    exact .ite h (ih (.foldl h.same fun _ h _ => h.loopIn))

theorem State.Building.drainInbound {x : AvsAnswer} {n : Nat} (h : s.Building) : (State.drainInbound x n s).Building := by
  induction n generalizing s with
  | zero => exact h
  | succ n ih =>
    unfold State.drainInbound
    split
    · exact ih (.start h.same)
    · exact h

theorem State.Building.serveInbound (h : s.Building) : s.serveInbound.Building := by
  unfold State.serveInbound
  exact .ite h (.drainInbound h.same)

theorem State.Building.finish (h : s.Building) {u : State} : (s.finish u).Building := by
  unfold State.finish
  refine .ite h ?_
  extract_lets t w
  have ht : t.Building := (h.takeLooped (n := 8)).same (by simp [t])
  have hf : (t.followSuspect t.pairLat).followForward.Building := ht.same
  have hw : (t.followSuspect t.pairLat).followForward.serveInbound.Building := hf.serveInbound
  exact hw.same (by simp [w])
end

/-! ### The counterexample -/

/-- A hub of the variant without a Comb (R1), with an image of a `HEADER` and `ANCHORS` in staging and lock 0 held by the host port. -/
def comblessHub : State := { Tests.staged Tests.image2 with sys := { (Tests.staged Tests.image2).sys with variant := 3 } }

/-- The commit of that image, as a guarded write. -/
def anchorsCommit : Packet := { payload := toLE 4 68 }

/-- A command's outcome is a state in which no rebuild is noted. -/
def buildsNothing : Host.Outcome State Fault Refusal → Bool
  | .next s => s.comb.rebuild.isNone
  | _ => false

theorem anchorsCommit_buildsNothing : buildsNothing (exec (.cfgCommitWrite 0 anchorsCommit) comblessHub) = true := by decide +kernel

theorem State.Building.not_buildsNothing {w u : State} (h : w.Building) : buildsNothing (.next (w.finish u)) = false :=
  Option.isNone_eq_false_iff.2 (Option.isSome_iff_ne_none.2 h.finish)

/-- The hub as it reads the image: the command taken, and no calibration image in staging. -/
def comblessReader : State :=
  { (comblessHub.elapse 0).admitted (anchorsCommit.asGuarded 0x0001_0008) with cfg := { comblessHub.cfg with stagedLen := 0 } }

theorem comblessReader_reads : ∃ i y, comblessReader.readImage 68 0 false = (.ok i, y) ∧ i.isFull = false ∧ ∃ sec ∈ i.secs, sec.1 = 8 :=
  Tests.reads_of (fun i _ => decide (i.isFull = false ∧ ∃ sec ∈ i.secs, sec.1 = 8)) (by decide +kernel) fun _ _ h => of_decide_eq_true h

/-- Refutes O54: on a hub without a Comb the commit of a partial image with `ANCHORS` is answered at once, and no rebuild begins. -/
theorem not_imagesComplete : ¬ Obligations.ImagesComplete := by
  unfold Obligations.ImagesComplete
  intro h
  obtain ⟨i, y, hread, hpart, hsec⟩ := comblessReader_reads
  obtain ⟨-, hcommit, -⟩ := h comblessHub _ comblessReader y 0 anchorsCommit (anchorsCommit.asGuarded 0x0001_0008) i rfl rfl
  have hlock : (comblessHub.lockOf 0).owner = 1 := by decide +kernel
  have hfree : comblessHub.cfg.staged = none ∧ comblessHub.comb.rebuild = none ∧ (comblessHub.port .host).guard = none := by
    decide +kernel
  obtain ⟨hstaged, hnone, hguard⟩ := hfree
  have hform : anchorsCommit.payload.length = 4 ∧ 68 = anchorsCommit.word.toNat ∧ 0 = comblessHub.regN 0x0001_0004 := by
    decide +kernel
  obtain ⟨hlen, hword, hflags⟩ := hform
  have hadmits : Admits (comblessHub.elapse 0) (anchorsCommit.asGuarded 0x0001_0008) := Tests.admits_of (by decide +kernel)
  obtain ⟨w, b, hex, hb, -⟩ := (hcommit hlock hstaged hnone hguard 68 0 hread (.cfgCommitWrite 0 anchorsCommit) (by simp)
    (.inr ⟨rfl, rfl, hlen, hword, hflags⟩) hadmits).2 rfl hpart hsec rfl
  have hw : w.Building := by
    unfold State.Building
    rw [hb]
    exact Option.some_ne_none b
  have hnot := anchorsCommit_buildsNothing
  rw [hex, hw.not_buildsNothing] at hnot
  cases hnot

end Sys2Proof.Machine
